-- ==== Sys2Proof/Word.lean ====
section
/-! DEFINITION. The word types of the T1 (R5, R6: little-endian, bit 0 least significant) and the plainest
helpers over bits, bytes and vectors. -/

namespace Sys2Proof

abbrev Byte := BitVec 8
abbrev U8 := BitVec 8
abbrev U16 := BitVec 16
abbrev U32 := BitVec 32
abbrev U64 := BitVec 64

/-- One byte of a Nat, counted from the least significant (R6). -/
def natByte (n k : Nat) : Byte := BitVec.ofNat 8 (n >>> (8 * k))

/-- A number as `len` bytes, least significant first (R6). -/
def leBytes (len n : Nat) : List Byte := (List.range len).map (natByte n)

/-- The number that a byte string spells, least significant byte first (R6). -/
def leNat : List Byte → Nat
  | [] => 0
  | b :: bs => b.toNat + 256 * leNat bs

/-- The number that a list of bits spells, least significant first. -/
def leNatBits : List Bool → Nat
  | [] => 0
  | b :: bs => (if b then 1 else 0) + 2 * leNatBits bs

/-- Bits `[hi:lo]` of a number. -/
def bits (n hi lo : Nat) : Nat := (n >>> lo) % 2 ^ (hi + 1 - lo)

/-- Bit `k` of a number. -/
def bitOf (n k : Nat) : Bool := n.testBit k

/-- The entry of a vector at a number, or the given value past its end. -/
def vget {α : Type} {n : Nat} (v : Vector α n) (i : Nat) (d : α) : α := if h : i < n then v[i] else d

/-- Change the entry of a vector at a number by a function of it; nothing past its end. -/
def vmod {α : Type} {n : Nat} (v : Vector α n) (i : Nat) (f : α → α) : Vector α n :=
  if h : i < n then v.set i (f v[i]) else v

/-- Set the entry of a vector at a number; nothing past its end. -/
def vset {α : Type} {n : Nat} (v : Vector α n) (i : Nat) (x : α) : Vector α n := vmod v i (fun _ => x)

/-- The bits of a number that are set, in increasing order, below `n`. -/
def setBits (n v : Nat) : List Nat := (List.range n).filter (fun k => v.testBit k)

/-- A two's-complement reading of the low `w` bits. -/
def signedOf (w v : Nat) : Int :=
  let m := v % 2 ^ w
  if m < 2 ^ (w - 1) then m else (m : Int) - 2 ^ w

/-- Round up to a multiple. -/
def alignUp (n a : Nat) : Nat := if a = 0 then n else (n + a - 1) / a * a

/-- The first entry of a list that answers, with its place. -/
def findIdxFrom {α : Type} (p : α → Bool) : Nat → List α → Option (Nat × α)
  | _, [] => none
  | k, x :: xs => if p x then some (k, x) else findIdxFrom p (k + 1) xs

/-- The entry of an association list. -/
def lookupNat {β : Type} (k : Nat) : List (Nat × β) → Option β
  | [] => none
  | (a, b) :: xs => if a = k then some b else lookupNat k xs

/-- Set the entry of an association list, in place where it stands, else at its end. -/
def assignNat {β : Type} (k : Nat) (b : β) : List (Nat × β) → List (Nat × β)
  | [] => [(k, b)]
  | (a, c) :: xs => if a = k then (k, b) :: xs else (a, c) :: assignNat k b xs

/-- Drop the entry of an association list. -/
def eraseNat {β : Type} (k : Nat) (xs : List (Nat × β)) : List (Nat × β) := xs.filter (fun p => p.1 ≠ k)

/-- A list kept to its newest `n` entries. -/
def keepLast {α : Type} (n : Nat) (xs : List α) : List α := xs.drop (xs.length - n)

/-- Replace the entry at a place of a list. -/
def setAt {α : Type} (xs : List α) (i : Nat) (x : α) : List α := xs.set i x

def incr {w : Nat} (x : BitVec w) : BitVec w := x + 1

end Sys2Proof
end

