-- ==== Sys2Proof/Syntax.lean ====
section
/-! DEFINITION. The commands the block takes: one constructor per row of the opcode table, with the operands that
identify the unit and carry what comes from outside (a word, a message, a measurement, an observed outcome). -/

namespace Sys2Proof

/-- Who writes or requests: the master identities of R741; `none_` is a message outside a session (R550). -/
inductive Ident where
  | aon | mgp | sep | flc | repair
  | seq (die : Fin 8)
  | driver (p : Fin 8)
  | cle | debug | operator | securityOfficer | claim | none_
  deriving DecidableEq, Repr

/-- What the units that read storage observe: nothing, a corrected word or line, an uncorrectable one, or a granule or
sector tag that does not match, at a byte offset of the place the reader reads (R260, R261, R224). -/
inductive ReadObs where
  | clean
  | corrected (off : Nat)
  | uncorrectable (off : Nat)
  | integrity (off : Nat)
  deriving DecidableEq, Repr

/-- A slice a proof run tests (R726). -/
inductive Slice where
  | sram (die macro_ : Nat)
  | storeBank (region bank row : Nat)
  | hbmRow (chan bank row : Nat)
  | flashBlock (stack block : Nat)
  | array (a : Nat)
  | cleLane (i : Nat)
  | lane (l : Nat)
  deriving DecidableEq, Repr

/-- Why a block is relocated (R291), or that a program of it failed (R293). -/
inductive RelocReason where
  | corrections | soft | rebuild | aged | program
  deriving DecidableEq, Repr

/-- What a patrol scrubber reads (R270, R273): the line at an offset of its tier, or a line of a spare row: channel of the
stack or region of the die, bank, spare row, line of the row. -/
inductive ScrubAt where
  | line (off : Nat)
  | spare (unit : Fin 32) (bank : Fin 17) (row : Fin 32) (line : Fin 64)
  deriving DecidableEq, Repr

/-- Who offers a flow (R423, R468): a reel's SEND, or a group slot's call, to a member. -/
inductive RtsFrom where
  | reel (r : Fin 68)
  | call (i : Fin 64) (peer : U16)
  deriving DecidableEq, Repr

/-- How a relocation goes (R293): it ends well, the program of the target block fails, or the erase of the block. -/
inductive RelocEnd where
  | done | programFails | eraseFails
  deriving DecidableEq, Repr

/-- How an FEC codeword decodes (R410, R412). -/
inductive Decoded where
  | clean | corrected | uncorrectable
  deriving DecidableEq, Repr

/-- What a control pair carries (R411): credits of a VC's pool, nothing, or a lane-ID marker of a lane. -/
inductive ControlPair where
  | credits (vc : Fin 5) (pool : Fin 3) (n : Nat)
  | idle
  | marker (lane : Fin 512) (word : U64)
  | mixed               -- no control pair: the slot's two markers differ (R412)
  deriving DecidableEq, Repr

/-- What an Ethernet frame holds, as the admission of R518 sees it. -/
inductive FrameKind where
  | eapol          -- an EAPOL frame with an MKPDU
  | eumonSession   -- an Eumon generation 3 message that opens or uses an authenticated session
  | eumonPlain     -- an Eumon message of generation 1 or 2
  | rocev2
  | other
  deriving DecidableEq, Repr

/-- What leaves reset alone (R600): an island of R645, or a die. -/
inductive ResetUnit where
  | island (i : Fin 120)
  | die (k : Fin 8)
  deriving DecidableEq, Repr

/-- Where a request comes from: a session, an address and port outside any session, or the identity that writes without a
message (the rows that name a write of one object). -/
inductive Asker where
  | direct (who : Ident)
  | session (id : U32)
  | plain (addr : Nat)
  deriving DecidableEq, Repr

/-- The header fields that a requester chooses (R545); GEN and the message type may be any. -/
structure Req where
  gen : Fin 16
  seq : U16
  index : U16
  sub : U8
  inst : BitVec 12
  exp : U8
  deriving DecidableEq, Repr

/-- What a write observes of the machine where the object's rule waits on it: whether a unit's proof run passes (R732),
and what the row chunks of a halted array do before it stops (R109). -/
structure WriteObs where
  passed : Bool
  chunks : Nat
  rd : ReadObs
  deriving DecidableEq, Repr

/-- The status with which a board peer has refused the access that a move waits for (R220, R252): DENIED, RETIRED, or an
error its tier met; 0 where it has refused none. -/
abbrev PeerSays : Type := Fin 11

/-- The wires of a base link that a wire test has found failing, per direction (R27). -/
abbrev WireCount := Fin 56 × Nat × Nat

/-- One command: a row of the opcode table with its operands. -/
inductive Instr where
  /-- REGISTER_WRITE (R542): a write of a dictionary object that has no row of its own is checked in order and applied or refused. -/
  | registerWrite (a : Asker) (index : U16) (sub : U8) (inst : BitVec 12) (data : List Byte)
  /-- LINK_TRANSFER (R26): a 128-byte transfer arrives on a base link; a CRC failure makes the receiver request a replay from the sender's retry buffer. -/
  | linkTransfer (l : Fin 56) (crcOk : Bool)
  /-- PASS (R62): the sequencer issues a pass with its pass word and slot addresses to a matrix array. -/
  | pass (die : Fin 8) (a : Fin 8) (w : BitVec 64) (slots : BitVec 18) (sigc : Fin 32) (sige : Bool) (n : Nat) (mism : List (Nat × Nat)) (rd : ReadObs) (fd : ReadObs := .clean)
  /-- ROW_RERUN (R100): a poisoned row is rerun once from its start after the rows already in the pipeline. -/
  | rowRerun (arr : Fin 64) (mism : List Nat) (rd : ReadObs)
  /-- PASS_COMPLETE (R189): a pass completes when its last drain or park write has completed. -/
  | passComplete (arr : Fin 64) (mism : List (Nat × Nat)) (rd : ReadObs)
  /-- REQUESTED_DRAIN (R89): the sequencer requests a drain at a time other than a row end and the array stops issuing row chunks. -/
  | requestedDrain (arr : Fin 64) (n : Nat) (rd : ReadObs)
  /-- REQUESTED_DRAIN_CAPTURE (R90): When the in-flight count reaches zero all trays are captured, the run ends and the rounded row is written. -/
  | requestedDrainCapture (arr : Fin 64) (aborted : Bool)
  /-- ARRAY_HALT_REQUEST (R109): a write of 1 to E100h:03 makes the array stop issuing row chunks and wait for in-flight products. -/
  | arrayHaltRequest (a : Asker) (n : Nat) (rd : ReadObs)
  /-- ARRAY_HALTED (R109): Once in-flight products and captures finish, the array enters HALTED. -/
  | arrayHalted (arr : Fin 64)
  /-- ARRAY_RESUME (R112): a write of 0 to E100h:03 resumes the halted pass at the next row chunk. -/
  | arrayResume (a : Asker)
  /-- TRAY_IMAGE_WRITE (R111): a write of E100h:04 replaces the selected tray's value, side bits, run counter and LONG, recomputing RES. -/
  | trayImageWrite (a : Asker) (img : BitVec 640)
  /-- ARRAY_SEED_WRITE (R97): a write of 8400h:01 sets the array's SR seed and resets its drain index. -/
  | arraySeedWrite (a : Asker) (arr : Fin 64) (seed : U32)
  /-- ARRAY_PROOF_RUN_DONE (R730): the array's known-answer proof run ends, counting a transient or making the array FAULTED. -/
  | arrayProofRunDone (arr : Fin 64) (passed : Bool)
  /-- VXE_NOP (R126): the VXE executes a no-operation instruction. -/
  | vxeNop (die : Fin 8) (w : BitVec 64) (rd : ReadObs)
  /-- ADD (R134): the VXE writes the once-rounded sum of A and B. -/
  | add (die : Fin 8) (w : BitVec 64) (rd : ReadObs)
  /-- SUB (R134): the VXE writes the once-rounded difference of A and B. -/
  | sub (die : Fin 8) (w : BitVec 64) (rd : ReadObs)
  /-- MUL (R134): the VXE writes the once-rounded product of A and B. -/
  | mul (die : Fin 8) (w : BitVec 64) (rd : ReadObs)
  /-- FMA (R134): the VXE writes A times B plus C with one rounding. -/
  | fma (die : Fin 8) (w : BitVec 64) (rd : ReadObs)
  /-- DIV (R134): the VXE writes the once-rounded quotient of A by B. -/
  | div (die : Fin 8) (w : BitVec 64) (rd : ReadObs)
  /-- SQRT (R134): the VXE writes the once-rounded square root of A. -/
  | sqrt (die : Fin 8) (w : BitVec 64) (rd : ReadObs)
  /-- RSQRT (R134): the VXE writes the reciprocal square root of A with one rounding. -/
  | rsqrt (die : Fin 8) (w : BitVec 64) (rd : ReadObs)
  /-- MAX (R54): the VXE writes the maximum of A and B. -/
  | max (die : Fin 8) (w : BitVec 64) (rd : ReadObs)
  /-- MIN (R54): the VXE writes the minimum of A and B. -/
  | min (die : Fin 8) (w : BitVec 64) (rd : ReadObs)
  /-- NEG (R134): the VXE writes A with its sign inverted. -/
  | neg (die : Fin 8) (w : BitVec 64) (rd : ReadObs)
  /-- ABS (R134): the VXE writes the absolute value of A. -/
  | abs (die : Fin 8) (w : BitVec 64) (rd : ReadObs)
  /-- CPSGN (R134): the VXE writes A with the sign of B. -/
  | cpsgn (die : Fin 8) (w : BitVec 64) (rd : ReadObs)
  /-- CVT (R49): the VXE writes A converted to DFMT. -/
  | cvt (die : Fin 8) (w : BitVec 64) (rd : ReadObs)
  /-- CMPEQ (R53): the VXE compares A and B for equality and writes a mask plane. -/
  | cmpeq (die : Fin 8) (w : BitVec 64) (rd : ReadObs)
  /-- CMPNE (R53): the VXE compares A and B for inequality and writes a mask plane. -/
  | cmpne (die : Fin 8) (w : BitVec 64) (rd : ReadObs)
  /-- CMPLT (R53): the VXE compares A less than B and writes a mask plane. -/
  | cmplt (die : Fin 8) (w : BitVec 64) (rd : ReadObs)
  /-- CMPLE (R53): the VXE compares A less than or equal to B and writes a mask plane. -/
  | cmple (die : Fin 8) (w : BitVec 64) (rd : ReadObs)
  /-- CMPGT (R53): the VXE compares A greater than B and writes a mask plane. -/
  | cmpgt (die : Fin 8) (w : BitVec 64) (rd : ReadObs)
  /-- CMPGE (R53): the VXE compares A greater than or equal to B and writes a mask plane. -/
  | cmpge (die : Fin 8) (w : BitVec 64) (rd : ReadObs)
  /-- MAND (R134): the VXE writes the AND of two mask planes. -/
  | mand (die : Fin 8) (w : BitVec 64) (rd : ReadObs)
  /-- MOR (R134): the VXE writes the OR of two mask planes. -/
  | mor (die : Fin 8) (w : BitVec 64) (rd : ReadObs)
  /-- MXOR (R134): the VXE writes the XOR of two mask planes. -/
  | mxor (die : Fin 8) (w : BitVec 64) (rd : ReadObs)
  /-- MNOT (R134): the VXE writes the complement of a mask plane. -/
  | mnot (die : Fin 8) (w : BitVec 64) (rd : ReadObs)
  /-- MLOAD (R791): the VXE loads a mask plane from the staging area, faulting ADDR if out of range. -/
  | mload (die : Fin 8) (w : BitVec 64) (rd : ReadObs)
  /-- MSTORE (R791): the VXE stores a mask plane to the staging area, faulting ADDR if out of range. -/
  | mstore (die : Fin 8) (w : BitVec 64) (rd : ReadObs)
  /-- IADD (R134): the VXE writes the 32-bit integer sum of A and B. -/
  | iadd (die : Fin 8) (w : BitVec 64) (rd : ReadObs)
  /-- ISUB (R134): the VXE writes the 32-bit integer difference of A and B. -/
  | isub (die : Fin 8) (w : BitVec 64) (rd : ReadObs)
  /-- IMUL (R134): the VXE writes the low 32 bits of the integer product. -/
  | imul (die : Fin 8) (w : BitVec 64) (rd : ReadObs)
  /-- IDIV (R134): the VXE writes the integer quotient truncated toward zero. -/
  | idiv (die : Fin 8) (w : BitVec 64) (rd : ReadObs)
  /-- IAND (R134): the VXE writes the bitwise AND of A and B. -/
  | iand (die : Fin 8) (w : BitVec 64) (rd : ReadObs)
  /-- IOR (R134): the VXE writes the bitwise OR of A and B. -/
  | ior (die : Fin 8) (w : BitVec 64) (rd : ReadObs)
  /-- RSUM (R136): the VXE sums each line in a fixed pairwise tree and writes the rounded root. -/
  | rsum (die : Fin 8) (w : BitVec 64) (rd : ReadObs)
  /-- RMAX (R137): the VXE writes the maximum of each line. -/
  | rmax (die : Fin 8) (w : BitVec 64) (rd : ReadObs)
  /-- RMIN (R137): the VXE writes the minimum of each line. -/
  | rmin (die : Fin 8) (w : BitVec 64) (rd : ReadObs)
  /-- RARGMAX (R137): the VXE writes the index of each line's maximum. -/
  | rargmax (die : Fin 8) (w : BitVec 64) (rd : ReadObs)
  /-- RARGMIN (R137): the VXE writes the index of each line's minimum. -/
  | rargmin (die : Fin 8) (w : BitVec 64) (rd : ReadObs)
  /-- SCAN (R139): the VXE writes the segmented prefix sum along each line. -/
  | scan (die : Fin 8) (w : BitVec 64) (rd : ReadObs)
  /-- SCANMAX (R139): the VXE writes the segmented running maximum along each line. -/
  | scanmax (die : Fin 8) (w : BitVec 64) (rd : ReadObs)
  /-- ACT (R144): the VXE evaluates the value table of the pair at A and writes the rounded result. -/
  | act (die : Fin 8) (w : BitVec 64) (rd : ReadObs)
  /-- DACT (R145): the VXE writes B times the derivative table evaluated at A. -/
  | dact (die : Fin 8) (w : BitVec 64) (rd : ReadObs)
  /-- VXE_COPY (R134): the VXE copies A unchanged with its tag. -/
  | vxeCopy (die : Fin 8) (w : BitVec 64) (rd : ReadObs)
  /-- TRANS (R126): the VXE writes the transpose of A. -/
  | trans (die : Fin 8) (w : BitVec 64) (rd : ReadObs)
  /-- OPTAM (R150): the VXE applies the adaptive-moment update to the weight tile and its moments. -/
  | optam (die : Fin 8) (w : BitVec 64) (rd : ReadObs)
  /-- OPTMOM (R151): the VXE applies the momentum optimizer update. -/
  | optmom (die : Fin 8) (w : BitVec 64) (rd : ReadObs)
  /-- OPTSGD (R151): the VXE applies the plain optimizer update. -/
  | optsgd (die : Fin 8) (w : BitVec 64) (rd : ReadObs)
  /-- VILCON (R161): the VXE runs a Vilcon kernel on pipe 0 through a window of a sheet and sets the sheet's tag at its end. -/
  | vilcon (die : Fin 8) (w : BitVec 64) (n : Nat) (fault : Option (Fin 3 × U32)) (rd : ReadObs)
  /-- VXE_SEED_WRITE (R157): a write of 8500h:01 sets the VXE seed and resets every draw counter. -/
  | vxeSeedWrite (a : Asker) (die : Fin 8) (seed : U32)
  /-- DRAW_COUNTER_IMAGE_WRITE (R165): a write of 8500h:05 replaces the per-lane draw counters while the VXE is IDLE. -/
  | drawCounterImageWrite (a : Asker) (die : Fin 8) (img : List Byte)
  /-- SEQ_NOP (R187): the sequencer issues a no-operation. -/
  | seqNop (die : Fin 8) (rd : ReadObs := .clean)
  /-- JUMP (R187): the sequencer continues issue at an offset in PROGRAM. -/
  | jump (die : Fin 8) (off : U32) (rd : ReadObs := .clean)
  /-- LOOP (R187): the sequencer begins repeating instructions up to the matching ENDLOOP. -/
  | loop (die : Fin 8) (n : U32) (rd : ReadObs := .clean)
  /-- ENDLOOP (R187): the sequencer closes a loop body and repeats or exits. -/
  | endloop (die : Fin 8) (rd : ReadObs := .clean)
  /-- CALL (R187): the sequencer calls a subroutine in PROGRAM. -/
  | call (die : Fin 8) (off : U32) (rd : ReadObs := .clean)
  /-- RET (R187): the sequencer returns from a subroutine. -/
  | ret (die : Fin 8) (rd : ReadObs := .clean)
  /-- STEPEND (R201): the sequencer holds issue until all issued operations complete, then counts a step and takes any STOP. -/
  | stepend (die : Fin 8) (rd : ReadObs := .clean)
  /-- HALT (R177): the sequencer stops its program; when all dies halt the negative enters ADMITTED. -/
  | halt (die : Fin 8) (rd : ReadObs := .clean)
  /-- WAIT (R187): the sequencer holds issue until a counter reaches a value. -/
  | wait (die : Fin 8) (c : Fin 32) (least : U16) (rd : ReadObs := .clean)
  /-- WAIT_SATISFIED (R196): a held WAIT is met and issue continues at the first unissued instruction. -/
  | waitSatisfied (die : Fin 8)
  /-- SIGNAL (R187): the sequencer adds 1 to a counter of a die of the same negative. -/
  | signal (die : Fin 8) (c : Fin 32) (peer : Fin 8) (rd : ReadObs := .clean)
  /-- CLEAR (R187): the sequencer sets a counter to zero. -/
  | clear (die : Fin 8) (c : Fin 32) (rd : ReadObs := .clean)
  /-- SETX (R187): the sequencer loads a VXE scalar register. -/
  | setx (die : Fin 8) (x : Fin 16) (v : U32) (rd : ReadObs := .clean)
  /-- SETMB (R187): the sequencer loads the micro-batch register. -/
  | setmb (die : Fin 8) (v : U16) (rd : ReadObs := .clean)
  /-- KERNEL (R187): the sequencer issues a run of VXE instruction words to the VXE. -/
  | kernel (die : Fin 8) (off count : U32) (sigc : Fin 32) (sige : Bool) (rd : ReadObs := .clean)
  /-- MOVE (R191): the sequencer issues a reel descriptor to a reel with the micro-batch stride added. -/
  | move (die : Fin 8) (reel : Fin 8) (desc stride : U32) (src dst : Bool) (sigc : Fin 32) (sige pf : Bool) (rd : ReadObs := .clean)
  /-- COLL (R467): the sequencer registers a collective call on a group with an entry descriptor. -/
  | coll (die : Fin 8) (group : U8) (desc : U32) (sigc : Fin 32) (sige : Bool) (rd : ReadObs := .clean)
  /-- SCHED (R194): the sequencer runs the one-forward-one-backward schedule of its stage. -/
  | sched (die : Fin 8) (st sn : U8) (mb : U16) (fwd bwd : U32) (rd : ReadObs := .clean)
  /-- OPERATION_COMPLETE (R189): an issued kernel, move or collective call completes and increments its signal counter. -/
  | operationComplete (die : Fin 8) (op : Nat)
  /-- LOAD (R178): the LOAD command enters CHECKING and starts admission of the negative. -/
  | load (a : Asker) (p : Fin 8)
  /-- ADMISSION_END (R181): Admission ends with the first failing check's refusal code, or copies the sections and enters ADMITTED. -/
  | admissionEnd (p : Fin 8)
  /-- UNLOAD (R177): the UNLOAD command releases every declared resource and enters EMPTY. -/
  | unload (a : Asker) (p : Fin 8)
  /-- RUN (R177): the RUN command clears counters, starts every die at offset 0 and enters RUNNING. -/
  | run (a : Asker) (p : Fin 8)
  /-- STOP (R177): the STOP command enters STOPPING so each die stops after its next STEPEND. -/
  | stop (a : Asker) (p : Fin 8)
  /-- SUSPEND (R205): the SUSPEND command makes every die stop issuing at its next instruction boundary. -/
  | suspend (a : Asker) (p : Fin 8)
  /-- SUSPEND_DONE (R205): When every die has saved its context, the negative enters SUSPENDED. -/
  | suspendDone (p : Fin 8)
  /-- RESUME (R205): the RESUME command continues every die from its saved context. -/
  | resume (a : Asker) (p : Fin 8)
  /-- REEL_COPY (R234): a reel reads tiles from the source and writes them to the destination. -/
  | reelCopy (r : Fin 68) (rd : ReadObs) (peer : PeerSays)
  /-- SEND (R240): a reel offers tiles to a matching RECV and transmits them once granted. -/
  | send (r : Fin 68) (rd : ReadObs) (peer : PeerSays := 0)
  /-- RECV (R240): a reel posts a receive of tiles from a flow and writes them to its destination. -/
  | recv (r : Fin 68) (peer : PeerSays := 0)
  /-- FILL (R234): a reel writes zero tiles to the destination. -/
  | fill (r : Fin 68) (peer : PeerSays := 0)
  /-- IOD_REEL_DESCRIPTOR (R246): a write of 8800h:05 checks a descriptor against the writer's partition and queues it on an IOD reel. -/
  | iodReelDescriptor (a : Asker) (r : Fin 4) (d : BitVec 512)
  /-- REEL_WATCHDOG_TIMEOUT (R250): an access waiting past its tier's watchdog limit ends the move with TIMEOUT. -/
  | reelWatchdogTimeout (r : Fin 68)
  /-- PROOF_RUN_START (R263): a proof run of the slice that held a detected error starts after its delay. -/
  | proofRunStart (sl : Slice)
  /-- PROOF_RUN_DONE (R268): a memory proof run ends; a pass counts transient and a fail moves the slice down its ladder. -/
  | proofRunDone (sl : Slice) (passed path : Bool)
  /-- PAGE_RETIRE_WRITE (R279): a staged write of 8C00h:01 names a page to retire at the exposure's commit. -/
  | pageRetireWrite (a : Asker) (e : Fin 16) (k : Fin 8) (page : U32)
  /-- SCRUB_READ (R270): the patrol scrubber reads a line, checking ECC and the granule tag. -/
  | scrubRead (u : Fin 24) (at_ : ScrubAt) (rd : ReadObs) (progress : Fin 101) (held : Bool := false)
  /-- SCRUB_BEHIND (R272): a scrubber that has not finished a pass in its limit raises SCRUB_BEHIND. -/
  | scrubBehind (u : Fin 24)
  /-- FLASH_RELOCATE (R291): the flash controller relocates a block's valid sectors and erases it. -/
  | flashRelocate (st : Fin 2) (b : Fin 262144) (why : RelocReason) (len : Fin 16777217) (fin : RelocEnd) (target : Fin 262144 := 0)
  /-- FLASH_BLOCK_AGED (R291): a block unwritten for 30 days is due for relocation. -/
  | flashBlockAged (st : Fin 2) (b : Fin 262144)
  /-- LASER_ENABLE (R309): a write of 1 to 9000h:01 asserts LSR_EN or latches a pending enable. -/
  | laserEnable (a : Asker) (n : Fin 16)
  /-- LASER_DISABLE (R309): a write of 0 to 9000h:01 deasserts LSR_EN and enters DISABLING or OFF. -/
  | laserDisable (a : Asker) (n : Fin 16)
  /-- LSR_OK_ASSERT (R309): LSR_OK asserts and the laser enters ON. -/
  | lsrOkAssert (n : Fin 16)
  /-- LSR_OK_DEASSERT (R311): LSR_OK deasserts in ON; the laser enters FAULT and its engines hold their heaters. -/
  | lsrOkDeassert (n : Fin 16)
  /-- LASER_ENABLE_TIMEOUT (R309): LSR_OK not asserted 50 ms after enable deasserts LSR_EN and enters FAULT. -/
  | laserEnableTimeout (n : Fin 16)
  /-- LASER_DISABLE_END (R309): DISABLING ends after 500 µs and any pending enable runs. -/
  | laserDisableEnd (n : Fin 16)
  /-- LASER_GRACE_EXPIRY (R311): LSR_OK not returned within 100 ms makes the AON deassert LSR_EN. -/
  | laserGraceExpiry (n : Fin 16)
  /-- LSR_OK_WHILE_OFF (R764): LSR_OK asserted for 1 ms while the laser is OFF raises LASER_FAULT. -/
  | lsrOkWhileOff (n : Fin 16)
  /-- LANE_TRAINED (R323): Receive rings verify and a PRBS31 check passes, putting lanes IN_SERVICE. -/
  | laneTrained (l : Fin 512) (trim : Fin 201)
  /-- LANE_TRAINING_TIMEOUT (R324): a lane not IN_SERVICE 100 ms after safelight exit is marked FAILED. -/
  | laneTrainingTimeout (l : Fin 512)
  /-- FOCUS_LOOP_UPDATE (R321): Each focus loop updates its heater from its detuning measurement and feed-forward. -/
  | focusLoopUpdate (e : Fin 32) (i : Fin 240) (feedback detuning : Int)
  /-- LOCK_LOST (R321): Detuning beyond ±60 GHz for 10 µs declares loss of lock and starts relock. -/
  | lockLost (e : Fin 32) (i : Fin 240)
  /-- HEATER_LIMIT (R322): a heater within 1 mW of a limit for 10 ms raises HEATER_LIMIT. -/
  | heaterLimit (e : Fin 32) (i : Fin 240)
  /-- PILOT_WINDOW (R326): a 1 ms pilot-tone window ends and names the line a ring serves, detecting mislock or lock loss. -/
  | pilotWindow (e : Fin 32) (i : Fin 240) (line : Option (Fin 16))
  /-- LANE_ID_MARKER (R328): a lane-ID marker is decoded and checked against the lane and the discovery record. -/
  | laneIdMarker (l : Fin 512) (m : U64)
  /-- MARKER_MISSING (R328): No marker decoded in two intervals declares the receive lane unlocked. -/
  | markerMissing (l : Fin 512)
  /-- RELOCK_ATTEMPT_DONE (R330): a relock attempt's acquire ends and the lane seen is checked, proceeding, proving or failing the lane. -/
  | relockAttemptDone (l : Fin 512) (seen : Option (Fin 16)) (before : Option (Fin 16) := none)
  /-- LANE_PROOF_RUN_DONE (R331): a lane PRBS31 proof run ends, returning the lane or marking it FAILED. -/
  | laneProofRunDone (l : Fin 512) (ok : Bool)
  /-- LANE_CODEWORDS (R729): More than 16 uncorrectable codewords in 1 s take the lane out of its set for a proof run. -/
  | laneCodewords (l : Fin 512)
  /-- REQUALIFY_LANE (R333): a write of 8E00h:09 starts requalification of failed lanes. -/
  | requalifyLane (a : Asker) (e : Fin 32) (mask : U16)
  /-- RESWEEP (R325): a periodic re-sweep takes one lane per engine out for up to 300 µs to update its bias. -/
  | resweep (e : Fin 32) (fm fr fd : Int)
  /-- POWER_SAMPLE (R336): a lens chiplet receives a die power sample and updates its feed-forward filters. -/
  | powerSample (die : Fin 8) (mw : Nat)
  /-- TRIP_NOTICE (R337): a lens chiplet applies a die's trip or restore notice as a power sample. -/
  | tripNotice (die : Fin 8) (mw : Nat)
  /-- SHROUD_OPEN (R342): SHROUD_OPEN_N asserts and every lit port enters safelight mode sending HOLD. -/
  | shroudOpen
  /-- SHROUD_CLOSE (R345): SHROUD_OPEN_N deasserts and the shroud-closed timer starts. -/
  | shroudClose
  /-- RX_POWER_LOSS (R339): Received power below −20 dBm for 50 µs puts a port into safelight mode. -/
  | rxPowerLoss (q : Fin 48)
  /-- BEACON_WORD (R341): a safelight beacon word of READY or HOLD is received. -/
  | beaconWord (q : Fin 48) (w : U32)
  /-- SAFELIGHT_BACKSTOP (R343): a launch monitor above −3 dBm 1 ms after safelight entry deasserts the laser and enters HELD. -/
  | safelightBackstop (q : Fin 48) (launch : U16)
  /-- SAFELIGHT_EXIT (R345): a port with shroud closed 1 s, laser ON and READY exchanged leaves safelight and trains. -/
  | safelightExit (q : Fin 48)
  /-- HELD_RELEASE (R344): a HELD laser is released, the trim test runs and the engines light. -/
  | heldRelease (n : Fin 16) (bad0 bad1 : Option (Fin 16))
  /-- CALIBRATION_STAGE (R351): a write of 2800h:03 stages a new calibration set. -/
  | calibrationStage (a : Asker) (img : List Byte)
  /-- CALIBRATION_COMMIT (R351): a write of 1 to 2800h:05 checks the staged set and starts its commit to flash. -/
  | calibrationCommit (a : Asker)
  /-- CALIBRATION_WRITTEN (R352): the calibration set is replaced in flash atomically and reports USER. -/
  | calibrationWritten
  /-- DISCOVERY_RECORD (R375): a discovery record arrives and the port's outcome is evaluated. -/
  | discoveryRecord (q : Fin 48) (rec_ : BitVec 256)
  /-- DISCOVERY_RECORD_TIMEOUT (R375): No record within 100 ms of lighting sets the port's outcome to NONE. -/
  | discoveryRecordTimeout (q : Fin 48)
  /-- DISCOVERY_START (R378): a write of 2A00h:07 schedules a full discovery at a step time. -/
  | discoveryStart (a : Asker) (t : U64)
  /-- DISCOVERY_ROUND_A (R378): At the start time engines remap to reach indices e mod 4. -/
  | discoveryRoundA
  /-- DISCOVERY_ROUND_B (R378): After 100 ms round A is evaluated and two engines per group remap to reach indices 4 and 5. -/
  | discoveryRoundB
  /-- DISCOVERY_FINISH (R378): After 200 ms round B is evaluated and engines remap to the committed sheet. -/
  | discoveryFinish
  /-- DISCOVERY_DONE (R378): the full discovery completes and DISCOVERY_DONE is raised. -/
  | discoveryDone
  /-- MEMBER_LOST (R393): Every port facing a neighbour in safelight 10 ms without a beacon raises MEMBER_LOST. -/
  | memberLost (q : Fin 48)
  /-- CODEWORD_RECEIVED (R412): an FEC codeword arrives on a lane; an uncorrectable one drops its ten cell slots. -/
  | codewordReceived (l : Fin 512) (d : Decoded)
  /-- CONTROL_PAIR (R411): a control pair carrying credit returns, an idle or a lane-ID marker is received. -/
  | controlPair (q : Fin 48) (c : ControlPair)
  /-- CELL_ROUTE (R418): a router chooses a hop for an arriving cell, adaptively or on an escape class, or drops it. -/
  | cellRoute (q : Fin 48) (c : BitVec 512)
  /-- CELL_RECEIVE (R425): an endpoint accepts, counts and places a cell or drops it. -/
  | cellReceive (c : BitVec 512)
  /-- ACK_TIMER (R427): 4 µs after the first unacknowledged cell the receiver sends an ACK. -/
  | ackTimer (ep : Fin 16) (slot : Fin 4096)
  /-- ACK_RECEIVED (R429): a sender receives an ACK, frees covered cells and restarts its resend timer. -/
  | ackReceived (c : BitVec 512)
  /-- NAK_TIMER (R428): a sequence missing 20 µs makes the receiver send or repeat a NAK. -/
  | nakTimer (ep : Fin 16) (slot : Fin 4096)
  /-- NAK_RECEIVED (R428): a sender resends each cell marked in a NAK. -/
  | nakReceived (c : BitVec 512)
  /-- RESEND_TIMER (R429): the resend timer expires and the sender resends unacknowledged cells and doubles the timer. -/
  | resendTimer (ep : Fin 16) (peer : U16) (peerEp : Fin 16) (slot : Fin 4096)
  /-- RTS_RECEIVED (R423): a receiver matches an RTS to a RECV and answers with a GRANT. -/
  | rtsReceived (ep : Fin 16) (peer : U16) (peerEp : Fin 16) (tag : U16) (nt : U32) (efmt : Fin 8) (eint : Bool) (sig : U64 := 0#64)
  /-- RTS_REPEAT (R423): an ungranted SEND repeats its RTS every 100 µs. -/
  | rtsRepeat (who : RtsFrom)
  /-- GRANT_RECEIVED (R423): a sender receives a GRANT and starts transmitting its tiles. -/
  | grantReceived (ep : Fin 16) (peer : U16) (peerEp : Fin 16) (tag : U16) (slot : Fin 4096) (first : Fin 16777216) (size : Bool)
  /-- BREAD_RECEIVED (R435): a board load request arrives and the peer answers with a flow on VC2. -/
  | breadReceived (peer : U16) (peerEp : Fin 16) (slot : Fin 4096) (first : Fin 16777216) (addr : U64) (lay : Fin 4) (efmt : Fin 8) (pitch : U16) (rd : ReadObs)
  /-- RATE_INCREASE (R440): 16 µs without a marked echo adds 2.34 GB/s to a rate context. -/
  | rateIncrease (member : U16) (vc : Fin 5)
  /-- BARRIER (R465): a collective call of agreement only. -/
  | barrier (i : Fin 64)
  /-- ALLREDUCE (R477): a collective call that gives every rank the reduction of all sources. -/
  | allreduce (i : Fin 64) (peers : List (List Byte)) (rd : ReadObs)
  /-- REDUCESCATTER (R479): a collective call that gives each rank its share of the reduction. -/
  | reducescatter (i : Fin 64) (peers : List (List Byte)) (rd : ReadObs)
  /-- ALLGATHER (R479): a collective call that gives every rank all sources in rank order. -/
  | allgather (i : Fin 64) (peers : List (List Byte)) (rd : ReadObs)
  /-- BROADCAST (R492): a collective call that copies the root's source to every rank. -/
  | broadcast (i : Fin 64) (data : List Byte) (rd : ReadObs)
  /-- NORM (R489): a collective call that forms the exact global sum of squares and clip factor. -/
  | norm (i : Fin 64) (peers : List (List Byte)) (rd : ReadObs)
  /-- PERMUTE (R495): a collective call that moves blocks between ranks as a map names. -/
  | permute (i : Fin 64) (blocks : List (List (List Byte))) (rd : ReadObs)
  /-- KVRING (R497): a collective call that rotates a buffer one step around ring 0. -/
  | kvring (i : Fin 64) (recv : List (List Byte)) (rd : ReadObs)
  /-- CALL_BEGIN (R467): a call begins at a member when every participating die has registered it. -/
  | callBegin (i : Fin 64)
  /-- AGREE_RECEIVED (R471): a partner's AGREE arrives and the agreement round advances a dimension. -/
  | agreeReceived (i : Fin 64) (peer : U16) (call : U32) (sig : U64) (ok : Bool)
  /-- AGREE_REPEAT (R471): an AGREE is repeated every 100 µs until the partner's arrives. -/
  | agreeRepeat (i : Fin 64)
  /-- CLE_STEP_DONE (R481): a collective step's output passes its checks and its next send proceeds. -/
  | cleStepDone (i : Fin 64) (residue : Option (Fin 16)) (replayOk : Bool)
  /-- CLE_LANE_SELFCHECK_DONE (R482): a CLE lane's self-check ends, taking the lane out of service if it fails. -/
  | cleLaneSelfcheckDone (l : Fin 16) (passed : Bool)
  /-- PERMUTE_FETCH_REQUEST (R495): a block fetch request arrives and the source answers with a flow on VC3. -/
  | permuteFetchRequest (i : Fin 64) (peer : U16) (slot : Fin 4096) (first : Fin 16777216) (rank : Fin 8) (blk : U32) (rd : ReadObs)
  /-- COMPLETION_ROUND_END (R495): the PERMUTE completion round ends and the copy phase begins. -/
  | completionRoundEnd (i : Fin 64) (rd : ReadObs)
  /-- CALL_END (R467): a call ends, advancing the call number and completing every die's COLL with one status. -/
  | callEnd (i : Fin 64)
  /-- STRAGGLER (R498): No progress past the straggler interval while waiting on peers raises STRAGGLER. -/
  | straggler (i : Fin 64) (peer : Fin 8192)
  /-- ABORT_RECEIVED (R502): an ABORT cell ends the current or a later call with the named status. -/
  | abortReceived (i : Fin 64) (peer : U16) (call : U32) (status : Fin 8)
  /-- ABORT_REPEAT (R502): an unanswered ABORT is repeated every 1 ms up to 100 times. -/
  | abortRepeat (i : Fin 64) (peer : U16)
  /-- ABORT_ACK_RECEIVED (R502): an ABORT_ACK stops the repetition of an ABORT to that member. -/
  | abortAckReceived (i : Fin 64) (peer : U16) (call : U32)
  /-- COLL_ABORT_WRITE (R504): a write of 1 to 9200h:0A ends the slot's call with ABORTED. -/
  | collAbortWrite (a : Asker) (i : Fin 64)
  /-- CALL_CONTEXT_WRITE (R500): a write of 9200h:0C replaces a suspended call's context image after CRC check. -/
  | callContextWrite (a : Asker) (i : Fin 64) (img : BitVec 2048)
  /-- HOST_LANE_LOCK (R512): Receive clock and PAM4 recovery lock on all eight lanes. -/
  | hostLaneLock (n : Fin 2)
  /-- HOST_LINK_UP (R512): Alignment markers lock and FEC syncs, bringing the port to LINK_UP or ENROLLMENT. -/
  | hostLinkUp (n : Fin 2)
  /-- HOST_LINK_DOWN (R513): Alignment-marker lock lost for 1 ms returns the port to TRAINING. -/
  | hostLinkDown (n : Fin 2)
  /-- HOST_TRAINING_FAULT (R514): Training failed for 60 s puts the port in FAULT. -/
  | hostTrainingFault (n : Fin 2)
  /-- HOST_TRAINING_RETRY (R514): a port in FAULT retries training every 10 s. -/
  | hostTrainingRetry (n : Fin 2)
  /-- MKPDU_RECEIVED (R516): an MKA frame is processed, installing SAKs and opening the controlled port. -/
  | mkpduReceived (n : Fin 2) (sak : Bool)
  /-- MACSEC_LOST (R519): Loss of MKA live peer closes the controlled port and puts its windows in ERROR. -/
  | macsecLost (n : Fin 2)
  /-- FRAME_RECEIVED (R518): an Ethernet frame is accepted or dropped by the port's state. -/
  | frameReceived (n : Fin 2) (kind : FrameKind) (macsecOk : Bool) (fixed lost : Nat := 0)
  /-- HOST_REQUEST_NAK (R520): a host request to a T1 queue pair is answered with an invalid-request NAK. -/
  | hostRequestNak (w : Fin 256)
  /-- WINDOW_DESCRIPTOR_WRITE (R525): a write of 9300h:01 replaces a window descriptor unless the window is CLOSING or CLOSED. -/
  | windowDescriptorWrite (a : Asker) (w : Fin 256) (d : BitVec 512)
  /-- WINDOW_OPEN (R524): a write of 1 to 9300h:02 checks the descriptor and opens the window. -/
  | windowOpen (a : Asker) (w : Fin 256)
  /-- WINDOW_CLOSE (R525): a write of 0 to 9300h:02 enters CLOSING. -/
  | windowClose (a : Asker) (w : Fin 256)
  /-- WINDOW_CLOSE_DONE (R525): Once sent operations are answered the window enters CLOSED and any pending open runs. -/
  | windowCloseDone (w : Fin 256)
  /-- RDMA_ACK_RECEIVED (R531): a host acknowledgement of RDMA WRITEs arrives. -/
  | rdmaAckReceived (w : Fin 256) (psn : BitVec 24)
  /-- READ_RESPONSE_RECEIVED (R533): an RDMA read response arrives and its data is written on. -/
  | readResponseReceived (w : Fin 256) (psn : BitVec 24) (bytes : List Byte) (ce : Bool)
  /-- RDMA_NAK_RECEIVED (R527): a host NAK other than receiver-not-ready fails the queue pair and puts the window in ERROR. -/
  | rdmaNakReceived (w : Fin 256)
  /-- RDMA_ACK_TIMEOUT (R527): the 131 µs local ACK timeout triggers go-back-N retransmission. -/
  | rdmaAckTimeout (w : Fin 256)
  /-- CNP_RECEIVED (R528): a congestion notification halves the window's rate. -/
  | cnpReceived (w : Fin 256)
  /-- WINDOW_RATE_INCREASE (R528): 55 µs without a notification raises the window's rate by 1.25 GB/s. -/
  | windowRateIncrease (w : Fin 256)
  /-- PFC_FRAME (R528): a priority flow control frame pauses transmission on its priority. -/
  | pfcFrame (n : Fin 2) (prio : Fin 8) (quanta : U16)
  /-- READ (R547): an Eumon READ returns one object's value. -/
  | read (a : Asker) (r : Req)
  /-- WRITE (R542): an Eumon WRITE writes one object after the ordered checks. -/
  | write (a : Asker) (r : Req) (data : List Byte) (obs : WriteObs)
  /-- STAGE_WRITE (R575): a write carrying EXP is checked and staged in its exposure slot. -/
  | stageWrite (a : Asker) (e : Fin 16) (r : Req) (data : List Byte) (obs : WriteObs)
  /-- DESCRIBE (R557): an Eumon DESCRIBE returns an object's description. -/
  | describe (a : Asker) (r : Req)
  /-- BLKRD (R552): a block read opens a transfer from a copy of the value. -/
  | blkrd (a : Asker) (r : Req)
  /-- BLKWR (R552): a block write opens a transfer of a given length. -/
  | blkwr (a : Asker) (r : Req) (total : U32) (obs : WriteObs)
  /-- BLKDATA (R554): a segment of a block transfer arrives; the last applies the write and sends BLKEND. -/
  | blkdata (a : Asker) (r : Req) (data : List Byte) (obs : WriteObs)
  /-- BLKACK (R553): a block acknowledgement arrives and missing segments are resent. -/
  | blkack (a : Asker) (r : Req) (map : U64)
  /-- BLKACK_TIMER (R553): 2 ms after a block's first segment the receiver sends a BLKACK. -/
  | blkackTimer (id : U16)
  /-- BLKABORT (R555): a BLKABORT ends a block transfer. -/
  | blkabort (a : Asker) (r : Req)
  /-- TRANSFER_STALLED (R555): a transfer without progress for 5 s ends with TRANSFER. -/
  | transferStalled (id : U16)
  /-- SESS_OPEN (R564): a session opening message is answered with the T1's key, nonce and signature. -/
  | sessOpen (addr : Nat) (r : Req) (data : List Byte)
  /-- SESS_CONFIRM (R565): a confirmation is verified and the session keys are derived. -/
  | sessConfirm (addr : Nat) (r : Req) (data : List Byte)
  /-- SESSION_CONFIRM_TIMEOUT (R565): a session not confirmed within 5 s is discarded. -/
  | sessionConfirmTimeout (id : U32)
  /-- SESS_CLOSE (R569): a session close message ends the session. -/
  | sessClose (id : U32) (r : Req)
  /-- SESSION_IDLE_TIMEOUT (R569): a session with no accepted message for 30 s closes. -/
  | sessionIdleTimeout (id : U32)
  /-- ENVELOPE (R567): an authenticated envelope is checked and its body executed with the session's identity. -/
  | envelope (bs : List Byte) (obs : WriteObs)
  /-- SPDM (R636): an SPDM message inside a session is served or answered UnsupportedRequest. -/
  | spdm (id : U32) (r : Req) (m : List Byte)
  /-- GET_VERSION (R636): the SPDM responder returns its supported versions. -/
  | getVersion (id : U32) (r : Req) (p1 p2 : U8)
  /-- GET_CAPABILITIES (R636): the SPDM responder returns its capabilities. -/
  | getCapabilities (id : U32) (r : Req) (p1 p2 : U8) (rest : List Byte)
  /-- NEGOTIATE_ALGORITHMS (R636): the SPDM responder selects the P-384 and SHA-384 algorithms. -/
  | negotiateAlgorithms (id : U32) (r : Req) (p1 p2 : U8) (rest : List Byte)
  /-- GET_DIGESTS (R636): the SPDM responder returns the digest of certificate slot 0. -/
  | getDigests (id : U32) (r : Req) (p1 p2 : U8)
  /-- GET_CERTIFICATE (R636): the SPDM responder returns the certificate chain. -/
  | getCertificate (id : U32) (r : Req) (p1 p2 : U8) (rest : List Byte)
  /-- CHALLENGE (R636): the SPDM responder signs a challenge with the device identity key. -/
  | challenge (id : U32) (r : Req) (p1 p2 : U8) (rest : List Byte)
  /-- GET_MEASUREMENTS (R637): the SPDM responder returns signed measurement blocks. -/
  | getMeasurements (id : U32) (r : Req) (p1 p2 : U8) (rest : List Byte)
  /-- AON_DEVICE_TIMEOUT (R570): While the MGP does not answer, the AON answers a non-AON request with DEVICE after 50 ms. -/
  | aonDeviceTimeout
  /-- SHUTTER_OPEN (R574): a write of 1 to the shutter opens an exposure slot. -/
  | shutterOpen (a : Asker) (e : Fin 16)
  /-- SHUTTER_ABORT (R579): a write of 2 to the shutter aborts an OPEN or PREPARING exposure. -/
  | shutterAbort (a : Asker) (e : Fin 16)
  /-- EXPOSURE_CLOSE (R581): a write to Close enters PREPARING and sends staged writes to their islands. -/
  | exposureClose (a : Asker) (e : Fin 16) (t : U64)
  /-- EXPOSURE_PREPARED (R582): When islands report their checks the controller fixes T_c or aborts the exposure. -/
  | exposurePrepared (e : Fin 16)
  /-- EXPOSURE_COMMIT (R583): At T_c every island applies its staged writes and pending changes together. -/
  | exposureCommit (e : Fin 16)
  /-- EXPOSURE_EXPIRED (R580): a slot not closed within 500 ms of opening aborts with EXPIRED. -/
  | exposureExpired (e : Fin 16)
  /-- MAILBOX_POST (R594): the bound sender writes a message to a channel slot, which becomes FULL or WAKING. -/
  | mailboxPost (a : Asker) (c : Fin 64) (data : List Byte)
  /-- MAILBOX_RELEASE (R594): the receiver writes 1 to Release, clearing the slot to EMPTY. -/
  | mailboxRelease (a : Asker) (c : Fin 64)
  /-- NOTICE_CLEAR (R603): the sender writes 0 to the notice, allowing posts again. -/
  | noticeClear (a : Asker) (c : Fin 64)
  /-- RECEIVER_READY (R598): a woken receiver reports ready and its WAKING channel becomes FULL. -/
  | receiverReady (sep : Bool)
  /-- WAKE_FAILED (R598): a receiver not ready in time clears the slot and sets WAKE_FAILED. -/
  | wakeFailed (c : Fin 64)
  /-- PROPOSAL_BODY (R626): the Operator writes a proposal body, which enters PROPOSED with a digest and expiry. -/
  | proposalBody (a : Asker) (k : Fin 4) (body : List Byte)
  /-- COUNTERSIGN (R630): a valid countersignature checks the proposal and commits it through an exposure. -/
  | countersign (a : Asker) (k : Fin 4) (cred : U8) (sig : BitVec 768)
  /-- PROPOSAL_REJECT (R629): a write of 1 to Reject withdraws or rejects a proposal. -/
  | proposalReject (a : Asker) (k : Fin 4)
  /-- PROPOSAL_EXPIRY (R628): an unsigned proposal reaches its expiry and enters EXPIRED. -/
  | proposalExpiry (k : Fin 4)
  /-- CLAIM (R618): the claim session writes the Security Officer and Operator credentials and the T1 becomes OWNED. -/
  | claim (a : Asker) (entries : BitVec 1792)
  /-- CLAIMING_EXPIRY (R618): CLAIMING ends after 10 minutes without a claim and the T1 returns to UNOWNED. -/
  | claimingExpiry
  /-- ZEROISE_PARTITION (R634): Code PARTITION destroys a partition's HBM and flash keys. -/
  | zeroisePartition (a : Asker) (p : Fin 8)
  /-- ZEROISE_HOST_LINK (R634): Code HOST_LINK destroys a host-link key slot and puts the port in ENROLLMENT. -/
  | zeroiseHostLink (a : Asker) (n : Fin 2)
  /-- ZEROISE_ALL (R634): Code ALL destroys every partition key and both host-link slots. -/
  | zeroiseAll (a : Asker)
  /-- ZEROISE_REWRITE_DONE (R634): the pairs are rewritten with zero data under new keys and new flash keys are in place. -/
  | zeroiseRewriteDone (p : Fin 8)
  /-- DIE_CLEAR_DONE (R611): the die's keys, memory and counters are cleared and its clearing bit falls. -/
  | dieClearDone (k : Fin 8)
  /-- REFCLK_LOST (R648): REFCLK stopped or off by more than 500 ppm for 10 µs puts every PLL in holdover. -/
  | refclkLost
  /-- REFCLK_RESTORED (R649): REFCLK within limits for 1 ms relocks every PLL. -/
  | refclkRestored
  /-- STEP_PULSE (R653): a STEP pulse arrives; the STU loads an epoch or measures and corrects its error. -/
  | stepPulse
  /-- STEP_LOST (R655): No STEP pulse for four intervals puts the STU in HOLDOVER. -/
  | stepLost
  /-- EPOCH_WRITE (R652): a write of 2E00h:02 sets the epoch to load at a later STEP pulse. -/
  | epochWrite (a : Asker) (e : U64)
  /-- ALIGNMENT_COMPLETE (R654): a realigning STU reaches the aligned value and returns to LOCKED. -/
  | alignmentComplete
  /-- INPUT_VALID (R660): Input at or above 40 V for 10 ms starts the converters and the boot. -/
  | inputValid (mv : U16)
  /-- INPUT_UNDERVOLTAGE (R660): Input below 38 V for 50 µs stops the converters and enters INPUT_FAULT. -/
  | inputUndervoltage (mv : U16)
  /-- INPUT_OVERVOLTAGE (R660): Input above 60 V for 10 µs stops the converters and enters INPUT_FAULT. -/
  | inputOvervoltage (mv : U16)
  /-- REGULATOR_FAULT (R662): a converter or regulator reports a fault and switches off, taking its load out of service. -/
  | regulatorFault (r : Fin 210)
  /-- POWER_BUDGET_UPDATE (R664): Every 1 ms the AON sets each compute die's power budget against the effective cap. -/
  | powerBudgetUpdate (mv : U16) (ma power : U32) (projected : Nat) (dies : Vector (U16 × U16 × U16) 8)
  /-- SENSOR_SAMPLE (R673): Every 10 µs the sensors are sampled, validated and the throttle caps updated. -/
  | sensorSample (temps : Vector Int 932)
  /-- SLEW_HOLD_END (R674): 1 ms after a trip the SLEW cap is withdrawn. -/
  | slewHoldEnd (k : Fin 8)
  /-- THROTTLE_RISE (R670): Each 1 ms the throttle fraction rises one sixteenth toward the lowest cap. -/
  | throttleRise (k : Fin 8)
  /-- THERMAL_HOLD (R671): a store die at 98 °C for 1 ms, or a compute die at 104 °C, sets its cap to 0. -/
  | thermalHold (k : Fin 8)
  /-- THERMTRIP (R683): a die reaching 105 °C asserts THERMTRIP_N, stops every island and switches off the converters. -/
  | thermtrip (uk : Fin 21) (ui : Fin 4096)
  /-- PERFORMANCE_POINT_WRITE (R667): a write of 9500h:01 starts a performance-point change or latches it. -/
  | performancePointWrite (a : Asker) (k : Fin 8) (point : U8)
  /-- PERFORMANCE_POINT_DONE (R666): a performance-point change completes and any latched request runs. -/
  | performancePointDone (k : Fin 8)
  /-- POWER_STATE_P0 (R678): a request for P0 is accepted or latched. -/
  | powerStateP0 (a : Asker)
  /-- POWER_STATE_P1 (R678): a request for P1 is accepted, latched or refused. -/
  | powerStateP1 (a : Asker)
  /-- POWER_STATE_P2 (R678): a request for P2 is accepted, latched or refused. -/
  | powerStateP2 (a : Asker)
  /-- POWER_STATE_P3 (R678): a request for P3 is accepted, latched or refused. -/
  | powerStateP3 (a : Asker)
  /-- POWER_STATE_CHANGE_DONE (R680): a power-state change completes and any latched request runs. -/
  | powerStateChangeDone (idle : Vector U16 8) (wires : List WireCount)
  /-- ISLAND_SLEEP (R682): an idle MGP or SEP puts its own island to sleep in retention. -/
  | islandSleep (sep : Bool)
  /-- ISLAND_WAKE (R682): the AON wakes a sleeping MGP or SEP island on a post, interrupt or request. -/
  | islandWake (sep : Bool)
  /-- RESET_ISLAND (R691): an ISLAND reset request resets one island. -/
  | resetIsland (a : Asker) (i : U8)
  /-- RESET_DIE (R691): a DIE reset request resets a compute die's islands and store die. -/
  | resetDie (a : Asker) (k : Fin 8)
  /-- RESET_PACKAGE (R691): a PACKAGE reset resets every island but the AON and runs the boot. -/
  | resetPackage (a : Asker)
  /-- RESET_COLD (R691): a COLD reset resets the package with the AON and runs the boot. -/
  | resetCold (a : Asker)
  /-- RESET_RECOVERY (R705): a RECOVERY request from the Security Officer arms the recovery procedure for 60 s. -/
  | resetRecovery (a : Asker)
  /-- RECOVERY_ARM_LAPSE (R705): an armed recovery not completed by the button in 60 s lapses. -/
  | recoveryArmLapse
  /-- LATCHED_RESET_RUN (R694): a reset latched while TRIPPED runs when every valid sensor reads below 70 °C. -/
  | latchedResetRun
  /-- RST_N_ASSERT (R766): an RST_N assertion of 1 ms or more requests a PACKAGE reset. -/
  | rstNAssert (ns : Nat)
  /-- BOOT_START (R698): the AON starts the boot sequence. -/
  | bootStart (wires : List WireCount) (calOk imgOk : Bool)
  /-- BOOT_DONE (R698): the boot reaches READY and raises BOOT_DONE. -/
  | bootDone
  /-- WATCHDOG_WRITE (R695): the MGP firmware writes the AON watchdog, restarting its interval. -/
  | watchdogWrite
  /-- MGP_RESET (R695): the watchdog interval passes without a write and the AON resets the MGP. -/
  | mgpReset
  /-- FIRMWARE_STAGE (R701): a write of 2F20h:03 stages a firmware image. -/
  | firmwareStage (a : Asker) (img : List Byte)
  /-- FIRMWARE_COMMIT (R701): a write of 1 to 2F20h:05 checks the staged image and starts writing it to flash. -/
  | firmwareCommit (a : Asker)
  /-- FIRMWARE_WRITTEN (R701): the firmware image replacement completes and the security floor rises. -/
  | firmwareWritten
  /-- FUNCTION_ENABLE (R707): a write of 1 to 9600h:01 starts a function's enable or latches it. -/
  | functionEnable (a : Asker) (f : Fin 10)
  /-- FUNCTION_DISABLE (R707): a write of 0 to 9600h:01 starts a function's shutdown or latches it. -/
  | functionDisable (a : Asker) (f : Fin 10)
  /-- FUNCTION_CHANGE_DONE (R707): a function's enable or shutdown completes and any pending value runs. -/
  | functionChangeDone (f : Fin 10) (wires : List WireCount)
  /-- I3C_WAKE (R711): a management-bus WAKE starts the change from P3 to P0. -/
  | i3cWake
  /-- I3C_RESET (R711): a management-bus RESET requests a PACKAGE reset. -/
  | i3cReset
  /-- I3C_ATTN (R711): a management-bus ATTN lights the ATTN lamp. -/
  | i3cAttn
  /-- I3C_STATUS_READ (R712): a private read returns the status byte. -/
  | i3cStatusRead
  /-- ENTDAA (R768): the AON takes its dynamic address on the management bus. -/
  | entdaa (addr : BitVec 7)
  /-- RSTDAA (R768): the AON drops its dynamic address. -/
  | rstdaa
  /-- GETPID (R768): the AON returns its provisioned identity. -/
  | getpid
  /-- GETBCR (R768): the AON returns its bus characteristics register. -/
  | getbcr
  /-- GETDCR (R768): the AON returns its device characteristics register. -/
  | getdcr
  /-- GETSTATUS (R768): the AON returns its I3C status. -/
  | getstatus
  /-- BYPASS (R769): the test access port selects the bypass register. -/
  | bypass
  /-- IDCODE (R769): the test access port returns IDCODE 11048B47h. -/
  | idcode
  /-- SAMPLE_PRELOAD (R769): the test access port samples or preloads the boundary cells. -/
  | samplePreload (lands preload : BitVec 41)
  /-- EXTEST (R772): the boundary cells drive the lands while RST_N is asserted. -/
  | extest
  /-- CLAMP (R772): the boundary cells hold their values with bypass selected while RST_N is asserted. -/
  | clamp
  /-- HIGHZ (R772): the outputs go high impedance while RST_N is asserted. -/
  | highz
  /-- REQUALIFY_UNIT (R732): a write of 7200h:02 runs a faulted unit's proof run once more. -/
  | requalifyUnit (a : Asker) (uk : U8) (ui : BitVec 12) (passed : Bool)
  /-- INJECTION_ARM (R735): a write of 7800h:02 arms an injection point that fires at the target's next opportunity. -/
  | injectionArm (a : Asker) (d : Fin 17) (mode : Fin 4)
  /-- SERVICE_NORMAL (R749): a write of NORMAL to 2D00h:01 returns the service state to NORMAL. -/
  | serviceNormal (a : Asker)
  /-- SERVICE_REQUESTED (R749): a write of REQUESTED enters REQUESTED and raises SERVICE_REQUEST. -/
  | serviceRequested (a : Asker)
  /-- SERVICE_IN_SERVICE (R749): a write of IN_SERVICE with every partition EMPTY enters IN_SERVICE. -/
  | serviceInService (a : Asker)
  /-- SVC_BTN_ASSERT (R748): a button assertion of 20 ms is read, running recovery if armed. -/
  | svcBtnAssert
  /-- SVC_BTN_HOLD_5S (R617): the button held 5 s while UNOWNED enters CLAIMING. -/
  | svcBtnHold5s
  /-- SVC_BTN_HOLD_10S (R705): the button held 10 s from RST_N release runs the recovery procedure. -/
  | svcBtnHold10s
  /-- SVC_BTN_RELEASE (R748): the button's release requests or cancels service. -/
  | svcBtnRelease
  /-- LEAVE_RESET (R600): a unit reset alone (an island, a die, or the MGP after its watchdog reset) leaves reset; its mailbox channels go from RESETTING to EMPTY and the MGP reports ready. -/
  | leaveReset (u : ResetUnit)
  /-- INPUT_REMOVED (R785): Input power falls away entirely, so the AON stops and loses its volatile settings, prior record and TRIPPED state. -/
  | inputRemoved
  /-- SHARED_COUNTER_SNAPSHOT (R639): Every 100 ms the T1 takes the coarsened snapshot of SHARED counters that drivers read. -/
  | sharedCounterSnapshot
  /-- BREAD_REPEAT (R435): an unanswered BREAD of a board load is repeated by its sender under its own timer. -/
  | breadRepeat (r : Fin 68)
  deriving DecidableEq, Repr

end Sys2Proof
end

