-- ==== Sys2Proof/Machine/Numeric.lean ====
section
/-! DEFINITION. Number formats and rounding (R30 to R61): the five formats, the rounding of an exact value in the
three modes, the special values, and the bracket split. Every rounding of the machine goes through `roundExact`. -/

namespace Sys2Proof.Machine

/-- The element formats of R30. -/
inductive Fmt where
  | f8a | f8b | fp16 | bf16 | fp32
  deriving DecidableEq, Repr

/-- The rounding modes of R38. -/
inductive Rm where
  | rne | rz | sr
  deriving DecidableEq, Repr

/-- The 3-bit format code (R30); 101b to 111b are reserved. -/
def fmtOf : Nat → Option Fmt
  | 0 => some .f8a | 1 => some .f8b | 2 => some .fp16 | 3 => some .bf16 | 4 => some .fp32 | _ => none

def fmtCode : Fmt → Nat
  | .f8a => 0 | .f8b => 1 | .fp16 => 2 | .bf16 => 3 | .fp32 => 4

/-- The 2-bit rounding mode code (R38); 11b is reserved. -/
def rmOf : Nat → Option Rm
  | 0 => some .rne | 1 => some .rz | 2 => some .sr | _ => none

/-- Exponent bits (R31). -/
def fmtE : Fmt → Nat
  | .f8a => 4 | .f8b => 5 | .fp16 => 5 | .bf16 => 8 | .fp32 => 8
/-- Fraction bits (R31). -/
def fmtF : Fmt → Nat
  | .f8a => 3 | .f8b => 2 | .fp16 => 10 | .bf16 => 7 | .fp32 => 23
/-- Exponent bias (R31). -/
def fmtBias : Fmt → Nat
  | .f8a => 7 | .f8b => 15 | .fp16 => 15 | .bf16 => 127 | .fp32 => 127
/-- Width in bits (R31). -/
def fmtBits : Fmt → Nat
  | .f8a => 8 | .f8b => 8 | .fp16 => 16 | .bf16 => 16 | .fp32 => 32
/-- Width in bytes (R31). -/
def fmtBytes (f : Fmt) : Nat := fmtBits f / 8

/-- The code of +infinity: exponent all ones, fraction zero (R32, R33). -/
def infCode (f : Fmt) : Nat := (2 ^ fmtE f - 1) * 2 ^ fmtF f
/-- The canonical NaN: sign clear, top fraction bit set, the rest clear (R35). -/
def nanCode (f : Fmt) : Nat := infCode f + 2 ^ (fmtF f - 1)
/-- The sign bit's weight. -/
def signBit (f : Fmt) : Nat := 2 ^ (fmtBits f - 1)
def withSign (f : Fmt) (neg : Bool) (c : Nat) : Nat := if neg then c + signBit f else c

/-- A value read from a code: `fin s m e` is (-1)^s m 2^e, a zero when m = 0. -/
inductive FpVal where
  | nan
  | inf (neg : Bool)
  | fin (neg : Bool) (mant : Nat) (exp : Int)
  deriving DecidableEq, Repr

/-- The weight of the smallest subnormal of a format, as a power of two (R31, R32). -/
def minExp (f : Fmt) : Int := 1 - (fmtBias f : Int) - (fmtF f : Int)
/-- The spacing at the largest finite value, as a power of two (the table before R40). -/
def topExp (f : Fmt) : Int := ((2 : Int) ^ fmtE f - 2) - (fmtBias f : Int) - (fmtF f : Int)

/-- Reading a code (R32); subnormals at full value (R34), every NaN alike (R36). -/
def readNum (f : Fmt) (code : Nat) : FpVal :=
  let s := code.testBit (fmtBits f - 1)
  let e := (code / 2 ^ fmtF f) % 2 ^ fmtE f
  let m := code % 2 ^ fmtF f
  if e = 2 ^ fmtE f - 1 then (if m = 0 then .inf s else .nan)
  else if e = 0 then .fin s m (minExp f)
  else .fin s (m + 2 ^ fmtF f) (minExp f + (e - 1 : Nat))

/-- An exact result before its one rounding. `real neg m e sticky`: the magnitude is m 2^e, or, with sticky set,
lies strictly between m 2^e and (m+1) 2^e; a user keeps 2^e below a 2^-16th of any grid spacing it may meet. -/
inductive Exact where
  | nan (inv : Bool)
  | inf (neg : Bool)
  | real (neg : Bool) (mant : Nat) (exp : Int) (sticky : Bool)
  deriving DecidableEq, Repr

/-- The numeric status bits of R48, the SAT and LONG bits of R102. -/
def stINX : Byte := 1#8
def stUNF : Byte := 2#8
def stOVF : Byte := 4#8
def stINV : Byte := 8#8
def stSAT : Byte := 16#8
def stLONG : Byte := 32#8
def stIf (b : Bool) (v : Byte) : Byte := if b then v else 0#8

/-- Number of bits of a number. -/
def bitLen (n : Nat) : Nat := if n = 0 then 0 else Nat.log2 n + 1

/-- n 2^k for an integer k, dropping what falls below one. -/
def shiftI (n : Nat) (k : Int) : Nat := if 0 ≤ k then n <<< k.toNat else n >>> (-k).toNat

/-- The rounding of an exact value (R40 to R47) with its status bits (R48): `rnd` is the 16-bit draw of R43. -/
def roundExact (f : Fmt) (rm : Rm) (rnd : Nat) : Exact → Nat × Byte
  | .nan inv => (nanCode f, stIf inv stINV)
  | .inf neg => (withSign f neg (infCode f), 0#8)
  | .real neg mant exp sticky =>
    if mant = 0 ∧ sticky = false then (withSign f neg 0, 0#8) else
    let top : Int := exp + (bitLen mant : Int) - 1
    let ue : Int := min (max (top - (fmtF f : Int)) (minExp f)) (topExp f)
    let sh : Int := ue - exp
    let q : Nat := shiftI mant (-sh)
    let den : Nat := if 0 < sh then 2 ^ sh.toNat else 1
    let r : Nat := if 0 < sh then mant % den else 0
    let inexact : Bool := decide (r ≠ 0) || sticky
    let mq : Nat := 2 ^ (fmtF f + 1) - 1
    let atTop : Bool := decide (ue = topExp f)
    let beyond : Bool := atTop && (decide (mq < q) || (decide (q = mq) && inexact))
    let tie : Bool := decide (2 * r = den) && !sticky && decide (0 < sh)
    let above : Bool := decide (0 < sh) && decide (den ≤ 2 * r) && !tie
    let f16 : Nat := r * 65536 / den
    let up : Bool := match rm with
      | .rne => above || (tie && decide (q % 2 = 1))
      | .rz => false
      | .sr => decide (65536 ≤ f16 + rnd)
    let k0 : Nat := if up then q + 1 else q
    let mag : Nat :=
      if atTop && decide (mq < k0) then (if rm = .rz then 2 ^ fmtF f * (2 ^ fmtE f - 1) - 1 else infCode f)
      else ((ue - minExp f).toNat) * 2 ^ fmtF f + k0
    let inx : Bool := inexact || beyond
    let unf : Bool := decide (ue = minExp f) && decide (q < 2 ^ fmtF f) && inexact
    (withSign f neg mag, stIf inx stINX ||| stIf unf stUNF ||| stIf beyond stOVF)

/-- The exact value of a number that is only passed on: a NaN of an operand sets no INV (R48, R51). -/
def exactOf : FpVal → Exact
  | .nan => .nan false
  | .inf s => .inf s
  | .fin s m e => .real s m e false

/-- Conversion between formats (R49 to R51). -/
def convert (src dst : Fmt) (rm : Rm) (rnd : Nat) (code : Nat) : Nat × Byte :=
  roundExact dst rm rnd (exactOf (readNum src code))

/-- A product (R47, R52). -/
def mulExact : FpVal → FpVal → Exact
  | .nan, _ => .nan false
  | _, .nan => .nan false
  | .inf s, .inf t => .inf (s != t)
  | .inf s, .fin t m _ => if m = 0 then .nan true else .inf (s != t)
  | .fin s m _, .inf t => if m = 0 then .nan true else .inf (s != t)
  | .fin s m e, .fin t n k => .real (s != t) (m * n) (e + k) false

/-- A signed magnitude as an integer multiple of 2^e. -/
def scaled (neg : Bool) (m : Nat) (e base : Int) : Int :=
  let v : Int := ((m <<< (e - base).toNat : Nat) : Int)
  if neg then -v else v

/-- The sum of two exact dyadic terms (R47, R52). -/
def sumExact : Exact → Exact → Exact
  | .nan i, .nan j => .nan (i || j)
  | .nan i, _ => .nan i
  | _, .nan j => .nan j
  | .inf s, .inf t => if s = t then .inf s else .nan true
  | .inf s, .real .. => .inf s
  | .real .., .inf t => .inf t
  | .real s m e _, .real t n k _ =>
    let base := min e k
    let v := scaled s m e base + scaled t n k base
    if v = 0 then .real (s && t && decide (m = 0) && decide (n = 0)) 0 base false
    else .real (decide (v < 0)) v.natAbs base false

def negNum : FpVal → FpVal
  | .nan => .nan
  | .inf s => .inf (!s)
  | .fin s m e => .fin (!s) m e

def addExact (a b : FpVal) : Exact := sumExact (exactOf a) (exactOf b)
def subExact (a b : FpVal) : Exact := addExact a (negNum b)
/-- a b + c with one rounding (R52): a NaN operand anywhere gives a NaN that sets no INV. -/
def fmaExact (a b c : FpVal) : Exact :=
  if a = .nan ∨ b = .nan ∨ c = .nan then .nan false
  else sumExact (mulExact a b) (exactOf c)

/-- Quotient (R52); the magnitude carries a hundred bits and a sticky bit. -/
def divExact : FpVal → FpVal → Exact
  | .nan, _ => .nan false
  | _, .nan => .nan false
  | .inf _, .inf _ => .nan true
  | .inf s, .fin t _ _ => .inf (s != t)
  | .fin s _ e, .inf t => .real (s != t) 0 e false
  | .fin s m e, .fin t n k =>
    if n = 0 then (if m = 0 then .nan true else .inf (s != t))
    else .real (s != t) ((m <<< 100) / n) (e - 100 - k) (decide ((m <<< 100) % n ≠ 0))

/-- Integer square root, bit by bit from the top. -/
def isqrtFrom (n : Nat) : Nat → Nat → Nat
  | 0, acc => acc
  | k + 1, acc =>
    let c := acc + 2 ^ k
    isqrtFrom n k (if c * c ≤ n then c else acc)
def isqrt (n : Nat) : Nat := isqrtFrom n (bitLen n / 2 + 1) 0

/-- The square root of a magnitude m 2^e as floor and sticky, with 120 bits below. -/
def sqrtMag (m : Nat) (e : Int) : Nat × Int × Bool :=
  let odd : Bool := e % 2 ≠ 0
  let m' := if odd then 2 * m else m
  let e' : Int := if odd then e - 1 else e
  let n := m' <<< 240
  let r := isqrt n
  (r, e' / 2 - 120, decide (r * r ≠ n))

/-- Square root (R52). -/
def sqrtExact : FpVal → Exact
  | .nan => .nan false
  | .inf s => if s then .nan true else .inf false
  | .fin s m e =>
    if m = 0 then .real s 0 e false
    else if s then .nan true
    else let (r, k, st) := sqrtMag m e; .real false r k st

/-- Reciprocal square root (R52). -/
def rsqrtExact : FpVal → Exact
  | .nan => .nan false
  | .inf s => if s then .nan true else .real false 0 0 false
  | .fin s m e =>
    if m = 0 then .inf s
    else if s then .nan true
    else
      let odd : Bool := e % 2 ≠ 0
      let m' := if odd then 2 * m else m
      let e' : Int := if odd then e - 1 else e
      let n := 2 ^ 400
      let r := isqrt (n / m')
      .real false r (-200 - e' / 2) (decide (r * r * m' ≠ n))

/-- The order of two numbers, none when unordered (R53). -/
def cmpNum : FpVal → FpVal → Option Ordering
  | .nan, _ => none
  | _, .nan => none
  | .inf s, .inf t => some (if s = t then .eq else if s then .lt else .gt)
  | .inf s, .fin .. => some (if s then .lt else .gt)
  | .fin .., .inf t => some (if t then .gt else .lt)
  | .fin s m e, .fin t n k =>
    let base := min e k
    some (compare (scaled s m e base) (scaled t n k base))

def numIsNan : FpVal → Bool
  | .nan => true
  | _ => false
def numNeg : FpVal → Bool
  | .nan => false
  | .inf s => s
  | .fin s _ _ => s

/-- The maximum (R54): a NaN when either is a NaN; of two zeros the positive one. -/
def maxNum (a b : FpVal) : FpVal :=
  match cmpNum a b with
  | none => .nan
  | some .lt => b
  | some .gt => a
  | some .eq => if numNeg a then b else a
/-- The minimum (R54). -/
def minNum (a b : FpVal) : FpVal :=
  match cmpNum a b with
  | none => .nan
  | some .lt => a
  | some .gt => b
  | some .eq => if numNeg a then a else b

/-- The split of a finite FP32 value into BF16 pieces with round toward zero (R56); a zero piece takes the sign. -/
def splitFp32 (code : Nat) : FpVal × FpVal × FpVal :=
  match readNum .fp32 code with
  | .fin s m e =>
    let piece (x : FpVal) : FpVal := readNum .bf16 (roundExact .bf16 .rz 0 (exactOf x)).1
    let rest (x y : FpVal) : FpVal := match subExact x y with
      | .real _ n k _ => .fin s n k
      | _ => .fin s 0 0
    let a := FpVal.fin s m e
    let a1 := piece a
    let r1 := rest a a1
    let a2 := piece r1
    let r2 := rest r1 a2
    let a3 := piece r2
    (a1, a2, a3)
  | x => (x, x, x)

/-- The piece pairs of a bracketed product in pass order (R57), as indices 0, 1, 2 into the split. -/
def bracketPairs : Nat → List (Nat × Nat)
  | 2 => [(0, 0), (0, 1), (1, 0)]
  | 3 => [(0, 0), (0, 1), (1, 0), (0, 2), (1, 1), (2, 0)]
  | _ => []

def pieceOf (t : FpVal × FpVal × FpVal) : Nat → FpVal
  | 0 => t.1
  | 1 => t.2.1
  | _ => t.2.2

end Sys2Proof.Machine
end

