-- ==== Sys2Proof/Machine/Operands.lean ====
section
/-! DEFINITION. The operand forms: the fields of every word the machine reads (pass word R62, VXE instruction R125 and
R158, sequencer instruction R186, reel descriptor R233, board address R211). -/

namespace Sys2Proof.Machine

/-- A field `[hi:lo]` of a word, as a number. -/
def field {w : Nat} (x : BitVec w) (hi lo : Nat) : Nat := bits x.toNat hi lo
/-- A one-bit field. -/
def flag {w : Nat} (x : BitVec w) (k : Nat) : Bool := x.toNat.testBit k

/-- A pass word taken apart (R62). -/
structure PassF where
  sfmt : Nat
  qfmt : Nat
  ofmt : Nat
  rmode : Nat
  str : Bool
  qtr : Bool
  dot : Bool
  start : Bool
  park : Bool        -- END
  chunks : Nat       -- C = CM1 + 1
  brk : Nat
  keep : Bool
  rows : Nat         -- R = RM1 + 1
  dest : Nat
  dsheet : Nat
  dslot : Nat
  deriving DecidableEq, Repr

def passF (w : BitVec 64) : PassF :=
  { sfmt := field w 2 0, qfmt := field w 5 3, ofmt := field w 8 6, rmode := field w 10 9, str := flag w 11,
    qtr := flag w 12, dot := flag w 13, start := flag w 14, park := flag w 15, chunks := field w 17 16 + 1,
    brk := field w 19 18, keep := flag w 20, rows := field w 32 21 + 1, dest := field w 34 33,
    dsheet := field w 37 35, dslot := field w 43 38 }

/-- The format of a code, FP32 for the reserved codes that admission refuses (R30). -/
def fmtD (c : Nat) : Fmt := (fmtOf c).getD .fp32
/-- The rounding mode of a code, RNE for the reserved code that admission refuses (R38). -/
def rmD (c : Nat) : Rm := (rmOf c).getD .rne

/-- An 8-bit format. -/
def fmt8 (c : Nat) : Bool := decide (c ≤ 1)
/-- Slots per tile of a format (R788). -/
def tileSlots (c : Nat) : Nat := if fmtBytes (fmtD c) = 4 then 2 else 1
/-- Tiles a chunk spans along the inner dimension (R788). -/
def chunkTiles (f : PassF) : Nat := if fmt8 f.sfmt then 2 else 1
/-- The chunk width k: 512 in the 8-bit formats, else 256. -/
def chunkWidth (f : PassF) : Nat := if fmt8 f.sfmt then 512 else 256
/-- Clocks, and so counter advances, per row chunk (R71). -/
def chunkClocks (f : PassF) : Nat := match f.brk with
  | 1 => 3
  | 2 => 6
  | _ => 1
/-- Bytes of a park record (R83). -/
def parkBytes (f : PassF) : Nat := if f.dot then 136 else 18496
/-- Row blocks of 256 rows. -/
def rowBlocks (f : PassF) : Nat := (f.rows + 255) / 256
/-- Park records of the pass: one a row, or one in dot mode (R65). -/
def parkRecords (f : PassF) : Nat := if f.dot then 1 else f.rows

/-- Byte place of element (r, c) in the tiled layout, before the element size (R228). -/
def tiledIndex (r c : Nat) : Nat :=
  let br := r / 16
  let bc := c / 16
  256 * (16 * br + (bc ^^^ br)) + 16 * (r % 16) + c % 16

/-- A VXE instruction word taken apart (R125). -/
structure VxeF where
  op : Nat
  dst : Nat
  sa : Nat
  sb : Nat
  sc : Nat
  msk : Nat
  zm : Bool
  dfmt : Nat
  dint : Bool
  rmode : Nat
  seg : Nat
  dir : Bool
  excl : Bool
  tpair : Nat
  scal : Nat
  deriving DecidableEq, Repr

def vxeF (w : BitVec 64) : VxeF :=
  { op := field w 7 0, dst := field w 10 8, sa := field w 13 11, sb := field w 16 14, sc := field w 19 17,
    msk := field w 22 20, zm := flag w 23, dfmt := field w 26 24, dint := flag w 27, rmode := field w 29 28,
    seg := field w 32 30, dir := flag w 33, excl := flag w 34, tpair := field w 36 35, scal := field w 40 37 }

/-- A VILCON word taken apart (R158). -/
structure VilconF where
  ws : Nat
  wb : Nat
  wtag : Nat
  wtint : Bool
  entry : Nat
  deriving DecidableEq, Repr

def vilconF (w : BitVec 64) : VilconF :=
  { ws := field w 10 8, wb := field w 13 11, wtag := field w 16 14, wtint := flag w 17, entry := field w 40 18 }

/-- Which opcodes are which class (R126, R134). -/
def opCompare (o : Nat) : Bool := decide (0x20 ≤ o ∧ o ≤ 0x25)
def opMask (o : Nat) : Bool := decide (0x28 ≤ o ∧ o ≤ 0x2B)
def opInteger (o : Nat) : Bool := decide (0x30 ≤ o ∧ o ≤ 0x35)
def opReduce (o : Nat) : Bool := decide (0x40 ≤ o ∧ o ≤ 0x44)
def opScan (o : Nat) : Bool := decide (o = 0x48 ∨ o = 0x49)
def opTable (o : Nat) : Bool := decide (o = 0x50 ∨ o = 0x51)
def opOpt (o : Nat) : Bool := decide (0x60 ≤ o ∧ o ≤ 0x62)
def opArith (o : Nat) : Bool := decide (1 ≤ o ∧ o ≤ 0x0D)
def opMove (o : Nat) : Bool := decide (o = 0x58 ∨ o = 0x59)
def opKnown (o : Nat) : Bool :=
  decide (o = 0) || opArith o || opCompare o || opMask o || decide (o = 0x2C ∨ o = 0x2D) || opInteger o || opReduce o ||
    opScan o || opTable o || opMove o || opOpt o || decide (o = 0x70)
/-- Opcodes that read source A, B, C as sheets or scalars (R126, R149). -/
def usesA (o : Nat) : Bool := opArith o || opCompare o || opInteger o || opReduce o || opScan o || opTable o || opMove o || opOpt o
def usesB (o : Nat) : Bool :=
  decide ((1 ≤ o ∧ o ≤ 5) ∨ o = 8 ∨ o = 9 ∨ o = 0x0C) || opCompare o || opInteger o || decide (o = 0x51 ∨ o = 0x60 ∨ o = 0x61)
def usesC (o : Nat) : Bool := decide (o = 4 ∨ o = 0x60)
/-- Opcodes whose destination is a sheet. -/
def writesSheet (o : Nat) : Bool := usesA o && !opCompare o

/-- A sequencer instruction taken apart (R186). -/
structure SeqF where
  cls : Nat
  op : Nat
  unit : Nat
  sigc : Nat
  sige : Bool
  pf : Bool
  arg0 : Nat
  arg1 : Nat
  deriving DecidableEq, Repr

def seqF (w : BitVec 128) : SeqF :=
  { cls := field w 3 0, op := field w 7 4, unit := field w 15 8, sigc := field w 20 16, sige := flag w 21,
    pf := flag w 22, arg0 := field w 63 32, arg1 := field w 127 64 }

/-- S, M and s of a SCHED (R194). -/
def schedF (f : SeqF) : Nat × Nat × Nat := (bits f.arg0 7 0, bits f.arg0 15 8, bits f.arg0 31 16)

/-- A reel descriptor taken apart (R233). -/
structure DescF where
  kind : Nat
  efmt : Nat
  eint : Bool
  slay : Nat
  dlay : Nat
  statr : Bool
  statw : Bool
  vcb : Bool
  tag : Nat
  peer : Nat
  pep : Nat
  src : Nat
  dst : Nat
  stat : Nat
  nt : Nat
  sstride : Nat
  dstride : Nat
  spitch : Nat
  dpitch : Nat
  deriving DecidableEq, Repr

def descF (d : BitVec 512) : DescF :=
  { kind := field d 3 0, efmt := field d 6 4, eint := flag d 7, slay := field d 9 8, dlay := field d 11 10,
    statr := flag d 12, statw := flag d 13, vcb := flag d 14, tag := field d 31 16, peer := field d 47 32,
    pep := field d 51 48, src := field d 127 64, dst := field d 191 128, stat := field d 255 192,
    nt := field d 287 256, sstride := field d 319 288, dstride := field d 351 320, spitch := field d 367 352,
    dpitch := field d 383 368 }

/-- A group table entry taken apart (R459). -/
structure GroupF where
  gid : Nat
  dims : Nat
  dmask : Nat
  strag : Nat
  deriving DecidableEq, Repr

def groupF (e : BitVec 256) : GroupF :=
  { gid := field e 31 0, dims := field e 44 32, dmask := field e 55 48, strag := field e 79 64 }

/-- A collective entry descriptor taken apart (R463). -/
structure CollF where
  op : Nat
  redop : Nat
  sfmt : Nat
  dfmt : Nat
  rmode : Nat
  alg : Nat
  xreg : Nat
  xen : Bool
  dir : Bool
  root : Nat
  mcidx : Nat
  mcen : Bool
  count : Nat
  src : Nat
  dst : Nat
  scratch : Nat
  scrlen : Nat
  aux : Nat
  blk : Nat
  deriving DecidableEq, Repr

def collF (d : BitVec 512) : CollF :=
  { op := field d 3 0, redop := field d 5 4, sfmt := field d 8 6, dfmt := field d 11 9, rmode := field d 13 12,
    alg := field d 15 14, xreg := field d 19 16, xen := flag d 20, dir := flag d 21, root := field d 47 32,
    mcidx := field d 57 48, mcen := flag d 58, count := field d 127 64, src := field d 191 128,
    dst := field d 255 192, scratch := field d 319 256, scrlen := field d 383 320, aux := field d 447 384,
    blk := field d 479 448 }

/-- CLIP, PARKMASK and PSLOT of a NORM's AUX (R463). -/
def CollF.clip (f : CollF) : Nat := bits f.aux 31 0
def CollF.parkMask (f : CollF) : Nat := bits f.aux 39 32
def CollF.pslot (f : CollF) : Nat := bits f.aux 45 40

/-- Tier codes (R212). -/
inductive Tier where
  | hbm | store | loc | flash | host
  deriving DecidableEq, Repr

/-- A board address taken apart (R211, R213): `none` for a reserved tier or a bit that must be zero. -/
structure Addr where
  tier : Tier
  pkg : Nat
  self : Bool
  unit : Nat      -- pair, die, die × 16 + local unit, 0, or window
  off : Nat
  deriving DecidableEq, Repr

def addrF (a : Nat) : Option Addr :=
  let pkg := bits a 57 56
  let self := a.testBit 58
  let t := bits a 51 0
  if bits a 63 59 ≠ 0 ∨ 2 ^ 64 ≤ a then none
  else match bits a 55 52 with
    | 0 => if bits t 51 41 = 0 then some ⟨.hbm, pkg, self, bits t 40 38, bits t 37 0⟩ else none
    | 1 => if bits t 51 33 = 0 then some ⟨.store, pkg, self, bits t 32 30, bits t 29 0⟩ else none
    | 2 => if bits t 51 30 = 0 ∧ bits t 26 23 ≤ 8 then
        some ⟨.loc, pkg, self, 16 * bits t 29 27 + bits t 26 23, bits t 22 0⟩ else none
    | 3 => if bits t 51 43 = 0 then some ⟨.flash, pkg, self, 0, bits t 42 0⟩ else none
    | 4 => if bits t 51 48 = 0 then some ⟨.host, pkg, self, bits t 47 40, bits t 39 0⟩ else none
    | _ => none

/-- Element bytes of a tile (R30, R119). -/
def elemBytes (efmt : Nat) : Nat := fmtBytes (fmtD efmt)
/-- Bytes a tile spans in its layout: 64 KiB per element byte when tiled, pitch-spaced rows when linear, a sheet's
256 KiB (R228, R231). -/
def tileSpan (lay efmt pitch : Nat) : Nat :=
  match lay with
  | 0 => 65536 * elemBytes efmt
  | 1 => 255 * (64 * pitch) + 256 * elemBytes efmt
  | _ => 262144

end Sys2Proof.Machine
end

