-- ==== Sys2Proof/Config.lean ====
section
/-! DEFINITION. The free values of the machine: constants with no body, which nothing in Lean can evaluate. Each is
applied to a free-draw number (State.free) or to the operands it depends on, and each is named in the assumption log. -/

namespace Sys2Proof

/-- A byte whose content the spec leaves indeterminate (R93, R202, R217, R218, R251, R503): draw number and address. -/
opaque Config.freeByte : Nat → Nat → Byte

/-- A number the spec leaves open: draw number. -/
opaque Config.freeNat : Nat → Nat

/-- One of the many numbers that one draw leaves open, where a draw leaves more than one: draw number, which. -/
opaque Config.freeAt : Nat → Nat → Nat

/-- The FP32 code a table evaluates for an INT32 input that FP32 does not hold exactly (R143 gives only FP32 inputs). -/
opaque Config.tableIntInput : Int → Nat

/-- SERIAL (1018h:04), fixed at manufacture and not stated. -/
opaque Config.serial : U64

/-- The bytes of a sequencer's saved context image (R205 lists what it holds, not where): what it holds, and an offset. -/
opaque Config.ctxImageByte : List Nat → Nat → Byte
/-- The context a written image spells (R205): the image, and which number of the context. -/
opaque Config.ctxOfImage : List Byte → Nat → Nat

/-- DETAIL of an event whose rule names what it holds but not its bits (R297, R355): event code and the numbers named. -/
opaque Config.detail : Nat → Nat → Nat → Nat → Nat

/-- The flash stack and block where a sector of a partition's flash space lies (R213 gives only the linear space). -/
opaque Config.flashPlace : Nat → Nat → Nat × Nat

/-- The bytes that levelling relocations write (R294 names no amount): draw number. -/
opaque Config.levelBytes : Nat → Nat

/-- What a counter of a width reads after it has counted past its top (no rule says): width. -/
opaque Config.ctrOver : Nat → Nat

/-- A read of an HBM line with more corrupted symbols than the code detects (R258): caught by the decoder, or only by
the granule tag (R259): draw number. -/
opaque Config.rsCaught : Nat → Bool

/-- The payload of an RTS, GRANT, BREAD or CTRL cell (R423, R435 name what it carries, not where): the cell type and
the fields named. -/
opaque Config.ctrlPayload : Nat → List Nat → Nat

/-- The flow slot into which a move's board stores go, and its initial sequence (R220 and R435 name none for a store): peer
member, its endpoint, the move by its order of starting. -/
opaque Config.storeSlot : Nat → Nat → Nat → Nat
opaque Config.storeFirst : Nat → Nat → Nat → Nat

/-- A flow slot of this member is one that a board peer's stores go into: peer member, its endpoint, slot. -/
opaque Config.isStoreSlot : Nat → Nat → Nat → Bool

/-- Where a message of a board peer's stores goes: its board address (0), layout (1), format (2) and pitch (3), from the
flow's peer, endpoint and slot and the sequence of the message's first cell. No rule says how a store carries them. -/
opaque Config.storeHead : List Nat → Nat → Nat

/-- The event code with which an IOD reel reports a failed move (R251 has it raise an event; no table names its code). -/
opaque Config.reelEvent : Nat

/-- A field of the factory calibration set, written at the factory and not stated (R347): its byte offset. The set takes it
within the field's range. -/
opaque Config.factoryField : Nat → Nat

/-- A ring's heater at which a sweep without a calibration set finds its line (R354): engine, ring. -/
opaque Config.sweptBias : Nat → Nat → Int

/-- Whether a write of 9300h:01 is taken while the window is CLOSED: R523 says any partition's session may write it,
R525 says it is refused. -/
opaque Config.closedWindowWritable : Bool

/-- A byte of the SHA-384 of the firmware image with which a T1 leaves the factory (R715). -/
opaque Config.factoryDigest : Nat → Byte

/-! The values of the public-key and block-cipher algorithms that the spec names by their standards are not computed here:
each is one fixed function of its inputs, of which nothing is known. -/

/-- ECDSA P-384 verification: public key of 97 bytes, hash, signature r then s. -/
opaque Config.ecdsaVerify : List Byte → List Byte → List Byte → Bool

/-- An ECDSA P-384 signature with the device identity key (R635): hash and draw number. -/
opaque Config.identitySign : List Byte → Nat → List Byte

/-- The public half of the T1's ephemeral P-384 key of a draw (R564). -/
opaque Config.ephemeralKey : Nat → List Byte

/-- The x-coordinate of ECDH between the private half of a draw's key and a public key; none for a point off the curve. -/
opaque Config.ecdh : Nat → List Byte → Option (List Byte)

/-- The x-coordinate of ECDH between the wrapping key of D000h:05 and a public key (R632). -/
opaque Config.wrapEcdh : List Byte → List Byte

/-- AES-256-GCM decryption: key, IV, ciphertext, tag; none where the tag does not match (R632). -/
opaque Config.gcmOpen : List Byte → List Byte → List Byte → List Byte → Option (List Byte)

/-- The Usaranor firmware key in the boot ROM (R702). -/
opaque Config.firmwareKey : List Byte

/-- The certificate chain of D000h:04 and the wrapping key of D000h:05 (R635, R642), written at the factory. -/
opaque Config.certChain : List Byte
opaque Config.wrapKeyByte : Nat → Byte

/-- A byte of a host port's own MAC address (9400h:02): port, byte. -/
opaque Config.macByte : Nat → Nat → Byte

/-- The AON's bus and device characteristics registers on the management bus (R768 states neither). -/
opaque Config.busCharacteristics : Nat
opaque Config.deviceCharacteristics : Nat

/-- Fields of SPDM answers that R636 does not give (timing exponent, transfer sizes): field. -/
opaque Config.spdmField : Nat → Nat

/-- The boot ROM's digest (R637). -/
opaque Config.romDigest : List Byte

end Sys2Proof
end

