-- ==== Sys2Proof/Machine/State/Mem.lean ====
section
/-! DEFINITION. Addressed storage: a list of listed cells in one canonical form (addresses strictly rising, no cell
equal to what its address reads as unlisted), and what an unlisted address reads as. -/

namespace Sys2Proof.Machine

/-- `fill = none`: an unlisted byte reads 0 (cleared at boot or zeroised). `fill = some k`: the storage became
indeterminate as a whole (R217, R218 of a map-out) at the k-th free draw, and an unlisted byte at address a is
the free byte of (k, a). -/
structure Mem where
  cells : List Host.Cell
  fill : Option Nat
  deriving DecidableEq, Repr

/-- Storage with nothing listed. -/
def Mem.empty : Mem := { cells := [], fill := none }

end Sys2Proof.Machine
end

