-- ==== Sys2Proof/Machine/State/Array.lean ====
section
/-! DEFINITION. The state of a matrix array (chapter 3): trays, run counter, stationary bank, operand buffers, the
pass in progress and the registers of 8400h and E100h:03. -/

namespace Sys2Proof.Machine

/-- A tray (R73). -/
structure Tray where
  value : BitVec 560
  nan : Bool
  pinf : Bool
  ninf : Bool
  neg0 : Bool
  sat : Bool
  invr : Bool
  res : BitVec 7
  deriving DecidableEq, Repr

/-- The fresh start of a run (the Reset column of R73). -/
def Tray.fresh : Tray :=
  { value := 0#560, nan := false, pinf := false, ninf := false, neg0 := true, sat := false, invr := false, res := 0#7 }

/-- Array state codes (R106). -/
inductive ArrState where
  | idle | running | halted | faulted | outOfService
  deriving DecidableEq, Repr

/-- What E100h:03 reads (R107). -/
inductive HaltCtl where
  | running | halting | halted
  deriving DecidableEq, Repr

/-- The stationary bank an array holds: the pass fields that identify it (R790) and the bytes loaded. -/
structure Bank where
  sfmt : Nat
  str : Bool
  chunks : Nat
  brk : Nat
  img : Mem
  deriving DecidableEq, Repr

/-- A poisoned run awaiting its one rerun (R100): its row, the row chunk of the pass it starts at and the chunks it
has, its D, whether it started from its park record, the tray that mismatched, and what an injection had to do with it. -/
structure Poisoned where
  row : Nat
  start : Nat
  len : Nat
  d : BitVec 48
  fromPark : Bool
  tray : Nat
  inj : Bool
  persist : Bool
  toDest : Bool            -- a requested drain ended it: its rerun drains whatever END says (R89, R93)
  deriving DecidableEq, Repr

/-- The pass an array runs: its issue record, the row chunk it has come to, and what its drains have done. -/
structure PassRun where
  word : BitVec 64
  statSlot : Nat
  strmSlot : Nat
  parkSlot : Nat
  op : Nat                 -- the operation's number in its die's scoreboard
  at_ : Nat                -- the row chunk of the pass to be issued next: row × C + chunk
  runStart : Nat           -- the row chunk at which the open run began
  d : BitVec 48            -- D of the open row or run
  open_ : Bool             -- a run is open (its start, and its D, have been taken)
  fresh : Bool             -- the open run, and in dot mode every later one, starts fresh: a requested drain ended one (R90)
  poisoned : Option Poisoned -- the open run has met a mismatch
  reruns : List Poisoned   -- poisoned runs awaiting their rerun
  tiles : List Nat         -- destination tiles whose status byte this pass has replaced (R103)
  loads : Bool             -- its loader still has its stationary slots to read (R62, R790)
  deriving DecidableEq, Repr

/-- One array. -/
structure ArrayS where
  seed : U32
  dIndex : BitVec 48
  st : ArrState
  rowsDrained : U64
  reruns : U32
  satRuns : U32
  longRuns : U32
  trays : Vector Tray 256
  run : BitVec 40
  long : Bool
  bank : Option Bank
  bufs : Mem
  slotStatus : Vector Byte 64
  pass : Option PassRun
  drainReq : Bool
  halt : HaltCtl
  proofRun : Bool           -- its known-answer proof run is queued or running (R730)
  bufFault : Option Nat     -- FAULTED by an uncorrectable word of this SRAM macro of its die (R261, R262, R789)
  deriving DecidableEq, Repr

def ArrayS.reset : ArrayS :=
  { seed := 0#32, dIndex := 0#48, st := .idle, rowsDrained := 0#64, reruns := 0#32, satRuns := 0#32,
    longRuns := 0#32, trays := Vector.replicate 256 Tray.fresh, run := 0#40, long := false, bank := none,
    bufs := Mem.empty, slotStatus := Vector.replicate 64 0#8, pass := none, drainReq := false, halt := .running,
    proofRun := false, bufFault := none }

/-- The debug selects of E100h:01 and :02. -/
structure DebugS where
  arraySel : U8
  traySel : U8
  deriving DecidableEq, Repr

def DebugS.reset : DebugS := { arraySel := 0#8, traySel := 0#8 }

end Sys2Proof.Machine
end

