-- ==== Sys2Proof/Machine/State/Clocks.lean ====
section
/-! DEFINITION. The state of the reference, the step-time unit, the 48 V input, power, throttling, sensors and power
states (chapter 16). -/

namespace Sys2Proof.Machine

/-- Sync states (2E00h:03). -/
inductive SyncState where
  | unset | locked | aligning | holdover
  deriving DecidableEq, Repr

structure ClockS where
  stepTime : U64
  sync : SyncState
  pulseErr : Int              -- 2E00h:04
  slips : U32
  refHoldover : Bool          -- 2E00h:06
  epoch : Option (Nat × Nat)  -- an epoch not yet loaded, and when it was written
  lastPulse : Nat
  slew : Int                  -- error still to slew out (R653)
  slewPhase : Nat             -- ns of the running 1,024 ns
  halve : Nat                 -- ns still to lose at half rate (R654)
  half : Bool                 -- the half-rate counter holds on this ns
  forward : Option (Nat × Nat) -- a forward step: the boundary of step time at which it happens, and its size
  errs : List Int             -- errors of the most recent pulses above 16 ns, newest last
  deriving DecidableEq, Repr

def ClockS.reset : ClockS :=
  { stepTime := 0#64, sync := .unset, pulseErr := 0, slips := 0#32, refHoldover := false, epoch := none, lastPulse := 0,
    slew := 0, slewPhase := 0, halve := 0, half := false, forward := none, errs := [] }

/-- One compute die's power and thermal control (R688). Temperatures in 0.1 °C, powers in 0.1 W. -/
structure DiePowerS where
  point : U8                  -- in force, or being changed to
  from_ : U8                  -- in force before the change
  changing : Bool
  pendingPoint : U8
  limit : U8
  frac : U8                   -- F
  cause : U8
  diePower : U16
  storePower : U16
  hbmPower : U16
  tc : Int
  ts : Int
  idle : U16
  sampleMw : Nat              -- the latest sample that the die sent (R335, R675)
  notices : List Nat          -- trip notices on their way to the lens chiplets, oldest first, in mW (R337)
  trips : U32
  throttled : Vector U64 7    -- total, then causes 1 to 6
  budget : Nat
  slewUntil : Option Nat
  storeHold : Bool
  dieHold : Bool
  storeHotFrom : Option Nat   -- since when Ts has stood at 98 °C or above
  storeCap : Nat
  dieCap : Nat
  sensorCap : Nat
  powerCap : Nat
  riseAt : Nat                -- when F last rose or fell
  ms : List (Nat × Nat × Nat) -- the last 1 ms readings, at most 100: die, store, pair (R640)
  deriving DecidableEq, Repr

def DiePowerS.reset : DiePowerS :=
  { point := 0#8, from_ := 0#8, changing := false, pendingPoint := 0xFF#8, limit := 16#8, frac := 16#8, cause := 0#8,
    diePower := 0#16, storePower := 0#16, hbmPower := 0#16, tc := 0, ts := 0, idle := 0#16, sampleMw := 0, notices := [], trips := 0#32,
    throttled := Vector.replicate 7 0#64, budget := 2875, slewUntil := none, storeHold := false, dieHold := false,
    storeHotFrom := none, storeCap := 16, dieCap := 16, sensorCap := 16, powerCap := 16, riseAt := 0, ms := [] }

/-- One thermal sensor: its readings, newest first, at most 26 (260 µs), and whether the last is valid (R673). -/
structure SensorS where
  hist : List Int
  valid : Bool
  deriving DecidableEq, Repr

def SensorS.reset : SensorS := { hist := [], valid := true }

/-- A power-state code (R677). -/
inductive PowerSt where
  | p0 | p1 | p2 | p3
  deriving DecidableEq, Repr

/-- Why the converters are off (2E10h:05 codes 2 and 3). -/
inductive PowerStop where
  | none | tripped | inputFault
  deriving DecidableEq, Repr

structure PowerS where
  st : PowerSt
  target : Option PowerSt     -- the change in progress
  pending : U8                -- 2E10h:06
  stop : PowerStop
  setCap : U16
  convs : Vector Bool 16      -- converters in service
  regs : Vector Bool 210      -- regulators on
  injRegs : List Nat          -- regulators off by an injection (R662)
  convertersOn : Bool
  inputValid : Bool
  mv : U16
  ma : U32
  power : U32
  ms : List Nat               -- the last 1 ms input powers, at most 1,000 (R640)
  hottest : Int
  hottestSensor : U16
  lasers : Vector Bool 16     -- the record of R681
  dies : Vector DiePowerS 8
  sensors : Vector SensorS 1024
  thermtrip : Bool
  budgetAt : Nat              -- when the budgets were last set (R664)
  sampleAt : Nat              -- when the sensors were last sampled (R673)
  sensorInj : List (Nat × Int × Nat) -- injected offsets: sensor, offset, until (R733)
  pausedAt : Nat              -- when the tiers last went off or into self-refresh (R681)
  deriving DecidableEq, Repr

def PowerS.reset : PowerS :=
  { st := .p0, target := none, pending := 0xFF#8, stop := .none, setCap := 4200#16, convs := Vector.replicate 16 true,
    regs := Vector.replicate 210 true, injRegs := [], convertersOn := false, inputValid := false, mv := 0#16,
    ma := 0#32, power := 0#32, ms := [], hottest := 0, hottestSensor := 0#16, lasers := Vector.replicate 16 false,
    dies := Vector.replicate 8 DiePowerS.reset, sensors := Vector.replicate 1024 SensorS.reset, thermtrip := false,
    budgetAt := 0, sampleAt := 0, sensorInj := [], pausedAt := 0 }

end Sys2Proof.Machine
end

