-- ==== Sys2Proof/Machine/State/Coll.lean ====
section
/-! DEFINITION. The state of the collective engine (chapter 11): the objects of 2C00h, the 64 group slots of 9200h with
their registered calls and the call in progress, and the adder lanes. -/

namespace Sys2Proof.Machine

/-- Group state codes (R507). -/
inductive GroupState where
  | free | idle | agreeing | running | suspended | ending
  deriving DecidableEq, Repr

/-- A die's registered COLL (R467): its descriptor's number and its operation in the die's scoreboard. -/
structure CallReg where
  die : Nat
  desc : Nat
  op : Nat
  deriving DecidableEq, Repr

/-- An AGREE cell kept (R471): who sent it, the call, its signature and its flag. -/
structure AgreeRec where
  peer : Nat
  call : Nat
  sig : Nat
  ok : Bool
  deriving DecidableEq, Repr

/-- An abort notice held for the current call or a later one (R502). -/
structure AbortRec where
  call : Nat
  status : Nat
  deriving DecidableEq, Repr

/-- An ABORT this member keeps sending (R502). -/
structure AbortOut where
  peer : Nat
  call : Nat
  status : Nat
  sent : Nat
  at_ : Nat
  deriving DecidableEq, Repr

/-- One group slot (R506). -/
structure GroupSlot where
  owner : U8
  num : U8
  gid : U32
  dims : Nat
  dmask : Nat
  strag : Nat                -- STRAG of the entry in ms
  call : U32
  st : GroupState
  last : U8
  detail : U8
  step : U16
  awaited : U16
  numeric : U8
  stragglers : U32
  regs : List CallReg        -- registered and not ended, in registration order
  desc : Nat                 -- descriptor index of the call in progress
  phase : Nat                -- PHASE of R500
  ok : Bool
  agreed : Bool
  sig : Nat
  dimAt : Nat                -- place in DIMS of the agreement or completion round
  agrees : List AgreeRec
  agreeAt : Nat              -- when the last AGREE went
  done : Bool                -- its data phases are finished at this member
  gscale : U32               -- GSCALE of a NORM, for X(XREG) at the call's end (R490)
  flowBits : Option Nat      -- FLOWS of a context image written while suspended (R500)
  offers : List (Nat × Nat)  -- members offered a flow of the call and not yet granting: address, when offered (R468)
  progressAt : Nat           -- last progress of the call
  stragRaised : Bool
  aborts : List AbortRec
  abortsOut : List AbortOut
  beginAt : Nat
  threshold : U32            -- 2C00h:01 and :02 as they stood at the call's begin (R505)
  interval : U32
  replayed : Bool            -- the step in progress has been replayed
  deriving DecidableEq, Repr

def GroupSlot.reset : GroupSlot :=
  { owner := 0xFF#8, num := 0#8, gid := 0#32, dims := 0, dmask := 0, strag := 0, call := 0#32, st := .free, last := 0#8,
    detail := 0#8, step := 0#16, awaited := 0xFFFF#16, numeric := 0#8, stragglers := 0#32, regs := [], desc := 0,
    phase := 0, ok := false, agreed := false, sig := 0, dimAt := 0, agrees := [], agreeAt := 0, done := false, gscale := 0#32, flowBits := none, offers := [],
    progressAt := 0, stragRaised := false, aborts := [], abortsOut := [], beginAt := 0,
    threshold := 0#32, interval := 0#32, replayed := false }

structure CleS where
  threshold : U32
  interval : U32
  lanes : Vector Bool 16       -- in service
  completed : U64
  replays : U32
  groups : Vector GroupSlot 64
  deriving DecidableEq, Repr

def CleS.reset : CleS :=
  { threshold := 1048576#32, interval := 50#32, lanes := Vector.replicate 16 true,
    completed := 0#64, replays := 0#32,
    groups := Vector.replicate 64 GroupSlot.reset }

end Sys2Proof.Machine
end

