-- ==== Sys2Proof/Machine/State/Eumon.lean ====
section
/-! DEFINITION. The state of the Eumon server and of the exposures (chapter 13): sessions, block transfers, group
definitions, exposure slots, and the counters of 1100h and C800h. -/

namespace Sys2Proof.Machine

/-- One Eumon message as it arrived (R545). -/
structure EMsg where
  gen : Nat
  mtype : Nat
  seq : Nat
  index : Nat
  sub : Nat
  inst : Nat
  exp : Nat
  data : List Byte
  deriving DecidableEq, Repr

/-- An answer still owed: who asked, the message, and the type of the answer. -/
structure Owed where
  asker : Asker
  msg : EMsg
  rtype : Nat
  deriving DecidableEq, Repr

/-- A request that waits: behind an earlier one of its source (R549), behind a committing exposure (R578), or at the AON
while the MGP does not answer (R570). -/
structure Waiting where
  owed : Owed
  who : Nat                   -- identity and credential slot as the request arrived
  cred : Option Nat
  obs : WriteObs
  aon : Bool
  since : Nat
  deriving DecidableEq, Repr

/-- A kept response (R549): the request's header bytes and the whole response message. -/
structure KeptResp where
  hdr : List Byte
  resp : List Byte
  deriving DecidableEq, Repr

/-- One session (R564 to R569). `ident` is its master identity once confirmed. -/
structure Session where
  id : U32
  cred : Nat
  ident : Nat
  confirmed : Bool
  openedAt : Nat
  lastAt : Nat
  th1 : List Byte
  th2 : List Byte
  kh : List Byte
  kd : List Byte
  hpub : List Byte            -- HPUB of its SESS_OPEN, the claim session's key (R617)
  ctrHigh : Nat               -- highest accepted counter
  ctrSeen : List Nat          -- accepted counters within the 64 below it
  ctrOut : Nat                -- the T1's last counter
  kept : List KeptResp        -- newest last, at most 64
  deriving DecidableEq, Repr

/-- An object named by a request (R539). -/
structure ObjRef where
  index : Nat
  sub : Nat
  inst : Nat
  deriving DecidableEq, Repr

/-- One block transfer (R551 to R555). -/
structure Transfer where
  id : Nat
  asker : Asker
  write : Bool
  obj : ObjRef
  exp : Nat
  gen : Nat
  seq : Nat
  total : Nat
  segs : List (Nat × List Byte) -- segments held
  copy : List Byte            -- a read's copy of the value
  block : Nat                 -- the block in progress
  blockFrom : Option Nat      -- when its first segment came, until the BLKACK due 2 ms later
  lastAt : Nat
  ended : Option (Nat × Nat)  -- status and time of its end
  deriving DecidableEq, Repr

/-- A group definition (R558, R559); `owner` is a master identity. -/
structure GroupDef where
  family : U16
  members : BitVec 512
  owner : U8
  deriving DecidableEq, Repr

def GroupDef.reset : GroupDef := { family := 0#16, members := 0#512, owner := 0xFF#8 }

structure EumonS where
  served : U64
  dropped : U64
  envDropped : U64
  sessions : List Session
  transfers : List Transfer
  groups : Vector GroupDef 255
  waiting : List Waiting      -- oldest first
  deriving DecidableEq, Repr

def EumonS.reset : EumonS :=
  { served := 0#64, dropped := 0#64, envDropped := 0#64, sessions := [], transfers := [],
    groups := Vector.replicate 255 GroupDef.reset, waiting := [] }

/-- Slot states (R576). -/
inductive ExpState where
  | free | open_ | preparing | committing | committed | aborted
  deriving DecidableEq, Repr

/-- One staged write (R575), in staging order. -/
structure Staged where
  obj : ObjRef
  data : List Byte
  obs : WriteObs
  deriving DecidableEq, Repr

/-- One exposure slot (R572). -/
structure ExpSlot where
  st : ExpState
  abort : U32
  openTime : U64
  owner : U8
  writes : List Staged
  request : U64               -- the requested commit time (R581)
  closedSeq : Nat             -- order of the closes (R581)
  commitTime : U64
  failWrite : U16
  failObj : U64
  closer : Option Owed        -- the answer to its Close (R581)
  deriving DecidableEq, Repr

def ExpSlot.reset : ExpSlot :=
  { st := .free, abort := 0#32, openTime := 0#64, owner := 0xFF#8, writes := [], request := 0#64, closedSeq := 0,
    commitTime := 0#64, failWrite := 0xFFFF#16, failObj := 0#64, closer := none }

structure ExposureS where
  slots : Vector ExpSlot 16
  commits : U64
  aborts : U64
  closes : Nat                -- closes accepted so far
  deriving DecidableEq, Repr

def ExposureS.reset : ExposureS :=
  { slots := Vector.replicate 16 ExpSlot.reset, commits := 0#64, aborts := 0#64, closes := 0 }

end Sys2Proof.Machine
end

