-- ==== Sys2Proof/Machine/State/Events.lean ====
section
/-! DEFINITION. The state of the event record, the fault list, the proof-run queues, the injection points and the
service objects (chapter 18). -/

namespace Sys2Proof.Machine

/-- One entry of the event record (R720); its class follows from its code (R718). -/
structure Event where
  seq : Nat
  time : U64
  code : U8
  tunset : Bool
  inj : Bool
  ukind : U8
  uinst : BitVec 12
  part : U8
  repeats : Nat
  detail : U64
  read : Bool                    -- someone has read it (R723)
  born : Nat                     -- when it was made, on the package's own time (R722)
  deriving DecidableEq, Repr

/-- One entry of the fault list (R754). -/
structure FaultEntry where
  ukind : U8
  uinst : BitVec 12
  code : U8
  time : U64
  inj : Bool
  leaves : Bool        -- its unit is still in service and leaves at the next exposure (R731)
  deriving DecidableEq, Repr

/-- A queued or running proof run (R727), in detection order. -/
structure ProofReq where
  slice : Slice
  at_ : Nat
  inj : Bool
  persist : Bool
  running : Bool
  deriving DecidableEq, Repr

/-- One injection point (R734). -/
structure InjPoint where
  target : U64
  mode : U8
  fired : U32
  armed : Bool
  deriving DecidableEq, Repr

def InjPoint.reset : InjPoint := { target := 0#64, mode := 0#8, fired := 0#32, armed := false }

/-- Service state codes (2D00h:01). -/
inductive ServiceState where
  | normal | requested | inService
  deriving DecidableEq, Repr

structure EventS where
  record : List Event            -- oldest first, at most 4,096
  nextSeq : Nat
  lost : U32
  counts : Vector U32 256
  countsBy : Vector (Vector U32 256) 9 -- the same by PART: partitions 0 to 7, then shared units (R753)
  made : Vector Nat 9            -- entries made by PART (R723)
  priorMade : Vector Nat 9       -- made, when the prior record was kept
  lostRaisedAt : Option Nat
  lostSince : Nat                -- lost entries not yet reported by EVENTS_LOST
  prior : List Event             -- the AON's 256 entries at the last covering reset (R724)
  faults : List FaultEntry
  returning : List (U8 × BitVec 12)  -- requalified units that return at the next exposure (R732)
  proofs : List ProofReq
  injCause : Bool                -- the detection being served is an injected one (R737)
  points : Vector InjPoint 17
  service : ServiceState
  locate : Bool
  presses : U32
  buttonFrom : Option Nat        -- pressed since
  buttonRead : Bool              -- its condition of R748 has been read
  buttonFromRelease : Bool       -- held from the release of RST_N
  deriving DecidableEq, Repr

def EventS.reset : EventS :=
  { record := [], nextSeq := 0, lost := 0#32, counts := Vector.replicate 256 0#32, 
    countsBy := Vector.replicate 9 (Vector.replicate 256 0#32), made := Vector.replicate 9 0,
    priorMade := Vector.replicate 9 0,
    lostRaisedAt := none, lostSince := 0, prior := [], faults := [], returning := [], proofs := [], injCause := false,
    points := Vector.replicate 17 InjPoint.reset, service := .normal, locate := false, presses := 0#32,
    buttonFrom := none, buttonRead := false, buttonFromRelease := false }

end Sys2Proof.Machine
end

