-- ==== Sys2Proof/Machine/State/Fabric.lean ====
section
/-! DEFINITION. The state of the fabric: addresses, wiring, discovery, the contact sheet, detours, multicast and fences
(chapter 9), and queues, credits, flows and rate contexts (chapter 10). -/

namespace Sys2Proof.Machine

/-- One fibre port (R403): the outcome of R375, what its last record said, and since when an engine lights it. -/
structure PortS where
  outcome : U8
  member : U16
  port : U8
  serial : U64
  csid : U32
  records : U32
  dark : Bool               -- darkened under R376 until the next commit or full discovery
  litAt : Nat               -- when it was last lit or trained
  lostRaised : Bool         -- MEMBER_LOST has been raised for this loss
  heard : Bool              -- a record has come since it was last lit or trained
  ready : Bool              -- trained, so cells may travel once MATCH
  deriving DecidableEq, Repr

def PortS.reset : PortS :=
  { outcome := 0#8, member := 0xFFFF#16, port := 0xFF#8, serial := 0#64, csid := 0#32, records := 0#32, dark := false,
    litAt := 0, lostRaised := false, heard := false, ready := false }

/-- An output port's queues and credits (R414, R436, R441, R442). Credits are per VC: adaptive, escape 0, escape 1. -/
structure OutPort where
  queues : Vector (List (BitVec 512)) 5
  credits : Vector (Vector Nat 3) 5
  window : List Bool        -- the last slots, at most 1,024; true where VC0 took it
  turn : Nat                -- the VC of the rotation, 0 to 4
  left : Nat                -- slots its turn still has
  lane : Nat                -- from which lane on the next cell takes its lane (R413)
  deriving DecidableEq, Repr

def OutPort.reset : OutPort :=
  { queues := Vector.replicate 5 [],
    credits := Vector.ofFn (fun vc => if vc.val = 0 then #v[32, 8, 8] else #v[64, 8, 8]),
    window := [], turn := 1, left := 0, lane := 0 }

/-- What a flow serves. -/
inductive FlowUse where
  | reel (reel : Nat) (move : Nat)
  | load (reel : Nat) (move : Nat) -- a board load of a move (R435)
  | put (reel : Nat) (move : Nat) -- board stores of a move (R220)
  | answer                -- the answer to a peer's board load (R435)
  | cle (slot : Nat)
  | mgp
  | tree (entry : Nat)    -- the slot that a multicast entry reserves (R444, R448)
  | store                 -- a board peer's stores (R220)
  deriving DecidableEq, Repr

/-- A flow at its receiver (R424 to R433). Positions are unwrapped: the first cell of the flow has position 0. -/
structure FlowIn where
  ep : Nat
  slot : Nat
  peer : Nat
  peerEp : Nat
  use : FlowUse
  first : Nat               -- the initial sequence
  base : Nat                -- cells counted in a row: the position of B
  got : List Nat            -- positions counted beyond the base
  lasts : List (Nat × Nat × Nat) -- held or completed LAST cells: position, COUNT, STATUS
  done : Nat                -- messages completed
  cm : Nat                  -- highest CM since the last ACK
  marked : Nat              -- marked cells since the last ACK
  unacked : Nat             -- cells counted since the last ACK
  unackedAt : Nat           -- when the first of them came
  missAt : Nat              -- since when its first gap has stood, or its last NAK
  status : Nat              -- R252 status with which it ended, FFh while open
  parts : List (Nat × List Byte) -- bytes that have come of a board load's answer or a peer's store, by position
  deriving DecidableEq, Repr

/-- A flow at its sender (R429, R430). -/
structure FlowOut where
  ep : Nat
  peer : Nat
  peerEp : Nat
  slot : Nat
  vc : Nat
  use : FlowUse
  first : Nat
  next : Nat                -- position of the next cell to be sent
  low : Nat                 -- position of the lowest unacknowledged cell
  cells : List (Nat × BitVec 512) -- cells kept, by position
  shown : List Nat          -- positions the last bitmap shows
  resentAt : List (Nat × Nat) -- position and time of resends under R428
  timer : Nat               -- ns
  timerAt : Nat
  expiries : Nat
  stalled : Bool
  tree : Option Nat         -- the multicast entry it is sent on (R447)
  acked : List Nat          -- destinations of the tree that have acknowledged it
  deriving DecidableEq, Repr

/-- A rate context (R438): rate in 10 MB/s, times and the highest echo of the running 8 µs. -/
structure RateCtx where
  member : Nat
  vc : Nat
  rate : Nat                -- in kB/s
  cutAt : Option Nat
  echoAt : Nat
  ceilingAt : Option Nat
  held : Nat                -- highest echo of the running 8 µs, not yet acted on (R439)
  deriving DecidableEq, Repr

structure FabricS where
  member : U16
  variant : U8
  dw : U8
  sheet : List Byte           -- the committed contact sheet, empty when none
  check : U8
  discAt : Option Nat         -- step time of a scheduled full discovery
  discState : U8
  discPlaced : Bool           -- the engines have gone back to their plan: step 5 of a discovery (R378)
  assumed : U16
  detours : List U32
  ports : Vector PortS 48
  outs : Vector OutPort 48
  weights : Vector U8 4
  tableCheck : U8
  mcast : Vector U64 1024
  dests : List U32
  fences : List U32
  forwarded : U64
  corrected : U64
  uncorr : U64
  dropCheck : U64
  dropRoute : U64
  resent : U64
  dups : U64
  marked : U64
  flowsIn : List FlowIn
  flowsOut : List FlowOut
  nextSeq : List (Nat × Nat)  -- endpoint × 4,096 + slot, and the initial sequence of its next flow (R424); 65,536 + 16 × entry + endpoint for a tree's source, and its next sequence
  rates : List RateCtx
  sized : List (List Nat)     -- offers answered with SIZE: endpoint, peer, its endpoint, TAG, NT, EFMT, EINT (R423)
  unreach : List (Nat × Nat)  -- destination and when ROUTE_UNREACHABLE was last raised for it
  deriving DecidableEq, Repr

def FabricS.reset : FabricS :=
  { member := 0xFFFF#16, variant := 0#8, dw := 0#8, sheet := [], check := 0#8, discAt := none, discState := 0#8, discPlaced := false,
    assumed := 0xFFFF#16, detours := [], ports := Vector.replicate 48 PortS.reset,
    outs := Vector.replicate 48 OutPort.reset, weights := #v[8#8, 4#8, 2#8, 2#8], tableCheck := 0#8,
    mcast := Vector.replicate 1024 0#64, dests := [], fences := [], forwarded := 0#64, corrected := 0#64,
    uncorr := 0#64, dropCheck := 0#64, dropRoute := 0#64, resent := 0#64, dups := 0#64, marked := 0#64, flowsIn := [],
    flowsOut := [], nextSeq := [], rates := [], sized := [], unreach := [] }

end Sys2Proof.Machine
end

