-- ==== Sys2Proof/Machine/State/HostNet.lean ====
section
/-! DEFINITION. The state of the host Ethernet ports and of the RDMA windows (chapter 12). -/

namespace Sys2Proof.Machine

/-- Port state codes (R514). -/
inductive HostState where
  | training | enrollment | linkUp | secured | fault
  deriving DecidableEq, Repr

/-- One host port (R535). -/
structure HostPortS where
  st : HostState
  locked : Bool             -- step 2 of R512 is done
  lockedAt : Nat            -- when it was done
  trainFrom : Nat           -- when the running training began, or the last retry
  ip : List Byte
  polarity : U16
  frames : U64
  corrected : U64
  uncorr : U64
  refused : U64
  cnps : U64
  sent : U64
  received : U64
  vlanClear : U8
  sak : Bool                -- a SAK is installed both ways
  pauses : Vector Nat 8     -- per priority, the time until which transmission is paused (R528)
  deriving DecidableEq, Repr

def HostPortS.reset : HostPortS :=
  { st := .training, locked := false, lockedAt := 0, trainFrom := 0, ip := List.replicate 16 0#8, polarity := 0#16, frames := 0#64,
    corrected := 0#64, uncorr := 0#64, refused := 0#64, cnps := 0#64, sent := 0#64, received := 0#64,
    vlanClear := 0#8, sak := false, pauses := Vector.replicate 8 0 }

/-- Window state codes (R523). -/
inductive WindowState where
  | closed | open_ | closing | error
  deriving DecidableEq, Repr

/-- One RDMA operation sent and not yet answered (R527). -/
structure RdmaOp where
  psn : Nat
  packets : Nat
  write : Bool
  reel : Nat
  move : Nat                -- the move it serves, by its order of starting
  tile : Nat                -- tile of the move
  byte_ : Nat               -- byte of the tile at which it begins
  winOff : Nat
  len : Nat
  data : List Byte          -- a WRITE's bytes, kept for go-back-N
  sentAt : Nat
  late : Bool               -- its move has ended with TIMEOUT (R525, R527)
  deriving DecidableEq, Repr

/-- One window (R536). -/
structure WindowS where
  desc : BitVec 512
  st : WindowState
  owner : U8
  rate : U32                -- MB/s
  retrans : U32
  pendingOpen : Option Nat  -- the partition whose write of 1 was latched in CLOSING (R525)
  ops : List RdmaOp
  psn : Nat                 -- PSN of the next request
  cutAt : Option Nat        -- last halving (R528)
  cnpAt : Nat               -- last CNP, or last increase
  echoAt : Option Nat       -- last CNP sent
  deriving DecidableEq, Repr

def WindowS.reset : WindowS :=
  { desc := 0#512, st := .closed, owner := 0xFF#8, rate := 100000#32, retrans := 0#32, pendingOpen := none, ops := [],
    psn := 0, cutAt := none, cnpAt := 0, echoAt := none }

structure HostNetS where
  ports : Vector HostPortS 2
  windows : Vector WindowS 256
  deriving DecidableEq, Repr

def HostNetS.reset : HostNetS :=
  { ports := Vector.replicate 2 HostPortS.reset, windows := Vector.replicate 256 WindowS.reset }

end Sys2Proof.Machine
end

