-- ==== Sys2Proof/Machine/State/Mailbox.lean ====
section
/-! DEFINITION. The state of the mailboxes (chapter 14): the binding table of D300h and the 64 channels. -/

namespace Sys2Proof.Machine

/-- Channel state codes (R592). -/
inductive ChannelState where
  | empty | full | waking | resetting | unbound
  deriving DecidableEq, Repr

/-- One channel: its binding entry (R587), state, message and counters (R591). -/
structure MailboxS where
  bind : U32
  st : ChannelState
  msg : List Byte
  notice : U8
  messages : U32
  notices : U32
  wakeFrom : Nat            -- when it entered WAKING (R598)
  deriving DecidableEq, Repr

/-- The manufacture entries of the binding table (R589). -/
def bindReset (c : Nat) : U32 :=
  if c < 8 then BitVec.ofNat 32 (0x20 + c + 256 * 0x01 + 65536)
  else if c < 16 then BitVec.ofNat 32 (0x01 + 256 * (0x20 + (c - 8)))
  else if c = 16 then BitVec.ofNat 32 (0x01 + 256 * 0x02 + 65536)
  else if c = 17 then BitVec.ofNat 32 (0x02 + 256 * 0x01 + 65536)
  else 0xFFFF#32

def MailboxS.reset (c : Nat) : MailboxS :=
  { bind := bindReset c, st := if c < 18 then .empty else .unbound, msg := [], notice := 0#8, messages := 0#32,
    notices := 0#32, wakeFrom := 0 }

structure MailS where
  chans : Vector MailboxS 64
  check : U8                -- D300h:02
  deriving DecidableEq, Repr

def MailS.reset : MailS := { chans := Vector.ofFn (fun c => MailboxS.reset c.val), check := 0#8 }

end Sys2Proof.Machine
end

