-- ==== Sys2Proof/Machine/State/Seq.lean ====
section
/-! DEFINITION. The state of the sequencers and of the partitions' negatives (chapter 5): counters, stacks, the
scoreboard of issued operations, stall counters, and the objects of 8600h and 8700h. -/

namespace Sys2Proof.Machine

/-- A piece of storage of one die, by where it lies. -/
inductive Place where
  | buf (array : Nat)      -- operand buffers of array 8 die + a
  | vxe (die : Nat)        -- VXE storage
  | mask (die : Nat)       -- mask planes, one unit each
  | scal (die : Nat)       -- scalar registers, one unit each
  | store (die : Nat)
  | hbm (pair : Nat)
  | flash (part : Nat)
  | seqMem (die : Nat)
  | host (window : Nat)
  | board (pkg tier unit : Nat)
  deriving DecidableEq, Repr

/-- A read or write region (R192). -/
structure Region where
  place : Place
  lo : Nat
  len : Nat
  deriving DecidableEq, Repr

/-- What an issued operation does. -/
inductive OpBody where
  | pass (array : Nat) (word : BitVec 64) (stat strm park : Nat)
  | kernel (offset count : Nat)
  | move (reel : Nat) (desc : Nat) (srcAdd dstAdd : Nat)
  | coll (group : Nat) (desc : Nat)
  deriving DecidableEq, Repr

/-- One entry of a die's scoreboard (R190, R192), in issue order. -/
structure OpRec where
  id : Nat
  body : OpBody
  reads : List Region
  writes : List Region
  sigc : Nat
  sige : Bool
  started : Bool
  deriving DecidableEq, Repr

/-- A frame of the loop stack: where the body starts and how many rounds are left, this one counted. -/
structure LoopFrame where
  start : Nat
  left : Nat
  deriving DecidableEq, Repr

/-- The place a SCHED has come to (R194): the parameters, the number of block calls made, and the return offset. -/
structure SchedPos where
  s : Nat
  stages : Nat
  m : Nat
  fwd : Nat
  bwd : Nat
  calls : Nat
  ret : Nat
  deriving DecidableEq, Repr

/-- A frame of the call stack. -/
inductive CallFrame where
  | call (ret : Nat)
  | sched (p : SchedPos)
  deriving DecidableEq, Repr

/-- What waits to be issued: an operation with its signal counter, or a load of a VXE scalar register. -/
inductive Issue where
  | op (b : OpBody) (sigc : Nat) (sige : Bool)
  | setx (x : Nat) (v : U32)
  deriving DecidableEq, Repr

/-- Why issue holds (R190, R201, R206). -/
inductive Hold where
  | none
  | wait (ctr : Nat) (least : Nat)
  | stepEnd
  | issue (w : Issue)           -- an instruction that waits for a queue place, the limit of 64, or its register
  deriving DecidableEq, Repr

/-- Sequencer state codes (8600h:01). -/
inductive SeqState where
  | idle | running | stalled | suspended | failed | outOfService
  deriving DecidableEq, Repr

/-- The context a suspension saves (R205). -/
structure SeqCtx where
  pc : U32
  loops : List LoopFrame
  calls : List CallFrame
  mb : U16
  ctrs : Vector U16 32
  steps : U64
  prefetch : Nat
  deriving DecidableEq, Repr

/-- One sequencer. -/
structure SeqS where
  st : SeqState
  steps : U64
  pc : U32                      -- the instruction to issue next, or the one that holds issue
  fail : U8
  ctrs : Vector U16 32
  mb : U16
  loops : List LoopFrame
  calls : List CallFrame
  prefetch : Nat                -- instructions past a held WAIT already issued (R196)
  ops : List OpRec
  nextOp : Nat
  hold : Hold
  halted : Bool                 -- its program reached HALT
  stopped : Bool                -- it stopped after a STEPEND for a STOP
  withdrawn : List OpRec         -- RECVs a SUSPEND withdrew, and what waited on them, to be issued again (R244)
  lostFor : Option Nat           -- OUT_OF_SERVICE for an uncorrectable word of this SRAM macro of its die (R261)
  stepWrites : List Region      -- regions written since the last STEPEND (R202)
  stall : Vector U64 11
  ctx : Option SeqCtx           -- saved in SUSPENDED
  ctxImage : Option (List Byte) -- an image the driver wrote over it
  mem : Mem                     -- the 24 MiB, with the sections below
  progLen : Nat
  kernBase : Nat
  kernLen : Nat
  descBase : Nat
  descLen : Nat
  collBase : Nat
  collLen : Nat
  deriving DecidableEq, Repr

def SeqS.reset : SeqS :=
  { st := .idle, steps := 0#64, pc := 0#32, fail := 0#8, ctrs := Vector.replicate 32 0#16, mb := 0#16, loops := [],
    calls := [], prefetch := 0, ops := [], nextOp := 0, hold := .none, halted := false, stopped := false,
    withdrawn := [], lostFor := none, stepWrites := [], stall := Vector.replicate 11 0#64, ctx := none, ctxImage := none, mem := Mem.empty,
    progLen := 0, kernBase := 0, kernLen := 0, descBase := 0, descLen := 0, collBase := 0, collLen := 0 }

/-- Load state codes (R176). -/
inductive LoadState where
  | empty | checking | admitted | running | stopping | suspending | suspended | failed
  deriving DecidableEq, Repr

/-- One partition's negative: the registers of 8700h and what an admitted negative holds (R178). -/
structure NegS where
  imgAddr : U64
  imgLen : U32
  state : LoadState
  refCode : U8
  refDie : U8
  refSect : U8
  refOff : U32
  negId : U64
  digest : List Byte            -- DIGEST of the image admitted, for its measurement (R637)
  dieMask : U8
  decl : List Byte              -- the declaration section, empty when no negative is held
  groups : List Nat             -- group slots that its groups 0 to NGROUPS - 1 occupy
  mcast : Nat                   -- multicast entries reserved
  unitLost : Bool               -- FAILED for UNIT_LOST (R177)
  invChanged : Bool             -- an exposure changed its inventory while CHECKING (R183)
  deriving DecidableEq, Repr

def NegS.reset : NegS :=
  { imgAddr := 0#64, imgLen := 0#32, state := .empty, refCode := 0#8, refDie := 0xFF#8, refSect := 0xFF#8,
    refOff := 0#32, negId := 0#64, digest := [], dieMask := 0#8, decl := [], groups := [], mcast := 0, unitLost := false,
    invChanged := false }

end Sys2Proof.Machine
end

