-- ==== Sys2Proof/Machine/State/Memory.lean ====
section
/-! DEFINITION. The state of the memory tiers and the reels (chapters 6 and 7): contents per tier, uncorrectable
locations, repair maps, retirement records, flash records, scrubbers, the reels and their watchdog limits. -/

namespace Sys2Proof.Machine

/-- Channel, region state codes (8A00h:01, 8B00h:01). -/
inductive MapState where
  | inService | mapoutPending | mappedOut
  deriving DecidableEq, Repr

/-- A location that reads uncorrectable (R262), or a granule or sector whose tag mismatches (R224, R227). -/
structure BadLoc where
  place : Place
  lo : Nat
  len : Nat
  integrity : Bool
  deriving DecidableEq, Repr

/-- A row's repair: the bank (16 of a store region is its spare bank), the row and the spare it is mapped to. -/
structure RowMap where
  bank : Nat
  row : Nat
  spare : Nat
  deriving DecidableEq, Repr

/-- A row that stays in its bank's holding row (R277). -/
structure HeldRow where
  bank : Nat
  row : Nat
  deriving DecidableEq, Repr

/-- One HBM channel (R298) with its part of the row-repair map (R278). -/
structure ChanS where
  st : MapState
  pendingAt : Nat            -- step time at which it became MAPOUT_PENDING (R286)
  corrected : U64
  uncorr : U32
  integ : U32
  spareUsed : U16
  retirements : U8
  transient : U32
  maps : List RowMap
  deadSpares : List HeldRow  -- retired spare rows: bank and spare number (R275)
  held : List HeldRow
  deriving DecidableEq, Repr

def ChanS.reset : ChanS :=
  { st := .inService, pendingAt := 0, corrected := 0#64, uncorr := 0#32, integ := 0#32, spareUsed := 0#16,
    retirements := 0#8, transient := 0#32, maps := [], deadSpares := [], held := [] }

/-- One store region (R299) with its repair maps (R288, R289). -/
structure RegionS where
  st : MapState
  pendingAt : Nat
  corrected : U64
  uncorr : U32
  spareUsed : U16
  transient : U32
  spareBank : Option Nat     -- the bank mapped to the spare bank
  maps : List RowMap
  deadSpares : List HeldRow
  held : List HeldRow
  deriving DecidableEq, Repr

def RegionS.reset : RegionS :=
  { st := .inService, pendingAt := 0, corrected := 0#64, uncorr := 0#32, spareUsed := 0#16, transient := 0#32,
    spareBank := none, maps := [], deadSpares := [], held := [] }

/-- The recorded unit of a page retirement (R280): the channel of the pair (0 to 63) and its channel-local unit. -/
structure UnitRec where
  chan : Nat
  unit : Nat
  deriving DecidableEq, Repr

/-- One HBM pair: retirement records and the pending list (R276, R280). -/
structure PairS where
  retired : List UnitRec
  pending : List UnitRec
  deriving DecidableEq, Repr

def PairS.reset : PairS := { retired := [], pending := [] }

/-- What the flash controller keeps of a block it has touched (R291, R293, R294). -/
structure BlockRec where
  soft : Nat
  erases : Nat
  retired : Bool
  due : Bool                -- due for relocation (R263, R291)
  written : Nat             -- when it was last written or relocated into
  deriving DecidableEq, Repr

/-- One flash stack (R301). -/
structure FlashS where
  spare : U32
  retired : U32
  meanErase : U32
  maxErase : U32
  userBytes : U64
  wearBytes : U64
  blocks : List (Nat × BlockRec)
  floor : Nat                    -- erase count of every block that is not listed (R294)
  places : List (Nat × Nat)      -- where the sectors of a block stand since relocations, where that is another block (R291)
  deriving DecidableEq, Repr

def FlashS.reset : FlashS :=
  { spare := 57344#32, retired := 0#32, meanErase := 0#32, maxErase := 0#32, userBytes := 0#64, wearBytes := 0#64,
    blocks := [], floor := 0, places := [] }

/-- A row that has passed proof runs (R267): channel or region, bank, row and the step times of its passes. -/
structure PassLog where
  unit : Nat
  bank : Nat
  row : Nat
  times : List Nat
  deriving DecidableEq, Repr

/-- One patrol scrubber: when its pass began, how much of it is done, and the lines that proof runs made it skip in this pass
and in the one before (R271). -/
structure ScrubS where
  start : Nat
  progress : U8
  behind : Bool
  skipped : List Nat
  owed : List Nat
  deriving DecidableEq, Repr

def ScrubS.reset : ScrubS := { start := 0, progress := 0#8, behind := false, skipped := [], owed := [] }

structure MemS where
  store : Vector Mem 8
  hbm : Vector Mem 8
  flash : Vector Mem 8
  bad : List BadLoc
  chans : Vector ChanS 512
  regions : Vector RegionS 256
  pairs : Vector PairS 8
  flashes : Vector FlashS 2
  storePasses : U64
  hbmPasses : U64
  scrubs : Vector ScrubS 24          -- store dies 0 to 7, then stacks 0 to 15
  passLogs : Vector (List PassLog) 24 -- store dies 0 to 7, then base dies 0 to 15
  moves : Nat                -- moves started so far
  storeOut : Vector Bool 8   -- store dies out of service with their compute dies (R29)
  deriving DecidableEq, Repr

def MemS.reset : MemS :=
  { store := Vector.replicate 8 Mem.empty, hbm := Vector.replicate 8 Mem.empty, flash := Vector.replicate 8 Mem.empty,
    bad := [], chans := Vector.replicate 512 ChanS.reset, regions := Vector.replicate 256 RegionS.reset,
    pairs := Vector.replicate 8 PairS.reset, flashes := Vector.replicate 2 FlashS.reset, storePasses := 0#64,
    hbmPasses := 0#64, scrubs := Vector.replicate 24 ScrubS.reset, passLogs := Vector.replicate 24 [], moves := 0,
    storeOut := Vector.replicate 8 false }

/-- Where a fabric move stands (R240, R244). -/
inductive MovePhase where
  | waiting      -- not started, or a SEND not yet offered, a RECV not yet posted
  | offered      -- a SEND whose RTS has gone, a RECV that is posted, without a match
  | matched      -- a SEND that holds its GRANT, a RECV that has sent it
  | parked       -- a SEND parked at a SUSPEND
  deriving DecidableEq, Repr

/-- An access that a move waits on: its cause of R207, its board address, and since when. -/
structure Access where
  cause : Nat
  addr : Nat
  since : Nat
  deriving DecidableEq, Repr

/-- A move in a reel's queue: its descriptor, the strides already added, who owns it and how far it has come. -/
structure Move where
  desc : BitVec 512
  srcAdd : Nat
  dstAdd : Nat
  owner : Nat               -- master identity (R741)
  part : Nat                -- partition that runs it
  die : Nat                 -- die whose operation it is (8 for an IOD reel's move)
  op : Nat                  -- operation number in that die's scoreboard
  started : Bool
  limits : Vector U32 5     -- watchdog limits at its start (R257)
  phase : MovePhase
  flow : Nat                -- its flow slot once matched
  rtsAt : Nat               -- when the last RTS went
  seqno : Nat               -- order of starting, for the earliest match (R240)
  tile : Nat                -- the next tile
  since : Nat               -- when its turn came
  access : Option Access    -- what it waits on, once it has had to wait
  parts : List (Nat × List Byte) -- bytes of the next tile that have come from a host window or a board peer
  deriving DecidableEq, Repr

/-- Reel state codes (R255). -/
inductive ReelState where
  | idle | moving | waiting | outOfService
  deriving DecidableEq, Repr

/-- One reel (R254). -/
structure ReelS where
  st : ReelState
  lastStatus : U8
  failAddr : U64
  failPart : Nat            -- partition whose move failed there; 8 for none (R639)
  completed : U64
  bytes : U64
  wait : Vector U64 5
  queue : List Move
  deriving DecidableEq, Repr

def ReelS.reset : ReelS :=
  { st := .idle, lastStatus := 0#8, failAddr := 0#64, failPart := 8, completed := 0#64, bytes := 0#64,
    wait := Vector.replicate 5 0#64, queue := [] }

/-- Watchdog limits of one partition in µs (R256): store, HBM, flash, host, fabric. -/
def watchdogReset : Vector U32 5 := #v[1000#32, 20000#32, 5000000#32, 1000000#32, 0#32]

end Sys2Proof.Machine
end

