-- ==== Sys2Proof/Machine/State/Optics.lean ====
section
/-! DEFINITION. The state of the light engines, rings, lanes, lasers, ports in safelight mode and the calibration set
(chapter 8). -/

namespace Sys2Proof.Machine

/-- Laser state codes (R308). -/
inductive LaserState where
  | off | enabling | on | disabling | fault | held
  deriving DecidableEq, Repr

/-- One lens chiplet's laser input and readings (R308 to R311, R360). -/
structure LaserS where
  st : LaserState
  en : Bool                 -- LSR_EN[n]
  ok : Bool                 -- LSR_OK[n]
  reqEnable : Bool          -- what 9000h:01 last took
  pending : Bool            -- an enable latched under R310
  changedAt : Nat           -- when LSR_EN[n] last changed, or ENABLING began
  graceFrom : Option Nat    -- when LSR_OK fell in ON (R311)
  faults : U32
  temp : Int                -- 9000h:05, in 0.1 °C
  trimTest : Bool           -- left HELD; the trim test of R344 is due
  injOk : Bool              -- injected loss of LSR_OK in progress (R733, 0Fh)
  deriving DecidableEq, Repr

def LaserS.reset : LaserS :=
  { st := .off, en := false, ok := false, reqEnable := false, pending := false, changedAt := 0, graceFrom := none,
    faults := 0#32, temp := 0, trimTest := false, injOk := false }

/-- Focus loop states (R320). -/
inductive LoopState where
  | off | parked | sweep | acquire | verify | locked | relock | failed | hold
  deriving DecidableEq, Repr

/-- One ring (R312): its heater and its feedback value in 10^-5 µW, the filtered powers of R336 in nW, its detuning in
0.1 GHz, windows without a clear tone (R326), since when it is near a heater limit or off its line, and when its sweep, its
acquisition and its verification end: `loop` is what it comes to then (`loopNow` is what 8F00h reads). -/
structure RingS where
  heater : Int
  feedback : Int
  y0 : Int
  y1 : Int
  loop : LoopState
  detuning : Int
  noTone : Nat
  limitFrom : Option Nat
  limitRaised : Bool
  offFrom : Option Nat
  sweepEnd : Nat
  acqEnd : Nat
  verEnd : Nat
  deriving DecidableEq, Repr

def RingS.reset : RingS :=
  { heater := 0, feedback := 0, y0 := 0, y1 := 0, loop := .off, detuning := 0, noTone := 0, limitFrom := none,
    limitRaised := false, offFrom := none, sweepEnd := 0, acqEnd := 0, verEnd := 0 }

/-- Engine state codes (R357). -/
inductive EngState where
  | off | dark | safe | training | inService | laserLost | outOfService
  deriving DecidableEq, Repr

/-- One light engine (R356). -/
structure EngineS where
  st : EngState
  port : Option Nat
  mislocks : U32
  lockLosses : U32
  attempts : U32
  launch : U16
  rings : Vector RingS 240
  resweepAt : Nat           -- when the last re-sweep of R325 began
  resweepLane : Nat         -- next lane to re-sweep
  deriving DecidableEq, Repr

/-- Before a contact sheet, engine e lights reach index e mod 4 (R316): but no engine is lit at reset, R309, and
8E00h:02 resets to FFh (R356). -/
def EngineS.reset : EngineS :=
  { st := .off, port := none, mislocks := 0#32, lockLosses := 0#32, attempts := 0#32, launch := 0#16,
    rings := Vector.replicate 240 RingS.reset, resweepAt := 0, resweepLane := 0 }

/-- Lane state codes (R359). -/
inductive LaneState where
  | dark | training | inService | relocking | failed | requalifying | safe
  deriving DecidableEq, Repr

/-- A relock in progress (R330): the rings it moves, and attempts made. -/
structure Relock where
  rings : List Nat
  receive : Bool
  attempt : Nat
  limited : Bool            -- every step so far met a heater limit
  named : Bool              -- a lane was named at detection (mislock, not lock loss)
  deriving DecidableEq, Repr

/-- One fabric lane (R358). -/
structure LaneS where
  st : LaneState
  fail : U8
  trim : U8
  transient : U32
  relock : Option Relock
  outFor : Option Nat       -- out of the set while this partner lane relocks (R329)
  home : LaneState          -- what it goes back to when it is relocked
  outUntil : Nat            -- out of its link for a re-sweep until then (R325)
  heard : Bool              -- its own marker has come since its training began (R328)
  counted : Bool            -- counted in 1020h:04
  returning : Bool          -- requalified; returns at the next exposure (R333)
  injFail : Bool            -- its FAILED came from an injection
  trainFrom : Nat           -- when its training began
  badAt : List (Nat × Bool) -- its uncorrectable codewords of the last second: when, and whether injected (R729)
  badPersist : Bool         -- an injection of them was armed with PERSIST
  deriving DecidableEq, Repr

def LaneS.reset : LaneS :=
  { st := .dark, fail := 0#8, trim := 200#8, transient := 0#32, relock := none,
    outFor := none, home := .dark, outUntil := 0, heard := false, counted := true, returning := false, injFail := false, trainFrom := 0,
    badAt := [], badPersist := false }

/-- One fibre port's safelight state (R339 to R345): since when it is in it, from when on its beacon says READY for its own part
(the shroud counts beside it), and from when on there is a beacon. -/
structure OptPortS where
  safelight : Bool
  enteredAt : Nat
  noLight : Bool
  readyFrom : Nat
  beaconFrom : Nat
  recvReady : Nat
  recvHold : Nat
  lastBeacon : Nat          -- now, when the last beacon word came
  backstopRead : Bool       -- its launch monitor has been read for this entry
  deriving DecidableEq, Repr

def OptPortS.reset : OptPortS :=
  { safelight := false, enteredAt := 0, noLight := true, readyFrom := 0, beaconFrom := 0, recvReady := 0, recvHold := 0,
    lastBeacon := 0, backstopRead := false }

/-- Where a calibration set comes from: the factory's, which this model leaves free, or one a driver wrote. -/
inductive CalSet where
  | factory
  | user (image : List Byte)
  deriving DecidableEq, Repr

/-- Staged states of 2800h:07. -/
inductive StagedState where
  | none | staged | invalid | committing
  deriving DecidableEq, Repr

/-- The calibration set's objects (R362). -/
structure CalibS where
  stored : CalSet
  inForce : Option CalSet
  staged : Option (List Byte)
  state : StagedState
  commits : U16
  deriving DecidableEq, Repr

structure OpticsS where
  lasers : Vector LaserS 16
  engines : Vector EngineS 32
  lanes : Vector LaneS 512
  ports : Vector OptPortS 48
  shroudOpen : Bool
  shroudClosedAt : Nat
  entries : U32
  backstops : U32
  calib : CalibS
  deriving DecidableEq, Repr

def OpticsS.reset : OpticsS :=
  { lasers := Vector.replicate 16 LaserS.reset, engines := Vector.replicate 32 EngineS.reset,
    lanes := Vector.replicate 512 LaneS.reset, ports := Vector.replicate 48 OptPortS.reset, shroudOpen := false,
    shroudClosedAt := 0, entries := 0#32, backstops := 0#32,
    calib := { stored := .factory, inForce := some .factory, staged := none, state := .none, commits := 0#16 } }

end Sys2Proof.Machine
end

