-- ==== Sys2Proof/Machine/State/Security.lean ====
section
/-! DEFINITION. The state of partitions, credentials, keys and proposals (chapter 15). -/

namespace Sys2Proof.Machine

/-- Ownership codes (D000h:01). -/
inductive Ownership where
  | unowned | claiming | owned
  deriving DecidableEq, Repr

/-- Proposal states (R627). -/
inductive PropState where
  | empty | proposed | committing | committed | rejected | expired | aborted
  deriving DecidableEq, Repr

/-- One proposal slot (R624). -/
structure ProposalS where
  body : List Byte
  st : PropState
  digest : List Byte
  proposedAt : U64
  abort : U32
  proposer : U8
  commitTime : U64
  generation : U64          -- the generation in the digest
  expiry : U64
  key : List Byte           -- public key of the credential that the proposer's session used (R628)
  expSlot : Option Nat      -- its exposure
  signer : Option Owed      -- the answer to its countersignature (R630)
  deriving DecidableEq, Repr

def ProposalS.reset : ProposalS :=
  { body := [], st := .empty, digest := List.replicate 48 0#8, proposedAt := 0#64, abort := 0#32, proposer := 0xFF#8,
    commitTime := 0#64, generation := 0#64, expiry := 0#64, key := [], expSlot := none, signer := none }

structure SecurityS where
  partMap : Vector U8 8         -- die to partition, FFh unassigned
  flashQuota : Vector U16 8
  rights : Vector U8 8
  debugEn : U8
  injEn : U16
  grants : List (BitVec 256)    -- board grants (R621)
  check : U8                    -- D100h:07
  clearing : U8                 -- D100h:09
  creds : Vector (List Byte) 64 -- 112-byte entries (R614); empty list for an EMPTY slot
  ownership : Ownership
  claimFrom : Nat               -- when CLAIMING began
  generation : U64
  zeroisations : U32
  hostKeys : Vector Bool 2      -- host-link slots full
  hostWrapped : Vector (List Byte) 2 -- the wrapped value each holds
  flashKeys : Vector Bool 8     -- flash keys present
  hbmKeys : Vector Bool 8       -- HBM keys of each pair present
  rewriting : Vector Bool 8     -- pairs being rewritten (R634): accesses end with DENIED
  proposals : Vector ProposalS 4
  spdmNegotiated : List U32     -- sessions whose SPDM algorithms are negotiated
  deriving DecidableEq, Repr

def SecurityS.reset : SecurityS :=
  { partMap := Vector.replicate 8 0xFF#8, flashQuota := Vector.replicate 8 0#16, rights := Vector.replicate 8 0#8,
    debugEn := 0#8, injEn := 0#16, grants := [], check := 0#8, clearing := 0#8, creds := Vector.replicate 64 [],
    ownership := .unowned, claimFrom := 0, generation := 0#64, zeroisations := 0#32,
    hostKeys := Vector.replicate 2 false, hostWrapped := Vector.replicate 2 [], flashKeys := Vector.replicate 8 false,
    hbmKeys := Vector.replicate 8 false, rewriting := Vector.replicate 8 false,
    proposals := Vector.replicate 4 ProposalS.reset, spdmNegotiated := [] }

end Sys2Proof.Machine
end

