-- ==== Sys2Proof/Machine/State/System.lean ====
section
/-! DEFINITION. The state of reset, boot, firmware, the MGP and its watchdog, functions, the management bus (chapter
17), the base links (chapter 1) and the boundary scan (chapter 19). -/

namespace Sys2Proof.Machine

/-- Boot states (R699). -/
inductive BootState where
  | rom | waitRefclk | loading | init | ready | loader | recovery | tripped
  deriving DecidableEq, Repr

/-- Reset kinds (R690). -/
inductive ResetKind where
  | island (i : Nat)
  | die (k : Nat)
  | package
  | cold
  | recovery
  deriving DecidableEq, Repr

/-- Function states (R707). -/
inductive FuncState where
  | disabled | enabling | enabled | disabling
  deriving DecidableEq, Repr

structure FuncS where
  st : FuncState
  pending : U8
  deriving DecidableEq, Repr

def FuncS.reset : FuncS := { st := .enabled, pending := 0xFF#8 }

/-- Firmware staged states (2F20h:04). -/
inductive FwState where
  | none | staged | invalid | writing | written
  deriving DecidableEq, Repr

/-- The state of a core that may sleep or be in reset (R595, R682, R696). -/
inductive CoreState where
  | up | asleep | waking | resetting
  deriving DecidableEq, Repr

/-- One base link (R26 to R29). -/
structure LinkS where
  replays : U64
  successive : Nat          -- replays of the transfer in progress
  failed : Bool
  injected : Bool           -- it failed by an injection (R737)
  spares : Nat × Nat        -- spare wires that stand for failing ones, one number per direction (R24, R27)
  deriving DecidableEq, Repr

def LinkS.reset : LinkS := { replays := 0#64, successive := 0, failed := false, injected := false, spares := (0, 0) }

/-- Instructions of the test access port (R769). -/
inductive JtagIr where
  | bypass | idcode | samplePreload | extest | clamp | highz
  deriving DecidableEq, Repr

/-- The test access port (R769 to R772): the instruction selected and the boundary cells, one for each of the 41 lands
of R770. -/
structure JtagS where
  ir : JtagIr
  cells : BitVec 41
  deriving DecidableEq, Repr

structure SystemS where
  boot : BootState
  bootFrom : Nat              -- the origin of the running boot
  booting : Bool
  bootDue : Bool              -- a boot starts once RST_N is deasserted
  running : Option ResetKind  -- the reset of the whole package that is running (R692)
  cause : U8                  -- 2F00h:03
  boots : U32
  armedAt : Option Nat        -- recovery armed since
  wdInterval : U16
  wdAt : Nat                  -- last watchdog write
  mgpResets : U32
  mgpResetAt : List Nat       -- times of the watchdog resets, newest last
  mgpFailed : Bool
  mgp : CoreState
  sep : CoreState
  resetting : List Nat        -- islands in reset, by index
  latched : Option ResetKind  -- latched while TRIPPED (R694)
  latchedCause : U8           -- the cause it will leave at 2F00h:03
  afterBoot : Bool            -- a recovery procedure ran: RECOVERY_DONE is due at READY
  fromP3 : Bool               -- the boot follows an exit from P3
  rstN : Bool                 -- asserted
  funcs : Vector FuncS 10
  fwValid : Bool
  fwVersion : U32
  fwFloor : U16
  fwDigest : List Byte
  fwStaged : List Byte
  fwState : FwState
  fwImage : Option (List Byte) -- the image being written, or written and not yet in force
  i3cAddr : Option (BitVec 7)
  attn : Bool                 -- ATTN lit by the management bus (R711)
  snapshot : List (Nat × Nat) -- SHARED counters at the last snapshot (R639): an object's number and its value
  links : Vector LinkS 56
  jtag : JtagS
  deriving DecidableEq, Repr

def SystemS.reset : SystemS :=
  { boot := .rom, bootFrom := 0, booting := false, bootDue := false, running := none, cause := 0#8, boots := 0#32, armedAt := none, wdInterval := 500#16,
    wdAt := 0, mgpResets := 0#32, mgpResetAt := [], mgpFailed := false, mgp := .resetting, sep := .resetting,
    resetting := [], latched := none, latchedCause := 0#8, afterBoot := false, fromP3 := false, rstN := false,
    funcs := Vector.replicate 10 FuncS.reset, fwValid := true, fwVersion := 0#32, fwFloor := 0#16, fwDigest := (List.range 48).map Config.factoryDigest,
    fwStaged := [], fwState := .none, fwImage := none, i3cAddr := none, attn := false, snapshot := [],
    links := Vector.replicate 56 LinkS.reset, jtag := { ir := .bypass, cells := 0#41 } }

end Sys2Proof.Machine
end

