-- ==== Sys2Proof/Machine/State/Vxe.lean ====
section
/-! DEFINITION. The state of a vector engine (chapter 4): its 8 MiB, sheet tags and status bytes, mask planes, scalar
registers, seed and draw counters, the kernel it runs and the objects of 8500h. -/

namespace Sys2Proof.Machine

/-- VXE state codes (R163). -/
inductive VxeState where
  | idle | running | vilcon | faulted | outOfService
  deriving DecidableEq, Repr

/-- What a sheet carries beside its slots (R119): the tag (3-bit format code and INT) and the status byte. -/
structure SheetTag where
  fmt : BitVec 3
  int : Bool
  status : Byte
  deriving DecidableEq, Repr

/-- The kernel a VXE runs: its operation in the die's scoreboard, its first word, and the words done. -/
structure KernelRun where
  op : Nat
  offset : Nat
  count : Nat
  done : Nat
  deriving DecidableEq, Repr

structure VxeS where
  mem : Mem                       -- R115
  sheets : Vector SheetTag 6
  masks : Vector (BitVec 65536) 8 -- plane k, bit 256 r + c; entry 0 is never read (R123)
  xs : Vector U32 16
  seed : U32
  draws : Vector (BitVec 48) 2048
  st : VxeState
  faultWord : U16
  faultOff : U32
  retired : U64
  faults : U32
  kernel : Option KernelRun
  vilconFtz : Bool                -- the flush-to-zero control bit of R160
  deriving DecidableEq, Repr

def VxeS.reset : VxeS :=
  { mem := Mem.empty, sheets := Vector.replicate 6 { fmt := 0#3, int := false, status := 0#8 },
    masks := Vector.replicate 8 0#65536, xs := Vector.replicate 16 0#32, seed := 0#32,
    draws := Vector.replicate 2048 0#48, st := .idle, faultWord := 0#16, faultOff := 0#32, retired := 0#64,
    faults := 0#32, kernel := none, vilconFtz := false }

end Sys2Proof.Machine
end

