-- ==== Sys2Proof/Machine/State.lean ====
section
/-! DEFINITION. The whole state of the T1, the faults and refusals of a step, and the state after reset. -/

namespace Sys2Proof.Machine

/-- Why the machine stops with a fault: the spec gives every command an effect, so no command does, and there is no reason to
name. -/
inductive Fault where
  deriving DecidableEq, Repr

/-- Why a command has no meaning here. -/
inductive Refusal where
  /-- A command whose meaning is not written yet: raised by Dispatch alone. Safe. -/
  | notModelled (mnemonic : String)
  deriving DecidableEq, Repr

/-- What leaves the block: messages, cells, records, requests and bus words, oldest first. -/
inductive Output where
  | status (who : Nat) (code : Nat)                  -- the answer to a command sent as its own row
  | message (dest : Asker) (bytes : List Byte)         -- an Eumon message to a requester
  | cell (port lane : Nat) (cell : BitVec 512)       -- a cell sent on a fibre port, on a lane of its link
  | credit (port vc pool : Nat)                      -- a credit that goes back to the neighbour at a port (R414)
  | record (port : Nat) (bytes : List Byte)          -- a discovery record
  | beacon (port : Nat) (word : U32) (count : Nat)   -- a safelight word, sent so many times in a row
  | marker (lane : Nat) (word : U64) (count : Nat)   -- a lane-ID marker, sent so many times
  | notice (die mw : Nat)                            -- a trip notice to the lens chiplets of a die's field (R337)
  | rdma (window psn : Nat) (write : Bool) (addr : Nat) (bytes : List Byte) -- a RoCEv2 request; a READ carries its length
  | cnp (window : Nat)                               -- a congestion notification
  | nak (window : Nat)                               -- an invalid-request NAK
  | interrupt (unit : Nat) (channel : Nat)           -- a doorbell of the MGP or the SEP
  | bus (bytes : List Byte)                          -- an answer on the management bus
  | tdo (value : Nat)                                -- what the test access port shifts out
  | lands (driven value : BitVec 41)                 -- lands that boundary cells drive, and with what
  deriving DecidableEq, Repr

structure State where
  now : Nat
  free : Nat
  out : List Output
  pending : List Instr
  arrays : Vector ArrayS 64
  dbg : DebugS
  vxes : Vector VxeS 8
  seqs : Vector SeqS 8
  negs : Vector NegS 8
  reels : Vector ReelS 68
  watchdogs : Vector (Vector U32 5) 8
  mem : MemS
  optics : OpticsS
  ev : EventS
  eumon : EumonS
  exps : ExposureS
  sec : SecurityS
  clk : ClockS
  fabric : FabricS
  power : PowerS
  cle : CleS
  host : HostNetS
  mail : MailS
  sys : SystemS
  deriving DecidableEq, Repr

def State.reset : State :=
  { now := 0, free := 0, out := [], pending := [], arrays := Vector.replicate 64 ArrayS.reset, dbg := DebugS.reset,
    vxes := Vector.replicate 8 VxeS.reset, seqs := Vector.replicate 8 SeqS.reset,
    negs := Vector.replicate 8 NegS.reset, reels := Vector.replicate 68 ReelS.reset,
    watchdogs := Vector.replicate 8 watchdogReset, mem := MemS.reset, optics := OpticsS.reset, ev := EventS.reset,
    eumon := EumonS.reset, exps := ExposureS.reset, sec := SecurityS.reset, clk := ClockS.reset, fabric := FabricS.reset,
    power := PowerS.reset, cle := CleS.reset, host := HostNetS.reset, mail := MailS.reset, sys := SystemS.reset }

end Sys2Proof.Machine
end

