-- ==== Sys2Proof/Machine/Memory.lean ====
section
/-! DEFINITION. The named operations over addressed storage: reading and writing bytes in the canonical form, and the
storage behind each place (R115, R210, R215, R218). -/

namespace Sys2Proof.Machine

/-- A counter counts one more; past its top it holds a free value, since no rule says what it does there. -/
def bump {w : Nat} (x : BitVec w) : BitVec w :=
  if x = BitVec.allOnes w then BitVec.ofNat w (Config.ctrOver w) else x + 1

/-- A counter counts n more. -/
def bumpBy {w : Nat} (x : BitVec w) (n : Nat) : BitVec w :=
  if 2 ^ w ≤ x.toNat + n then BitVec.ofNat w (Config.ctrOver w) else x + BitVec.ofNat w n

/-- What an unlisted address reads as. -/
def memBlank (m : Mem) (a : Nat) : Byte :=
  match m.fill with
  | none => 0#8
  | some k => Config.freeByte k a

/-- One byte. -/
def cellsLoad (blank : Byte) (a : Nat) : List Host.Cell → Byte
  | [] => blank
  | (b, v) :: cs => if b = a then v else cellsLoad blank a cs

def memLoad (m : Mem) (a : Nat) : Byte := cellsLoad (memBlank m a) a m.cells

/-- `len` bytes from a list of cells none of which lies below the address. -/
def sliceFrom (blank : Nat → Byte) : Nat → Nat → List Host.Cell → List Byte
  | 0, _, _ => []
  | n + 1, a, [] => blank a :: sliceFrom blank n (a + 1) []
  | n + 1, a, (b, v) :: cs =>
    if b = a then v :: sliceFrom blank n (a + 1) cs else blank a :: sliceFrom blank n (a + 1) ((b, v) :: cs)

/-- `len` bytes from an address, lowest first. -/
def memLoadN (m : Mem) (a len : Nat) : List Byte :=
  sliceFrom (memBlank m) len a (m.cells.filter (fun c => a ≤ c.1))

/-- Bytes as cells from an address, leaving out what reads the same unlisted. -/
def cellsOf (blank : Nat → Byte) : Nat → List Byte → List Host.Cell
  | _, [] => []
  | a, v :: vs => if v = blank a then cellsOf blank (a + 1) vs else (a, v) :: cellsOf blank (a + 1) vs

/-- Write bytes from an address; the canonical form is kept. -/
def memStore (m : Mem) (a : Nat) (vs : List Byte) : Mem :=
  { m with cells := m.cells.filter (fun c => c.1 < a) ++ cellsOf (memBlank m) a vs ++
      m.cells.filter (fun c => a + vs.length ≤ c.1) }

/-- The canonical form: addresses strictly rising, and no cell equal to what its address reads as unlisted. -/
def memWf (m : Mem) : Bool :=
  decide (m.cells.Pairwise (fun x y => x.1 < y.1)) && m.cells.all (fun c => c.2 != memBlank m c.1)

/-- Everything indeterminate (R217, R218): the whole tier reads as the k-th free draw. -/
def memScramble (k : Nat) : Mem := { cells := [], fill := some k }

/-- Free bytes over a range: what a rule leaves indeterminate there. -/
def freeBytes (k a len : Nat) : List Byte := (List.range len).map (fun i => Config.freeByte k (a + i))

/-! ### Units by number -/

def arrOf (s : State) (a : Nat) : ArrayS := vget s.arrays a ArrayS.reset
def updArr (s : State) (a : Nat) (f : ArrayS → ArrayS) : State := { s with arrays := vmod s.arrays a f }
def vxeOf (s : State) (d : Nat) : VxeS := vget s.vxes d VxeS.reset
def updVxe (s : State) (d : Nat) (f : VxeS → VxeS) : State := { s with vxes := vmod s.vxes d f }
def seqOf (s : State) (d : Nat) : SeqS := vget s.seqs d SeqS.reset
def updSeq (s : State) (d : Nat) (f : SeqS → SeqS) : State := { s with seqs := vmod s.seqs d f }
def negOf (s : State) (p : Nat) : NegS := vget s.negs p NegS.reset
def updNeg (s : State) (p : Nat) (f : NegS → NegS) : State := { s with negs := vmod s.negs p f }
def reelOf (s : State) (r : Nat) : ReelS := vget s.reels r ReelS.reset
def updReel (s : State) (r : Nat) (f : ReelS → ReelS) : State := { s with reels := vmod s.reels r f }
def updMem (s : State) (f : MemS → MemS) : State := { s with mem := f s.mem }

/-- The storage of a place; a place outside the package has none here. -/
def placeMem (s : State) : Place → Mem
  | .buf a => (arrOf s a).bufs
  | .vxe d => (vxeOf s d).mem
  | .store d => vget s.mem.store d Mem.empty
  | .hbm p => vget s.mem.hbm p Mem.empty
  | .flash p => vget s.mem.flash p Mem.empty
  | .seqMem d => (seqOf s d).mem
  | _ => Mem.empty

/-- Change the storage of a place. -/
def updPlace (s : State) (pl : Place) (f : Mem → Mem) : State :=
  match pl with
  | .buf a => updArr s a (fun x => { x with bufs := f x.bufs })
  | .vxe d => updVxe s d (fun x => { x with mem := f x.mem })
  | .store d => updMem s (fun m => { m with store := vmod m.store d f })
  | .hbm p => updMem s (fun m => { m with hbm := vmod m.hbm p f })
  | .flash p => updMem s (fun m => { m with flash := vmod m.flash p f })
  | .seqMem d => updSeq s d (fun x => { x with mem := f x.mem })
  | _ => s

/-- Two ranges meet. -/
def rangesMeet (a la b lb : Nat) : Bool := decide (a < b + lb ∧ b < a + la)

/-- A write of bytes to a place: a location that is covered whole loses its uncorrectable state (R262). -/
def placeStore (s : State) (pl : Place) (a : Nat) (vs : List Byte) : State :=
  let s1 := updPlace s pl (fun m => memStore m a vs)
  updMem s1 (fun m => { m with bad := m.bad.filter (fun b =>
    !(decide (b.place = pl) && decide (a ≤ b.lo ∧ b.lo + b.len ≤ a + vs.length))) })

/-- Write runs of bytes to a place. -/
def putRuns (s : State) (pl : Place) (runs : List (Nat × List Byte)) : State :=
  runs.foldl (fun t r => placeStore t pl r.1 r.2) s

def placeLoadN (s : State) (pl : Place) (a len : Nat) : List Byte := memLoadN (placeMem s pl) a len

/-- The uncorrectable or mismatching locations that a range meets, and the first of them (R261, R224). -/
def badsIn (s : State) (pl : Place) (a len : Nat) : List BadLoc :=
  s.mem.bad.filter (fun b => decide (b.place = pl) && rangesMeet b.lo b.len a len)
def badIn (s : State) (pl : Place) (a len : Nat) : Option BadLoc := (badsIn s pl a len).head?

/-- The first bad location that a write would cover only in part (R262). -/
def badPartly (s : State) (pl : Place) (a len : Nat) : Option BadLoc :=
  s.mem.bad.find? (fun b => decide (b.place = pl) && rangesMeet b.lo b.len a len &&
    !decide (a ≤ b.lo ∧ b.lo + b.len ≤ a + len))

/-- Take a free draw. -/
def drawFree (s : State) : Nat × State := (s.free, { s with free := s.free + 1 })

/-- Make a range of a place indeterminate. -/
def scramble (s : State) (r : Region) : State :=
  let (k, s1) := drawFree s
  placeStore s1 r.place r.lo (freeBytes k r.lo r.len)

/-- Regions that meet (R192). -/
def regionsMeet (a b : Region) : Bool := decide (a.place = b.place) && rangesMeet a.lo a.len b.lo b.len

/-- Send something out of the block. -/
def emit (s : State) (o : Output) : State := { s with out := s.out ++ [o] }

end Sys2Proof.Machine
end

