-- ==== Sys2Proof/Machine/Ops.lean ====
section
/-! DEFINITION. The named operations the families share: step time, raising an event (R717 to R725), the fault list
(R731), firing an injection point (R735), and the partition that holds a unit (R605). -/

namespace Sys2Proof.Machine

/-! ### Master identities (R741) -/

def idAON : Nat := 0x00
def idMGP : Nat := 0x01
def idSEQ (d : Nat) : Nat := 0x10 + d
def idDRIVER (p : Nat) : Nat := 0x20 + p
def idDEBUG : Nat := 0x40
def idOPERATOR : Nat := 0x50
def idSECURITY : Nat := 0x51
def idCLAIM : Nat := 0x52
/-- A message outside a session carries no master identity (R550). -/
def idNone : Nat := 0xFF
/-- The partition whose driver an identity is. -/
def driverPart (who : Nat) : Option Nat := if 0x20 ≤ who ∧ who ≤ 0x27 then some (who - 0x20) else none

/-! ### Time -/

/-- Step time now, in ns (R20 of the step-time unit; object 2E00h:01). -/
def stepNow (s : State) : Nat := s.clk.stepTime.toNat

/-- What a slewing counter loses or gains over dt ns (R653): 1 ns in each 1,024 ns until the error is zero. -/
def slewBy (c : ClockS) (dt : Nat) : Nat :=
  if c.halve = 0 then min c.slew.natAbs ((c.slewPhase + dt) / 1024) else 0

/-- What a counter at half rate loses over dt ns (R654). -/
def halveBy (c : ClockS) (dt : Nat) : Nat := min c.halve ((dt + (if c.half then 1 else 0)) / 2)

/-- The step-time unit over dt ns: the counter with its slew, its half rate and its forward step (R650, R653, R654). -/
def stuElapse (c : ClockS) (dt : Nat) : ClockS :=
  let k := slewBy c dt
  let h := halveBy c dt
  let moved := c.stepTime.toNat + dt - h
  let t1 := if c.slew < 0 then moved + k else moved - k
  let slew1 : Int := if c.slew < 0 then c.slew + k else c.slew - k
  let jump : Nat := match c.forward with
    | some (b, n) => if b ≤ t1 then n else 0
    | none => 0
  let forward1 : Option (Nat × Nat) := if jump = 0 then c.forward else none
  let half1 : Bool := decide (h < c.halve) && decide ((dt + (if c.half then 1 else 0)) % 2 = 1)
  { c with
    stepTime := BitVec.ofNat 64 (t1 + jump), slew := slew1, slewPhase := (c.slewPhase + dt) % 1024
    halve := c.halve - h, half := half1, forward := forward1
    sync := if c.sync = .aligning ∧ c.halve - h = 0 ∧ forward1 = none then .locked else c.sync }

/-! ### Partitions (R605) -/

/-- The partition that holds a die, none when the map reads FFh. -/
def partOfDie (s : State) (d : Nat) : Option Nat :=
  let p := (vget s.sec.partMap d 0xFF#8).toNat
  if p < 8 then some p else none

/-- The partition byte of an event: FFh for a shared unit. -/
def partByte : Option Nat → U8
  | some p => BitVec.ofNat 8 p
  | none => 0xFF#8

/-- The die that a unit of R721 belongs to, none for a unit of the whole package. -/
def dieOfUnit (ukind uinst : Nat) : Option Nat :=
  match ukind with
  | 0x01 => some (uinst / 8)
  | 0x02 => some uinst
  | 0x03 => some uinst
  | 0x04 => if uinst < 64 then some (uinst / 8) else none
  | 0x05 => some (uinst / 384)
  | 0x06 => some (uinst / 32)
  | 0x07 => some (uinst / 64)
  | 0x0E => if uinst < 8 then some uinst else if uinst < 24 then some ((uinst - 8) / 2)
            else if uinst < 40 then some ((uinst - 24) / 2) else none
  | 0x0F => if uinst < 80 then some (uinst / 10) else if 104 ≤ uinst ∧ uinst < 120 then some ((uinst - 104) / 2) else none
  | 0x10 => if uinst < 768 then some (uinst / 96) else if uinst < 832 then some ((uinst - 768) / 8) else none
  | 0x11 =>
    if 16 ≤ uinst ∧ uinst < 96 then some ((uinst - 16) / 10)
    else if 120 ≤ uinst ∧ uinst < 136 then some ((uinst - 120) / 2)
    else if 136 ≤ uinst ∧ uinst < 144 then some (uinst - 136)
    else if 144 ≤ uinst ∧ uinst < 176 then some ((uinst - 144) / 4)
    else none
  | _ => none

/-- The partition that holds a unit (R605): its die's, a window's owner, or a group slot's owner; none for a shared unit. -/
def partOfUnit (s : State) (ukind uinst : Nat) : Option Nat :=
  let owned (o : U8) : Option Nat := if o.toNat < 8 then some o.toNat else none
  match ukind with
  | 0x13 => owned (vget s.host.windows uinst WindowS.reset).owner
  | 0x14 => owned (vget s.cle.groups uinst GroupSlot.reset).owner
  | _ => (dieOfUnit ukind uinst).bind (partOfDie s)

/-! ### Events -/

/-- Unit kinds (R721). -/
def ukPACKAGE : Nat := 0x00
def ukARRAY : Nat := 0x01
def ukVXE : Nat := 0x02
def ukSEQ : Nat := 0x03
def ukREEL : Nat := 0x04
def ukSRAM : Nat := 0x05
def ukREGION : Nat := 0x06
def ukCHANNEL : Nat := 0x07
def ukFLASH : Nat := 0x08
def ukENGINE : Nat := 0x09
def ukLANE : Nat := 0x0A
def ukPORT : Nat := 0x0B
def ukCHIPLET : Nat := 0x0C
def ukCLELANE : Nat := 0x0D
def ukLINK : Nat := 0x0E
def ukISLAND : Nat := 0x0F
def ukSENSOR : Nat := 0x10
def ukREGULATOR : Nat := 0x11
def ukHOSTPORT : Nat := 0x12
def ukWINDOW : Nat := 0x13
def ukGROUP : Nat := 0x14

/-- The class of an event code (R717, R718). -/
def eventClass (c : Nat) : Nat :=
  if c ∈ [0x01, 0x05, 0x08, 0x40, 0x41, 0x44, 0x73, 0xB1] then 2
  else if c ∈ [0x30, 0x31, 0x32, 0x72, 0x84] then 3
  else if c ∈ [0x02, 0x03, 0x06, 0x07, 0x09, 0x3A, 0x42, 0x74, 0xA9, 0xAA, 0xB2] ∨ (0x33 ≤ c ∧ c ≤ 0x38) then 4
  else if c ∈ [0xA6, 0xA7, 0xA8] then 5
  else 0

/-- An entry with the same CODE, UKIND, UINST, DETAIL and INJ made within the last 10 ms takes the new one in (R722). Time is
the package's own, which a step of the step time does not move. -/
def mergesWith (t code uk ui det : Nat) (inj : Bool) (e : Event) : Bool :=
  decide (e.code.toNat = code ∧ e.ukind.toNat = uk ∧ e.uinst.toNat = ui ∧ e.detail.toNat = det ∧ e.inj = inj ∧
    t ≤ e.born + 10000000)

/-- Where events of a PART count: partitions 0 to 7, then shared units. -/
def partSlot (part : Option Nat) : Nat := min (part.getD 8) 8

/-- One occurrence into the record: merged (R722), or a new newest entry that may displace the oldest (R723). -/
def record (s : State) (code uk ui det : Nat) (inj : Bool) (part : Option Nat) : State :=
  let t := stepNow s
  let ev := s.ev
  let counts := vmod ev.counts code bump
  let by_ := vmod ev.countsBy (partSlot part) (fun v => vmod v code bump)
  if ev.record.any (mergesWith s.now code uk ui det inj) then
    { s with ev := { ev with counts := counts, countsBy := by_, record := ev.record.map (fun e =>
        if mergesWith s.now code uk ui det inj e then { e with repeats := min (e.repeats + 1) 0xFFFF } else e) } }
  else
    let e : Event :=
      { seq := ev.nextSeq + 1, time := BitVec.ofNat 64 t, code := BitVec.ofNat 8 code,
        tunset := decide (s.clk.sync = .unset), inj := inj, ukind := BitVec.ofNat 8 uk, uinst := BitVec.ofNat 12 ui,
        part := partByte part, repeats := 1, detail := BitVec.ofNat 64 det,
        read := false, born := s.now }
    let full : Bool := decide (4096 ≤ ev.record.length)
    let unread : Bool := match ev.record.head? with
      | some h => full && !h.read
      | none => false
    { s with ev := { ev with
        record := keepLast 4096 (ev.record ++ [e]), nextSeq := ev.nextSeq + 1, counts := counts,
        countsBy := by_, made := vmod ev.made (partSlot part) (fun n => n + 1),
        lost := if unread then bump ev.lost else ev.lost,
        lostSince := if unread then ev.lostSince + 1 else ev.lostSince } }

/-- EVENTS_LOST, at most once a second, with the count lost in DETAIL (R723). -/
def reportLost (s : State) : State :=
  let due : Bool := match s.ev.lostRaisedAt with
    | none => true
    | some t => decide (t + 1000000000 ≤ s.now)
  if 0 < s.ev.lostSince ∧ due = true then
    let n := s.ev.lostSince
    record { s with ev := { s.ev with lostSince := 0, lostRaisedAt := some s.now } } 0x10 ukPACKAGE 0 n false none
  else s

/-- Raise an event for a unit, with the partition named (R720, R721). -/
def raiseP (s : State) (code uk ui det : Nat) (inj : Bool) (part : Option Nat) : State :=
  reportLost (record s code uk ui det inj part)

/-- Raise an event for a unit; PART is the partition that holds the unit (R720). -/
def raise (s : State) (code uk ui det : Nat) (inj : Bool := false) : State :=
  raiseP s code uk ui det inj (partOfUnit s uk ui)

/-- Name what the detection being served is: injected or genuine (R737). -/
def setCause (s : State) (inj : Bool) : State := { s with ev := { s.ev with injCause := inj } }

/-- GUARANTEE_DOWNGRADED for one partition (R747): ranks kept and broken, and the case; with INJ where an injected
detection caused it (R737). -/
def downgrade (s : State) (p kept broken case_ : Nat) : State :=
  raiseP s 0x0A ukPACKAGE 0 (kept + 16 * broken + 256 * case_) s.ev.injCause (some p)

/-! ### Islands (R21, R22) -/

/-- The clock of an island runs: it is not in reset, the throttle fraction of its die is not 0 for an MXA or VXE island
(R668, R671), no MXA island is power-gated (R677), and the compute dies are not off. A transfer with an island whose clock stands waits (R22). -/
def islandRuns (s : State) (i : Nat) : Bool :=
  !s.sys.resetting.contains i &&
  (decide (80 ≤ i) || decide (s.power.st ≠ .p2) && (decide (i % 10 = 9) ||
    (decide ((vget s.power.dies (i / 10) DiePowerS.reset).frac ≠ 0#8) &&
      (decide (i % 10 = 8) || decide (s.power.st = .p0)))))

/-- The island of an array (R645). -/
def arrIsland (a : Nat) : Nat := 10 * (a / 8) + a % 8

/-! ### The fault list (R731, R732) -/

def onFaultList (s : State) (uk ui : Nat) : Bool :=
  s.ev.faults.any (fun f => decide (f.ukind.toNat = uk ∧ f.uinst.toNat = ui))

/-- Put a unit on the fault list, once; it leaves service at the next exposure (R731). -/
def addFault (s : State) (uk ui code : Nat) (inj : Bool) : State :=
  if onFaultList s uk ui then s
  else { s with ev := { s.ev with faults := s.ev.faults ++
      [{ ukind := BitVec.ofNat 8 uk, uinst := BitVec.ofNat 12 ui, code := BitVec.ofNat 8 code,
         time := BitVec.ofNat 64 (stepNow s), inj := inj, leaves := true }] } }

/-! ### Injection points (R733 to R737) -/

def pointTarget (p : InjPoint) (uk ui : Nat) : Bool :=
  p.armed && decide (bits p.target.toNat 7 0 = uk ∧ bits p.target.toNat 19 8 = ui)

/-- LOC of a point's target. -/
def pointLoc (p : InjPoint) : Nat := bits p.target.toNat 51 20

/-- The armed point d of a unit fires at the target's opportunity (R735): LOC and PERSIST, none when none is armed. -/
def injArmed (s : State) (d uk ui : Nat) : Option (Nat × Bool) :=
  let p := vget s.ev.points d InjPoint.reset
  if pointTarget p uk ui then some (pointLoc p, decide (p.mode.toNat = 3)) else none

/-- The point has fired: ONCE and PERSIST return to IDLE, REPEAT stays armed (R735). -/
def injFired (s : State) (d : Nat) : State :=
  { s with ev := { s.ev with points := vmod s.ev.points d (fun p =>
      { p with fired := bump p.fired, armed := decide (p.mode.toNat = 2) }) } }

end Sys2Proof.Machine
end

