-- ==== Sys2Proof/Machine/SeqCore.lean ====
section
/-! DEFINITION. The die's scoreboard (R189 to R192): the regions an operation reads and writes, issue, start and
completion, step failure (R202), and the end of a step (R201). -/

namespace Sys2Proof.Machine

/-! ### Where an address lies -/

/-- The board position of R783, none for a package that has none. -/
def boardPos (s : State) : Option Nat :=
  if s.fabric.member.toNat < 0x2000 then some (s.fabric.member.toNat % 4)
  else if s.fabric.member.toNat < 0x2100 ∧ s.fabric.assumed.toNat < 0x2000 then some (s.fabric.assumed.toNat % 4)
  else none

/-- An address names the package that runs the move (R211, R783). -/
def addrOwn (s : State) (a : Addr) : Bool :=
  a.self || (match boardPos s with
    | some p => decide (p = a.pkg)
    | none => false)

/-- A tier as a number. -/
def tierNum : Tier → Nat
  | .hbm => 0 | .store => 1 | .loc => 2 | .flash => 3 | .host => 4

/-- The place an address names, for a move of a partition (R212, R213). -/
def addrPlace (s : State) (part : Nat) (a : Addr) : Place :=
  if addrOwn s a then
    match a.tier with
    | .hbm => .hbm a.unit
    | .store => .store a.unit
    | .loc => if a.unit % 16 = 8 then .vxe (a.unit / 16) else .buf (8 * (a.unit / 16) + a.unit % 16)
    | .flash => .flash part
    | .host => .host a.unit
  else .board a.pkg (tierNum a.tier) a.unit

/-! ### Regions (R192) -/

def slotRegion (arr q n : Nat) : Region := { place := .buf arr, lo := 131072 * q, len := 131072 * n }
def sheetRegion (die k : Nat) : Region := { place := .vxe die, lo := 0x40000 * k, len := 0x40000 }
def tableRegion (die q : Nat) : Region := { place := .vxe die, lo := 0x180000 + 0x10000 * q, len := 0x10000 }
def stagingRegion (die : Nat) : Region := { place := .vxe die, lo := 0x200000, len := 0x600000 }
def maskRegion (die k : Nat) : Region := { place := .mask die, lo := k, len := 1 }
def scalRegion (die k : Nat) : Region := { place := .scal die, lo := k, len := 1 }

/-- Slots of the stationary operand (R788). -/
def statSlots (f : PassF) : Nat :=
  if f.dot then rowBlocks f * f.chunks * chunkTiles f * tileSlots f.sfmt
  else f.chunks * chunkTiles f * tileSlots f.sfmt
/-- Slots of the streamed operand (R788). -/
def strmSlots (f : PassF) : Nat := rowBlocks f * f.chunks * chunkTiles f * tileSlots f.qfmt
/-- Slots of the destination when DEST = 01b (R788, R65). -/
def destSlots (f : PassF) : Nat := if f.dot then tileSlots f.ofmt else rowBlocks f * tileSlots f.ofmt

def passParkRegion (arr : Nat) (f : PassF) (park : Nat) : Region :=
  { place := .buf arr, lo := 131072 * park, len := parkBytes f * parkRecords f }

def passReads (die a : Nat) (w : BitVec 64) (stat strm park : Nat) : List Region :=
  let f := passF w
  let arr := 8 * die + a
  [slotRegion arr strm (strmSlots f), slotRegion arr stat (statSlots f)] ++
    (if f.start then [passParkRegion arr f park] else [])

/-- What a pass writes: its park area where it parks, and its destination, which a requested drain writes whatever END
says (R62, R93). -/
def passWrites (die a : Nat) (w : BitVec 64) (park : Nat) : List Region :=
  let f := passF w
  let arr := 8 * die + a
  (if f.park then [passParkRegion arr f park] else []) ++
  [if f.dest = 0 then sheetRegion die f.dsheet else slotRegion arr f.dslot (destSlots f)]

def srcRegion (die code scal : Nat) : Region := if code = 6 then scalRegion die scal else sheetRegion die code

/-- What one VXE instruction reads (R125, R149, R158). -/
def vxeReads (die : Nat) (w : BitVec 64) : List Region :=
  let f := vxeF w
  if f.op = 0x70 then [sheetRegion die (vilconF w).ws, maskRegion die 7, stagingRegion die]
  else
    (if usesA f.op then [srcRegion die f.sa f.scal] else []) ++
    (if usesB f.op then [srcRegion die f.sb f.scal] else []) ++
    (if usesC f.op then [srcRegion die f.sc f.scal] else []) ++
    (if opMask f.op then maskRegion die f.sa :: (if f.op = 0x2B then [] else [maskRegion die f.sb]) else []) ++
    (if f.op = 0x2C then [stagingRegion die, scalRegion die f.scal] else []) ++
    (if f.op = 0x2D then [maskRegion die f.sa, scalRegion die f.scal] else []) ++
    (if f.msk ≠ 0 then [maskRegion die f.msk] else []) ++
    (if opScan f.op ∧ f.seg ≠ 0 then [maskRegion die f.seg] else []) ++
    (if opTable f.op then [tableRegion die (2 * f.tpair + (if f.op = 0x51 then 1 else 0))] else []) ++
    (if opOpt f.op then sheetRegion die f.dst :: ([0, 1, 2, 3, 4, 5, 6, 7].map (scalRegion die)) else [])

/-- What one VXE instruction writes. -/
def vxeWrites (die : Nat) (w : BitVec 64) : List Region :=
  let f := vxeF w
  if f.op = 0x70 then [sheetRegion die (vilconF w).ws, maskRegion die 7, stagingRegion die]
  else
    (if writesSheet f.op then [sheetRegion die f.dst] else []) ++
    (if opCompare f.op || opMask f.op || f.op == 0x2C then [maskRegion die f.dst] else []) ++
    (if f.op = 0x2D then [stagingRegion die] else []) ++
    (if f.op = 0x60 then [sheetRegion die f.sb, sheetRegion die f.sc] else []) ++
    (if f.op = 0x61 then [sheetRegion die f.sb] else [])

/-- The words of a kernel, from the die's KERNELS section. -/
def kernelWords (s : State) (die off count : Nat) : List (BitVec 64) :=
  let q := seqOf s die
  (List.range count).map (fun i => BitVec.ofNat 64 (leNat (memLoadN q.mem (q.kernBase + off + 8 * i) 8)))

/-- A descriptor of the die's DESCRIPTORS section (R233). -/
def descAt (s : State) (die i : Nat) : BitVec 512 :=
  let q := seqOf s die
  BitVec.ofNat 512 (leNat (memLoadN q.mem (q.descBase + 64 * i) 64))

/-- A collective entry descriptor of the die's COLLECTIVES section, by number (R458). -/
def collAt (s : State) (die i : Nat) : BitVec 512 :=
  let q := seqOf s die
  BitVec.ofNat 512 (leNat (memLoadN q.mem (q.collBase + 2048 + 64 * i) 64))

/-- A group table entry of the die's COLLECTIVES section (R458). -/
def groupAt (s : State) (die g : Nat) : BitVec 256 :=
  let q := seqOf s die
  BitVec.ofNat 256 (leNat (memLoadN q.mem (q.collBase + 32 * g) 32))

/-- The range of one tile (R236) as a region; an address no tier has gives none. -/
def tileRegion (s : State) (part addr lay efmt pitch : Nat) : List Region :=
  match addrF addr with
  | none => []
  | some a => [{ place := addrPlace s part a, lo := a.off, len := tileSpan lay efmt pitch }]

/-- Address of tile i: base, stride and the addition of R191 (R236). -/
def tileAddr (base stride add i : Nat) : Nat := (base + add + i * stride) % 2 ^ 64

/-- The status bytes of a move's tiles, where it reads or writes them (R236). -/
def statRegions (s : State) (part : Nat) (f : DescF) (used : Bool) : List Region :=
  if used then (List.range f.nt).flatMap (fun i => match addrF (f.stat + i) with
    | some a => [{ place := addrPlace s part a, lo := a.off, len := 1 }]
    | none => []) else []

def moveReads (s : State) (part : Nat) (d : BitVec 512) (srcAdd : Nat) : List Region :=
  let f := descF d
  if f.kind = 0 ∨ f.kind = 1 then
    (List.range f.nt).flatMap (fun i => tileRegion s part (tileAddr f.src f.sstride srcAdd i) f.slay f.efmt f.spitch) ++
    statRegions s part f f.statr
  else statRegions s part f f.statr

def moveWrites (s : State) (part : Nat) (d : BitVec 512) (dstAdd : Nat) : List Region :=
  let f := descF d
  (if f.kind = 1 then []
   else (List.range f.nt).flatMap (fun i => tileRegion s part (tileAddr f.dst f.dstride dstAdd i) f.dlay f.efmt f.dpitch)) ++
  statRegions s part f f.statw

/-! ### The negative a die runs -/

/-- The partition whose negative a die is running (R176: RUNNING, STOPPING or SUSPENDING). -/
def runningNeg (s : State) (die : Nat) : Option Nat :=
  match partOfDie s die with
  | none => none
  | some p =>
    let n := negOf s p
    if n.dieMask.toNat.testBit die ∧ (n.state = .running ∨ n.state = .stopping ∨ n.state = .suspending) then some p
    else none

/-- The dies of a partition's negative. -/
def negDies (s : State) (p : Nat) : List Nat := setBits 8 (negOf s p).dieMask.toNat

/-- Make a region indeterminate, mask planes among them (R202). -/
def scrambleAny (s : State) (r : Region) : State :=
  match r.place with
  | .mask d =>
    let (k, s1) := drawFree s
    updVxe s1 d (fun v => { v with masks := vset v.masks r.lo (BitVec.ofNat 65536 (Config.freeNat k)) })
  | _ => scramble s r

/-- A die that issues nothing more for its negative: it has failed, or its sequencer has left service (R202, R261). -/
def dieStopped (q : SeqS) : Bool := decide (q.st = .failed ∨ q.st = .outOfService)

/-- When every die of a failing negative has stopped and none of its issued operations is left, the negative enters
FAILED, and the regions the failed step wrote are indeterminate (R202). -/
def settleNeg (s : State) (p : Nat) : State :=
  let n := negOf s p
  if (n.state = .running ∨ n.state = .stopping ∨ n.state = .suspending) ∧
      (negDies s p).all (fun d => dieStopped (seqOf s d) && (seqOf s d).ops.isEmpty) = true ∧
      (negDies s p) ≠ [] then
    let regs := (negDies s p).flatMap (fun d => (seqOf s d).stepWrites)
    let s1 := regs.foldl scrambleAny s
    let s2 := (negDies s p).foldl (fun t d => updSeq t d (fun q => { q with stepWrites := [] })) s1
    updNeg s2 p (fun n => { n with state := .failed })
  else s

/-- A die stops issuing with a reason: what it has not started is withdrawn (R202). -/
def stopDie (reason : Nat) (q : SeqS) : SeqS :=
  if dieStopped q then q
  else { q with st := .failed, fail := BitVec.ofNat 8 reason, hold := .none, ops := q.ops.filter (fun o => o.started) }

/-- The moves of a die's reels that have not started and whose operation has left the scoreboard leave their queues. -/
def withdrawMoves (s : State) (die : Nat) : State :=
  (List.range 8).foldl (fun t r => updReel t (8 * die + r) (fun x =>
    let left := x.queue.filter (fun m => m.started || (seqOf s die).ops.any (fun o => decide (o.id = m.op)))
    { x with queue := left, st := if x.st ≠ .outOfService ∧ left.isEmpty = true then .idle else x.st })) s

/-- A die stops with a reason, and the moves it has not started are withdrawn with their operations (R202). -/
def haltIssue (s : State) (die reason : Nat) : State := withdrawMoves (updSeq s die (stopDie reason)) die

/-- Fail reasons (R203). -/
def frVXE : Nat := 1
def frARRAY : Nat := 2
def frTIER : Nat := 3
def frLINK : Nat := 4
def frCOLL : Nat := 5
def frUNIT : Nat := 6
def frPEER : Nat := 7

/-- An operation of a die has ended in a fault (R202): the die stops with the reason, the negative's other dies stop
with PEER_DIE, and the negative enters FAILED once their issued operations are done. `withheld`: the case
DATA_WITHHELD of R747 applies. -/
def failStep (s : State) (die reason : Nat) (withheld : Bool) : State :=
  match runningNeg s die with
  | none => if (seqOf s die).st = .suspended then haltIssue (setCause s false) die reason else setCause s false
  | some p =>
    let s0 := if withheld && !dieStopped (seqOf s die) then downgrade s p 3 5 5 else s
    let s1 := haltIssue (setCause s0 false) die reason
    let s2 := (negDies s1 p).foldl (fun t d => if d = die then t else haltIssue t d frPEER) s1
    settleNeg s2 p

/-! ### Operations -/

/-- The unit whose queue an operation waits in. -/
def opUnit : OpBody → Nat × Nat
  | .pass a .. => (0, a)
  | .kernel .. => (1, 0)
  | .move r .. => (2, r)
  | .coll .. => (3, 0)

/-- Queue depths (R190). -/
def queueDepth : OpBody → Nat
  | .pass .. => 4
  | .kernel .. => 4
  | .move .. => 16
  | .coll .. => 8

/-- There is room for one more operation in its unit's queue and within the limit of 64 (R190). An operation keeps its
place in the queue while it runs (DESIGN CHOICE, log entry 74). -/
def hasRoom (q : SeqS) (b : OpBody) : Bool :=
  decide (q.ops.length < 64) && decide ((q.ops.filter (fun o => opUnit o.body = opUnit b)).length < queueDepth b)

/-- An earlier operation holds a later one (R192). -/
def holdsOp (e o : OpRec) : Bool :=
  e.writes.any (fun a => (o.reads ++ o.writes).any (regionsMeet a)) || e.reads.any (fun a => o.writes.any (regionsMeet a))

/-- An operation of one unit stands before another: each unit starts its queue in issue order (R190). A collective call
that has been registered lets the next one register: every group takes its calls one after the other (R467). -/
def standsBefore (e o : OpRec) : Bool :=
  decide (opUnit e.body = opUnit o.body) && !(decide ((opUnit o.body).1 = 3) && e.started)

/-- An operation may start: no earlier one holds it (R192), and none of its unit stands before it (R190). -/
def clearToStart (earlier : List OpRec) (o : OpRec) : Bool := earlier.all (fun e => !holdsOp e o && !standsBefore e o)

/-- The pass record an array starts with. -/
def newPass (w : BitVec 64) (stat strm park op : Nat) : PassRun :=
  { word := w, statSlot := stat, strmSlot := strm, parkSlot := park, op := op, at_ := 0, runStart := 0,
    d := 0#48, open_ := false, fresh := false, poisoned := none, reruns := [], tiles := [], loads := true }

/-- The stationary bytes of a pass. -/
def bankOf (arr : ArrayS) (f : PassF) (stat : Nat) : Bank :=
  { sfmt := f.sfmt, str := f.str, chunks := f.chunks, brk := f.brk,
    img := memStore Mem.empty 0 (memLoadN arr.bufs (131072 * stat) (131072 * statSlots f)) }

/-- The bank that an array holds from its last pass, where R790 lets this one use it. -/
def keptBank (arr : ArrayS) (f : PassF) : Option Bank :=
  arr.bank.filter (fun b =>
    f.keep && decide (b.sfmt = f.sfmt ∧ b.str = f.str ∧ b.chunks = f.chunks ∧ b.brk = f.brk))

/-- The bank a pass computes from: the one kept, else one loaded from its own slots; a dot-mode pass streams its
stationary source and leaves no bank. -/
def bankFor (arr : ArrayS) (f : PassF) (stat : Nat) : Option Bank :=
  if f.dot then none else some ((keptBank arr f).getD (bankOf arr f stat))

/-- The array takes a pass. One that uses the bank kept loads nothing (R62). -/
def beginPass (w : BitVec 64) (stat strm park op : Nat) (a : ArrayS) : ArrayS :=
  { a with st := if a.halt = .running then .running else a.st,
           pass := some { newPass w stat strm park op with loads := (passF w).dot || (keptBank a (passF w)).isNone },
           bank := bankFor a (passF w) stat }

/-- An array can take its next pass now: it holds none and runs no proof run (R730); a debug halt keeps it (R109). -/
def arrayFree (a : ArrayS) : Bool := a.pass.isNone && !a.proofRun && decide (a.halt = .running)

/-- The array of a die takes its next pass: it is free, and its island's clock runs (R22). -/
def arrayTakes (s : State) (die a : Nat) : Bool :=
  arrayFree (arrOf s (8 * die + a)) && islandRuns s (arrIsland (8 * die + a))

/-- An operation of a die's scoreboard that a unit of it waits to take. -/
def waits (s : State) (die : Nat) (unit : Nat × Nat) : Bool :=
  (seqOf s die).ops.any (fun o => !o.started && decide (opUnit o.body = unit))

/-- What 8400h:02 shows (R106): RUNNING from the issue of a pass on. -/
def arrShown (s : State) (arr : Nat) : ArrState :=
  if (arrOf s arr).st = .idle ∧ waits s (arr / 8) (0, arr % 8) = true then .running else (arrOf s arr).st

/-- The next word of the kernel that a VXE runs. -/
def nextWord (s : State) (die : Nat) : Option (BitVec 64) :=
  match (vxeOf s die).kernel with
  | some k => if k.done < k.count then (kernelWords s die (k.offset + 8 * k.done) 1).head? else none
  | none => none

/-- What 8500h:02 shows (R163): no kernel is issued or running in IDLE, so a kernel that waits in the VXE's queue shows as
RUNNING; a kernel whose next word is a VILCON shows as VILCON. -/
def vxeShown (s : State) (die : Nat) : VxeState :=
  match (vxeOf s die).st with
  | .idle => if waits s die (1, 0) then .running else .idle
  | .running => if (nextWord s die).any (fun w => decide (field w 7 0 = 0x70)) then .vilcon else .running
  | x => x

/-- The VXE of a die takes its next kernel: it runs none, and its island's clock runs. -/
def vxeTakes (s : State) (die : Nat) : Bool :=
  (vxeOf s die).kernel.isNone && decide ((vxeOf s die).st ≠ .vilcon) && islandRuns s (10 * die + 8)

/-- Drop an operation and count its completion (R188, R189): a counter holds at FFFFh. -/
def incrCtr (v : Vector U16 32) (c : Nat) : Vector U16 32 := vmod v c (fun x => if x = 0xFFFF#16 then x else x + 1#16)

/-- What a saved context holds, as numbers. -/
def ctxNums (c : SeqCtx) : List Nat :=
  let frame (f : CallFrame) : List Nat := match f with
    | .call r => [0, r]
    | .sched p => [1, p.s, p.stages, p.m, p.fwd, p.bwd, p.calls, p.ret]
  [c.pc.toNat, c.mb.toNat, c.steps.toNat, c.prefetch, c.loops.length, c.calls.length] ++ c.ctrs.toList.map (fun x => x.toNat) ++
    (c.loops.map (fun l => [l.start, l.left])).flatten ++ (c.calls.map frame).flatten

/-- The context image at 8600h:05 (R204, R205): 4,096 bytes whose layout no rule gives. -/
def ctxBytes (c : SeqCtx) : List Byte := (List.range 4096).map (Config.ctxImageByte (ctxNums c))

/-- The context that a written image spells. -/
def ctxOfBytes (img : List Byte) : SeqCtx :=
  let n (i : Nat) : Nat := Config.ctxOfImage img i
  { pc := BitVec.ofNat 32 (n 0), mb := BitVec.ofNat 16 (n 1), steps := BitVec.ofNat 64 (n 2), prefetch := n 3,
    ctrs := Vector.ofFn (fun i : Fin 32 => BitVec.ofNat 16 (n (6 + i.val))),
    loops := (List.range (n 4 % 9)).map (fun i => { start := n (38 + 2 * i), left := n (39 + 2 * i) }),
    calls := (List.range (n 5 % 9)).map (fun i =>
      if n (56 + 8 * i) % 2 = 0 then CallFrame.call (n (57 + 8 * i))
      else .sched { s := n (57 + 8 * i), stages := n (58 + 8 * i), m := n (59 + 8 * i), fwd := n (60 + 8 * i), bwd := n (61 + 8 * i),
                    calls := n (62 + 8 * i), ret := n (63 + 8 * i) }) }

/-- The saved context as it stands: the one the driver has written over it, where there is one (R205). -/
def savedCtx (q : SeqS) : Option SeqCtx :=
  match q.ctxImage with
  | some img => some (ctxOfBytes img)
  | none => q.ctx

def finishOp (o : OpRec) (q : SeqS) : SeqS :=
  let q1 := { q with ops := q.ops.filter (fun x => x.id ≠ o.id) }
  if o.sige then
    if q1.st = .suspended then
      { q1 with ctx := (savedCtx q1).map (fun c => { c with ctrs := incrCtr c.ctrs o.sigc }), ctxImage := none }
    else { q1 with ctrs := incrCtr q1.ctrs o.sigc }
  else q1

/-- Mark an operation started; what it writes counts to the step (R202). -/
def markStarted (o : OpRec) (q : SeqS) : SeqS :=
  { q with ops := q.ops.map (fun x => if x.id = o.id then { x with started := true } else x),
           stepWrites := q.stepWrites ++ o.writes }

/-- Withdraw an operation. -/
def dropOp (id : Nat) (q : SeqS) : SeqS := { q with ops := q.ops.filter (fun x => x.id ≠ id) }

/-- The VXE starts a kernel: fault word and offset are cleared, and it leaves FAULTED (R133). -/
def beginKernel (op off n : Nat) (v : VxeS) : VxeS :=
  { v with st := .running, faultWord := 0#16, faultOff := 0#32,
           kernel := some { op := op, offset := off, count := n, done := 0 } }

/-- A reel takes a move of a die: its watchdog limits are those of this moment (R257). -/
def beginMove (die op seqno now : Nat) (lim : Vector U32 5) (x : ReelS) : ReelS :=
  { x with
    st := .moving
    queue := x.queue.map (fun m =>
      if m.op = op ∧ m.die = die then { m with started := true, limits := lim, seqno := seqno, rtsAt := now, since := now } else m) }

/-- One more move has started. -/
def countMove (s : State) : State := updMem s (fun m => { m with moves := m.moves + 1 })

/-- The slot of family 9200h that a group of a die's negative occupies (R462). -/
def groupSlotOf (s : State) (die g : Nat) : Option Nat :=
  (partOfDie s die).bind (fun p => (negOf s p).groups[g]?)

def slotOf (s : State) (i : Nat) : GroupSlot := vget s.cle.groups i GroupSlot.reset
def updSlot (s : State) (i : Nat) (f : GroupSlot → GroupSlot) : State :=
  { s with cle := { s.cle with groups := vmod s.cle.groups i f } }

/-- The CLE registers a die's COLL on its group (R467). -/
def registerColl (s : State) (die g desc op : Nat) : State :=
  match groupSlotOf s die g with
  | some i => updSlot s i (fun x => { x with regs := x.regs ++ [{ die := die, desc := desc, op := op }] })
  | none => s

/-- Start one operation whose turn it is: the unit takes it (R190), or the step fails where the unit takes none
(R789, R184). -/
def startOp (s : State) (die : Nat) (o : OpRec) : State :=
  match o.body with
  | .pass a w stat strm park =>
    let arr := arrOf s (8 * die + a)
    if arr.st = .faulted then failStep (updSeq s die (dropOp o.id)) die frARRAY true
    else if arr.st = .outOfService then failStep (updSeq s die (dropOp o.id)) die frUNIT false
    else if arrayTakes s die a then
      updSeq (updArr s (8 * die + a) (beginPass w stat strm park o.id)) die (markStarted o)
    else s
  | .kernel off n =>
    let v := vxeOf s die
    if v.st = .outOfService then failStep (updSeq s die (dropOp o.id)) die frUNIT false
    else if vxeTakes s die then
      updSeq (updVxe s die (beginKernel o.id off n)) die (markStarted o)
    else s
  | .move r _ _ _ =>
    let reel := 8 * die + r
    if (reelOf s reel).st = .outOfService then failStep (updSeq s die (dropOp o.id)) die frUNIT false
    else
      let lim := vget s.watchdogs ((partOfDie s die).getD 8) watchdogReset
      updSeq (updReel (countMove s) reel (beginMove die o.id s.mem.moves s.now lim)) die (markStarted o)
  | .coll g d => registerColl (updSeq s die (markStarted o)) die g d o.id

/-- Start, in issue order, every operation of a die whose turn has come. A suspended die starts none (R205). -/
def startReady (s : State) (die : Nat) : State :=
  if (seqOf s die).st = .suspended then s else
  (List.range (seqOf s die).ops.length).foldl (fun t _ =>
    let ops := (seqOf t die).ops
    match (List.range ops.length).find? (fun i => match ops[i]? with
        | some o => !o.started && clearToStart (ops.take i) o &&
            (match o.body with
             | .pass a .. => arrayTakes t die a || decide ((arrOf t (8 * die + a)).st = .faulted) ||
                 decide ((arrOf t (8 * die + a)).st = .outOfService)
             | .kernel .. => vxeTakes t die || decide ((vxeOf t die).st = .outOfService)
             | _ => true)
        | none => false) with
    | some i => match ops[i]? with
        | some o => startOp t die o
        | none => t
    | none => t) s

/-- The operations that waited for a stopped clock start once it runs again (R22, R668). -/
def startAll (s : State) : State := (List.range 8).foldl startReady s

/-- The moves a MOVE puts into its reel's queue (R239). -/
def moveOf (s : State) (die desc srcAdd dstAdd id : Nat) : Move :=
  { desc := descAt s die desc, srcAdd := srcAdd, dstAdd := dstAdd, owner := idSEQ die,
    part := (partOfDie s die).getD 0xFF, die := die, op := id, started := false, limits := watchdogReset,
    phase := .waiting, flow := 0, rtsAt := s.now, seqno := 0,
    tile := 0, since := s.now, access := none, parts := [] }

/-- The regions of an operation; a collective call's come with its descriptor. -/
def bodyReads (s : State) (die : Nat) (collR : List Region) : OpBody → List Region
  | .pass a w stat strm park => passReads die a w stat strm park
  | .kernel off n => (kernelWords s die off n).flatMap (vxeReads die)
  | .move _ d sa _ => moveReads s ((partOfDie s die).getD 0xFF) (descAt s die d) sa
  | .coll _ _ => collR
def bodyWrites (s : State) (die : Nat) (collW : List Region) : OpBody → List Region
  | .pass a w _ _ park => passWrites die a w park
  | .kernel off n => (kernelWords s die off n).flatMap (vxeWrites die)
  | .move _ d _ da => moveWrites s ((partOfDie s die).getD 0xFF) (descAt s die d) da
  | .coll _ _ => collW

/-- Put an operation on the scoreboard and into its unit's queue, and start what can start (R190, R192). -/
def issueOp (s : State) (die : Nat) (b : OpBody) (collR collW : List Region) (sigc : Nat) (sige : Bool) : State :=
  let q := seqOf s die
  let o : OpRec :=
    { id := q.nextOp, body := b, reads := bodyReads s die collR b, writes := bodyWrites s die collW b,
      sigc := sigc, sige := sige, started := false }
  let s1 := updSeq s die (fun q => { q with ops := q.ops ++ [o], nextOp := q.nextOp + 1 })
  let s2 := match b with
    | .move r d sa da => updReel s1 (8 * die + r) (fun x =>
        { x with queue := x.queue ++ [moveOf s die d sa da o.id], st := if x.st = .idle then .waiting else x.st })
    | _ => s1
  startReady s2 die

/-- All dies of a negative have stopped after a STEPEND or reached HALT: it enters ADMITTED (R177). -/
def checkStopped (s : State) (p : Nat) : State :=
  let n := negOf s p
  let dies := negDies s p
  let halted := dies.all (fun d => (seqOf s d).halted)
  let stopped := dies.all (fun d => (seqOf s d).halted || (seqOf s d).stopped)
  if ((n.state = .running ∨ n.state = .stopping) ∧ halted = true) ∨ (n.state = .stopping ∧ stopped = true) then
    updNeg s p (fun n => { n with state := .admitted })
  else s

/-- The step count advances, and issue goes on past the STEPEND, or stops there for a STOP (R201). -/
def stepDone (stopping : Bool) (q : SeqS) : SeqS :=
  { q with pc := q.pc + 16#32, steps := bump q.steps, hold := .none, stepWrites := [], stopped := stopping,
           st := if stopping then .idle else if q.st = .stalled then .running else q.st }

/-- Every operation that the die has issued has completed, a withdrawn RECV among them (R201, R244). -/
def nothingOut (q : SeqS) : Bool := q.ops.isEmpty && q.withdrawn.isEmpty

/-- A step ends (R201): the count advances, and a STOP takes effect. -/
def endStep (s : State) (die : Nat) : State :=
  let stopping : Bool := match partOfDie s die with
    | some p => decide ((negOf s p).state = .stopping) && (negOf s p).dieMask.toNat.testBit die
    | none => false
  let s1 := updSeq s die (stepDone stopping)
  match partOfDie s die with
  | some p => checkStopped s1 p
  | none => s1

/-- The address under which a member takes part in the job (R460, R394): its own, or the one it has assumed. -/
def jobAddress (s : State) : Nat := if s.fabric.assumed ≠ 0xFFFF#16 then s.fabric.assumed.toNat else s.fabric.member.toNat

/-- A member's coordinate in a group or axis: its address bits in DIMS, the lowest dimension least (R389, R460). -/
def coordOf (dims addr : Nat) : Nat :=
  leNatBits ((setBits 13 dims).map (fun d => addr.testBit d))

/-- The rank of a die in a group: DMASK bits below it (R460). -/
def dieRank (dmask die : Nat) : Nat := (setBits 8 dmask).countP (fun k => decide (k < die))

/-- A range at a board address as a region. -/
def addrRegion (s : State) (part addr len : Nat) : List Region :=
  match addrF addr with
  | none => []
  | some a => if len = 0 then [] else [{ place := addrPlace s part a, lo := a.off, len := len }]

/-- The regions of a collective call at a die: its source, destination, map and scratch buffers, the park records of a
NORM, and the register that it loads (R465, R466, R486, R490). -/
def collRegions (s : State) (die group desc : Nat) : List Region × List Region :=
  let f := collF (collAt s die desc)
  let g := groupF (groupAt s die group)
  let part := (partOfDie s die).getD 0xFF
  let n := f.count
  let sb := elemBytes f.sfmt
  let ranks := 2 ^ (setBits 13 g.dims).length * (setBits 8 g.dmask).length
  let scr := addrRegion s part f.scratch f.scrlen
  let src := fun len => addrRegion s part f.src len
  let dst := fun len => addrRegion s part f.dst len
  match f.op with
  | 1 => (src (n * sb), dst (n * elemBytes f.dfmt) ++ scr)
  | 2 => (src (n * sb), dst (n / ranks * elemBytes f.dfmt) ++ scr)
  | 3 => (src (n * sb), dst (n * ranks * sb))
  | 4 =>
    let rank := coordOf g.dims (jobAddress s) * (setBits 8 g.dmask).length + dieRank g.dmask die
    (if rank = f.root then src (n * sb) else [], if f.dst = 0 then [] else dst (n * sb))
  | 5 => ((setBits 8 f.parkMask).map (fun a => { place := .buf (8 * die + a), lo := 131072 * f.pslot, len := 136 }),
      dst 16 ++ (if f.xen then [scalRegion die f.xreg] else []))
  | 6 => (src (n * sb) ++ addrRegion s part f.aux (8 * (n / f.blk)), dst (n * sb) ++ scr)
  | 7 => (src (n * sb), dst (n * sb))
  | _ => ([], [])

/-- The operation that a PASS, KERNEL, MOVE or COLL issues (R187, R191). -/
def bodyOf (s : State) (die : Nat) (f : SeqF) : Option OpBody :=
  match f.cls with
  | 3 => some (.pass (f.unit % 8) (BitVec.ofNat 64 f.arg1) (bits f.arg0 5 0) (bits f.arg0 11 6) (bits f.arg0 17 12))
  | 4 => some (.kernel f.arg0 (bits f.arg1 31 0))
  | 5 =>
    let add := (seqOf s die).mb.toNat * bits f.arg1 31 0
    some (.move (f.unit % 8) f.arg0 (if f.arg1.testBit 32 then add else 0) (if f.arg1.testBit 33 then add else 0))
  | 6 => some (.coll f.unit f.arg0)
  | _ => none

/-- SETX waits for every outstanding operation that reads or writes X(UNIT) (R192 over the scalars of R124). -/
def setxClear (q : SeqS) (die x : Nat) : Bool :=
  q.ops.all (fun o => (o.reads ++ o.writes).all (fun r => !regionsMeet r (scalRegion die x)))

/-- The next instruction's place (R186: 16 bytes). -/
def pcNext (q : SeqS) : SeqS := { q with pc := q.pc + 16#32 }

/-- Issue holds on an instruction. -/
def holdIssue (w : Issue) (q : SeqS) : SeqS := { q with hold := .issue w, st := .stalled }
def unhold (q : SeqS) : SeqS := { q with hold := .none, st := if q.st = .stalled then .running else q.st }

/-- Issue one instruction of those that may hold (R190): PASS, KERNEL, MOVE, COLL and SETX. -/
def issueWord (s : State) (die : Nat) (w : Issue) : State :=
  match w with
  | .op b sigc sige =>
    if hasRoom (seqOf s die) b then
      let (cr, cw) := match b with
        | .coll g d => collRegions s die g d
        | _ => ([], [])
      issueOp (updSeq s die (fun q => pcNext (unhold q))) die b cr cw sigc sige
    else updSeq s die (holdIssue w)
  | .setx x v =>
    if setxClear (seqOf s die) die x then
      updVxe (updSeq s die (fun q => pcNext (unhold q))) die (fun y => { y with xs := vset y.xs x v })
    else updSeq s die (holdIssue w)

/-- A die issues nothing: it runs no negative, the negative is suspending, or its program has halted or stopped (R177,
R205). -/
def issueStopped (s : State) (die : Nat) : Bool :=
  (match runningNeg s die with
   | some p => decide ((negOf s p).state = .suspending) || (seqOf s die).halted || (seqOf s die).stopped
   | none => true)

/-- A sequencer instruction can issue now: the die runs its negative's program, and nothing holds issue (R177, R190). -/
def canIssue (s : State) (die : Nat) : Bool :=
  decide ((seqOf s die).st = .running) && decide ((seqOf s die).hold = .none) && !issueStopped s die

/-- After an operation of a die has left the scoreboard: start what can start, issue what was held, end a step that
waited (R190, R192, R201), and settle a failing negative (R202). -/
def afterOps (s : State) (die : Nat) : State :=
  let s1 := startReady s die
  let s2 := match (seqOf s1 die).hold with
    | .issue w => if issueStopped s1 die then s1 else issueWord s1 die w
    | .stepEnd => if nothingOut (seqOf s1 die) ∧ (seqOf s1 die).st = .stalled then endStep s1 die else s1
    | _ => s1
  match partOfDie s2 die with
  | some p => settleNeg s2 p
  | none => s2

/-- An operation completes (R189). -/
def completeOp (s : State) (die id : Nat) : State :=
  match (seqOf s die).ops.find? (fun o => o.id = id) with
  | some o => afterOps (updSeq s die (finishOp o)) die
  | none => s

/-- An operation ends in a fault: it leaves the scoreboard and the step fails (R202). -/
def abortOp (s : State) (die id reason : Nat) (withheld : Bool) : State :=
  afterOps (failStep (updSeq s die (dropOp id)) die reason withheld) die

end Sys2Proof.Machine
end

