-- ==== Sys2Proof/Machine/Repair.lean ====
section
/-! DEFINITION. Detection, proof runs and the repair ladders (chapters 7 and 18): where an address lies in its tier,
what a detection counts and starts (R263, R265, R727, R728), and each rung of the HBM, store, flash and SRAM ladders. -/

namespace Sys2Proof.Machine

/-! ### Where an address lies -/

def chanOf (s : State) (c : Nat) : ChanS := vget s.mem.chans c ChanS.reset
def updChan (s : State) (c : Nat) (f : ChanS → ChanS) : State := updMem s (fun m => { m with chans := vmod m.chans c f })
def regOf (s : State) (r : Nat) : RegionS := vget s.mem.regions r RegionS.reset
def updReg (s : State) (r : Nat) (f : RegionS → RegionS) : State := updMem s (fun m => { m with regions := vmod m.regions r f })
def pairOf (s : State) (k : Nat) : PairS := vget s.mem.pairs k PairS.reset
def updPair (s : State) (k : Nat) (f : PairS → PairS) : State := updMem s (fun m => { m with pairs := vmod m.pairs k f })
def flashOf (s : State) (i : Nat) : FlashS := vget s.mem.flashes i FlashS.reset
def updFlash (s : State) (i : Nat) (f : FlashS → FlashS) : State := updMem s (fun m => { m with flashes := vmod m.flashes i f })

/-- The ordered list of a pair's channels in service, as numbers 0 to 63 of the pair (R215). -/
def pairList (s : State) (k : Nat) : List Nat :=
  (List.range 64).filter (fun i => decide ((chanOf s (64 * k + i)).st ≠ .mappedOut))

/-- The size of a pair's space: 3,968 MiB per channel in service (R215). -/
def pairBytes (s : State) (k : Nat) : Nat := (pairList s k).length * (3968 * 1048576)

/-- The channel (0 to 511) and channel-local unit of a pair offset (R215). -/
def unitOf (s : State) (k off : Nat) : Option (Nat × Nat) :=
  let l := pairList s k
  let u := off / 4096
  if l.length = 0 then none else (l[u % l.length]?).map (fun i => (64 * k + i, u / l.length))

/-- The page of pair space that holds a channel-local unit (R281), with the channel given within the pair. -/
def pageOf (s : State) (k : Nat) (r : UnitRec) : Option Nat :=
  let l := pairList s k
  match findIdxFrom (fun i => decide (i = r.chan)) 0 l with
  | some (i, _) => some ((r.unit * l.length + i) / 16)
  | none => none

/-- The retired pages of a pair (R281). -/
def retiredPages (s : State) (k : Nat) : List Nat := ((pairOf s k).retired.filterMap (pageOf s k)).eraseDups

/-- The first retired page of a pair that a range reaches (R280). -/
def retiredIn (s : State) (k off len : Nat) : Option Nat :=
  (retiredPages s k).find? (fun p => rangesMeet (65536 * p) 65536 off len)

/-- An access to a retired page raises its event, which names the page and the channel of the first byte there (R253, R280). -/
def raiseRetiredIn (s : State) (k off len : Nat) : State :=
  match retiredIn s k off len with
  | some p => raise s 0x32 ukCHANNEL (((unitOf s k (max off (65536 * p))).map (fun q => q.1)).getD (64 * k)) (Config.detail 0x32 p 0 0)
  | none => s

/-- The regions of a store die in service, in physical order (R218). -/
def storeList (s : State) (d : Nat) : List Nat :=
  (List.range 32).filter (fun j => decide ((regOf s (32 * d + j)).st ≠ .mappedOut))
def storeBytes (s : State) (d : Nat) : Nat := (storeList s d).length * 33554432

/-- Region (0 to 255), bank and row of a logical store offset (R218, and the organisation before R288). -/
def storePlace (s : State) (d off : Nat) : Option (Nat × Nat × Nat) :=
  (storeList s d)[off / 33554432]?.map (fun j =>
    (32 * d + j, off % 33554432 / 2097152, off % 2097152 / 1024))

/-- The flash stack and block where a sector of a partition stands now: that of Config.flashPlace, or where relocations have
taken its sectors (R291). -/
def flashAt (s : State) (p sector : Nat) : Nat × Nat :=
  let h := Config.flashPlace p sector
  let b := h.2 % 262144
  (h.1 % 2, (lookupNat b (flashOf s (h.1 % 2)).places).getD b)

/-- The slice that holds an offset of a place, where the place is storage of this package (R263, R721). -/
def sliceAt (s : State) (pl : Place) (off : Nat) : Option Slice :=
  match pl with
  | .buf a => some (.sram (a / 8) (32 * (a % 8) + off / 262144))
  | .vxe d => some (.sram d (256 + off / 262144))
  | .seqMem d => some (.sram d (288 + off / 262144))
  | .store d => (storePlace s d off).map (fun p => .storeBank p.1 p.2.1 p.2.2)
  | .hbm k => (unitOf s k off).map (fun p => .hbmRow p.1 (p.2 % 16) (p.2 / 16))
  | .flash p => let h := flashAt s p (off / 4096); some (.flashBlock h.1 h.2)
  | _ => none

/-- Two slices are the same one: a store bank is one slice whichever row met the error (R263). -/
def sameSlice : Slice → Slice → Bool
  | .storeBank r b _, .storeBank r' b' _ => decide (r = r' ∧ b = b')
  | a, b => decide (a = b)

/-- The unit an event names for a slice (R721). -/
def sliceUnit : Slice → Nat × Nat
  | .sram d m => (ukSRAM, 384 * d + m)
  | .storeBank r _ _ => (ukREGION, r)
  | .hbmRow c _ _ => (ukCHANNEL, c)
  | .flashBlock k _ => (ukFLASH, k)
  | .array a => (ukARRAY, a)
  | .cleLane i => (ukCLELANE, i)
  | .lane l => (ukLANE, l)

/-- The proof-run kind (R726). -/
def sliceKind : Slice → Nat
  | .sram .. => 1 | .storeBank .. => 2 | .hbmRow .. => 3 | .flashBlock .. => 4
  | .array .. => 5 | .cleLane .. => 6 | .lane .. => 7

/-- The tester that runs a slice's proof run (R727): base die, store die, a die's SRAM, flash, array, CLE, engine. -/
def sliceTester : Slice → Nat × Nat
  | .sram d _ => (1, d) | .storeBank r _ _ => (2, r / 32) | .hbmRow c _ _ => (3, c / 32)
  | .flashBlock .. => (4, 0) | .array a => (5, a) | .cleLane _ => (6, 0) | .lane l => (7, l / 16)

/-! ### Queueing a proof run -/

/-- A detection asks for a proof run of its slice: none when one is queued or running (R265); when the tester's queue
is full, the slice counts as failed, which `onFull` carries out (R728). -/
def enqueueProof (onFull : State → State) (s : State) (sl : Slice) (inj persist : Bool) : State :=
  if s.ev.proofs.any (fun p => sameSlice p.slice sl) then s
  else if 256 ≤ (s.ev.proofs.filter (fun p => sliceTester p.slice = sliceTester sl)).length then
    let (uk, ui) := sliceUnit sl
    onFull (raise (raise s 0x09 uk ui (sliceKind sl) inj) 0x02 uk ui (sliceKind sl) inj)
  else { s with ev := { s.ev with proofs := s.ev.proofs ++
    [{ slice := sl, at_ := s.now, inj := inj, persist := persist, running := false }] } }

/-! ### Units that stop -/

/-- A declared unit of a negative is lost (R184): a running step fails first, and the negative enters FAILED. -/
def loseUnit (s : State) (p die : Nat) : State :=
  let n := negOf s p
  match n.state with
  | .empty => s
  | .checking => s
  | .running | .stopping | .suspending =>
    failStep (updNeg s p (fun n => { n with unitLost := true })) die frUNIT false
  | _ => updNeg s p (fun n => { n with state := .failed, unitLost := true })

/-- An array stops in FAULTED: the pass it ran ends and its step fails with ARRAY_FAULT (R101, R261). -/
def faultArray (s : State) (a : Nat) (macro_ : Option Nat) : State :=
  let arr := arrOf s a
  let s1 := updArr s a (fun x => { x with st := .faulted, pass := none, drainReq := false, bufFault := macro_ })
  match arr.pass with
  | some p => abortOp s1 (a / 8) p.op frARRAY true
  | none => s1

/-- A lasting fault of an array (R101, R730, R786). -/
def lastingArray (s : State) (a : Nat) (inj : Bool) : State :=
  addFault (raise (setCause (faultArray (setCause s inj) a none) false) 0x06 ukARRAY a 0 inj) ukARRAY a 0x06 inj

/-- The VXE stops in FAULTED: its kernel ends and the step fails with VXE_FAULT (R132, R261). -/
def faultVxe (s : State) (d : Nat) : State :=
  let v := vxeOf s d
  let s1 := updVxe s d (fun v => { v with st := .faulted, faults := bump v.faults, kernel := none })
  match v.kernel with
  | some k => abortOp s1 d k.op frVXE false
  | none => failStep s1 d frVXE false

/-- What a sequencer that leaves service keeps: the operations that run on in their units. -/
def seqLeaves (macro_ : Option Nat) (q : SeqS) : SeqS :=
  { q with st := .outOfService, hold := .none, ops := q.ops.filter (fun o => o.started), lostFor := macro_ }

/-- A sequencer leaves service (R261, R786): the negative that uses it enters FAILED with UNIT_LOST once its issued
operations are done (R184, R202). -/
def loseSequencer (s : State) (d : Nat) (macro_ : Option Nat) : State :=
  let s1 := match partOfDie s d with
    | some p => if (negOf s p).dieMask.toNat.testBit d then loseUnit s p d else s
    | none => s
  let s2 := withdrawMoves (updSeq s1 d (seqLeaves macro_)) d
  match partOfDie s2 d with
  | some p => settleNeg s2 p
  | none => s2

/-- A local SRAM macro has a lasting fault: the unit that holds it leaves service (R786). -/
def sramFails (s : State) (d m : Nat) (inj : Bool) : State :=
  if m < 256 then addFault (faultArray s (8 * d + m / 32) none) ukARRAY (8 * d + m / 32) 0x02 inj
  else if m < 288 then addFault (faultVxe s d) ukVXE d 0x02 inj
  else addFault (loseSequencer s d none) ukSEQ d 0x02 inj

/-! ### The HBM ladder -/

/-- The lowest spare row of a bank that is neither mapped nor retired. -/
def freeSpare (total : Nat) (maps : List RowMap) (dead : List HeldRow) (bank : Nat) : Option Nat :=
  (List.range total).find? (fun k => !(maps.any (fun m => decide (m.bank = bank ∧ m.spare = k))) &&
    !(dead.any (fun h => decide (h.bank = bank ∧ h.row = k))))

/-- A channel becomes MAPOUT_PENDING (R284, R285). -/
def chanPending (s : State) (c : Nat) : State :=
  if (chanOf s c).st = .inService then
    raise (updChan s c (fun x => { x with st := .mapoutPending, pendingAt := stepNow s })) 0x37 ukCHANNEL c 0
  else s

/-- The spare a row stands on, when it is mapped. -/
def rowMapped (maps : List RowMap) (bank row : Nat) : Option RowMap :=
  maps.find? (fun m => decide (m.bank = bank ∧ m.row = row))

/-- A row of an HBM channel fails its proof run (R274 to R277). -/
def hbmDataRowFails (s : State) (c bank row : Nat) : State :=
  let det := Config.detail 0x33 bank row
  let s1 := match rowMapped (chanOf s c).maps bank row with
    | some m => raise (updChan s c (fun x => { x with
        maps := x.maps.filter (fun y => decide (y ≠ m)),
        deadSpares := x.deadSpares ++ [{ bank := bank, row := m.spare }] })) 0x34 ukCHANNEL c (det m.spare)
    | none => s
  match freeSpare 32 (chanOf s1 c).maps (chanOf s1 c).deadSpares bank with
  | some k => raise (updChan s1 c (fun x => { x with
      maps := x.maps ++ [{ bank := bank, row := row, spare := k }],
      spareUsed := bump x.spareUsed })) 0x33 ukCHANNEL c (det k)
  | none =>
    let u : UnitRec := { chan := c % 64, unit := 16 * row + bank }
    let page := (pageOf s1 (c / 64) u).getD 0
    let s2 := updChan s1 c (fun x => { x with
      held := if x.held.contains { bank := bank, row := row } then x.held else x.held ++ [{ bank := bank, row := row }] })
    if (retiredPages s2 (c / 64)).contains page then s2
    else
      let s3 := updPair s2 (c / 64) (fun p => { p with
        pending := if p.pending.contains u then p.pending else p.pending ++ [u] })
      raise s3 0x36 ukCHANNEL c (Config.detail 0x36 page 0 0)

/-- Rows of data of an HBM bank, and of a store bank; a slice names spare row k as the row that many further on. -/
def hbmDataRows : Nat := 63488
def storeDataRows : Nat := 2048

/-- An HBM row fails its proof run: one of data; a spare row in use, which is the row that stands on it (R275); or a spare row
not in use, which is never used again. -/
def hbmRowFails (s : State) (c bank row : Nat) : State :=
  if row < hbmDataRows then hbmDataRowFails s c bank row
  else
    let k := row - hbmDataRows
    match (chanOf s c).maps.find? (fun m => decide (m.bank = bank ∧ m.spare = k)) with
    | some m => hbmDataRowFails s c bank m.row
    | none => raise (updChan s c (fun x => { x with
        deadSpares := x.deadSpares ++ [{ bank := bank, row := k }], spareUsed := bump x.spareUsed })) 0x34 ukCHANNEL c (Config.detail 0x33 bank row k)

/-! ### The store ladder -/

/-- The bank a row of a region stands in: the spare bank, numbered 16, when its bank is mapped to it (R289). -/
def effBank (r : RegionS) (bank : Nat) : Nat := if r.spareBank = some bank then 16 else bank

/-- A region becomes MAPOUT_PENDING (R290). -/
def regionPending (s : State) (r : Nat) : State :=
  if (regOf s r).st = .inService then
    raise (updReg s r (fun x => { x with st := .mapoutPending, pendingAt := stepNow s })) 0x37 ukREGION r 0
  else s

/-- A row of a store bank fails its proof run (R288 to R290, R277). -/
def storeDataRowFails (s : State) (r bank0 row : Nat) : State :=
  let bank := effBank (regOf s r) bank0
  let det := Config.detail 0x33 bank row
  let s1 := match rowMapped (regOf s r).maps bank row with
    | some m => raise (updReg s r (fun x => { x with
        maps := x.maps.filter (fun y => decide (y ≠ m)),
        deadSpares := x.deadSpares ++ [{ bank := bank, row := m.spare }] })) 0x34 ukREGION r (det m.spare)
    | none => s
  match freeSpare 16 (regOf s1 r).maps (regOf s1 r).deadSpares bank with
  | some k => raise (updReg s1 r (fun x => { x with
      maps := x.maps ++ [{ bank := bank, row := row, spare := k }],
      spareUsed := bump x.spareUsed })) 0x33 ukREGION r (det k)
  | none =>
    if bank ≠ 16 ∧ (regOf s1 r).spareBank = none then
      raise (updReg s1 r (fun x => { x with spareBank := some bank0 })) 0x35 ukREGION r (Config.detail 0x35 bank0 0 0)
    else
      regionPending (updReg s1 r (fun x => { x with
        held := if x.held.contains { bank := bank, row := row } then x.held else x.held ++ [{ bank := bank, row := row }] })) r

/-- A store row fails its proof run: of data, or a spare row, in use or not (R288). -/
def storeRowFails (s : State) (r bank row : Nat) : State :=
  if row < storeDataRows then storeDataRowFails s r bank row
  else
    let k := row - storeDataRows
    match (regOf s r).maps.find? (fun m => decide (m.bank = bank ∧ m.spare = k)) with
    | some m => storeDataRowFails s r bank m.row
    | none => raise (updReg s r (fun x => { x with
        deadSpares := x.deadSpares ++ [{ bank := bank, row := k }], spareUsed := bump x.spareUsed })) 0x34 ukREGION r (Config.detail 0x33 bank row k)

/-! ### Flash -/

/-- Spare blocks of the whole pool (R296). -/
def flashPool (s : State) : Nat := (flashOf s 0).spare.toNat + (flashOf s 1).spare.toNat
/-- The pool's state code (R296): 0 NORMAL, 1 WEAR_LOW, 2 READ_ONLY. -/
def flashState (s : State) : Nat :=
  if flashPool s ≤ 8192 then 2 else if flashPool s ≤ 28672 then 1 else 0

def blockRec (f : FlashS) (b : Nat) : BlockRec :=
  (lookupNat b f.blocks).getD { soft := 0, erases := f.floor, retired := false, due := false, written := 0 }
def setBlock (f : FlashS) (b : Nat) (r : BlockRec) : FlashS := { f with blocks := assignNat b r f.blocks }

/-- Erase counts over the blocks of a stack that are in use, as its objects give them (R301). -/
def eraseMeans (f : FlashS) : FlashS :=
  let used := f.blocks.filter (fun b => !b.2.retired)
  let rest := 262144 - f.blocks.length
  { f with
    meanErase := BitVec.ofNat 32 (((used.map (fun b => b.2.erases)).sum + rest * f.floor) / (rest + used.length))
    maxErase := BitVec.ofNat 32 ((used.map (fun b => b.2.erases)).foldl max f.floor) }

/-- The least erase count that a stack's controller leaves standing: 150 below the highest, which keeps every block in use
within 150 of the mean (R294). -/
def eraseFloor (f : FlashS) : Nat :=
  ((f.blocks.filter (fun b => !b.2.retired)).map (fun b => b.2.erases)).foldl max f.floor - 150

/-- The controller erases cold blocks until the counts are level again (R294). -/
def levelFlash (f : FlashS) : FlashS :=
  let lo := eraseFloor f
  eraseMeans { f with
    floor := max f.floor lo
    blocks := f.blocks.map (fun b => (b.1, if b.2.retired then b.2 else { b.2 with erases := max b.2.erases lo })) }

/-- Some block in use stands further below the highest count than R294 allows. -/
def unlevel (f : FlashS) : Bool :=
  decide (f.floor < eraseFloor f) || f.blocks.any (fun b => !b.2.retired && decide (b.2.erases < eraseFloor f))

/-- One block is erased, and the stack's counts are held level (R294). -/
def eraseBlock (s : State) (st b : Nat) : State :=
  let s1 := updFlash s st (fun f => setBlock f b { blockRec f b with erases := (blockRec f b).erases + 1 })
  if unlevel (flashOf s1 st) then
    let (k, s2) := drawFree s1
    updFlash s2 st (fun f => { levelFlash f with wearBytes := bumpBy f.wearBytes (Config.levelBytes k) })
  else updFlash s1 st eraseMeans

/-- One block leaves the spare pool: of the stack's own share while it has one, then of the other stack's (R293, R296). -/
def takeSpare (s : State) (st : Nat) : State :=
  if (flashOf s st).spare ≠ 0#32 then updFlash s st (fun f => { f with spare := f.spare - 1#32 })
  else if (flashOf s (1 - st)).spare ≠ 0#32 then updFlash s (1 - st) (fun f => { f with spare := f.spare - 1#32 })
  else s

/-- Retire a block (R293): one block leaves the pool, and the pool's state may fall (R296). -/
def retireBlock (s : State) (st b : Nat) : State :=
  if (blockRec (flashOf s st) b).retired then s
  else
    let before := flashState s
    let s1 := updFlash (takeSpare s st) st (fun f =>
      { setBlock f b { blockRec f b with retired := true, due := false } with retired := bump f.retired })
    let s2 := raise s1 0x3A ukFLASH st (Config.detail 0x3A b 0 0)
    if before < 1 ∧ flashState s2 = 1 then raise s2 0x3B ukFLASH st 0
    else if before < 2 ∧ flashState s2 = 2 then raise s2 0x3C ukFLASH st 0
    else s2

/-! ### Detection -/

/-- What a memory slice's failed proof run does (R268, R786); an injected failure takes a tier slice down no rung (R737). -/
def memSliceFails (s : State) (sl : Slice) (inj : Bool) : State :=
  match sl with
  | .sram d m => sramFails s d m inj
  | .storeBank r b row => if inj then s else storeRowFails s r b row
  | .hbmRow c b row => if inj then s else hbmRowFails s c b row
  | .flashBlock st b => if inj then s else retireBlock s st b
  | _ => s

/-- What DETAIL names of a slice beside its unit (R297): bank and row, or block. -/
def slicePart : Slice → Nat × Nat
  | .storeBank _ b row => (b, row)
  | .hbmRow _ b row => (b, row)
  | .flashBlock _ b => (b, 0)
  | .sram _ m => (m, 0)
  | _ => (0, 0)

/-- Start on the proof run of a memory slice (R263). -/
def startMemProof (s : State) (sl : Slice) (inj persist : Bool) : State :=
  enqueueProof (fun t => memSliceFails t sl inj) s sl inj persist

/-- Kinds of detection in a tier. -/
inductive ErrKind where
  | corrected | uncorrectable | integrity
  deriving DecidableEq, Repr

/-- The unit a tier protects: a 64-bit word, a 64-byte line or 512-byte granule, a 4 KiB sector (R258, R222). -/
def protectedUnit (pl : Place) (k : ErrKind) : Nat :=
  match pl with
  | .hbm _ => if k = .integrity then 512 else 64
  | .flash _ => 4096
  | _ => 8

/-- Count a detection against its unit (R298, R299). -/
def countError (s : State) (sl : Slice) (k : ErrKind) : State :=
  match sl, k with
  | .hbmRow c _ _, .corrected => updChan s c (fun x => { x with corrected := bump x.corrected })
  | .hbmRow c _ _, .uncorrectable => updChan s c (fun x => { x with uncorr := bump x.uncorr })
  | .hbmRow c _ _, .integrity => updChan s c (fun x => { x with integ := bump x.integ })
  | .storeBank r _ _, .corrected => updReg s r (fun x => { x with corrected := bump x.corrected })
  | .storeBank r _ _, .uncorrectable => updReg s r (fun x => { x with uncorr := bump x.uncorr })
  | _, _ => s

/-- An error met at an offset of a place: counted, reported, its location kept bad unless corrected, and a proof run of
its slice asked for (R260 to R263, R292). A flash block is due for relocation, which its proof run waits for. -/
def detectError (s : State) (pl : Place) (off : Nat) (k : ErrKind) (inj persist : Bool) : State :=
  match sliceAt s pl off with
  | none => s
  | some sl =>
    let (uk, ui) := sliceUnit sl
    let s1 := countError s sl k
    let w := protectedUnit pl k
    let s2 := match k with
      | .corrected => s1
      | .uncorrectable => raise s1 0x30 uk ui (Config.detail 0x30 off (slicePart sl).1 (slicePart sl).2) inj
      | .integrity => raise s1 0x31 uk ui (Config.detail 0x31 off (slicePart sl).1 (slicePart sl).2) inj
    let s3 := if k = .corrected ∨ inj then s2
      else updMem s2 (fun m => { m with bad := m.bad ++
        [{ place := pl, lo := off / w * w, len := w, integrity := decide (k = .integrity) }] })
    let s4 := match sl with
      | .flashBlock k b => updFlash s3 k (fun f => setBlock f b { blockRec f b with due := true })
      | _ => s3
    startMemProof s4 sl inj persist

/-! ### What a reader meets -/

/-- The injection point of a place's code, and the units of a range with an offset in each (R733). -/
def injUnits (s : State) (pl : Place) (off len : Nat) : List (Nat × Nat × Nat × Nat) :=
  match pl with
  | .buf a => (List.range 32).filterMap (fun j =>
      if rangesMeet (262144 * j) 262144 off len then some (0, ukSRAM, 384 * (a / 8) + 32 * (a % 8) + j, max off (262144 * j)) else none)
  | .vxe d => (List.range 32).filterMap (fun j =>
      if rangesMeet (262144 * j) 262144 off len then some (0, ukSRAM, 384 * d + 256 + j, max off (262144 * j)) else none)
  | .seqMem d => (List.range 96).filterMap (fun j =>
      if rangesMeet (262144 * j) 262144 off len then some (0, ukSRAM, 384 * d + 288 + j, max off (262144 * j)) else none)
  | .store d => (List.range ((off + len - 1) / 33554432 + 1 - off / 33554432)).filterMap (fun i =>
      let o := max off ((off / 33554432 + i) * 33554432)
      (storePlace s d o).map (fun p => (1, ukREGION, p.1, o)))
  | .hbm k => (List.range (min 64 ((off + len - 1) / 4096 + 1 - off / 4096))).flatMap (fun i =>
      let o := max off ((off / 4096 + i) * 4096)
      match unitOf s k o with
      | some p => [(2, ukCHANNEL, p.1, o), (3, ukCHANNEL, p.1, o)]
      | none => [])
  | .flash p => [(4, ukFLASH, (flashAt s p (off / 4096)).1, off)]
  | _ => []

/-- What an injection makes its detector see (R733), with the number of a free draw: none for what the code corrects without
a proof run. -/
def injKind (draw d loc : Nat) : Option ErrKind :=
  match d with
  | 0 | 1 => some (if loc % 2 = 0 then .corrected else .uncorrectable)
  | 2 => some (if loc % 16 ≤ 3 then .corrected else if loc % 16 ≤ 5 then .uncorrectable
      else if Config.rsCaught draw then .uncorrectable else .integrity)
  | 3 => some .integrity
  | _ => none

/-- Fire the armed points of a range, in order; the first that withholds data ends the read. -/
def fireReads (pl : Place) : List (Nat × Nat × Nat × Nat) → State → State × Option (Nat × ErrKind)
  | [], s => (s, none)
  | (d, uk, ui, o) :: rest, s =>
    match injArmed s d uk ui with
    | none => fireReads pl rest s
    | some (loc, _) =>
      let (k, s0) := drawFree s
      let s1 := injFired s0 d
      match injKind k d loc with
      | none => fireReads pl rest s1
      | some .corrected => fireReads pl rest (detectError s1 pl o .corrected true false)
      | some k => (setCause (detectError s1 pl o k true false) true, some (o, k))

/-- The macro of its die that holds an offset of a place of local SRAM (R721). -/
def macroOf (pl : Place) (off : Nat) : Nat :=
  match pl with
  | .buf a => 32 * (a % 8) + off / 262144
  | .vxe _ => 256 + off / 262144
  | _ => 288 + off / 262144

/-- What a read that checks no tags observes. -/
def eccOnly : ReadObs → ReadObs
  | .integrity _ => .clean
  | x => x

/-- A location known bad is met again: counted and reported, and its slice's proof run is asked for (R265). -/
def redetect (s : State) (pl : Place) (off : Nat) (k : ErrKind) : State :=
  let s1 := detectError s pl off k false false
  updMem s1 (fun m => { m with bad := s.mem.bad })

/-- A read of a range, with or without the check of granule tags (R270): the observed error of the operand, then the
locations known bad, then injections. The offset and kind of what withholds the data, if anything does (R261). -/
def readChecked (tags : Bool) (s : State) (pl : Place) (off len : Nat) (rd : ReadObs) : State × Option (Nat × ErrKind) :=
  match (if tags then rd else eccOnly rd) with
  | .uncorrectable o => (detectError s pl o .uncorrectable false false, some (o, .uncorrectable))
  | .integrity o => (detectError s pl o .integrity false false, some (o, .integrity))
  | _ =>
    let s1 := match rd with
      | .corrected o => detectError s pl o .corrected false false
      | _ => s
    match (badsIn s1 pl off len).find? (fun b => tags || !b.integrity) with
    | some b =>
      let k : ErrKind := if b.integrity then .integrity else .uncorrectable
      (redetect s1 pl b.lo k, some (b.lo, k))
    | none => fireReads pl ((injUnits s1 pl off len).filter (fun u => tags || decide (u.1 ≠ 3))) s1

def readCheck (s : State) (pl : Place) (off len : Nat) (rd : ReadObs) : State × Option (Nat × ErrKind) := readChecked true s pl off len rd

/-- A read of ranges, in order; the first error ends it. The operand's observation stands for the whole of it. -/
def readRuns (pl : Place) : List (Nat × Nat) → ReadObs → State → State × Option (Nat × ErrKind)
  | [], _, s => (s, none)
  | (o, n) :: rest, rd, s =>
    match readCheck s pl o n rd with
    | (s1, none) => readRuns pl rest .clean s1
    | x => x

end Sys2Proof.Machine
end

