-- ==== Sys2Proof/Machine/Fetch.lean ====
section
/-! DEFINITION. How a sequencer comes by an instruction (R186, R190): the words it reads from its memory to issue one, and
what an uncorrectable word there does (R261). A command of the sequencer's own instructions acts only where PROGRAM holds
that instruction at the place issue has come to. -/

namespace Sys2Proof.Machine

/-- The instruction at an offset of PROGRAM, which is the first section of a sequencer's memory (R170, R186). -/
def instrAt (q : SeqS) (off : Nat) : SeqF := seqF (BitVec.ofNat 128 (leNat (memLoadN q.mem off 16)))

/-- PROGRAM holds an instruction of the kind described at an offset. -/
def spells (q : SeqS) (off : Nat) (is_ : SeqF → Bool) : Bool := decide (off + 16 ≤ q.progLen) && is_ (instrAt q off)

/-- What the sequencer reads of its memory to issue the instruction at an offset: its 16 bytes, and the VXE words, the reel
descriptor, or the group entry and the entry descriptor that it names (R187). -/
def issueReads (q : SeqS) (off : Nat) : List (Nat × Nat) :=
  let f := instrAt q off
  (off, 16) :: (match f.cls with
    | 4 => [(q.kernBase + f.arg0, 8 * bits f.arg1 31 0)]
    | 5 => [(q.descBase + 64 * f.arg0, 64)]
    | 6 => [(q.collBase + 32 * f.unit, 32), (q.collBase + 2048 + 64 * f.arg0, 64)]
    | _ => [])

/-- The reads of an issue (R258, R261): the state, and the word that could not be read, if one could not. -/
def fetchCheck (s : State) (die off : Nat) (rd : ReadObs) : State × Option (Nat × ErrKind) :=
  readRuns (.seqMem die) (issueReads (seqOf s die) off) rd s

/-- A die comes to the instruction at an offset of PROGRAM, where it may issue: a word that it cannot read takes the
sequencer out of service until the proof run of its macro passes (R261); else the instruction has its effect. -/
def fetchIssue (s : State) (die off : Nat) (may : Bool) (is_ : SeqF → Bool) (rd : ReadObs) (k : State → State) : State :=
  if may && spells (seqOf s die) off is_ then
    match fetchCheck s die off rd with
    | (s1, some (o, _)) => loseSequencer s1 die (some (macroOf (.seqMem die) o))
    | (s1, none) => k s1
  else s

/-- The instruction at the program counter issues. -/
def issueAt (s : State) (die : Nat) (is_ : SeqF → Bool) (rd : ReadObs) (k : State → State) : State :=
  fetchIssue s die (seqOf s die).pc.toNat (canIssue s die) is_ rd k

/-! ### Which instruction a word is (R186, R187) -/

/-- An operation of a class. -/
def isOp (cls op : Nat) (f : SeqF) : Bool := decide (f.cls = cls ∧ f.op = op)
/-- The counter that an operation advances on completion. -/
def hasSig (sigc : Nat) (sige : Bool) (f : SeqF) : Bool := decide (f.sigc = sigc ∧ f.sige = sige)

def isNop (f : SeqF) : Bool := isOp 0 0 f
def isJump (off : U32) (f : SeqF) : Bool := isOp 0 1 f && decide (f.arg0 = off.toNat)
def isLoop (n : U32) (f : SeqF) : Bool := isOp 0 2 f && decide (f.arg0 = n.toNat)
def isEndloop (f : SeqF) : Bool := isOp 0 3 f
def isCall (off : U32) (f : SeqF) : Bool := isOp 0 4 f && decide (f.arg0 = off.toNat)
def isRet (f : SeqF) : Bool := isOp 0 5 f
def isStepend (f : SeqF) : Bool := isOp 0 6 f
def isHalt (f : SeqF) : Bool := isOp 0 7 f
def isWait (c : Nat) (least : U16) (f : SeqF) : Bool := isOp 1 0 f && decide (f.unit = c ∧ bits f.arg0 15 0 = least.toNat)
def isSignal (c peer : Nat) (f : SeqF) : Bool := isOp 1 1 f && decide (f.unit = c ∧ bits f.arg0 2 0 = peer)
def isClear (c : Nat) (f : SeqF) : Bool := isOp 1 2 f && decide (f.unit = c)
def isSetx (x : Nat) (v : U32) (f : SeqF) : Bool := isOp 2 0 f && decide (f.unit = x ∧ f.arg0 = v.toNat)
def isSetmb (v : U16) (f : SeqF) : Bool := isOp 2 1 f && decide (bits f.arg0 15 0 = v.toNat)
def isPass (a : Nat) (w : BitVec 64) (slots : BitVec 18) (f : SeqF) : Bool :=
  decide (f.cls = 3 ∧ f.unit = a ∧ f.arg1 = w.toNat ∧ bits f.arg0 17 0 = slots.toNat)
def isKernel (off count : U32) (f : SeqF) : Bool :=
  decide (f.cls = 4 ∧ f.arg0 = off.toNat ∧ bits f.arg1 31 0 = count.toNat)
def isMove (reel : Nat) (desc stride : U32) (src dst pf : Bool) (f : SeqF) : Bool :=
  decide (f.cls = 5 ∧ f.unit = reel ∧ f.arg0 = desc.toNat ∧ bits f.arg1 31 0 = stride.toNat ∧ f.arg1.testBit 32 = src ∧
    f.arg1.testBit 33 = dst ∧ f.pf = pf)
def isColl (group : U8) (desc : U32) (f : SeqF) : Bool := decide (f.cls = 6 ∧ f.unit = group.toNat ∧ f.arg0 = desc.toNat)
def isSched (st sn : U8) (mb : U16) (fwd bwd : U32) (f : SeqF) : Bool :=
  decide (f.cls = 7 ∧ schedF f = (st.toNat, sn.toNat, mb.toNat) ∧ bits f.arg1 31 0 = fwd.toNat ∧ bits f.arg1 63 32 = bwd.toNat)

end Sys2Proof.Machine
end

