-- ==== Sys2Proof/Machine/Flags.lean ====
section
/-! DEFINITION. Every flag computation: the tile status byte (R102, R103), the status a VXE instruction writes (R129),
and the fault word (R130). -/

namespace Sys2Proof.Machine

/-- The status byte of a tile after one more drain into it: the first of a pass replaces, a later one ORs (R103). -/
def tileStatus (first : Bool) (old new : Byte) : Byte := if first then new else old ||| new

/-- The numeric status bits alone (R48). -/
def numericBits (st : Byte) : Byte := st &&& 15#8
/-- The SAT and LONG bits alone (R102). -/
def flagBits (st : Byte) : Byte := st &&& 48#8

/-- A VXE instruction replaces the status byte when MSK is M0 or ZM is 1 and it is no reduction; else it ORs (R129). -/
def vxeReplaces (f : VxeF) : Bool := (decide (f.msk = 0) || f.zm) && !opReduce f.op
def vxeStatus (f : VxeF) (old st srcs : Byte) : Byte :=
  let new := numericBits st ||| flagBits srcs
  if vxeReplaces f then new else old ||| new

/-- Fault word bits (R130). -/
def fwDIV0 : U16 := 1#16
def fwTBL : U16 := 2#16
def fwADDR : U16 := 4#16
def fwILL : U16 := 8#16

end Sys2Proof.Machine
end

