-- ==== Sys2Proof/Machine/Array.lean ====
section
/-! DEFINITION. The matrix arrays (chapter 3): products into trays (R74 to R80), drains (R86), parking (R83, R84), the
residue check and rerun (R99 to R101), and the meanings of the array commands. -/

namespace Sys2Proof.Machine

/-! ### The tray -/

/-- A tree sum on its way into a tray: the finite products as a multiple of 2^-266, and what its specials set. -/
structure TreeSum where
  v : Int
  nan : Bool
  invr : Bool
  pinf : Bool
  ninf : Bool
  notNeg0 : Bool
  deriving DecidableEq, Repr

def TreeSum.zero : TreeSum := { v := 0, nan := false, invr := false, pinf := false, ninf := false, notNeg0 := false }

def treeJoin (a b : TreeSum) : TreeSum :=
  { v := a.v + b.v, nan := a.nan || b.nan, invr := a.invr || b.invr, pinf := a.pinf || b.pinf,
    ninf := a.ninf || b.ninf, notNeg0 := a.notNeg0 || b.notNeg0 }

/-- One product on its way into a tray (R74). -/
def productTerm (a b : FpVal) : TreeSum :=
  match mulExact a b with
  | .nan inv => { TreeSum.zero with nan := true, invr := inv, notNeg0 := true }
  | .inf s => { TreeSum.zero with pinf := !s, ninf := s, notNeg0 := true }
  | .real s m e _ => { TreeSum.zero with v := scaled s m e (-266), notNeg0 := !(s && decide (m = 0)) }

/-- A term that adds exact zero: a special pair in a bracketed pass after the first (R58). -/
def zeroTerm : TreeSum := { TreeSum.zero with notNeg0 := true }

/-- The value bounds of a tray (R79). -/
def trayMax : Int := 2 ^ 559 - 1
def trayMin : Int := -(2 ^ 559)

/-- The fold of a value modulo 127 (R99). -/
def fold127 (v : Int) : Nat := (v % 127).toNat

/-- One tray add (R74, R75, R79, R80, R99): the tray after it, and whether the residue check found a mismatch. The
tree sum's residue is that of its value; `hit` is a mismatch the operands or an injection put there. -/
def trayAdd (t : Tray) (x : TreeSum) (hit : Bool) : Tray × Bool :=
  let pinf := t.pinf || x.pinf
  let ninf := t.ninf || x.ninf
  let both := pinf && ninf
  let sum : Int := t.value.toInt + x.v
  let beyond : Bool := !t.sat && (decide (trayMax < sum) || decide (sum < trayMin))
  let sat := t.sat || beyond
  let v : Int := if t.sat then t.value.toInt else if trayMax < sum then trayMax else if sum < trayMin then trayMin else sum
  let mismatch : Bool := !sat && (decide ((t.res.toNat + fold127 x.v) % 127 ≠ fold127 v) || hit)
  ({ value := BitVec.ofInt 560 v, nan := t.nan || x.nan || both, pinf := pinf, ninf := ninf,
     neg0 := t.neg0 && !x.notNeg0, sat := sat, invr := t.invr || x.invr || both,
     res := BitVec.ofNat 7 (fold127 v) }, mismatch)

/-- The drain of one tray (R86): its code in the output format and its numeric status. -/
def drainTray (f : Fmt) (rm : Rm) (rnd : Nat) (t : Tray) : Nat × Byte :=
  if t.nan then (nanCode f, stIf t.invr stINV)
  else if t.pinf then (withSign f false (infCode f), 0#8)
  else if t.ninf then (withSign f true (infCode f), 0#8)
  else
    let v := t.value.toInt
    if t.sat then (withSign f (decide (v < 0)) (infCode f), stOVF ||| stINX)
    else if v = 0 then (withSign f t.neg0 0, 0#8)
    else roundExact f rm rnd (.real (decide (v < 0)) v.natAbs (-266) false)

/-- The SAT and LONG bits a drained run adds to the tile's status (R102). -/
def runFlags (t : Tray) (long : Bool) : Byte := stIf t.sat stSAT ||| stIf long stLONG

/-! ### Random bits of a drain (R96) -/

def mix32 (x : BitVec 32) : BitVec 32 :=
  let x := x ^^^ (x >>> 16)
  let x := x * 0x85EBCA6B#32
  let x := x ^^^ (x >>> 13)
  let x := x * 0xC2B2AE35#32
  x ^^^ (x >>> 16)

/-- The 16 random bits of array a, column j, drain index d. -/
def srBits (seed : U32) (a j : Nat) (d : BitVec 48) : Nat :=
  let x := seed ^^^ d.setWidth 32
  let y := (BitVec.ofNat 32 (d.toNat / 2 ^ 32) <<< 14) ^^^ (BitVec.ofNat 32 a <<< 8) ^^^ BitVec.ofNat 32 j
  (mix32 (x ^^^ (y * 0x9E3779B9#32))).toNat / 65536

/-! ### Images (R73, R83, R108) -/

/-- The 72-byte image of a tray, as a number. -/
def trayImage (t : Tray) : Nat :=
  t.value.toNat + (if t.nan then 2 ^ 560 else 0) + (if t.pinf then 2 ^ 561 else 0) + (if t.ninf then 2 ^ 562 else 0) +
  (if t.neg0 then 2 ^ 563 else 0) + (if t.sat then 2 ^ 564 else 0) + (if t.invr then 2 ^ 565 else 0) + t.res.toNat * 2 ^ 566

def trayOfImage (n : Nat) : Tray :=
  { value := BitVec.ofNat 560 n, nan := n.testBit 560, pinf := n.testBit 561, ninf := n.testBit 562,
    neg0 := n.testBit 563, sat := n.testBit 564, invr := n.testBit 565, res := BitVec.ofNat 7 (n / 2 ^ 566) }

/-- The 80-byte debug image (R108). -/
def debugImage (a : ArrayS) (t : Tray) : Nat :=
  trayImage t + a.run.toNat * 2 ^ 576 + (if a.long then 2 ^ 616 else 0)

/-- The bytes of a park record (R83): the trays in column order, then RUNCNT and LONG. -/
def parkRecord (a : ArrayS) (dot : Bool) : List Byte :=
  (a.trays.toList.take (if dot then 1 else 256)).flatMap (fun t => leBytes 72 (trayImage t)) ++
    leBytes 64 (a.run.toNat + (if a.long then 2 ^ 40 else 0))

/-! ### Operands -/

/-- Element (r, c) of a tiled tile at a byte base (R228). -/
def tileElem (m : Mem) (base : Nat) (fmt : Fmt) (r c : Nat) : Nat :=
  leNat (memLoadN m (base + fmtBytes fmt * tiledIndex r c) (fmtBytes fmt))

/-- Element of the stationary operand: inner index against column j (R788, R69). -/
def statElem (bank : Mem) (f : PassF) (inner j : Nat) : Nat :=
  let base := 131072 * (inner / 256 * tileSlots f.sfmt)
  if f.str then tileElem bank base (fmtD f.sfmt) j (inner % 256)
  else tileElem bank base (fmtD f.sfmt) (inner % 256) j

/-- Element of a streamed area: row r, inner index, read plain or transposed (R788, R65). -/
def strmElem (m : Mem) (slot fmt chunks tiles : Nat) (transposed : Bool) (r inner : Nat) : Nat :=
  let pos := r / 256 * (chunks * tiles) + inner / 256
  let base := 131072 * (slot + pos * tileSlots fmt)
  if transposed then tileElem m base (fmtD fmt) (inner % 256) (r % 256)
  else tileElem m base (fmtD fmt) (r % 256) (inner % 256)

/-- The two elements that meet at inner index i of row r in column j. -/
def passPair (a : ArrayS) (p : PassRun) (f : PassF) (r i j : Nat) : Nat × Nat :=
  let x := strmElem a.bufs p.strmSlot f.qfmt f.chunks (chunkTiles f) f.qtr r i
  if f.dot then (x, strmElem a.bufs p.statSlot f.sfmt f.chunks (chunkTiles f) f.str r i)
  else (x, statElem ((a.bank.map (fun b => b.img)).getD Mem.empty) f i j)

/-- A special FP32 operand (R58). -/
def numSpecial : FpVal → Bool
  | .fin .. => false
  | _ => true

/-- The term of one element pair in one clock: the product itself in a plain pass; in a bracketed pass the piece
product, or for a special pair the FP32 product once and zero after (R57, R58). The streamed operand is the `a` of R57
and the stationary operand its `b`. -/
def pairTerm (f : PassF) (clock : Nat) (xy : Nat × Nat) : TreeSum :=
  let x := readNum (fmtD f.qfmt) xy.1
  let y := readNum (fmtD f.sfmt) xy.2
  match (bracketPairs (f.brk + 1))[clock]? with
  | none => productTerm x y
  | some (i, k) =>
    if f.brk = 0 then productTerm x y
    else if numSpecial x || numSpecial y then (if clock = 0 then productTerm x y else zeroTerm)
    else productTerm (pieceOf (splitFp32 xy.1) i) (pieceOf (splitFp32 xy.2) k)

/-- The tree sum of a column for one clock of one row chunk. -/
def columnSum (a : ArrayS) (p : PassRun) (f : PassF) (r c clock j : Nat) : TreeSum :=
  (List.range (chunkWidth f)).foldl
    (fun acc i => treeJoin acc (pairTerm f clock (passPair a p f r (c * chunkWidth f + i) j))) TreeSum.zero

/-! ### A row chunk -/

/-- The run counter's advance by one chunk width, held at its top (R76), and LONG (R78). -/
def advanceRun (k : Nat) (a : ArrayS) : ArrayS :=
  let n := a.run.toNat + k
  let run : BitVec 40 := if 2 ^ 40 ≤ n then BitVec.allOnes 40 else BitVec.ofNat 40 n
  { a with run := run, long := a.long || decide (2 ^ 37 < run.toNat) }

/-- One clock of a row chunk into every tray that takes part; the first tray whose residue check failed. -/
def clockStep (p : PassRun) (f : PassF) (r c clock : Nat) (hit : Nat → Bool) (a : ArrayS) : ArrayS × Option Nat :=
  let n := if f.dot then 1 else 256
  let sums := (List.range n).map (fun j => (j, columnSum a p f r c clock j))
  let (ts, bad) := sums.foldl (fun (acc : Vector Tray 256 × Option Nat) js =>
    let t := vget acc.1 js.1 Tray.fresh
    let (t', m) := trayAdd t js.2 (hit js.1)
    (vset acc.1 js.1 t', if acc.2.isNone && m then some js.1 else acc.2)) (a.trays, none)
  (advanceRun (chunkWidth f) { a with trays := ts }, bad)

/-- All clocks of a row chunk (R71); an operand's or injection's mismatch is met in the first. -/
def chunkClocksStep (p : PassRun) (f : PassF) (r c : Nat) (hit : Nat → Bool) (a : ArrayS) : ArrayS × Option Nat :=
  (List.range (chunkClocks f)).foldl (fun acc k =>
    let (a', m) := clockStep p f r c k (fun j => hit j && decide (k = 0)) acc.1
    (a', acc.2.orElse (fun _ => m))) (a, none)

/-- The fresh start of a run (R73, R87): every tray, or T0 alone in dot mode (R65). -/
def freshRun (dot : Bool) (a : ArrayS) : ArrayS :=
  { a with trays := if dot then vset a.trays 0 Tray.fresh else Vector.replicate 256 Tray.fresh, run := 0#40, long := false }

/-- Byte place of the park record of a row (R788). -/
def parkAt (p : PassRun) (f : PassF) (r : Nat) : Nat := 131072 * p.parkSlot + parkBytes f * (if f.dot then 0 else r)

/-- The start of a run: fresh, or the trays, RUNCNT and LONG of its park record (R84). -/
def startRun (p : PassRun) (f : PassF) (fromPark : Bool) (r : Nat) (a : ArrayS) : ArrayS :=
  if fromPark then
    let base := parkAt p f r
    let n := if f.dot then 1 else 256
    let ts := (List.range n).foldl (fun v j =>
      vset v j (trayOfImage (leNat (memLoadN a.bufs (base + 72 * j) 72)))) a.trays
    let h := leNat (memLoadN a.bufs (base + 72 * n) 8)
    { a with trays := ts, run := BitVec.ofNat 40 h, long := h.testBit 40 }
  else freshRun f.dot a

/-! ### Captures -/

/-- The random bits of column j of a drain: none are used outside SR (R98). -/
def drainRnd (a : ArrayS) (arr : Nat) (rm : Rm) (d : BitVec 48) (j : Nat) : Nat :=
  if rm = .sr then srBits a.seed arr j d else 0

/-- The drained row: the code of each column, and the row's status byte (R86, R102). -/
def drainRow (a : ArrayS) (arr : Nat) (f : PassF) (d : BitVec 48) : List Nat × Byte :=
  let n := if f.dot then 1 else 256
  (List.range n).foldl (fun acc j =>
    let t := vget a.trays j Tray.fresh
    let (c, st) := drainTray (fmtD f.ofmt) (rmD f.rmode) (drainRnd a arr (rmD f.rmode) d j) t
    (acc.1 ++ [c], acc.2 ||| st ||| runFlags t a.long)) ([], 0#8)

/-- Counters of a drained row (R104): rows, and one run a tray for SAT and LONG. -/
def countDrain (f : PassF) (a : ArrayS) : ArrayS :=
  let n := if f.dot then 1 else 256
  let sats := ((a.trays.toList.take n).filter (fun t => t.sat)).length
  { a with rowsDrained := bump a.rowsDrained, satRuns := bumpBy a.satRuns sats,
           longRuns := if a.long then bumpBy a.longRuns n else a.longRuns }

/-- Note that the pass has drained into a tile. -/
def noteTile (t : Nat) (a : ArrayS) : ArrayS :=
  { a with pass := a.pass.map (fun p => { p with tiles := if p.tiles.contains t then p.tiles else p.tiles ++ [t] }) }

/-- The place a drained row goes to (R62). -/
def drainPlace (arr : Nat) (f : PassF) : Place := if f.dest = 0 then .vxe (arr / 8) else .buf arr

/-- The first slot of the output block that row r lies in (R788). -/
def drainSlot (f : PassF) (r : Nat) : Nat := f.dslot + r / 256 * tileSlots f.ofmt

/-- The runs of bytes that a drained row takes there: the 32-bit slots of a sheet's row (R117), or 16 elements together
in the tiled layout of the output block (R228, R788). -/
def drainRuns (f : PassF) (r : Nat) (codes : List Nat) : List (Nat × List Byte) :=
  if f.dest = 0 then [(0x40000 * f.dsheet + 1024 * r, codes.flatMap (leBytes 4))]
  else
    let b := fmtBytes (fmtD f.ofmt)
    (List.range ((codes.length + 15) / 16)).map (fun k =>
      (131072 * drainSlot f r + b * tiledIndex (r % 256) (16 * k), ((codes.drop (16 * k)).take 16).flatMap (leBytes b)))

/-- The status byte kept with the row's tile, and a sheet's tag, after a drain (R103, R119). -/
def drainStatus (s : State) (arr : Nat) (f : PassF) (r : Nat) (st : Byte) (first : Bool) : State :=
  if f.dest = 0 then
    updVxe s (arr / 8) (fun v => { v with sheets := vmod v.sheets f.dsheet (fun t =>
      { fmt := BitVec.ofNat 3 f.ofmt, int := false, status := tileStatus first t.status st }) })
  else updArr s arr (fun a => { a with slotStatus := vmod a.slotStatus (drainSlot f r) (fun o => tileStatus first o st) })

/-- The array lets its pass go: IDLE, or its proof run begins (R726: at the end of the pass in progress). -/
def endPass (arr : Nat) (s : State) : State :=
  let due := s.ev.proofs.any (fun q => decide (q.slice = .array arr))
  updArr s arr (fun a =>
    { a with pass := none, drainReq := false, st := if a.st = .running then .idle else a.st, proofRun := due })

/-- The write of a drained row aborts: its other side is in reset (R22, R23, R93). -/
def drainAborts (s : State) (arr : Nat) (f : PassF) : Bool :=
  decide (f.dest = 0) && s.sys.resetting.contains (10 * (arr / 8) + 8)

/-- The write of a drained row: it lands; or it aborts, and the row is indeterminate and the pass fails (R93); or it
meets a bad word that it covers only in part, and the array stops in FAULTED (R262). -/
def writeDrain (s : State) (arr : Nat) (p : PassRun) (f : PassF) (r : Nat) (codes : List Nat) (st : Byte)
    (aborted : Bool) : State :=
  let pl := drainPlace arr f
  let runs := drainRuns f r codes
  if aborted || drainAborts s arr f then
    let s1 := runs.foldl (fun t x => scramble t { place := pl, lo := x.1, len := x.2.length }) s
    abortOp (endPass arr s1) (arr / 8) p.op frARRAY true
  else match runs.findSome? (fun x => badPartly s pl x.1 x.2.length) with
    | some b => faultArray (redetect s pl b.lo .uncorrectable) arr (some (macroOf pl b.lo))
    | none =>
      let s1 := drainStatus (putRuns s pl runs) arr f r st (!(p.tiles.contains (r / 256)))
      updArr s1 arr (noteTile (r / 256))

/-- The end of a run whose trays are good: a park (R84) or a drain (R86, R88), after which the trays are fresh (R87). -/
def captureRun (s : State) (arr : Nat) (p : PassRun) (f : PassF) (r : Nat) (d : BitVec 48) (aborted : Bool) : State :=
  let a := arrOf s arr
  if f.park then
    updArr (placeStore s (.buf arr) (parkAt p f r) (parkRecord a f.dot)) arr (freshRun f.dot)
  else
    let (codes, st) := drainRow a arr f d
    writeDrain (updArr s arr (fun x => freshRun f.dot (countDrain f x))) arr p f (if f.dot then 0 else r) codes st aborted

/-! ### Running a pass -/

/-- Change the pass record. -/
def setPass (s : State) (arr : Nat) (g : PassRun → PassRun) : State :=
  updArr s arr (fun a => { a with pass := a.pass.map g })

/-- A mismatch poisons the run (R99): the array's proof run is asked for (R726). -/
def poisonRun (s : State) (arr : Nat) (x : Poisoned) : State :=
  enqueueProof (fun t => lastingArray t arr x.inj)
    (setPass s arr (fun p => { p with poisoned := some x })) (.array arr) x.inj x.persist

/-- The tray an armed TRAY_RESIDUE injection hits at the next tray add (R733, 05h). -/
def trayInjection (s : State) (arr : Nat) (dot : Bool) : Option (Nat × Bool) :=
  match injArmed s 0x05 ukARRAY arr with
  | some (loc, per) => if dot && decide (loc % 256 ≠ 0) then none else some (loc % 256, per)
  | none => none

/-- One row chunk into the trays, with what poisons its run. `k` is the row chunk's place in the pass; `mism` names the
trays a mismatch is observed in. -/
def runChunk (s : State) (arr : Nat) (p : PassRun) (f : PassF) (k : Nat) (fromPark : Bool) (mism : List Nat) : State :=
  let inj := trayInjection s arr f.dot
  let s1 := if inj.isSome then injFired s 0x05 else s
  let hit (j : Nat) : Bool := mism.contains j || decide (inj.map (fun x => x.1) = some j)
  let (a', bad) := chunkClocksStep p f (k / f.chunks) (k % f.chunks) hit (arrOf s1 arr)
  let s2 := updArr s1 arr (fun _ => a')
  match bad, p.poisoned with
  | some j, none => poisonRun s2 arr
      { row := k / f.chunks, start := p.runStart, len := 0, d := p.d, fromPark := fromPark, tray := j,
        inj := decide (inj.map (fun x => x.1) = some j), persist := decide (inj = some (j, true)), toDest := false }
  | _, _ => s2

/-- The open run started from its park record: no requested drain came before it (R90). -/
def runsFromPark (p : PassRun) (f : PassF) : Bool := f.start && !p.fresh

/-- The row that a run's capture writes: its row, or record and element 0 in dot mode. -/
def runRow (f : PassF) (p : PassRun) : Nat := if f.dot then 0 else p.runStart / f.chunks

/-- Does row chunk k end its run? The last chunk of every row does in row mode; the last of the pass in dot mode (R65). -/
def endsRun (f : PassF) (k : Nat) : Bool :=
  if f.dot then decide (k + 1 = f.rows * f.chunks) else decide ((k + 1) % f.chunks = 0)

/-- A run ends. Good: captured. Poisoned: neither drained nor parked, kept for its rerun (R100). -/
def finishRun (s : State) (arr : Nat) (f : PassF) : State :=
  match (arrOf s arr).pass with
  | none => s
  | some p =>
    match p.poisoned with
    | none => setPass (captureRun s arr p f (runRow f p) p.d false) arr (fun p => { p with open_ := false })
    | some x => setPass (updArr s arr (freshRun f.dot)) arr (fun p =>
        { p with open_ := false, poisoned := none, reruns := p.reruns ++ [{ x with len := p.at_ - p.runStart }] })

/-- The first chunk of a run takes D (R95) and starts the run. A row's run starts as START says; a dot-mode run after a
requested drain starts fresh (R90). Past 2^48 − 1 the index holds a free value, as every counter does past its top (DESIGN CHOICE, log entry 9). -/
def openRun (p : PassRun) (f : PassF) (a : ArrayS) : ArrayS :=
  let q := { p with open_ := true, d := a.dIndex, runStart := p.at_, poisoned := none, fresh := p.fresh && f.dot }
  { startRun q f (runsFromPark q f) (p.at_ / f.chunks) a with dIndex := bump a.dIndex, pass := some q }

/-- One row chunk of a pass. The pass stands still when every row is issued, when a requested drain waits, or when a
dot-mode run awaits its rerun. -/
def passChunk (mism : List (Nat × Nat)) (s : State) (arr : Nat) : State :=
  match (arrOf s arr).pass with
  | none => s
  | some p =>
    let f := passF p.word
    if f.rows * f.chunks ≤ p.at_ ∨ (f.dot ∧ p.reruns ≠ []) ∨ (arrOf s arr).drainReq then s
    else
      let s1 := if p.open_ then s else updArr s arr (openRun p f)
      match (arrOf s1 arr).pass with
      | none => s1
      | some q =>
        let ms := if q.at_ % f.chunks = 0 then (mism.filter (fun m => m.1 = q.at_ / f.chunks)).map (fun m => m.2) else []
        let s2 := runChunk s1 arr q f q.at_ (runsFromPark q f) ms
        let s3 := setPass s2 arr (fun x => { x with at_ := q.at_ + 1 })
        if endsRun f q.at_ then finishRun s3 arr f else s3

/-- Row chunks in a row. -/
def passChunks (mism : List (Nat × Nat)) : Nat → State → Nat → State
  | 0, s, _ => s
  | n + 1, s, arr => passChunks mism n (passChunk mism s arr) arr

/-- The bytes an array reads for a pass, as ranges of its buffers: none of its stationary slots once its bank is loaded,
or where it keeps one (R62, R790). -/
def passRanges (p : PassRun) (f : PassF) : List (Nat × Nat) :=
  [(131072 * p.strmSlot, 131072 * strmSlots f)] ++
    (if p.loads then [(131072 * p.statSlot, 131072 * statSlots f)] else []) ++
    (if f.start then [(131072 * p.parkSlot, parkBytes f * parkRecords f)] else [])

/-- The array's reads for a pass (R261): the state, and the macro of the word that could not be read, if one could not. -/
def passReadCheck (s : State) (arr : Nat) (p : PassRun) (f : PassF) (rd : ReadObs) : State × Option Nat :=
  let (s1, b) := readRuns (.buf arr) (passRanges p f) rd s
  (s1, b.map (fun y => macroOf (.buf arr) y.1))

/-- The array issues row chunks: no debug halt stops it (R109), and its island's clock runs (R22). -/
def arrIssues (s : State) (arr : Nat) : Bool := decide ((arrOf s arr).halt = .running) && islandRuns s (arrIsland arr)

/-- Run n row chunks of the array's pass, after its reads; an uncorrectable read stops the pass in FAULTED (R261). An
array that issues none waits (R22, R109). -/
def runPass (s : State) (arr n : Nat) (mism : List (Nat × Nat)) (rd : ReadObs) : State :=
  match (arrOf s arr).pass with
  | none => s
  | some p =>
    if arrIssues s arr then
      let (s1, bad) := passReadCheck s arr p (passF p.word) rd
      match bad with
      | some m => faultArray s1 arr (some m)
      | none => passChunks mism n (setPass s1 arr (fun q => { q with loads := (passF q.word).dot })) arr
    else s

/-- Row chunks a pass has left. -/
def chunksLeft (p : PassRun) : Nat := (passF p.word).rows * (passF p.word).chunks - p.at_

/-- Everything a pass was asked for is captured. -/
def passDone (p : PassRun) : Bool := decide (chunksLeft p = 0) && p.reruns.isEmpty && !p.open_

/-- The chunks of a rerun, from the run's start. -/
def rerunChunks (arr : Nat) (f : PassF) (x : Poisoned) (mism : List Nat) (s : State) : State :=
  (List.range x.len).foldl (fun t i =>
    match (arrOf t arr).pass with
    | none => t
    | some p => runChunk t arr p f (x.start + i) x.fromPark (if i = 0 then mism else [])) s

/-- Begin a rerun: the trays start again, from the park record where the run did, and the run's D is reused. -/
def beginRerun (p : PassRun) (f : PassF) (x : Poisoned) (rest : List Poisoned) (a : ArrayS) : ArrayS :=
  { startRun p f x.fromPark x.row a with
    reruns := bump a.reruns
    pass := some { p with reruns := rest, poisoned := none, d := x.d, runStart := x.start } }

/-- A rerun ends: clean, its row is captured and the transient reported; poisoned again, the array has a lasting
fault and writes no result (R101). A run that a requested drain ended drains to DEST whatever END says. -/
def finishRerun (arr : Nat) (f : PassF) (x : Poisoned) (s : State) : State :=
  match (arrOf s arr).pass with
  | none => s
  | some q =>
    match q.poisoned with
    | some y => lastingArray s arr (x.inj || y.inj)
    | none =>
      captureRun (raise s 0x05 ukARRAY arr (x.tray + 256 * x.d.toNat) x.inj) arr q { f with park := f.park && !x.toDest }
        (runRow f q) x.d false

/-! ### Meanings -/

/-- The operation of a PASS: its pass word and the slots that ARG0 gives (R187). -/
def passBody (a : Nat) (w : BitVec 64) (slots : BitVec 18) : OpBody :=
  .pass a w (field slots 5 0) (field slots 11 6) (field slots 17 12)

/-- PASS (R62, R187): the sequencer issues the pass; when the array takes it, it runs its first n row chunks. `mism`
names the rows (row pairs) and trays where a residue mismatch is observed, `fd` and `rd` read errors observed by the
sequencer and by the array. A pass issued
to a FAULTED array ends at once and its step fails with ARRAY_FAULT (R789). -/
def execPass (die : Fin 8) (a : Fin 8) (w : BitVec 64) (slots : BitVec 18) (sigc : Fin 32) (sige : Bool)
    (n : Nat) (mism : List (Nat × Nat)) (rd : ReadObs) (s : State) (fd : ReadObs := .clean) : Host.Outcome State Fault Refusal :=
  .next (issueAt s die (fun f => isPass a w slots f && hasSig sigc sige f) fd (fun t =>
    let t1 := issueWord t die (.op (passBody a w slots) sigc sige)
    if (arrOf t (8 * die + a)).pass.isSome then t1 else runPass t1 (8 * die + a) n mism rd))

/-- PASS_COMPLETE (R189): the row chunks left are run, and when every row is captured the operation completes. -/
def execPassComplete (arr : Fin 64) (mism : List (Nat × Nat)) (rd : ReadObs) (s : State) :
    Host.Outcome State Fault Refusal :=
  match (arrOf s arr).pass with
  | none => .next s
  | some p =>
    let s1 := runPass s arr (chunksLeft p) mism rd
    match (arrOf s1 arr).pass with
    | none => .next s1
    | some p' => .next (if passDone p' && arrIssues s1 arr then completeOp (endPass arr s1) (arr / 8) p'.op else s1)

/-- ROW_RERUN (R100): the earliest poisoned run of the pass is rerun from its start with its own D, after the row in
the pipeline has ended; so it waits while a requested drain or a halt keeps that row in the trays (R89, R109). `mism` names
the trays whose residue mismatches again. -/
def execRowRerun (arr : Fin 64) (mism : List Nat) (rd : ReadObs) (s : State) : Host.Outcome State Fault Refusal :=
  match (arrOf s arr).pass with
  | none => .next s
  | some p0 =>
    if !arrIssues s arr || (arrOf s arr).drainReq then .next s else
    let f := passF p0.word
    let s0 := if p0.open_ ∧ p0.reruns ≠ [] then passChunks [] (f.chunks - p0.at_ % f.chunks) s arr else s
    match (arrOf s0 arr).pass with
    | none => .next s0
    | some p =>
      match p.reruns with
      | [] => .next s0
      | x :: rest =>
        let (s1, bad) := passReadCheck s0 arr p f rd
        match bad with
        | some m => .next (faultArray s1 arr (some m))
        | none =>
          .next (finishRerun arr f x (rerunChunks arr f x mism (updArr s1 arr (beginRerun p f x rest))))

/-- REQUESTED_DRAIN (R89): after n more row chunks, the array stops issuing row chunks until the capture. A halted array
takes the request when it resumes. -/
def execRequestedDrain (arr : Fin 64) (n : Nat) (rd : ReadObs) (s : State) : Host.Outcome State Fault Refusal :=
  match (arrOf s arr).pass with
  | none => .next s
  | some _ =>
    if (arrOf s arr).halt = .halted then .next s
    else .next (updArr (runPass s arr n [] rd) arr (fun a => { a with drainReq := a.pass.isSome }))

/-- The pass goes on after a requested drain: in row mode with a new run at the next chunk of the row, in dot mode with a
new run and the next D (R90, R95); either way that run is fresh. -/
def afterRequested (f : PassF) (p : PassRun) : PassRun :=
  { p with open_ := p.open_ && !f.dot, runStart := p.at_, fresh := true, poisoned := none }

/-- REQUESTED_DRAIN_CAPTURE (R90 to R93): the trays are captured, the run ends and the rounded row is written to DEST;
a run whose counter is zero writes no row (R91). A write that aborts leaves the row indeterminate and the pass fails
(R93). -/
def execRequestedDrainCapture (arr : Fin 64) (aborted : Bool) (s : State) : Host.Outcome State Fault Refusal :=
  let a := arrOf s arr
  match a.drainReq && decide (a.halt ≠ .halted) && islandRuns s (arrIsland arr), a.pass with
  | true, some p =>
    let f := passF p.word
    let s0 := updArr s arr (fun a => { a with drainReq := false })
    if a.run = 0#40 ∨ p.open_ = false then .next s0
    else
      match p.poisoned with
      | some x => .next (setPass (updArr s0 arr (freshRun f.dot)) arr (fun q =>
          { afterRequested f q with reruns := q.reruns ++ [{ x with len := q.at_ - q.runStart, toDest := true }] }))
      | none => .next (setPass (captureRun s0 arr p { f with park := false } (runRow f p) p.d aborted) arr (afterRequested f))
  | _, _ => .next s

/-- ARRAY_PROOF_RUN_DONE (R730): a pass returns the array to work; a fail makes it FAULTED with a lasting fault. The
transient was counted at 8400h:05 by its rerun (R100). -/
def execArrayProofRunDone (arr : Fin 64) (passed : Bool) (s : State) : Host.Outcome State Fault Refusal :=
  match s.ev.proofs.find? (fun q => decide (q.slice = .array arr)) with
  | some q =>
    if (arrOf s arr).pass.isSome then .next s
    else
      let s1 := { s with ev := { s.ev with proofs := s.ev.proofs.filter (fun x => decide (x.slice ≠ .array arr)) } }
      let s2 := updArr s1 arr (fun a => { a with proofRun := false })
      if passed && !q.persist then
        .next (startReady (raise s2 0x01 ukARRAY arr 5 q.inj) (arr / 8))
      else .next (lastingArray (raise s2 0x02 ukARRAY arr 5 q.inj) arr q.inj)
  | none => .next s

/-- ARRAY_HALTED (R109): in-flight products and captures have finished, a requested one among them, and the array enters
HALTED; a FAULTED or mapped-out array keeps its state. -/
def haltedArray (a : ArrayS) : ArrayS :=
  { a with halt := .halted, st := if a.st = .idle ∨ a.st = .running then .halted else a.st }

def execArrayHalted (arr : Fin 64) (s : State) : Host.Outcome State Fault Refusal :=
  .next (if (arrOf s arr).halt = .halting ∧ (arrOf s arr).drainReq = false then updArr s arr haltedArray else s)

/-- A write of 1 to E100h:03 for the selected array (R109): after n more row chunks it stops issuing them. -/
def haltArray (s : State) (arr n : Nat) (rd : ReadObs) : State :=
  if (arrOf s arr).halt = .running then
    updArr (runPass s arr n [] rd) arr (fun a => { a with halt := .halting })
  else s

/-- A write of 0 to E100h:03 (R112): the halted pass goes on at its next row chunk, with the trays as they stand. -/
def resumeArray (s : State) (arr : Nat) : State :=
  startReady (updArr s arr (fun a =>
    { a with halt := .running,
             st := if a.st = .halted then (if a.pass.isSome then .running else .idle) else a.st })) (arr / 8)

/-- A write of E100h:04 (R111): VALUE, side bits, run counter and LONG from the image, RES from the new VALUE. -/
def writeTrayImage (a : ArrayS) (j : Nat) (img : Nat) : ArrayS :=
  let t := trayOfImage img
  { a with trays := vset a.trays j { t with res := BitVec.ofNat 7 (fold127 t.value.toInt) },
           run := BitVec.ofNat 40 (img / 2 ^ 576), long := img.testBit 616 }

/-- A write of 8400h:01 (R97): the seed is set and D is zero. -/
def setArraySeed (a : ArrayS) (seed : U32) : ArrayS := { a with seed := seed, dIndex := 0#48 }

end Sys2Proof.Machine
end

