-- ==== Sys2Proof/Machine/Crypto.lean ====
section
/-! DEFINITION. The hash, keyed hash and checksum the spec names by their standards: SHA-384 (R167, R470, R565, R626,
R637), HMAC-SHA-384 (R566) and CRC-32C (R408). Their tables are computed from the standards' definitions. -/

namespace Sys2Proof.Machine

/-! ### SHA-384 -/

/-- The largest r below 2^(n+1) with r^k at most v, bit by bit. -/
def rootBits (k v : Nat) : Nat → Nat → Nat
  | 0, r => if (r + 1) ^ k ≤ v then r + 1 else r
  | n + 1, r => rootBits k v n (if (r + 2 ^ (n + 1)) ^ k ≤ v then r + 2 ^ (n + 1) else r)

def isPrime (n : Nat) : Bool := decide (2 ≤ n) && (List.range n).all (fun d => decide (d < 2) || decide (n % d ≠ 0))
/-- The first 80 primes. -/
def primes80 : List Nat := (List.range 410).filter isPrime

/-- The first 64 bits of the fractional part of a prime's k-th root. -/
def fracRoot (k p : Nat) : U64 := BitVec.ofNat 64 (rootBits k (p * 2 ^ (64 * k)) 70 0)

def sha512K : List U64 := primes80.map (fracRoot 3)
/-- SHA-384 starts from the square roots of the ninth to the sixteenth prime. -/
def sha384H : List U64 := ((primes80.drop 8).take 8).map (fracRoot 2)

def beU64 (bs : List Byte) : U64 := BitVec.ofNat 64 (leNat bs.reverse)
def bytesOf64 (w : U64) : List Byte := (leBytes 8 w.toNat).reverse

/-- The message padded to whole 128-byte blocks. -/
def shaPad (m : List Byte) : List Byte :=
  let z := (112 + 128 - (m.length + 1) % 128) % 128
  m ++ [0x80#8] ++ List.replicate z 0#8 ++ (leBytes 16 (8 * m.length)).reverse

/-- The message schedule, newest word first. -/
def shaSchedule : Nat → List U64 → List U64
  | 0, ws => ws
  | n + 1, ws =>
    let w (i : Nat) : U64 := (ws[i]?).getD 0#64
    let a := w 14
    let b := w 1
    let s0 := a.rotateRight 1 ^^^ a.rotateRight 8 ^^^ (a >>> 7)
    let s1 := b.rotateRight 19 ^^^ b.rotateRight 61 ^^^ (b >>> 6)
    shaSchedule n ((w 15 + s0 + w 6 + s1) :: ws)

structure Sha where
  a : U64
  b : U64
  c : U64
  d : U64
  e : U64
  f : U64
  g : U64
  h : U64

def shaRound (x : Sha) (kw : U64 × U64) : Sha :=
  let s1 := x.e.rotateRight 14 ^^^ x.e.rotateRight 18 ^^^ x.e.rotateRight 41
  let ch := (x.e &&& x.f) ^^^ ((~~~x.e) &&& x.g)
  let t1 := x.h + s1 + ch + kw.1 + kw.2
  let s0 := x.a.rotateRight 28 ^^^ x.a.rotateRight 34 ^^^ x.a.rotateRight 39
  let mj := (x.a &&& x.b) ^^^ (x.a &&& x.c) ^^^ (x.b &&& x.c)
  { a := t1 + (s0 + mj), b := x.a, c := x.b, d := x.c, e := x.d + t1, f := x.e, g := x.f, h := x.g }

def shaBlock (h : Sha) (blk : List Byte) : Sha :=
  let w0 := (List.range 16).map (fun i => beU64 ((blk.drop (8 * i)).take 8))
  let ws := (shaSchedule 64 w0.reverse).reverse
  let y := (List.zip sha512K ws).foldl shaRound h
  { a := h.a + y.a, b := h.b + y.b, c := h.c + y.c, d := h.d + y.d, e := h.e + y.e, f := h.f + y.f, g := h.g + y.g,
    h := h.h + y.h }

def shaInit : Sha :=
  let w (i : Nat) : U64 := (sha384H[i]?).getD 0#64
  { a := w 0, b := w 1, c := w 2, d := w 3, e := w 4, f := w 5, g := w 6, h := w 7 }

/-- Blocks of a padded message, with as many rounds as it has blocks. -/
def shaRun : Nat → List Byte → Sha → Sha
  | 0, _, h => h
  | n + 1, m, h => shaRun n (m.drop 128) (shaBlock h (m.take 128))

/-- SHA-384 of a byte string: 48 bytes. -/
def sha384 (m : List Byte) : List Byte :=
  let p := shaPad m
  let h := shaRun (p.length / 128) p shaInit
  ([h.a, h.b, h.c, h.d, h.e, h.f].map bytesOf64).flatten

/-- HMAC-SHA-384. -/
def hmac384 (key msg : List Byte) : List Byte :=
  let k0 := if 128 < key.length then sha384 key else key
  let k := k0 ++ List.replicate (128 - k0.length) 0#8
  sha384 (k.map (fun b => b ^^^ 0x5C#8) ++ sha384 (k.map (fun b => b ^^^ 0x36#8) ++ msg))

/-- HKDF-SHA-384: extract with a salt, then the first `len` bytes expanded with info. -/
def hkdfExpand (prk info : List Byte) : Nat → List Byte → Nat → List Byte
  | 0, _, _ => []
  | n + 1, prev, i =>
    let t := hmac384 prk (prev ++ info ++ [BitVec.ofNat 8 i])
    t ++ hkdfExpand prk info n t (i + 1)
def hkdf384 (salt ikm info : List Byte) (len : Nat) : List Byte :=
  let s := if salt.isEmpty then List.replicate 48 0#8 else salt
  (hkdfExpand (hmac384 s ikm) info ((len + 47) / 48) [] 1).take len

/-! ### CRC-32C -/

def crcStep : Nat → U32 → U32
  | 0, c => c
  | n + 1, c => crcStep n (if c.getLsbD 0 then (c >>> 1) ^^^ 0x82F63B78#32 else c >>> 1)

/-- CRC-32C of a byte string (R408): polynomial 1EDC6F41h reflected, initial FFFFFFFFh, final complement. -/
def crc32c (m : List Byte) : U32 :=
  ~~~(m.foldl (fun c b => crcStep 8 (c ^^^ b.zeroExtend 32)) 0xFFFFFFFF#32)

end Sys2Proof.Machine
end

