-- ==== Sys2Proof/Machine/FabricCore.lean ====
section
/-! DEFINITION. The fabric's addressing (chapter 9): the contact sheet's fields, wiring and roles, the members of the
job, which ports are lit, and which neighbours are reachable. -/

namespace Sys2Proof.Machine

/-! ### The contact sheet (R383) -/

/-- A contact sheet taken apart. -/
structure SheetF where
  magic : Nat
  version : Nat
  nsub : Nat
  csid : Nat
  variant : Nat
  dw : Nat
  used : Nat
  lit : Nat
  axd : Nat
  axt : Nat
  axp : Nat
  axs : Nat
  base : Nat
  spareblk : Nat
  subs : List Nat
  reserved : Bool          -- a reserved bit is set
  deriving DecidableEq, Repr

def sheetF (img : List Byte) : SheetF :=
  let h := leNat (img.take 128)
  let f := bits h
  let subs := (List.range ((img.length - 128) / 4)).map (fun i => leNat ((img.drop (128 + 4 * i)).take 4))
  { magic := f 31 0, version := f 47 32, nsub := f 63 48, csid := f 95 64, variant := f 96 96, dw := f 100 97,
    used := f 116 104, lit := f 175 128, axd := f 207 192, axt := f 223 208, axp := f 239 224, axs := f 255 240,
    base := f 268 256, spareblk := f 767 512, subs := subs.map (fun w => w % 8192),
    reserved := decide (f 103 101 ≠ 0 ∨ f 127 117 ≠ 0 ∨ f 191 176 ≠ 0 ∨ f 207 205 ≠ 0 ∨ f 223 221 ≠ 0 ∨
      f 239 237 ≠ 0 ∨ f 255 253 ≠ 0 ∨ f 511 269 ≠ 0 ∨ f 1023 768 ≠ 0) || subs.any (fun w => decide (8192 ≤ w)) }

/-- The sheet in force, none before one is committed. -/
def sheetNow (s : State) : Option SheetF := if s.fabric.sheet.isEmpty then none else some (sheetF s.fabric.sheet)
/-- USED of the sheet in force; empty with none (R388). -/
def usedDims (s : State) : Nat := ((sheetNow s).map (fun f => f.used)).getD 0
/-- 2A00h:06. -/
def csidNow (s : State) : Nat := ((sheetNow s).map (fun f => f.csid)).getD 0

/-! ### Wiring (R364 to R371) -/

def isActive (a : Nat) : Bool := decide (a < 0x2000)
def isSpare (a : Nat) : Bool := decide (0x2000 ≤ a ∧ a < 0x2100)

/-- The neighbour of an active member across a dimension (R368). -/
def nbr (twisted : Bool) (x d : Nat) : Nat :=
  let y := x ^^^ 2 ^ d
  if twisted ∧ d % 2 = 1 ∧ 3 ≤ d ∧ d ≤ 11 ∧ x.testBit (d - 2) then y ^^^ 2 ^ (d - 1) else y

/-- The role dimension of a port of an active member; none for FB47 (R369). -/
def dimOfPort (q : Nat) : Option Nat :=
  if q < 39 then some (q % 13) else if q < 47 then some (q - 39) else none

/-- 9100h:01: the role of a port (R403). -/
def portRole (s : State) (q : Nat) : Nat :=
  let a := s.fabric.member.toNat
  if isActive a then (dimOfPort q).getD 13
  else if isSpare a then (if q % 6 < 4 then 14 else 0xFF)
  else 0xFF

/-- The ports whose role is a dimension. -/
def portsOfDim (d : Nat) : List Nat := (List.range 47).filter (fun q => decide (dimOfPort q = some d))

/-- The block member that a spare's port faces (R369). -/
def spareFaces (block q : Nat) : Nat := 32 * block + 4 * (q / 6) + q % 6

/-- The expected partner of a port: member and port (R375). -/
def expected (s : State) (q : Nat) : Option (Nat × Nat) :=
  let a := s.fabric.member.toNat
  if isActive a then
    match dimOfPort q with
    | some d => some (nbr (decide (s.fabric.variant = 1#8)) a d, q)
    | none => some (0x2000 + a / 32, 6 * (a % 32 / 4) + a % 32 % 4)
  else if isSpare a ∧ q % 6 < 4 then some (spareFaces (a - 0x2000) q, 47)
  else none

/-- The block of a member address: of an active member or of its spare (R365). -/
def blockOf (a : Nat) : Nat := if isActive a then a / 32 else a - 0x2000

/-- An address is a member of the job of a sheet (R388). -/
def jobMember (f : SheetF) (a : Nat) : Bool :=
  if isActive a then decide ((a ||| f.used) = (f.base ||| f.used))
  else isSpare a && f.spareblk.testBit (a - 0x2000)

/-- An address is in the job: with no sheet, the package alone (R388). -/
def inJob (s : State) (a : Nat) : Bool :=
  match sheetNow s with
  | some f => jobMember f a
  | none => decide (a = s.fabric.member.toNat)

/-- The member counts as its own address in the job: an active member of it, or a spare that has assumed one (R461). -/
def jobActive (s : State) : Bool :=
  match sheetNow s with
  | some f => isActive (jobAddress s) && jobMember f (jobAddress s)
  | none => true

/-! ### Ports -/

def portOf (s : State) (q : Nat) : PortS := vget s.fabric.ports q PortS.reset
def updFabric (s : State) (f : FabricS → FabricS) : State := { s with fabric := f s.fabric }
def updPort (s : State) (q : Nat) (f : PortS → PortS) : State := updFabric s (fun x => { x with ports := vmod x.ports q f })
def engOf (s : State) (e : Nat) : EngineS := vget s.optics.engines e EngineS.reset
def updOptics (s : State) (f : OpticsS → OpticsS) : State := { s with optics := f s.optics }
def updEng (s : State) (e : Nat) (f : EngineS → EngineS) : State := updOptics s (fun o => { o with engines := vmod o.engines e f })
def laneOf (s : State) (l : Nat) : LaneS := vget s.optics.lanes l LaneS.reset
def updLane (s : State) (l : Nat) (f : LaneS → LaneS) : State := updOptics s (fun o => { o with lanes := vmod o.lanes l f })

/-- The engine that lights a port (9100h:07): one that is out of service lights none. -/
def engineOfPort (s : State) (q : Nat) : Option Nat :=
  (List.range 32).find? (fun e => decide ((engOf s e).port = some q ∧ (engOf s e).st ≠ .outOfService))

def laserOf (s : State) (n : Nat) : LaserS := vget s.optics.lasers n LaserS.reset

/-- A port is lit: an engine whose laser is ON has it. -/
def portLit (s : State) (q : Nat) : Bool :=
  match engineOfPort s q with
  | some e => decide ((laserOf s (e / 2)).st = .on)
  | none => false

/-- The lane set of an engine: its lanes IN_SERVICE that no re-sweep has out (R325, R329). -/
def laneSet (s : State) (e : Nat) : List Nat :=
  ((List.range 16).map (fun i => 16 * e + i)).filter (fun l => decide ((laneOf s l).st = .inService ∧ (laneOf s l).outUntil ≤ s.now))

/-- A port carries cells: lit, MATCH, not darkened, not in safelight mode, and with a lane IN_SERVICE (R376, R416). A package
without an address carries discovery records only (R367). -/
def portCarries (s : State) (q : Nat) : Bool :=
  match engineOfPort s q with
  | none => false
  | some e =>
    decide ((portOf s q).outcome = 5#8) && !(portOf s q).dark && decide (s.fabric.member ≠ 0xFFFF#16) &&
      !(vget s.optics.ports q OptPortS.reset).safelight && !(laneSet s e).isEmpty

/-- A neighbour across a dimension is reachable (R416). -/
def dimReachable (s : State) (d : Nat) : Bool := (portsOfDim d).any (portCarries s)

/-- The lanes in service that the sheet lights on a dimension (R181, code 11h). -/
def lanesOnDim (s : State) (d : Nat) : Nat :=
  match sheetNow s with
  | none => 0
  | some f =>
    (((portsOfDim d).filter (fun q => f.lit.testBit q)).map (fun q =>
      match engineOfPort s q with
      | some e => (laneSet s e).length
      | none => 0)).sum

/-- A neighbour is reached through a port (R381): it is lit, its outcome is MATCH, and MEMBER_LOST does not stand for it (R393,
R400). -/
def portReaches (s : State) (q : Nat) : Bool := portLit s q && decide ((portOf s q).outcome = 5#8) && !(portOf s q).lostRaised

/-- NEIGHBOUR_MISSING of R381. -/
def neighbourMissing (s : State) : Bool :=
  match sheetNow s with
  | none => false
  | some f =>
    let a := s.fabric.member.toNat
    if isActive a then
      (jobMember f a && (setBits 13 f.used).any (fun d =>
        !((portsOfDim d).any (portReaches s)) &&
          !f.subs.contains (nbr (decide (s.fabric.variant = 1#8)) a d))) ||
        (portLit s 47 && !portReaches s 47)
    else
      (List.range 48).any (fun q => decide (portRole s q = 14) && portLit s q && !portReaches s q)

end Sys2Proof.Machine
end

