-- ==== Sys2Proof/Machine/Decl.lean ====
section
/-! DEFINITION. The resource declaration of a negative (R171 to R173): its fields, what lies within it, and which units
it declares (R184). -/

namespace Sys2Proof.Machine

/-- The global block (R171). -/
structure DeclG where
  csid : Nat
  ngroups : Nat
  nmcast : Nat
  flashb : Nat
  engmin : Nat
  deriving DecidableEq, Repr

def declG (decl : List Byte) : DeclG :=
  let n := leNat (decl.take 64)
  { csid := bits n 31 0, ngroups := bits n 38 32, nmcast := bits n 63 48, flashb := bits n 127 64,
    engmin := bits n 231 128 }

/-- Reserved bits of the global block. -/
def declGReserved (decl : List Byte) : Bool :=
  let n := leNat (decl.take 64)
  decide (bits n 47 39 ≠ 0 ∨ bits n 511 232 ≠ 0)

/-- A die block (R172). -/
structure DieBlock where
  arrays : Nat
  vxe : Bool
  reels : Nat
  seqb : Nat
  stageb : Nat
  storeb : Nat
  hbmBase : Nat
  hbmLen : Nat
  actb : Nat
  actTier : Nat
  actBase : Nat
  actLen : Nat
  parks : Nat
  deriving DecidableEq, Repr

def blockNum (decl : List Byte) (k : Nat) : Nat := leNat ((decl.drop (64 + 128 * k)).take 128)

def dieBlock (decl : List Byte) (k : Nat) : DieBlock :=
  let n := blockNum decl k
  { arrays := bits n 7 0, vxe := n.testBit 8, reels := bits n 23 16, seqb := bits n 63 32, stageb := bits n 95 64,
    storeb := bits n 127 96, hbmBase := bits n 191 128, hbmLen := bits n 255 192, actb := bits n 287 256,
    actTier := bits n 289 288, actBase := bits n 383 320, actLen := bits n 447 384, parks := bits n 1023 512 }

def dieBlockReserved (decl : List Byte) (k : Nat) : Bool :=
  let n := blockNum decl k
  decide (bits n 15 9 ≠ 0 ∨ bits n 31 24 ≠ 0 ∨ bits n 319 290 ≠ 0 ∨ bits n 511 448 ≠ 0)

/-- PARKa of a die block. -/
def DieBlock.park (b : DieBlock) (a : Nat) : Nat := bits b.parks (64 * a + 63) (64 * a)

/-- A range of an array's operand buffers meets a park slot. -/
def parkMeets (b : DieBlock) (a off len : Nat) : Bool :=
  (setBits 64 (b.park a)).any (fun q => rangesMeet (131072 * q) 131072 off len)

/-- Flash bytes of a partition's quota (D100h:02, GiB). -/
def quotaBytes (s : State) (p : Nat) : Nat := (vget s.sec.flashQuota p 0#16).toNat * 1073741824

/-- A range that a move of a partition's negative may name, by its declaration (R173, R219, R606). -/
def inDecl (s : State) (p : Nat) (dieMask : Nat) (decl : List Byte) (a : Addr) (len : Nat) : Bool :=
  match a.tier with
  | .flash => decide (a.off + len ≤ (declG decl).flashb)
  | .host => true
  | .hbm =>
    let b := dieBlock decl a.unit
    dieMask.testBit a.unit && decide (partOfDie s a.unit = some p) &&
      decide (b.hbmBase ≤ a.off ∧ a.off + len ≤ b.hbmBase + b.hbmLen)
  | .store =>
    let b := dieBlock decl a.unit
    dieMask.testBit a.unit && decide (partOfDie s a.unit = some p) && decide (a.off + len ≤ b.storeb)
  | .loc =>
    let k := a.unit / 16
    let b := dieBlock decl k
    dieMask.testBit k && decide (partOfDie s k = some p) &&
      (if a.unit % 16 = 8 then b.vxe && decide (a.off + len ≤ 0x200000 + b.stageb)
       else b.arrays.testBit (a.unit % 16) && decide (a.off + len ≤ 0x800000) && !parkMeets b (a.unit % 16) a.off len)

/-- A range that an IOD reel's move of a partition without a negative may name (R246). -/
def inPartition (s : State) (p : Nat) (a : Addr) (len : Nat) : Bool :=
  match a.tier with
  | .flash => decide (a.off + len ≤ quotaBytes s p)
  | .host =>
    let w := vget s.host.windows a.unit WindowS.reset
    decide (w.owner.toNat = p ∧ a.off + len ≤ bits w.desc.toNat 199 160)
  | .hbm => decide (partOfDie s a.unit = some p) && decide (a.off + len ≤ pairBytes s a.unit)
  | .store => decide (partOfDie s a.unit = some p) && decide (a.off + len ≤ storeBytes s a.unit)
  | .loc => false

/-- A range meets a park area that the negative of its die's partition declares (R85). -/
def namesPark (s : State) (a : Addr) (len : Nat) : Bool :=
  match a.tier, partOfDie s (a.unit / 16) with
  | .loc, some p => decide (a.unit % 16 < 8) && !(negOf s p).decl.isEmpty &&
      parkMeets (dieBlock (negOf s p).decl (a.unit / 16)) (a.unit % 16) a.off len
  | _, _ => false

/-- The range check of a move of partition p: against the negative it holds, or the partition's own (R238, R246). -/
def moveInside (s : State) (p : Nat) (a : Addr) (len : Nat) : Bool :=
  let n := negOf s p
  if n.decl.isEmpty then inPartition s p a len else inDecl s p n.dieMask.toNat n.decl a len

/-! ### Units that leave service (R184) -/

/-- A partition's negative declares a unit of R721: the dies of DIEMASK with their arrays, VXE, sequencer, reels,
pair and store, and the CLE when it has groups. -/
def declaresUnit (n : NegS) (uk ui : Nat) : Bool :=
  if n.decl.isEmpty then false
  else if uk = ukCLELANE then decide (0 < (declG n.decl).ngroups)
  else match dieOfUnit uk ui with
    | none => false
    | some k =>
      let b := dieBlock n.decl k
      n.dieMask.toNat.testBit k &&
        (match uk with
         | 0x01 => b.arrays.testBit (ui % 8)
         | 0x02 => b.vxe
         | 0x03 => true
         | 0x04 => b.reels.testBit (ui % 8)
         | 0x06 => decide (b.storeb ≠ 0)
         | 0x07 => decide (b.hbmLen ≠ 0)
         | _ => false)

/-- Every negative that declares a unit is told that it has left service (R184). -/
def unitLeaves (s : State) (uk ui : Nat) : State :=
  (List.range 8).foldl (fun t p =>
    let n := negOf t p
    if declaresUnit n uk ui ∧ n.state ≠ .empty ∧ n.state ≠ .checking then
      let d := (dieOfUnit uk ui).getD ((negDies t p).headD 0)
      let t1 := loseUnit t p d
      updSeq t1 d (fun q => if q.st = .outOfService then q else { q with fail := BitVec.ofNat 8 frUNIT })
    else t) s

/-- A page retires under a declared HBM region: a unit leaving service (R283). -/
def pageLeaves (s : State) (k page : Nat) : State :=
  match partOfDie s k with
  | none => s
  | some p =>
    let n := negOf s p
    let b := dieBlock n.decl k
    if n.decl.isEmpty = false ∧ n.dieMask.toNat.testBit k ∧ rangesMeet (65536 * page) 65536 b.hbmBase b.hbmLen then
      updSeq (loseUnit s p k) k (fun q => { q with fail := BitVec.ofNat 8 frUNIT })
    else s

end Sys2Proof.Machine
end

