-- ==== Sys2Proof/Machine/Vxe.lean ====
section
/-! DEFINITION. The vector engine's shared operations (chapter 4): reading sources, writing sheets and planes, random
bits (R154 to R156), tables (R140 to R143), and one run of an instruction with its faults (R130 to R133). -/

namespace Sys2Proof.Machine

/-! ### Reading -/

/-- The 32-bit slot of element (r, c) of a sheet (R117). -/
def slotAt (v : VxeS) (k r c : Nat) : Nat := leNat (memLoadN v.mem (0x40000 * k + 1024 * r + 4 * c) 4)

def sheetTag (v : VxeS) (k : Nat) : SheetTag := vget v.sheets k { fmt := 0#3, int := false, status := 0#8 }

/-- Bit (r, c) of a mask plane; M0 reads as all ones (R123). -/
def maskBit (v : VxeS) (k r c : Nat) : Bool := decide (k = 0) || (vget v.masks k 0#65536).getLsbD (256 * r + c)

/-- The tag of a source: its sheet's, or FP32 (INT32 with DINT) for a scalar (R124). -/
def srcTag (v : VxeS) (f : VxeF) (code : Nat) : Nat × Bool :=
  if code = 6 then (4, f.dint) else ((sheetTag v code).fmt.toNat, (sheetTag v code).int)

/-- The raw bits of a source element: a sheet's slot, or the scalar broadcast (R124). -/
def srcRaw (v : VxeS) (f : VxeF) (code r c : Nat) : Nat :=
  if code = 6 then (vget v.xs f.scal 0#32).toNat else slotAt v code r c

/-- A raw value in the format of a tag: an exact number (R120). -/
def readTagged (tag : Nat × Bool) (raw : Nat) : FpVal :=
  if tag.2 then .fin (decide (signedOf 32 raw < 0)) (signedOf 32 raw).natAbs 0
  else readNum (fmtD tag.1) (raw % 2 ^ fmtBits (fmtD tag.1))

def srcNum (v : VxeS) (f : VxeF) (code r c : Nat) : FpVal := readTagged (srcTag v f code) (srcRaw v f code r c)

/-- The sign bit of a source element, by its tag's width. -/
def srcSign (v : VxeS) (f : VxeF) (code r c : Nat) : Bool :=
  let t := srcTag v f code
  (srcRaw v f code r c).testBit (if t.2 then 31 else fmtBits (fmtD t.1) - 1)

/-- The status byte a source brings (R129): none for a scalar. -/
def srcStatus (v : VxeS) (code : Nat) : Byte := if code < 6 then (sheetTag v code).status else 0#8

/-- The status bytes of every source sheet of an instruction, ORed. -/
def srcStatuses (v : VxeS) (f : VxeF) : Byte :=
  (if usesA f.op then srcStatus v f.sa else 0#8) ||| (if usesB f.op then srcStatus v f.sb else 0#8) |||
  (if usesC f.op then srcStatus v f.sc else 0#8) ||| (if opOpt f.op then srcStatus v f.dst else 0#8)

/-! ### Random bits -/

/-- The next 16 random bits of a lane (R154). -/
def vxeBits (seed : U32) (k lane : Nat) (n : BitVec 48) : Nat :=
  let x := seed ^^^ n.setWidth 32 ^^^ 0x7F4A7C15#32
  let y := (BitVec.ofNat 32 (n.toNat / 2 ^ 32) <<< 14) ^^^ (BitVec.ofNat 32 k <<< 11) ^^^ BitVec.ofNat 32 lane
  (mix32 (x ^^^ (y * 0x9E3779B9#32))).toNat / 65536

/-- The lane of an element (R121). -/
def vlaneOf (r c : Nat) : Nat := 256 * (r % 8) + c

/-- The draw of element (r, c) when its lane has taken `before` draws in this instruction. -/
def drawAt (v : VxeS) (die r c before : Nat) : Nat :=
  vxeBits v.seed die (vlaneOf r c) (vget v.draws (vlaneOf r c) 0#48 + BitVec.ofNat 48 before)

/-- The draw of element (r, c) of an instruction that writes every element: rows of a lane in increasing order (R156). -/
def fullDraw (v : VxeS) (die : Nat) (rm : Rm) (r c : Nat) : Nat := if rm = .sr then drawAt v die r c (r / 8) else 0

/-- Every lane has taken n draws (R155: the counters wrap at 2^48). -/
def advanceAll (n : Nat) (v : VxeS) : VxeS := { v with draws := v.draws.map (fun x => x + BitVec.ofNat 48 n) }

/-- The lanes of the written elements of a reduction have each taken their draws (R156, R138). -/
def advanceLines (dir : Bool) (v : VxeS) : VxeS :=
  if dir then { v with draws := (List.range 8).foldl (fun d p => vmod d (256 * p) (fun x => x + 32#48)) v.draws }
  else { v with draws := (List.range 256).foldl (fun d c => vmod d c (fun x => x + 1#48)) v.draws }

/-! ### Writing -/

/-- What an instruction makes of one element: its code, the status of its roundings, and whether it faulted. -/
structure Elem where
  code : Nat
  st : Byte
  fault : Bool
  deriving DecidableEq, Repr

def Elem.of (p : Nat × Byte) : Elem := { code := p.1, st := p.2, fault := false }

/-- What an instruction makes of the VXE: its new state, and the fault bits it raised (R130). -/
structure VxeRes where
  v : VxeS
  fault : U16
  deriving DecidableEq, Repr

/-- Every element position of a sheet in slot order. -/
def allElems : List (Nat × Nat) := (List.range 256).flatMap (fun r => (List.range 256).map (fun c => (r, c)))

/-- The slots of a sheet from a function of the place. -/
def slotsBytes (g : Nat → Nat → Nat) : List Byte := allElems.flatMap (fun rc => leBytes 4 (g rc.1 rc.2))

/-- Set a sheet's slots, its tag and its status byte (R117, R119). -/
def putSheet (v : VxeS) (k : Nat) (g : Nat → Nat → Nat) (fmt : Nat) (int : Bool) (status : Byte) : VxeS :=
  { v with mem := memStore v.mem (0x40000 * k) (slotsBytes g),
           sheets := vset v.sheets k { fmt := BitVec.ofNat 3 fmt, int := int, status := status } }

/-- The slot a masked write leaves (R128). -/
def maskedSlot (v : VxeS) (f : VxeF) (k r c : Nat) (new : Nat) : Nat :=
  if maskBit v f.msk r c then new else if f.zm then 0 else slotAt v k r c

/-- The statuses of the unmasked elements, ORed (R129, R131). -/
def unmaskedStatus (v : VxeS) (f : VxeF) (g : Nat → Nat → Elem) : Byte :=
  allElems.foldl (fun acc rc => if maskBit v f.msk rc.1 rc.2 then acc ||| (g rc.1 rc.2).st else acc) 0#8

/-- Some unmasked element faulted (R130, R131). -/
def anyFault (v : VxeS) (f : VxeF) (g : Nat → Nat → Elem) : Bool :=
  allElems.any (fun rc => maskBit v f.msk rc.1 rc.2 && (g rc.1 rc.2).fault)

/-- An instruction that writes every element of DST under its mask, with the tag given. -/
def elementwise (v : VxeS) (f : VxeF) (fmt : Nat) (int : Bool) (g : Nat → Nat → Elem) : VxeS :=
  putSheet v f.dst (fun r c => maskedSlot v f f.dst r c (g r c).code) fmt int
    (vxeStatus f (sheetTag v f.dst).status (unmaskedStatus v f g) (srcStatuses v f))

/-- The number whose bit 256 r + c is the given one. -/
def planeOf (g : Nat → Nat → Bool) : Nat := (allElems.map (fun rc => g rc.1 rc.2)).foldr (fun b n => 2 * n + b.toNat) 0

/-- Write a mask plane bit by bit under MSK and ZM; a write of M0 is ignored (R123, R128). -/
def putPlane (v : VxeS) (f : VxeF) (g : Nat → Nat → Bool) : VxeS :=
  if f.dst = 0 then v
  else { v with masks := vset v.masks f.dst (BitVec.ofNat 65536 (planeOf (fun r c =>
    if maskBit v f.msk r c then g r c else if f.zm then false else maskBit v f.dst r c))) }

/-! ### Arithmetic in FP32 (fma32 of R134) -/

def round32 (x : Exact) : Nat × Byte := roundExact .fp32 .rne 0 x
/-- A rounded value read back, with the status so far. -/
def num32 (x : Exact) (st : Byte) : FpVal × Byte :=
  let (c, s) := round32 x
  (readNum .fp32 c, st ||| s)

/-! ### Tables (R140 to R143) -/

/-- A table header taken apart (R140). -/
structure TableH where
  emin : Int
  nb : Nat
  sb : Nat
  sym : Nat
  low0 : Nat
  low1 : Nat
  highP0 : Nat
  highP1 : Nat
  highN0 : Nat
  highN1 : Nat
  vpinf : Nat
  vninf : Nat
  valid : Bool
  deriving DecidableEq, Repr

/-- A header from its 64 bytes, with its validity (R142). -/
def tableH (n : Nat) : TableH :=
  let emin := signedOf 8 (bits n 7 0)
  let nb := bits n 12 8 + 1
  { emin := emin, nb := nb, sb := bits n 15 13, sym := bits n 17 16, low0 := bits n 63 32, low1 := bits n 95 64,
    highP0 := bits n 127 96, highP1 := bits n 159 128, highN0 := bits n 191 160, highN1 := bits n 223 192,
    vpinf := bits n 255 224, vninf := bits n 287 256,
    valid := decide (bits n 31 24 = 0x5A ∧ -126 ≤ emin ∧ emin ≤ 127 ∧ bits n 15 13 ≤ 5 ∧ bits n 17 16 ≠ 3 ∧
      emin + (nb : Int) ≤ 128 ∧ bits n 23 18 = 0 ∧ bits n 511 288 = 0) }

def tableAt (v : VxeS) (q : Nat) : TableH := tableH (leNat (memLoadN v.mem (0x180000 + 0x10000 * q) 64))

/-- Coefficient k of entry i of slot q (R141). The reserved bits [127:96] of an entry are not looked at, here or at
admission: no check of R142 or R181 names them (DESIGN CHOICE, log entry 74). -/
def tableCoef (v : VxeS) (q i k : Nat) : Nat := leNat (memLoadN v.mem (0x180000 + 0x10000 * q + 64 + 16 * i + 4 * k) 4)

def fma32 (a b c : FpVal) (st : Byte) : FpVal × Byte := num32 (fmaExact a b c) st

/-- half_eval of R143, with the statuses of its roundings; x by its FP32 code. -/
def halfEval (v : VxeS) (q : Nat) (t : TableH) (h : Nat) (x : Nat) : FpVal × Byte :=
  let e : Int := (bits x 30 23 : Int) - 127
  let fr := bits x 22 0
  let n (c : Nat) := readNum .fp32 c
  if t.emin + (t.nb : Int) ≤ e then
    if h = 0 then fma32 (n t.highP1) (n x) (n t.highP0) 0#8 else fma32 (n t.highN1) (n x) (n t.highN0) 0#8
  else
    let seg := fr / 2 ^ (23 - t.sb)
    let tt : FpVal := .fin false (fr % 2 ^ (23 - t.sb)) (-((23 - t.sb : Nat) : Int))
    let i := h * t.nb * 2 ^ t.sb + (e - t.emin).toNat * 2 ^ t.sb + seg
    let (y, st) := fma32 (n (tableCoef v q i 2)) tt (n (tableCoef v q i 1)) 0#8
    fma32 y tt (n (tableCoef v q i 0)) st

/-- table_eval of R143 at an FP32 code. -/
def tableEval (v : VxeS) (q : Nat) (x : Nat) : FpVal × Byte :=
  let t := tableAt v q
  let n (c : Nat) := readNum .fp32 c
  let neg := x.testBit 31
  match n x with
  | .nan => (.nan, 0#8)
  | .inf s => (n (if s then t.vninf else t.vpinf), 0#8)
  | .fin _ _ _ =>
    if (bits x 30 23 : Int) - 127 < t.emin then fma32 (n t.low1) (n x) (n t.low0) 0#8
    else if neg && decide (t.sym ≠ 0) then
      let (y, st) := halfEval v q t 0 (x - 2 ^ 31)
      (if t.sym = 2 then negNum y else y, st)
    else if neg then halfEval v q t 1 x
    else halfEval v q t 0 x

/-- The FP32 code of a table's input (R143): exact in FP32 but for wide integers, whose input no rule states. -/
def tableInput (v : VxeS) (f : VxeF) (r c : Nat) : Nat :=
  let t := srcTag v f f.sa
  let (code, st) := round32 (exactOf (srcNum v f f.sa r c))
  if t.2 && decide (st &&& stINX ≠ 0#8) then Config.tableIntInput (signedOf 32 (srcRaw v f f.sa r c)) % 2 ^ 32 else code

/-! ### Running one instruction -/

/-- The staging offset of MLOAD and MSTORE, when its 8 KiB lies in the staging area (R791). -/
def planeOffset (v : VxeS) (f : VxeF) : Option Nat :=
  let off := (vget v.xs f.scal 0#32).toNat
  if off + 8192 ≤ 6291456 then some (0x200000 + off) else none

/-- Ranges of VXE storage an instruction reads: of the staging area, only what an MLOAD reads (R791). What a Vilcon kernel
reads is its own affair. -/
def vxeReadRanges (v : VxeS) (die : Nat) (w : BitVec 64) : List (Nat × Nat) :=
  let f := vxeF w
  if f.op = 0x70 then []
  else if f.op = 0x2C then ((planeOffset v f).map (fun a => (a, 8192))).toList
  else (vxeReads die w).filterMap (fun r => if r.place = .vxe die then some (r.lo, r.len) else none)

/-- An instruction writes the slot of element (r, c) of its destinations (R128, R138, R152). -/
def writesSlot (v : VxeS) (f : VxeF) (r c : Nat) : Bool :=
  if opReduce f.op then (if f.dir then decide (c = 0) else decide (r = 0))
  else maskBit v f.msk r c || (f.zm && !opOpt f.op)

/-- The sheets an instruction writes. -/
def sheetsWritten (f : VxeF) : List Nat :=
  if f.op = 0x70 then []
  else (if writesSheet f.op then [f.dst] else []) ++ (if f.op = 0x60 then [f.sb, f.sc] else if f.op = 0x61 then [f.sb] else [])

/-- Whether an instruction writes byte x of VXE storage. -/
def writesByte (v : VxeS) (f : VxeF) (x : Nat) : Bool :=
  if f.op = 0x2D then (planeOffset v f).any (fun a => decide (a ≤ x ∧ x < a + 8192))
  else (sheetsWritten f).contains (x / 0x40000) && writesSlot v f (x % 0x40000 / 1024) (x % 1024 / 4)

/-- The bytes of a bad word that an instruction writes: none, some or all of them. -/
def writesSome (v : VxeS) (f : VxeF) (b : BadLoc) : Bool := (List.range b.len).any (fun i => writesByte v f (b.lo + i))
def writesAll (v : VxeS) (f : VxeF) (b : BadLoc) : Bool := (List.range b.len).all (fun i => writesByte v f (b.lo + i))

/-- The bad words of a VXE's storage. -/
def vxeBad (s : State) (die : Nat) : List BadLoc := s.mem.bad.filter (fun b => decide (b.place = .vxe die))

/-- The instruction's reads, and its writes of part of a bad word (R261, R262): the state, and whether data was withheld. -/
def vxeReadCheck (s : State) (die : Nat) (w : BitVec 64) (rd : ReadObs) : State × Bool :=
  let f := vxeF w
  let (s1, bad) := if f.op = 0x70 then readCheck s (.vxe die) 0 0 rd
    else readRuns (.vxe die) (vxeReadRanges (vxeOf s die) die w) rd s
  if bad.isSome then (s1, true)
  else match (vxeBad s1 die).find? (fun b => writesSome (vxeOf s1 die) f b && !writesAll (vxeOf s1 die) f b) with
    | some b => (redetect s1 (.vxe die) b.lo .uncorrectable, true)
    | none => (s1, false)

/-- Bad words that an instruction has written whole: they hold new data (R262). `v` is the VXE as it stood before. -/
def clearBad (s : State) (die : Nat) (v : VxeS) (w : BitVec 64) : State :=
  updMem s (fun m => { m with bad := m.bad.filter (fun b => !(decide (b.place = .vxe die) && writesAll v (vxeF w) b)) })

/-- The instruction has completed: retired, and its kernel one word on. -/
def retire (v : VxeS) : VxeS :=
  { v with retired := bump v.retired, kernel := v.kernel.map (fun k => { k with done := k.done + 1 }) }

/-- The offset of the present instruction within its kernel (R132). -/
def kernelOffset (v : VxeS) : Nat := (v.kernel.map (fun k => 8 * k.done)).getD 0

/-- The VXE comes to a word (R122, R126): it is the next of the kernel that the VXE runs, its opcode is the one given, and
the island's clock runs (R22). -/
def vxeAt (s : State) (die op : Nat) (w : BitVec 64) : Bool :=
  decide ((vxeOf s die).st = .running) && decide (nextWord s die = some w) && decide (field w 7 0 = op) &&
    islandRuns s (10 * die + 8)

/-- One native instruction of an opcode: reads, its effect, and its fault if it has one (R132); a withheld read leaves the
destination indeterminate and stops the VXE (R261), and then an instruction in SR has taken none of the draws of R156 (DESIGN CHOICE,
log entry 74). -/
def vxeRun (s : State) (die op : Nat) (w : BitVec 64) (rd : ReadObs) (body : VxeF → VxeS → VxeRes) : State :=
  if vxeAt s die op w then
    let (s1, bad) := vxeReadCheck s die w rd
    if bad then faultVxe (updVxe ((vxeWrites die w).foldl scrambleAny s1) die retire) die
    else
      let v := vxeOf s1 die
      let r := body (vxeF w) v
      let s2 := clearBad (updVxe s1 die (fun _ => retire r.v)) die v w
      if r.fault = 0#16 then s2
      else faultVxe (updVxe s2 die (fun x =>
        { x with faultWord := x.faultWord ||| r.fault, faultOff := BitVec.ofNat 32 (kernelOffset v) })) die
  else s

/-- An effect without a fault. -/
def noFault (v : VxeS) : VxeRes := { v := v, fault := 0#16 }

end Sys2Proof.Machine
end

