-- ==== Sys2Proof/Machine/Admission.lean ====
section
/-! DEFINITION. Admission of a negative (R166 to R183): the image's parts, every check of R181 in code order with the
detail of R182, and the placing of an admitted negative (R178). -/

namespace Sys2Proof.Machine

/-! ### The image -/

/-- A directory entry in use (R168). -/
structure Sect where
  idx : Nat
  type : Nat
  die : Nat
  off : Nat
  len : Nat
  deriving DecidableEq, Repr

/-- An image as admission sees it: the storage it is in, where it begins, 8700h:02, its header and its directory. -/
structure Img where
  mem : Mem
  base : Nat
  size : Nat            -- 8700h:02
  hdr : Nat
  dir : List Nat
  deriving DecidableEq, Repr

def Img.bytes (m : Img) (off len : Nat) : List Byte := memLoadN m.mem (m.base + off) len

def imgOf (mem : Mem) (base size : Nat) : Img :=
  { mem := mem, base := base, size := size, hdr := leNat (memLoadN mem base 256),
    dir := (List.range 64).map (fun i => leNat (memLoadN mem (base + 256 + 16 * i) 16)) }

def Img.dieMask (m : Img) : Nat := bits m.hdr 103 96
def Img.nsect (m : Img) : Nat := bits m.hdr 111 104
def Img.length (m : Img) : Nat := bits m.hdr 95 64
def Img.negId (m : Img) : Nat := bits m.hdr 191 128
def Img.dies (m : Img) : List Nat := setBits 8 m.dieMask

def sectOf (i e : Nat) : Sect := { idx := i, type := bits e 7 0, die := bits e 15 8, off := bits e 63 32, len := bits e 95 64 }
/-- Entries in use that name a section, in directory order. -/
def Img.sects (m : Img) : List Sect :=
  (((List.range 64).zip m.dir).take m.nsect).map (fun p => sectOf p.1 p.2) |>.filter (fun x => decide (x.type ≠ 0))

/-- The section of a type that serves a die. -/
def Img.sect (m : Img) (die type : Nat) : Option Sect := m.sects.find? (fun x => decide (x.die = die ∧ x.type = type))
def Img.sectLen (m : Img) (die type : Nat) : Nat := ((m.sect die type).map (fun x => x.len)).getD 0
def Img.sectIdx (m : Img) (die type : Nat) : Nat := ((m.sect die type).map (fun x => x.idx)).getD 0xFF
/-- Bytes of a section; none where it has no section. -/
def Img.sectBytes (m : Img) (die type : Nat) : List Byte :=
  match m.sect die type with
  | some x => m.bytes x.off x.len
  | none => []
/-- The number at an offset of a section. -/
def Img.num (m : Img) (die type off len : Nat) : Nat :=
  match m.sect die type with
  | some x => leNat (m.bytes (x.off + off) (min len (x.len - off)))
  | none => 0
def Img.decl (m : Img) : List Byte :=
  match m.sects.find? (fun x => decide (x.type = 1)) with
  | some x => m.bytes x.off (min x.len 1088)
  | none => []
def Img.declIdx (m : Img) : Nat := ((m.sects.find? (fun x => decide (x.type = 1))).map (fun x => x.idx)).getD 0xFF

/-- The instructions of a die's PROGRAM, with their offsets. -/
def Img.prog (m : Img) (die : Nat) : List (Nat × BitVec 128) :=
  (List.range (m.sectLen die 2 / 16)).map (fun i => (16 * i, BitVec.ofNat 128 (m.num die 2 (16 * i) 16)))
def Img.kwords (m : Img) (die : Nat) : List (Nat × BitVec 64) :=
  (List.range (m.sectLen die 3 / 8)).map (fun i => (8 * i, BitVec.ofNat 64 (m.num die 3 (8 * i) 8)))
def Img.descs (m : Img) (die : Nat) : List (Nat × BitVec 512) :=
  (List.range (m.sectLen die 6 / 64)).map (fun i => (64 * i, BitVec.ofNat 512 (m.num die 6 (64 * i) 64)))
def Img.group (m : Img) (die g : Nat) : BitVec 256 := BitVec.ofNat 256 (m.num die 7 (32 * g) 32)
def Img.colls (m : Img) (die : Nat) : List (Nat × BitVec 512) :=
  (List.range ((m.sectLen die 7 - 2048) / 64)).map (fun i => (2048 + 64 * i, BitVec.ofNat 512 (m.num die 7 (2048 + 64 * i) 64)))

/-! ### Failing items (R182) -/

/-- The die, the directory entry and the offset of a failing item. -/
structure FailAt where
  die : Nat
  sect : Nat
  off : Nat
  deriving DecidableEq, Repr

def failLe (a b : FailAt) : Bool :=
  decide (a.die < b.die ∨ (a.die = b.die ∧ (a.off < b.off ∨ (a.off = b.off ∧ a.sect ≤ b.sect))))

/-- The first failing item of a check: dies in increasing order, items in increasing offset (R182). -/
def firstFail : List FailAt → Option FailAt
  | [] => none
  | f :: fs => match firstFail fs with
    | none => some f
    | some g => some (if failLe f g then f else g)

def Img.at (m : Img) (die type off : Nat) : FailAt := ⟨die, m.sectIdx die type, off⟩
def Img.atBlock (m : Img) (die off : Nat) : FailAt := ⟨die, m.declIdx, 64 + 128 * die + off⟩
def Img.atGlobal (m : Img) (off : Nat) : FailAt := ⟨0xFF, m.declIdx, off⟩
def atHeader (off : Nat) : FailAt := ⟨0xFF, 0xFF, off⟩
def failIf (b : Bool) (f : FailAt) : List FailAt := if b then [f] else []

/-! ### What a descriptor must be (R235, R465, R466) -/

def addrLay (a : Addr) (lay es off : Nat) : Bool :=
  match lay with
  | 0 => decide (off % 512 = 0) && !(a.tier = .loc && decide (a.unit % 16 < 8) &&
      (decide (off % 131072 ≠ 0) || (decide (es = 4) && decide (62 < off / 131072))))
  | 1 => decide (off % 64 = 0) && !(a.tier = .loc && decide (a.unit % 16 < 8))
  | _ => a.tier = .loc && decide (a.unit % 16 = 8 ∧ off % 0x40000 = 0 ∧ off / 0x40000 < 6)

/-- Every tile of one side lies as R229, R230 and R231 ask; a tile outside the address map is left to R173. -/
def sideLaid (base stride nt lay es : Nat) : Bool :=
  (List.range nt).all (fun i => match addrF (tileAddr base stride 0 i) with
    | some a => addrLay a lay es a.off
    | none => decide (0 < i))

/-- A reel descriptor has a reserved bit or code (R9, R10, R233, R234). -/
def descReserved (d : BitVec 512) : Bool :=
  let f := descF d
  decide (field d 15 15 ≠ 0 ∨ field d 63 52 ≠ 0 ∨ field d 511 384 ≠ 0) || decide (3 < f.kind) || decide (4 < f.efmt) ||
    decide (f.slay = 3 ∨ f.dlay = 3)

/-- A reel descriptor has a fault of its fields or addresses (R229 to R234, R530). -/
def descLayoutBad (d : BitVec 512) : Bool :=
  let f := descF d
  let es := elemBytes f.efmt
  let src := decide (f.kind = 0 ∨ f.kind = 1)
  let dst := decide (f.kind ≠ 1)
  let tier (x : Nat) : Option Tier := (addrF x).map (fun a => a.tier)
  (f.eint && decide (f.efmt ≠ 4)) || decide (f.nt = 0 ∨ 65535 < f.nt) || decide (7 < f.pep) ||
  (decide (f.kind = 1) && decide (f.dst ≠ 0)) || (decide (f.kind = 2 ∨ f.kind = 3) && decide (f.src ≠ 0)) ||
  (decide (f.kind = 3) && f.statr) || (f.vcb && decide (f.kind ≠ 1)) ||
  (decide (f.slay ≠ 1) && decide (f.spitch ≠ 0)) || (decide (f.dlay ≠ 1) && decide (f.dpitch ≠ 0)) ||
  (src && (!sideLaid f.src f.sstride f.nt f.slay es || (decide (f.slay = 1) && decide (64 * f.spitch < 256 * es)))) ||
  (dst && (!sideLaid f.dst f.dstride f.nt f.dlay es || (decide (f.dlay = 1) && decide (64 * f.dpitch < 256 * es)))) ||
  ((f.statr || f.statw) && (addrF f.stat).isNone) ||
  (decide (f.kind = 0) && decide (tier f.src = tier f.dst ∧ (tier f.src = some .flash ∨ tier f.src = some .host))) ||
  (decide (f.kind ≠ 0) && ((src && decide (tier f.src = some .host)) || (dst && decide (tier f.dst = some .host))))

/-- A reel descriptor is refused with IMAGE_FORMAT (R235, R530). -/
def descFormatBad (d : BitVec 512) : Bool := descReserved d || descLayoutBad d

/-- The ranges a descriptor names, before the addition of R191: every tile of each side, and the status array. -/
def descRanges (d : BitVec 512) : List (Nat × Nat) :=
  let f := descF d
  (if f.kind = 0 ∨ f.kind = 1 then
    (List.range f.nt).map (fun i => (tileAddr f.src f.sstride 0 i, tileSpan f.slay f.efmt f.spitch)) else []) ++
  (if f.kind ≠ 1 then
    (List.range f.nt).map (fun i => (tileAddr f.dst f.dstride 0 i, tileSpan f.dlay f.efmt f.dpitch)) else []) ++
  (if f.statr || f.statw then [(f.stat, f.nt)] else [])

/-- Members of a group, and dies of it per member (R460). -/
def GroupF.p (g : GroupF) : Nat := 2 ^ (setBits 13 g.dims).length
def GroupF.d (g : GroupF) : Nat := (setBits 8 g.dmask).length

/-- ceil(a / b). -/
def cdiv (a b : Nat) : Nat := if b = 0 then 0 else (a + b - 1) / b

/-- The SCRATCH minimum that admission can compute (R465); PERMUTE's needs its map. -/
def scratchMin (f : CollF) (g : GroupF) : Nat :=
  let nr := (setBits 13 g.dims).length
  let ring := 12 * nr * cdiv (cdiv f.count g.p) nr
  let bfly := if g.p = 1 then 4 * f.count else 12 * f.count
  match f.op with
  | 1 => if g.p = 1 then 4 * f.count else
      (match f.alg with
       | 1 => ring
       | 2 => bfly
       | _ => min ring bfly)
  | 2 => if g.p = 1 then 4 * f.count else ring
  | _ => 0

/-- The buffers of a call: address and length (R465). The source of a BROADCAST is the root's alone. -/
def collBufs (f : CollF) (g : GroupF) : List (Nat × Nat) × List (Nat × Nat) × List (Nat × Nat) :=
  let sb := elemBytes f.sfmt
  let n := f.count
  let ranks := g.p * g.d
  let scr := if f.scrlen = 0 then [] else [(f.scratch, f.scrlen)]
  match f.op with
  | 1 => ([(f.src, n * sb)], [(f.dst, n * elemBytes f.dfmt)], scr)
  | 2 => ([(f.src, n * sb)], [(f.dst, n / ranks * elemBytes f.dfmt)], scr)
  | 3 => ([(f.src, n * sb)], [(f.dst, n * ranks * sb)], scr)
  | 4 => ([(f.src, n * sb)], if f.dst = 0 then [] else [(f.dst, n * sb)], scr)
  | 5 => ([], [(f.dst, 16)], scr)
  | 6 => ([(f.src, n * sb)], [(f.dst, n * sb)], scr)
  | 7 => ([(f.src, n * sb)], [(f.dst, n * sb)], scr)
  | _ => ([], [], scr)

def bufsMeet (a b : List (Nat × Nat)) : Bool := a.any (fun x => b.any (fun y => rangesMeet x.1 x.2 y.1 y.2))

/-- Reserved bits and codes of a collective entry descriptor, whatever its group (R463, R465). -/
def collReserved (d : BitVec 512) : Bool :=
  let f := collF d
  let arith := decide (f.op = 1 ∨ f.op = 2)
  decide (7 < f.op) || decide (f.redop = 3) || (!arith && decide (f.redop ≠ 0)) || decide (1 < f.rmode) ||
  decide (4 < f.sfmt ∨ 4 < f.dfmt) || decide (f.alg = 3) ||
  decide (field d 31 22 ≠ 0 ∨ field d 63 59 ≠ 0 ∨ field d 511 480 ≠ 0) ||
  (decide (f.op = 5) && decide (bits f.aux 63 46 ≠ 0))

/-- A collective entry descriptor is refused with IMAGE_FORMAT for a group (R465, R466). -/
def collFormatBad (d : BitVec 512) (g : GroupF) : Bool :=
  let f := collF d
  let arith := decide (f.op = 1 ∨ f.op = 2)
  let (src, dst, scr) := collBufs f g
  let map := if f.op = 6 then [(f.aux, 8)] else []
  let same := decide ((f.op = 1 ∨ f.op = 6) ∧ f.src = f.dst)
  (match f.op with
   | 0 => decide (f.count ≠ 0 ∨ f.sfmt ≠ 0 ∨ f.dfmt ≠ 0 ∨ f.alg ≠ 0)
   | 1 => false
   | 2 => decide (f.alg = 2) || decide (f.count % (g.p * g.d) ≠ 0)
   | 3 => decide (f.alg = 2)
   | 5 => decide (f.count ≠ 0 ∨ f.sfmt ≠ 0 ∨ f.dfmt ≠ 0 ∨ f.rmode ≠ 0 ∨ f.alg = 1) ||
       !(decide (f.clip = 0x7F800000) || decide (f.clip < 0x80000000 ∧ 1 ≤ bits f.clip 30 23 ∧ bits f.clip 30 23 ≤ 254))
   | 6 => decide (f.alg ≠ 0) || decide (f.blk = 0) || decide (f.count % f.blk ≠ 0)
   | _ => decide (f.alg ≠ 0)) ||
  (!arith && decide (f.dfmt ≠ f.sfmt)) ||
  (decide (f.op = 4) && decide (g.p * g.d ≤ f.root)) ||
  decide (f.scrlen < scratchMin f g) ||
  (src ++ dst ++ scr ++ map).any (fun x => decide (x.1 % 64 ≠ 0)) ||
  bufsMeet scr (src ++ dst) || (bufsMeet src dst && !same)

/-! ### Words (R39, R63, R64, R127, R148, R158) -/

def passPairLegal (f : PassF) : Bool :=
  (decide (f.brk = 0) && (decide (f.sfmt = f.qfmt ∧ (f.sfmt = 2 ∨ f.sfmt = 3)) || decide (f.sfmt < 2 ∧ f.qfmt < 2))) ||
  decide ((f.brk = 1 ∨ f.brk = 2) ∧ f.sfmt = 4 ∧ f.qfmt = 4)

/-- First slot and slots of each tile area of a pass: stationary, streamed, and the destination in the buffers, which a
requested drain writes whatever END says (R64, R788). -/
def passAreas (w : BitVec 64) (stat strm : Nat) : List (Nat × Nat) × List (Nat × Nat) :=
  let f := passF w
  ([(131072 * stat, 131072 * statSlots f), (131072 * strm, 131072 * strmSlots f)],
   if f.dest = 1 then [(131072 * f.dslot, 131072 * destSlots f)] else [])
def passPark (w : BitVec 64) (park : Nat) : List (Nat × Nat) :=
  let f := passF w
  if f.start || f.park then [(131072 * park, parkBytes f * parkRecords f)] else []

/-- A pass breaks the limits of R64 or uses a reserved code (R181, 1Ah). `prev` is the nearest earlier PASS on its array. -/
def passLimitBad (w : BitVec 64) (stat strm park : Nat) (prev : Option (BitVec 64)) : Bool :=
  let f := passF w
  let (ops, dst) := passAreas w stat strm
  let pk := passPark w park
  decide (field w 63 44 ≠ 0) || decide (1 < f.dest) || decide (5 < f.dsheet) || decide (4 < f.ofmt) ||
  (decide (f.brk = 1) && decide (2 < f.chunks)) || (decide (f.brk = 2) && decide (f.chunks ≠ 1)) ||
  ((f.start || f.park) && decide (128 < f.rows)) || (decide (f.dest = 0) && decide (256 < f.rows)) ||
  (f.keep && (match prev with
    | none => true
    | some w' => let g := passF w'
      decide (g.sfmt ≠ f.sfmt ∨ g.str ≠ f.str ∨ g.chunks ≠ f.chunks ∨ g.brk ≠ f.brk))) ||
  bufsMeet dst ops || bufsMeet pk ops || bufsMeet dst pk

/-- A pass's tiles run past slot 63 or its areas break the park slots (R181, 09h). -/
def passLayoutBad (b : DieBlock) (a : Nat) (w : BitVec 64) (stat strm park : Nat) : Bool :=
  let (ops, dst) := passAreas w stat strm
  let pk := passPark w park
  (ops ++ dst).any (fun x => decide (0x800000 < x.1 + x.2) || parkMeets b a x.1 x.2) ||
  pk.any (fun x => decide (0x800000 < x.1 + x.2) ||
    (List.range ((x.1 + x.2 - 1) / 131072 + 1 - x.1 / 131072)).any (fun i => !(b.park a).testBit (x.1 / 131072 + i)))

/-- A VXE instruction is refused with VXE_INSTRUCTION (R127, R148, R158). -/
def vxeWordBad (w : BitVec 64) : Bool :=
  let f := vxeF w
  if f.op = 0x70 then
    let v := vilconF w
    decide (field w 63 41 ≠ 0) || decide (5 < v.ws) || decide (4 < v.wtag) || (v.wtint && decide (v.wtag ≠ 4))
  else
    let plane := opCompare f.op || opMask f.op || decide (f.op = 0x2C)
    let aPlane := opMask f.op || decide (f.op = 0x2D)
    let bPlane := opMask f.op && decide (f.op ≠ 0x2B)
    !opKnown f.op || decide (field w 63 41 ≠ 0) || decide (4 < f.dfmt) ||
    (plane && decide (f.dst = 0)) || (!plane && decide (f.op ≠ 0x2D) && decide (5 < f.dst)) ||
    (!aPlane && decide (f.sa = 7)) || (!bPlane && decide (f.sb = 7)) || decide (f.sc = 7) ||
    (f.dint && (decide (f.dfmt ≠ 4) || !(opInteger f.op || opMove f.op))) || (!f.dint && opInteger f.op) ||
    (decide (f.op = 0x59) && decide (f.sa = f.dst)) || (opOpt f.op && decide (f.dfmt ≠ 2 ∧ f.dfmt ≠ 3))

def vxeRmodeBad (w : BitVec 64) : Bool := decide ((vxeF w).op ≠ 0x70 ∧ (vxeF w).rmode = 3)

/-! ### Placing an admitted negative (R178) -/

/-- The bytes of a section into a place. -/
def placeSect (s : State) (m : Img) (die type : Nat) (pl : Place) (at_ : Nat) : State :=
  match m.sect die type with
  | some x => placeStore s pl at_ (m.bytes x.off x.len)
  | none => s

/-- Copy one die's sections: PROGRAM from 0 and the others after it at 64-byte boundaries (R170), STAGING and TABLES to
their areas (R115, R169). -/
def placeDie (s : State) (m : Img) (k : Nat) : State :=
  let pl := m.sectLen k 2
  let kb := alignUp pl 64
  let db := alignUp (kb + m.sectLen k 3) 64
  let cb := alignUp (db + m.sectLen k 6) 64
  let s1 := placeSect s m k 2 (.seqMem k) 0
  let s2 := placeSect s1 m k 3 (.seqMem k) kb
  let s3 := placeSect s2 m k 6 (.seqMem k) db
  let s4 := placeSect s3 m k 7 (.seqMem k) cb
  let s5 := placeSect s4 m k 4 (.vxe k) 0x200000
  let s6 := placeSect s5 m k 5 (.vxe k) 0x180000
  updSeq s6 k (fun q => { q with
    progLen := pl, kernBase := kb, kernLen := m.sectLen k 3, descBase := db,
    descLen := m.sectLen k 6, collBase := cb, collLen := m.sectLen k 7 })

/-- The group slots that are free (R462). -/
def freeGroups (s : State) : List Nat :=
  (List.range 64).filter (fun i => decide ((slotOf s i).owner = 0xFF#8))

/-- The group entry of a negative: that of the first die that holds a COLLECTIVES section. -/
def Img.anyGroup (m : Img) (g : Nat) : BitVec 256 :=
  match m.dies.find? (fun k => (m.sect k 7).isSome) with
  | some k => m.group k g
  | none => 0#256

/-- Give each group a free slot (R462). -/
def takeGroups (s : State) (p : Nat) (m : Img) (n : Nat) : State :=
  ((List.range n).zip (freeGroups s)).foldl (fun t gi =>
    let f := groupF (m.anyGroup gi.1)
    updNeg (updSlot t gi.2 (fun _ =>
        { GroupSlot.reset with
          owner := BitVec.ofNat 8 p
          num := BitVec.ofNat 8 gi.1, gid := BitVec.ofNat 32 f.gid, dims := f.dims,
          dmask := f.dmask, strag := f.strag, st := .idle })) p
      (fun x => { x with groups := x.groups ++ [gi.2] })) s

/-- Place an admitted negative and enter ADMITTED; the counts of 8600h:02 and :10 to :1A run from LOAD (R178, R209). -/
def placeNeg (s : State) (p : Nat) (m : Img) : State :=
  let g := declG m.decl
  let s1 := m.dies.foldl (fun t k => updSeq (placeDie t m k) k (fun q =>
    { q with steps := 0#64, stall := Vector.replicate 11 0#64 })) s
  let s2 := updNeg s1 p (fun n =>
    { n with
    state := .admitted, refCode := 0#8, negId := BitVec.ofNat 64 m.negId, digest := m.bytes 24 48, dieMask := BitVec.ofNat 8 m.dieMask,
    decl := m.decl, groups := [], mcast := g.nmcast, unitLost := false, invChanged := false })
  takeGroups s2 p m g.ngroups

/-! ### The checks of R181 -/

/-- Free multicast entries: those that no admitted negative has reserved (R178). -/
def freeMcast (s : State) : Nat := 1024 - ((List.range 8).map (fun p => (negOf s p).mcast)).sum

/-- A sequencer as 8600h:01 shows it: OUT_OF_SERVICE also while its die's function is not ENABLED (R709). -/
def seqOut (s : State) (k : Nat) : Bool :=
  decide ((seqOf s k).st = .outOfService) || decide ((vget s.sys.funcs k FuncS.reset).st ≠ .enabled)

def nonzeroFrom (m : Img) (lo hi : Nat) : Option Nat :=
  (findIdxFrom (fun b => decide (b ≠ 0#8)) lo (m.bytes lo (hi - lo))).map (fun p => p.1)

/-- 01h IMAGE_LENGTH. -/
def check01 (m : Img) : List FailAt :=
  failIf (decide (m.size < 1280 ∨ 268435456 < m.size ∨ m.size ≠ m.length)) (atHeader 8) ++
  ((List.range m.sects.length).zip m.sects).flatMap (fun p =>
    let x := p.2
    failIf (decide (x.off % 64 ≠ 0 ∨ m.size < x.off + x.len) || (decide (x.len ≠ 0) && (decide (x.off < 1280) ||
      (m.sects.take p.1).any (fun y => rangesMeet x.off x.len y.off y.len))))
      ⟨if x.die < 8 then x.die else 0xFF, x.idx, 0⟩)

/-- 02h IMAGE_FORMAT. -/
def check02 (m : Img) : List FailAt :=
  let dm := m.dieMask
  failIf (decide (bits m.hdr 31 0 ≠ 0x7D4E3A01)) (atHeader 0) ++ failIf (decide (bits m.hdr 47 32 ≠ 1)) (atHeader 4) ++
  failIf (decide (m.nsect = 0 ∨ 64 < m.nsect)) (atHeader 13) ++
  (match nonzeroFrom m 14 16 with
   | some o => [atHeader o]
   | none => match nonzeroFrom m 72 256 with
     | some o => [atHeader o]
     | none => []) ++
  ((List.range 64).zip m.dir).flatMap (fun p =>
    let x := sectOf p.1 p.2
    if m.nsect ≤ p.1 then failIf (decide (p.2 ≠ 0)) ⟨0xFF, p.1, 0⟩
    else failIf (decide (bits p.2 31 16 ≠ 0 ∨ bits p.2 127 96 ≠ 0 ∨ 7 < x.type) ||
        (decide (x.type ≠ 0) && (if x.type = 1 then decide (x.die ≠ 0xFF) else !(decide (x.die < 8) && dm.testBit x.die))))
        ⟨if x.die < 8 then x.die else 0xFF, p.1, 0⟩) ++
  (match m.sects.filter (fun x => decide (x.type = 1)) with
   | [] => [atHeader 13]
   | x :: xs => failIf (decide (x.len ≠ 1088)) ⟨0xFF, x.idx, 0⟩ ++ xs.map (fun y => ⟨0xFF, y.idx, 0⟩)) ++
  m.dies.flatMap (fun k => match m.sects.filter (fun x => decide (x.type = 2 ∧ x.die = k)) with
    | [] => [⟨k, 0xFF, 12⟩]
    | _ :: xs => xs.map (fun y => ⟨k, y.idx, 0⟩)) ++
  failIf (declGReserved m.decl) (m.atGlobal 5) ++
  (List.range 8).flatMap (fun k =>
    if dm.testBit k then failIf (dieBlockReserved m.decl k) (m.atBlock k 0)
    else failIf (decide (blockNum m.decl k ≠ 0)) (m.atBlock k 0)) ++
  m.dies.flatMap (fun k =>
    (if (m.sect k 7).isSome then (List.range 64).flatMap (fun g =>
      let e := m.group k g
      failIf (if (declG m.decl).ngroups ≤ g then decide (e ≠ 0#256)
        else decide (field e 47 45 ≠ 0 ∨ field e 63 56 ≠ 0 ∨ field e 255 80 ≠ 0 ∨ 60000 < field e 79 64)) (m.at k 7 (32 * g)))
      else []) ++
    (m.descs k).flatMap (fun p => failIf (descFormatBad p.2) (m.at k 6 p.1)) ++
    (m.colls k).flatMap (fun p => failIf (collReserved p.2 ||
      (m.prog k).any (fun i => decide ((seqF i.2).cls = 6 ∧ 2048 + 64 * (seqF i.2).arg0 = p.1) &&
        collFormatBad p.2 (groupF (m.group k (seqF i.2).unit)))) (m.at k 7 p.1)))

/-- 03h IMAGE_DIGEST: the SHA-384 over LENGTH bytes with DIGEST taken as zero (R167). -/
def imageDigest (m : Img) : List Byte :=
  let b := m.bytes 0 m.length
  sha384 (b.take 24 ++ List.replicate 48 0#8 ++ b.drop 72)
def check03 (m : Img) : List FailAt := failIf (decide (imageDigest m ≠ m.bytes 24 48)) (atHeader 24)

/-- 04h REVISION (R2). -/
def check04 (m : Img) : List FailAt := failIf (decide (bits m.hdr 63 48 ≠ 0x00A1)) (atHeader 6)

/-- 05h DIE_UNAVAILABLE (also a die that is clearing, R611). DESIGN CHOICE: R182 names no directory entry for a die of DIEMASK;
its item is that die at the header's DIEMASK byte, with FFh for the entry (log entry 75), and so is a PROGRAM that is not
there. -/
def check05 (s : State) (p : Nat) (m : Img) : List FailAt :=
  m.dies.flatMap (fun k => failIf (decide (partOfDie s k ≠ some p) || seqOut s k || s.sec.clearing.toNat.testBit k) ⟨k, 0xFF, 12⟩)

/-- 06h ARRAY_UNAVAILABLE. -/
def check06 (s : State) (m : Img) : List FailAt :=
  m.dies.flatMap (fun k => failIf ((setBits 8 (dieBlock m.decl k).arrays).any (fun a =>
    decide ((arrOf s (8 * k + a)).st = .faulted ∨ (arrOf s (8 * k + a)).st = .outOfService))) (m.atBlock k 0))

/-- 07h VXE_UNAVAILABLE. -/
def check07 (s : State) (m : Img) : List FailAt :=
  m.dies.flatMap (fun k => failIf ((dieBlock m.decl k).vxe && decide ((vxeOf s k).st = .outOfService)) (m.atBlock k 1))

/-- 08h SEQ_MEMORY. -/
def check08 (m : Img) : List FailAt :=
  m.dies.flatMap (fun k =>
    let b := dieBlock m.decl k
    failIf (decide (20971520 < b.seqb ∨ b.seqb < m.sectLen k 2 + m.sectLen k 3 + m.sectLen k 6 + m.sectLen k 7)) (m.atBlock k 4))

/-- The slots of a PASS instruction (R187). -/
def passSlots (f : SeqF) : Nat × Nat × Nat := (bits f.arg0 5 0, bits f.arg0 11 6, bits f.arg0 17 12)

/-- 09h BUFFER_LAYOUT. -/
def check09 (m : Img) : List FailAt :=
  m.dies.flatMap (fun k =>
    let b := dieBlock m.decl k
    (List.range 8).flatMap (fun a => failIf (decide (b.park a ≠ 0) && !b.arrays.testBit a) (m.atBlock k (64 + 8 * a))) ++
    (m.prog k).flatMap (fun i =>
      let f := seqF i.2
      let (st, sr, pk) := passSlots f
      failIf (decide (f.cls = 3 ∧ f.unit < 8) && passLayoutBad b f.unit (BitVec.ofNat 64 f.arg1) st sr pk) (m.at k 2 i.1)) ++
    (m.colls k).flatMap (fun p =>
      let f := collF p.2
      failIf (decide (f.op = 5) && (setBits 8 f.parkMask).any (fun a => !(b.arrays.testBit a && (b.park a).testBit f.pslot)))
        (m.at k 7 p.1)) ++
    (m.descs k).flatMap (fun p => failIf ((descRanges p.2).any (fun r => match addrF r.1 with
      | some a => a.tier = .loc && decide (a.unit % 16 < 8) && parkMeets (dieBlock m.decl (a.unit / 16)) (a.unit % 16) a.off r.2
      | none => false)) (m.at k 6 p.1)))

/-- 0Ah VXE_LAYOUT. -/
def check0A (m : Img) : List FailAt :=
  m.dies.flatMap (fun k =>
    let sb := (dieBlock m.decl k).stageb
    let tl := m.sectLen k 5
    failIf (decide (6291456 < sb)) (m.atBlock k 8) ++ failIf (decide (sb < m.sectLen k 4)) (m.at k 4 0) ++
    failIf (decide (524288 < tl ∨ tl % 65536 ≠ 0)) (m.at k 5 0) ++
    (m.kwords k).flatMap (fun w => failIf (decide ((vxeF w.2).op = 0x70 ∧ sb ≤ (vilconF w.2).entry)) (m.at k 3 w.1)))

/-- 0Bh STORE_CAPACITY. -/
def check0B (s : State) (m : Img) : List FailAt :=
  m.dies.flatMap (fun k => failIf (decide (storeBytes s k < (dieBlock m.decl k).storeb)) (m.atBlock k 12))

/-- 0Ch HBM_CAPACITY. -/
def check0C (s : State) (m : Img) : List FailAt :=
  m.dies.flatMap (fun k =>
    let b := dieBlock m.decl k
    failIf (decide (b.hbmLen ≠ 0) && (decide (pairBytes s k < b.hbmBase + b.hbmLen) ||
      (retiredPages s k).any (fun g => rangesMeet (65536 * g) 65536 b.hbmBase b.hbmLen))) (m.atBlock k 16))

/-- 0Dh FLASH_CAPACITY. -/
def check0D (s : State) (p : Nat) (m : Img) : List FailAt :=
  failIf (decide (quotaBytes s p < (declG m.decl).flashb)) (m.atGlobal 8)

/-- 0Eh ACTIVATION_SPACE (R195). -/
def check0E (m : Img) : List FailAt :=
  m.dies.flatMap (fun k =>
    let b := dieBlock m.decl k
    let sch := (m.prog k).filter (fun i => decide ((seqF i.2).cls = 7))
    if sch.isEmpty then []
    else
      failIf (decide (b.actTier = 0 ∨ b.actTier = 3)) (m.atBlock k 36) ++
      failIf (decide (b.actTier = 1 ∧ b.storeb < b.actBase + b.actLen) ||
        decide (b.actTier = 2 ∧ (b.actBase < b.hbmBase ∨ b.hbmBase + b.hbmLen < b.actBase + b.actLen))) (m.atBlock k 40) ++
      sch.flatMap (fun i =>
        let (st, sn, mb) := schedF (seqF i.2)
        failIf (decide (0 < sn ∧ 0 < mb ∧ st < sn ∧ b.actLen < b.actb * min (sn - st) mb)) (m.at k 2 i.1)))

/-- 0Fh CONTACT_SHEET (R388: CSID 0 with none committed). -/
def check0F (s : State) (m : Img) : List FailAt := failIf (decide ((declG m.decl).csid ≠ csidNow s)) (m.atGlobal 0)

/-- 10h NEIGHBOUR_MISSING (R381). -/
def check10 (s : State) (m : Img) : List FailAt := failIf (neighbourMissing s) (m.atGlobal 0)

/-- 11h FABRIC_LANES. -/
def check11 (s : State) (m : Img) : List FailAt :=
  (List.range 13).flatMap (fun d =>
    failIf (decide (lanesOnDim s d < 16 * bits (declG m.decl).engmin (8 * d + 7) (8 * d))) (m.atGlobal (16 + d)))

/-- 12h GROUP_LIMIT (R462). -/
def check12 (s : State) (m : Img) : List FailAt :=
  failIf (decide ((freeGroups s).length < (declG m.decl).ngroups)) (m.atGlobal 4)

/-- 13h GROUP_MEMBERSHIP (R461). -/
def check13 (s : State) (m : Img) : List FailAt :=
  let withTab := m.dies.filter (fun k => (m.sect k 7).isSome)
  withTab.flatMap (fun k =>
    (List.range (min (declG m.decl).ngroups 64)).flatMap (fun g =>
      let e := m.group k g
      let f := groupF e
      failIf (!jobActive s || decide (f.gid = 0) || decide (f.dims &&& usedDims s ≠ f.dims) ||
        decide (f.dmask &&& m.dieMask ≠ f.dmask) || withTab.any (fun j => decide (m.group j g ≠ e))) (m.at k 7 (32 * g))) ++
    (m.prog k).flatMap (fun i =>
      let f := seqF i.2
      failIf (decide (f.cls = 6) && decide (f.unit < (declG m.decl).ngroups) && !(groupF (m.group k f.unit)).dmask.testBit k)
        (m.at k 2 i.1)))

/-- 14h MULTICAST_TABLE. -/
def check14 (s : State) (m : Img) : List FailAt := failIf (decide (freeMcast s < (declG m.decl).nmcast)) (m.atGlobal 6)

/-- A place of PROGRAM that an instruction starts at. -/
def targetIn (len t : Nat) : Bool := decide (t % 16 = 0 ∧ t < len)

/-- Where an instruction calls: CALL, and the two blocks of a SCHED. -/
def callTargets (f : SeqF) : List Nat :=
  if f.cls = 0 ∧ f.op = 4 then [f.arg0] else if f.cls = 7 then [bits f.arg1 31 0, bits f.arg1 63 32] else []

/-- The depth of calls from a subroutine, taken from its entry to the first RET in the text; past the fuel it counts as
too deep. -/
def callDepth (prog : List (Nat × BitVec 128)) : Nat → Nat → Nat
  | 0, _ => 1
  | n + 1, t =>
    let body := (prog.filter (fun i => decide (t ≤ i.1))).takeWhile (fun i => !decide ((seqF i.2).cls = 0 ∧ (seqF i.2).op = 5))
    1 + ((body.flatMap (fun i => callTargets (seqF i.2))).map (callDepth prog n)).foldl max 0

/-- Operations of a class (R187). -/
def opsOf (cls : Nat) : Nat := match cls with
  | 0 => 8 | 1 => 3 | 2 => 2 | _ => 1

/-- The loops that stand open before each instruction, in the order of the text. -/
def loopDepths : Nat → List (Nat × BitVec 128) → List (Nat × Nat)
  | _, [] => []
  | n, i :: is =>
    let f := seqF i.2
    if f.cls = 0 ∧ f.op = 2 then (i.1, n + 1) :: loopDepths (n + 1) is
    else if f.cls = 0 ∧ f.op = 3 then (i.1, n) :: loopDepths (n - 1) is
    else (i.1, n) :: loopDepths n is

/-- 15h SEQ_INSTRUCTION. DEDUCED: PF has a meaning in MOVE alone (R196), and set in another class it counts as a reserved bit;
a JUMP or CALL to a place between instructions counts as one outside the section's instructions (log entry 75). -/
def check15 (m : Img) : List FailAt :=
  m.dies.flatMap (fun k =>
    let prog := m.prog k
    let len := m.sectLen k 2
    ((prog.zip (loopDepths 0 prog)).flatMap (fun (i, dep) =>
      let f := seqF i.2
      failIf (decide (field i.2 31 23 ≠ 0) || decide (7 < f.cls) || decide (opsOf f.cls ≤ f.op) || (f.pf && decide (f.cls ≠ 5)) ||
        (decide (f.cls = 5) && decide (bits f.arg1 63 34 ≠ 0)) ||
        (decide (f.cls = 1) && (decide (32 ≤ f.unit) || (decide (f.op = 1) && !m.dieMask.testBit (bits f.arg0 2 0)))) ||
        (decide (f.cls = 2 ∧ f.op = 0) && decide (16 ≤ f.unit)) ||
        (decide (f.cls = 0 ∧ (f.op = 1 ∨ f.op = 4)) && !targetIn len f.arg0) ||
        (decide (f.cls = 0 ∧ f.op = 2) && decide (8 < dep.2)) || (decide (f.cls = 0 ∧ f.op = 3) && decide (dep.2 = 0)) ||
        (callTargets f).any (fun t => decide (8 < callDepth prog 8 t))) (m.at k 2 i.1))))

/-- 16h REFERENCE. -/
def check16 (m : Img) : List FailAt :=
  m.dies.flatMap (fun k => (m.prog k).flatMap (fun i =>
    let f := seqF i.2
    failIf ((decide (f.cls = 5) && decide (m.sectLen k 6 < 64 * (f.arg0 + 1))) ||
      (decide (f.cls = 4) && decide (f.arg0 % 8 ≠ 0 ∨ m.sectLen k 3 < f.arg0 + 8 * bits f.arg1 31 0)) ||
      (decide (f.cls = 6) && decide (m.sectLen k 7 < 2048 + 64 * (f.arg0 + 1))) ||
      (decide (f.cls = 7) && !((callTargets f).all (targetIn (m.sectLen k 2))))) (m.at k 2 i.1)))

/-- A board address of a collective buffer lies in the issuing die's declared HBM or store region (R466). -/
def collInside (b : DieBlock) (k : Nat) (x : Nat × Nat) : Bool :=
  match addrF x.1 with
  | none => false
  | some a => a.self && decide (a.unit = k) &&
    (match a.tier with
     | .hbm => decide (b.hbmBase ≤ a.off ∧ a.off + x.2 ≤ b.hbmBase + b.hbmLen)
     | .store => decide (a.off + x.2 ≤ b.storeb)
     | _ => false)

/-- The buffers of a descriptor that no COLL names: its group is not known, so a length that depends on it is left at one byte
(log entry 75). -/
def loneBufs (f : CollF) : List (Nat × Nat) :=
  let (src, dst, scr) := collBufs f { (groupF 0#256) with dmask := 1 }
  (if f.op = 4 ∧ f.src = 0 then [] else src) ++ (if f.op = 2 ∨ f.op = 3 then [(f.dst, 1)] else dst) ++ scr

/-- The multicast entries that a negative's BROADCASTs name, with the item of each, in the order of R182. -/
def mcastNamed (m : Img) : List (Nat × FailAt) :=
  m.dies.flatMap (fun k => (m.colls k).filterMap (fun x =>
    let f := collF x.2
    if f.op = 4 ∧ f.mcen = true then some (f.mcidx, m.at k 7 x.1) else none))

/-- Items that name one multicast entry more than NMCAST declares (R171, R173). -/
def mcastOver (n : Nat) : List Nat → List (Nat × FailAt) → List FailAt
  | _, [] => []
  | seen, x :: xs =>
    if seen.contains x.1 then mcastOver n seen xs
    else if seen.length < n then mcastOver n (seen ++ [x.1]) xs
    else x.2 :: mcastOver n seen xs

/-- 17h UNDECLARED (R173, R214, R219, R466). -/
def check17 (s : State) (p : Nat) (m : Img) : List FailAt :=
  mcastOver (declG m.decl).nmcast [] (mcastNamed m) ++
  m.dies.flatMap (fun k =>
    let b := dieBlock m.decl k
    let g := declG m.decl
    (m.prog k).flatMap (fun i =>
      let f := seqF i.2
      let w := passF (BitVec.ofNat 64 f.arg1)
      failIf ((decide (f.cls = 4 ∨ (f.cls = 2 ∧ f.op = 0) ∨ (f.cls = 3 ∧ w.park = false ∧ w.dest = 0)) && !b.vxe) ||
        (decide (f.cls = 3) && !(decide (f.unit < 8) && b.arrays.testBit f.unit)) ||
        (decide (f.cls = 5) && !(decide (f.unit < 8) && b.reels.testBit f.unit)) ||
        (decide (f.cls = 6) && decide (g.ngroups ≤ f.unit))) (m.at k 2 i.1)) ++
    (if (m.sect k 7).isSome then (List.range (min g.ngroups 64)).flatMap (fun n =>
      failIf ((setBits 13 (groupF (m.group k n)).dims).any (fun d => decide (bits g.engmin (8 * d + 7) (8 * d) = 0)))
        (m.at k 7 (32 * n))) else []) ++
    (m.descs k).flatMap (fun x => failIf ((descRanges x.2).any (fun r => match addrF r.1 with
      | none => true
      | some a =>
        (decide (a.tier = .loc ∨ a.tier = .flash ∨ a.tier = .host) && !addrOwn s a) ||
          !inDecl s p m.dieMask m.decl a r.2)) (m.at k 6 x.1)) ++
    (m.colls k).flatMap (fun x =>
      let f := collF x.2
      let named (i : Nat × BitVec 128) : Bool := decide ((seqF i.2).cls = 6 ∧ 2048 + 64 * (seqF i.2).arg0 = x.1)
      failIf (!(m.prog k).any named && (loneBufs f).any (fun y => !collInside b k y)) (m.at k 7 x.1) ++
      failIf ((m.prog k).any (fun i =>
        let e := seqF i.2
        named i &&
          (let gf := groupF (m.group k e.unit)
           let (src, dst, scr) := collBufs f gf
           let src' := if f.op = 4 ∧ f.src = 0 then [] else src
           let bare := decide (f.op = 4 ∧ f.dst = 0 ∧ f.root ≠ coordOf gf.dims (jobAddress s) * gf.d + dieRank gf.dmask k)
           bare ||
           (src' ++ dst ++ scr ++ (if f.op = 6 then [(f.aux, 8 * (f.count / f.blk))] else [])).any (fun y => !collInside b k y))))
        (m.at k 7 x.1)))

/-- The nearest earlier PASS of each PASS on its array, in the order of the text (R64). -/
def withPrev : List (Nat × BitVec 64) → List (Nat × BitVec 128) → List ((Nat × BitVec 128) × Option (BitVec 64))
  | _, [] => []
  | prev, i :: is =>
    let f := seqF i.2
    if f.cls = 3 then (i, lookupNat f.unit prev) :: withPrev (assignNat f.unit (BitVec.ofNat 64 f.arg1) prev) is
    else (i, none) :: withPrev prev is

/-- The passes of a die. -/
def Img.passes (m : Img) (k : Nat) : List ((Nat × BitVec 128) × Option (BitVec 64)) :=
  (withPrev [] (m.prog k)).filter (fun x => decide ((seqF x.1.2).cls = 3))

/-- 18h RMODE_RESERVED (R39). -/
def check18 (m : Img) : List FailAt :=
  m.dies.flatMap (fun k =>
    (m.passes k).flatMap (fun x => failIf (decide ((passF (BitVec.ofNat 64 (seqF x.1.2).arg1)).rmode = 3)) (m.at k 2 x.1.1)) ++
    (m.kwords k).flatMap (fun w => failIf (vxeRmodeBad w.2) (m.at k 3 w.1)))

/-- 19h PASS_FORMAT (R63). -/
def check19 (m : Img) : List FailAt :=
  m.dies.flatMap (fun k => (m.passes k).flatMap (fun x =>
    failIf (!passPairLegal (passF (BitVec.ofNat 64 (seqF x.1.2).arg1))) (m.at k 2 x.1.1)))

/-- 1Ah PASS_LIMIT (R64). -/
def check1A (m : Img) : List FailAt :=
  m.dies.flatMap (fun k => (m.passes k).flatMap (fun x =>
    let f := seqF x.1.2
    let (st, sr, pk) := passSlots f
    failIf (passLimitBad (BitVec.ofNat 64 f.arg1) st sr pk x.2) (m.at k 2 x.1.1)))

/-- 1Bh VXE_INSTRUCTION. -/
def check1B (m : Img) : List FailAt :=
  m.dies.flatMap (fun k => (m.kwords k).flatMap (fun w => failIf (vxeWordBad w.2) (m.at k 3 w.1)))

/-- 1Ch TABLE_INVALID (R142). -/
def check1C (m : Img) : List FailAt :=
  m.dies.flatMap (fun k => (List.range (m.sectLen k 5 / 65536)).flatMap (fun q =>
    failIf (!(tableH (m.num k 5 (65536 * q) 64)).valid) (m.at k 5 (65536 * q))))

/-- 1Dh SCHED_PARAMS. -/
def check1D (m : Img) : List FailAt :=
  m.dies.flatMap (fun k => (m.prog k).flatMap (fun i =>
    let (st, sn, mb) := schedF (seqF i.2)
    failIf (decide ((seqF i.2).cls = 7 ∧ (sn = 0 ∨ mb = 0 ∨ sn ≤ st))) (m.at k 2 i.1)))

/-- The regions of an instruction of a placed negative, with MB taken as zero (R192, R197). -/
def instrRegions (s : State) (k : Nat) (w : BitVec 128) : List Region × List Region :=
  match bodyOf s k (seqF w) with
  | none => ([], [])
  | some b =>
    let c := match b with
      | .coll g d => collRegions s k g d
      | _ => ([], [])
    (bodyReads s k c.1 b, bodyWrites s k c.2 b)

def anyMeet (xs ys : List Region) : Bool := xs.any (fun x => ys.any (regionsMeet x))

/-- 1Eh PREFETCH_HAZARD (R197): over the negative placed, the 64 instructions before in the order of the text. -/
def check1E (s : State) (p : Nat) (m : Img) : List FailAt :=
  let t := m.dies.foldl (fun t k => updSeq t k (fun q => { q with mb := 0#16 })) (placeNeg s p m)
  m.dies.flatMap (fun k =>
    let prog := m.prog k
    ((List.range prog.length).zip prog).flatMap (fun (n, i) =>
      let f := seqF i.2
      if f.cls = 5 ∧ f.pf then
        let (r, w) := instrRegions t k i.2
        failIf (((prog.take n).drop (n - 64)).any (fun j =>
          let g := instrRegions t k j.2
          anyMeet w (g.1 ++ g.2) || anyMeet r g.2)) (m.at k 2 i.1)
      else []))

/-- Admission: the code of the first check that fails, with its detail; none when every check passes (R178, R181). -/
def admitImage (s : State) (p : Nat) (m : Img) : Option (Nat × FailAt) :=
  let checks : List (Unit → List FailAt) :=
    [fun _ => check01 m, fun _ => check02 m, fun _ => check03 m, fun _ => check04 m, fun _ => check05 s p m,
     fun _ => check06 s m, fun _ => check07 s m, fun _ => check08 m, fun _ => check09 m, fun _ => check0A m,
     fun _ => check0B s m, fun _ => check0C s m, fun _ => check0D s p m, fun _ => check0E m, fun _ => check0F s m,
     fun _ => check10 s m, fun _ => check11 s m, fun _ => check12 s m, fun _ => check13 s m, fun _ => check14 s m,
     fun _ => check15 m, fun _ => check16 m, fun _ => check17 s p m, fun _ => check18 m, fun _ => check19 m,
     fun _ => check1A m, fun _ => check1B m, fun _ => check1C m, fun _ => check1D m, fun _ => check1E s p m]
  ((List.range 30).zip checks).findSome? (fun c => (firstFail (c.2 ())).map (fun f => (c.1 + 1, f)))

/-- The image that 8700h:01 and :02 name: in an HBM pair of the partition (R174); none elsewhere. -/
def imageOf (s : State) (p : Nat) : Option Img :=
  let n := negOf s p
  match addrF n.imgAddr.toNat with
  | some a =>
    if a.tier = .hbm ∧ addrOwn s a ∧ partOfDie s a.unit = some p ∧ a.off + n.imgLen.toNat ≤ pairBytes s a.unit then
      some (imgOf (placeMem s (.hbm a.unit)) a.off n.imgLen.toNat)
    else none
  | none => none

/-- Admission refuses: only 8700h:04 to :08 change (R178, R180). -/
def refuseNeg (s : State) (p code : Nat) (f : FailAt) : State :=
  updNeg s p (fun n => { n with
    state := .empty, refCode := BitVec.ofNat 8 code, refDie := BitVec.ofNat 8 f.die, refSect := BitVec.ofNat 8 f.sect,
    refOff := BitVec.ofNat 32 f.off, invChanged := false })

/-- The storage that an image lies in. -/
def imagePlace (s : State) (p : Nat) : Place := .hbm (((addrF (negOf s p).imgAddr.toNat).map (fun a => a.unit)).getD 0)

/-- ADMISSION_END (R178, R179, R183): the first failing check's code, or the sections copied and ADMITTED entered. An image
whose bytes a read withholds (R261, R224), or that reaches a retired page (R280), cannot be checked and is refused as one
that is not there (log entry 42). -/
def execAdmissionEnd (p : Fin 8) (s : State) : Host.Outcome State Fault Refusal :=
  let n := negOf s p
  if n.state ≠ .checking then .next s
  else if n.invChanged then .next (refuseNeg s p 0x1F (atHeader 0))
  else match imageOf s p with
    | none => .next (refuseNeg s p 0x01 (atHeader 0))
    | some m =>
      let (s1, bad) := readCheck s (imagePlace s p) m.base m.size .clean
      let die := (((addrF n.imgAddr.toNat).map (fun a => a.unit)).getD 0)
      if (retiredIn s die m.base m.size).isSome then .next (refuseNeg (raiseRetiredIn s die m.base m.size) p 0x01 (atHeader 0))
      else if bad.isSome then .next (refuseNeg s1 p 0x01 (atHeader 0))
      else match admitImage s1 p m with
        | some (c, f) => .next (refuseNeg s1 p c f)
        | none => .next (placeNeg s1 p m)

end Sys2Proof.Machine
end

