-- ==== Sys2Proof/Machine/Tile.lean ====
section
/-! DEFINITION. Tiles in the tiers (R228 to R232, R236, R237): their layouts, their status bytes, reading one and
writing one. Inside a reel a tile's elements stand in tiled order. -/

namespace Sys2Proof.Machine

/-- Row and column of an element of the tiled layout (R228). -/
def tiledRC (i : Nat) : Nat × Nat :=
  let b := i / 256
  let br := b / 16
  (16 * br + i % 256 / 16, 16 * ((b % 16) ^^^ br) + i % 16)

/-- Byte offset of element (r, c) in a layout: tiled, linear with a pitch in 64 bytes, or sheet (R228, R117). -/
def elemOff (lay eb pitch r c : Nat) : Nat :=
  match lay with
  | 0 => tiledIndex r c * eb
  | 1 => r * (64 * pitch) + c * eb
  | _ => 1024 * r + 4 * c

/-- Bytes of a tile of a format. -/
def tileBytes (efmt : Nat) : Nat := 65536 * elemBytes efmt

/-- The elements of a tile image in tiled order, packed (R118). -/
def packTile (lay efmt pitch : Nat) (img : Array Byte) : List Byte :=
  let eb := elemBytes efmt
  (List.range 65536).flatMap (fun i =>
    let o := elemOff lay eb pitch (tiledRC i).1 (tiledRC i).2
    (List.range eb).map (fun k => img.getD (o + k) 0#8))

/-- One tile from a place, in tiled order. -/
def readTile (s : State) (pl : Place) (off lay efmt pitch : Nat) : List Byte :=
  let img := placeLoadN s pl off (tileSpan lay efmt pitch)
  if lay = 0 then img else packTile lay efmt pitch img.toArray

/-- One element's bytes of a tile in tiled order. -/
def elemOf (eb : Nat) (tile : Array Byte) (r c : Nat) : List Byte :=
  let o := tiledIndex r c * eb
  (List.range eb).map (fun k => tile.getD (o + k) 0#8)

/-- The runs of bytes that a tile writes, from an offset (R228, R117: a sheet's slots take zeros above an element). -/
def writeRuns (off lay efmt pitch : Nat) (tile : List Byte) : List (Nat × List Byte) :=
  let eb := elemBytes efmt
  match lay with
  | 0 => [(off, tile)]
  | 1 => (List.range 256).map (fun r =>
      (off + r * (64 * pitch), (List.range 256).flatMap (fun c => elemOf eb tile.toArray r c)))
  | _ => [(off, (List.range 65536).flatMap (fun i =>
      let e := elemOf eb tile.toArray (i / 256) (i % 256)
      e ++ List.replicate (4 - e.length) 0#8))]

/-- The unit that a write in a place covers whole or merges into: a word, a granule, a sector (R225, R262). -/
def mergeUnit (pl : Place) : Nat :=
  match pl with
  | .hbm _ => 512
  | .flash _ => 4096
  | _ => 8

/-- The units that a write covers only in part. -/
def partUnits (pl : Place) (a len : Nat) : List (Nat × Nat) :=
  let g := mergeUnit pl
  (if a % g ≠ 0 then [(a / g * g, g)] else []) ++
  (if (a + len) % g ≠ 0 then [((a + len) / g * g, g)] else [])

/-- What stops a write: a bad location in a unit that it covers only in part, since the merge cannot read it (R262). -/
def mergeBad (s : State) (pl : Place) (a len : Nat) : Option BadLoc :=
  (partUnits pl a len).findSome? (fun u =>
    s.mem.bad.find? (fun b => decide (b.place = pl) && rangesMeet b.lo b.len u.1 u.2 &&
      !decide (a ≤ b.lo ∧ b.lo + b.len ≤ a + len)))

/-- The status byte kept with a tile (R232): a slot's, or a sheet's; none elsewhere. -/
def keptStatus (s : State) (pl : Place) (off : Nat) : Option Byte :=
  match pl with
  | .buf a => some (vget (arrOf s a).slotStatus (off / 131072) 0#8)
  | .vxe d => if off < 0x180000 then some (vget (vxeOf s d).sheets (off / 0x40000)
      { fmt := 0#3, int := false, status := 0#8 }).status else none
  | _ => none

/-- Keep a tile's status byte with it, and a sheet's tag (R232, R237). -/
def putStatus (s : State) (pl : Place) (off efmt : Nat) (eint : Bool) (lay : Nat) (st : Byte) : State :=
  match pl with
  | .buf a => updArr s a (fun x => { x with slotStatus := vset x.slotStatus (off / 131072) st })
  | .vxe d => if lay = 2 then updVxe s d (fun v => { v with
      sheets := vset v.sheets (off / 0x40000) { fmt := BitVec.ofNat 3 efmt, int := eint, status := st } }) else s
  | _ => s

end Sys2Proof.Machine
end

