-- ==== Sys2Proof/Machine/CellCore.lean ====
section
/-! DEFINITION. Cells, routing and flows (chapter 10): the cell's fields and CRC, the choice of a hop, the output queues,
and the sending side of a flow. -/

namespace Sys2Proof.Machine

/-! ### The cell (R405 to R409) -/

/-- A cell taken apart. -/
structure CellF where
  dmem : Nat
  dep : Nat
  smem : Nat
  sep : Nat
  vc : Nat
  typ : Nat
  cm : Nat
  last : Bool
  esc : Bool
  ecl : Nat
  flow : Nat
  seq : Nat
  retx : Bool
  acknow : Bool
  crc : Nat
  payload : Nat            -- 384 bits
  deriving DecidableEq, Repr

def cellF (c : BitVec 512) : CellF :=
  { dmem := field c 15 0, dep := field c 19 16, smem := field c 35 20, sep := field c 39 36, vc := field c 42 40,
    typ := field c 46 43, cm := field c 48 47, last := flag c 49, esc := flag c 50, ecl := field c 51 51,
    flow := field c 63 52, seq := field c 471 448, retx := flag c 472, acknow := flag c 473, crc := field c 511 480,
    payload := field c 447 64 }

/-- The cell without its CRC, as a number. -/
def cellBody (f : CellF) : Nat :=
  f.dmem % 2 ^ 16 + f.dep % 16 * 2 ^ 16 + f.smem % 2 ^ 16 * 2 ^ 20 + f.sep % 16 * 2 ^ 36 + f.vc % 8 * 2 ^ 40 +
    f.typ % 16 * 2 ^ 43 + f.cm % 4 * 2 ^ 47 + f.last.toNat * 2 ^ 49 + f.esc.toNat * 2 ^ 50 + f.ecl % 2 * 2 ^ 51 +
    f.flow % 4096 * 2 ^ 52 + f.payload % 2 ^ 384 * 2 ^ 64 + f.seq % 2 ^ 24 * 2 ^ 448 + f.retx.toNat * 2 ^ 472 +
    f.acknow.toNat * 2 ^ 473

/-- The end-to-end CRC: bytes 0 to 59 with CM, ESC and ECL taken as zero (R408). -/
def cellCrc (f : CellF) : Nat := (crc32c (leBytes 60 (cellBody { f with cm := 0, esc := false, ecl := 0 }))).toNat

/-- The cell that the fields spell, with its CRC. -/
def mkCell (f : CellF) : BitVec 512 := BitVec.ofNat 512 (cellBody f + cellCrc f * 2 ^ 480)

/-- The CRC matches; bits [31:26] of the trailer are part of what it covers. -/
def cellGood (c : BitVec 512) : Bool :=
  let n := c.toNat
  let clear := n % 2 ^ 47 + bits n 49 49 * 2 ^ 49 + n / 2 ^ 52 * 2 ^ 52
  decide ((crc32c (leBytes 60 clear)).toNat = n >>> 480)

/-- Write CM, ESC and ECL anew: all that a router changes (R408). -/
def remark (c : BitVec 512) (cm : Nat) (cls : Nat) : BitVec 512 :=
  let n := c.toNat
  BitVec.ofNat 512 (n % 2 ^ 47 + cm % 4 * 2 ^ 47 + bits n 49 49 * 2 ^ 49 +
    (match cls with | 0 => 0 | 1 => 2 ^ 50 | _ => 2 ^ 50 + 2 ^ 51) + n / 2 ^ 52 * 2 ^ 52)

/-- The tail word of a LAST cell (R409): COUNT and STATUS. -/
def tailWord (count status : Nat) : Nat := count % 2 ^ 24 + status % 256 * 2 ^ 24
def tailCount (payload : Nat) : Nat := bits payload 343 320
def tailStatus (payload : Nat) : Nat := bits payload 351 344

/-- Cells of a message of so many bytes: 48 a cell, at most 40 in the last beside its tail word (R242, R409). -/
def cellsFor (len : Nat) : Nat := (len + 55) / 48

/-! ### Members -/

/-- The member's addresses as a destination: its own and the one it has assumed (R394). -/
def isOwn (s : State) (a : Nat) : Bool :=
  decide (a = s.fabric.member.toNat) || (decide (s.fabric.assumed ≠ 0xFFFF#16) && decide (a = s.fabric.assumed.toNat))

/-- A detour entry stands for an address (R395). -/
def detoured (s : State) (a : Nat) : Bool := s.fabric.detours.any (fun w => decide (w.toNat % 8192 = a))
/-- An address is in the fence list (R449). -/
def fenced (s : State) (a : Nat) : Bool := s.fabric.fences.any (fun w => decide (w.toNat % 65536 = a))
/-- A fence of an address acts: a detour entry for it lifts it (R450, R396). -/
def fenceActs (s : State) (a : Nat) : Bool := fenced s a && !detoured s a
/-- This member has closed its ingress (R451). -/
def ingressClosed (s : State) : Bool := fenced s s.fabric.member.toNat

/-- The live proxy of a detoured address: X xor 2^j for the lowest j that is live (R395). -/
def proxyOf (s : State) (x : Nat) : Option Nat :=
  ((List.range 5).map (fun j => x ^^^ 2 ^ j)).find? (fun y => !detoured s y && !fenced s y)

/-! ### Routing (R416 to R421) -/

/-- The minimal hop count between two active members in the wired variant: in the twisted variant an odd dimension's
hop also crosses its even partner when the control bit is one. -/
def pairHops (x d j : Nat) : Nat :=
  let z := x ^^^ d
  if z.testBit (2 * j + 1) then
    (if z.testBit (2 * j - 1) then 1
     else if x.testBit (2 * j - 1) then (if z.testBit (2 * j) then 1 else 2)
     else (if z.testBit (2 * j) then 2 else 1))
  else (z.testBit (2 * j)).toNat

def hopCount (twisted : Bool) (x d : Nat) : Nat :=
  let z := x ^^^ d
  if twisted then
    (z.testBit 0).toNat + (z.testBit 1).toNat + (z.testBit 12).toNat + ([1, 2, 3, 4, 5].map (pairHops x d)).sum
  else (setBits 13 z).length

/-- A hop across a dimension is productive: it lowers the hop count by one (R416). -/
def productive (twisted : Bool) (x d k : Nat) : Bool := decide (hopCount twisted (nbr twisted x k) d + 1 = hopCount twisted x d)

/-- The escape rank of a dimension (R417). -/
def escapeRank (twisted : Bool) (d : Nat) : Nat :=
  if twisted ∧ 2 ≤ d ∧ d ≤ 11 then (if d % 2 = 1 then d - 1 else d + 1) else d

def outOf (s : State) (q : Nat) : OutPort := vget s.fabric.outs q OutPort.reset
def updOut (s : State) (q : Nat) (f : OutPort → OutPort) : State := updFabric s (fun x => { x with outs := vmod x.outs q f })
def queueLen (s : State) (q vc : Nat) : Nat := (vget (outOf s q).queues vc []).length
def creditOf (s : State) (q vc cls : Nat) : Nat := vget (vget (outOf s q).credits vc #v[0, 0, 0]) cls 0

/-- The least element of a list by a measure, the first of several. -/
def leastBy {α : Type} (m : α → Nat) : List α → Option α
  | [] => none
  | x :: xs => match leastBy m xs with
    | none => some x
    | some y => if m y < m x then some y else some x

/-- The port of a dimension that takes a cell: the shortest queue, the lowest port of several. -/
def portToward (s : State) (d vc : Nat) (cls : Option Nat) : Option Nat :=
  leastBy (fun q => queueLen s q vc) ((portsOfDim d).filter (fun q => portCarries s q &&
    (match cls with
     | some c => decide (0 < creditOf s q vc c)
     | none => true)))

/-- What a router does with a cell. -/
inductive Hop where
  | here                        -- an endpoint of this member takes it
  | out (port cls : Nat)        -- class 0 adaptive, 1 and 2 the escape classes
  | unreachable
  deriving DecidableEq, Repr

/-- The hop on escape class c above a rank (R419). -/
def escapeHop (s : State) (tw : Bool) (x d vc cls : Nat) (above : Option Nat) : Option Hop :=
  let ok (k : Nat) : Bool := productive tw x d k && dimReachable s k &&
    (match above with
     | some r => decide (r < escapeRank tw k)
     | none => true)
  (leastBy (escapeRank tw) ((List.range 13).filter ok)).bind (fun k => (portToward s k vc none).map (fun q => .out q cls))

/-- The hop toward an active member by the class a cell is on and the dimension it arrived on (R418, R419). -/
def hopToward (s : State) (d vc cls : Nat) (arrived : Option Nat) : Hop :=
  let tw := decide (s.fabric.variant = 1#8)
  let x := s.fabric.member.toNat
  if hopCount tw x d = 0 then .here
  else if hopCount tw x d = 1 ∧ (List.range 13).all (fun k => !(productive tw x d k && dimReachable s k)) = true then .unreachable
  else
    let adaptive : Option Hop :=
      if cls ≠ 0 then none
      else
        let dims := (List.range 13).filter (fun k => productive tw x d k && (portToward s k vc (some 0)).isSome)
        let best := leastBy (fun (k : Nat) => 64 * queueLen s ((portToward s k vc (some 0)).getD 0) vc + escapeRank tw k) dims
        best.bind (fun k => (portToward s k vc (some 0)).map (fun q => .out q 0))
    let above (c : Nat) : Option Nat := if cls = c then arrived.map (escapeRank tw) else none
    let e0 : Option Hop := if cls = 2 then none else escapeHop s tw x d vc 1 (above 1)
    let e1 : Option Hop := escapeHop s tw x d vc 2 (above 2)
    (adaptive.orElse (fun _ => e0.orElse (fun _ => e1))).getD .unreachable

/-- The spare link of a block member (R369). -/
def spareHop (s : State) (cls : Nat) : Hop := if portCarries s 47 then .out 47 cls else .unreachable

/-- The choice of a hop for a cell (R416 to R421). A spare consumes every cell that arrives, and sends its own on any
lit spare port. -/
def route (s : State) (f : CellF) (arrived : Option Nat) : Hop :=
  let cls := if f.esc then f.ecl + 1 else 0
  let own := s.fabric.member.toNat
  if isSpare own then
    if arrived.isSome then .here
    else match (List.range 48).find? (fun q => decide (portRole s q = 14) && portCarries s q) with
      | some q => .out q cls
      | none => .unreachable
  else if !isActive own then .unreachable
  else if detoured s f.dmem then
    if own / 32 = f.dmem / 32 then spareHop s cls
    else match proxyOf s f.dmem with
      | some y => hopToward s y f.vc cls arrived
      | none => .unreachable
  else if isSpare f.dmem then
    if own / 32 = f.dmem - 0x2000 then spareHop s cls
    else .unreachable
  else if isActive f.dmem then hopToward s f.dmem f.vc cls arrived
  else .unreachable

/-! ### Queues (R436, R442) -/

/-- The congestion level of a queue (R436). -/
def queueLevel (n : Nat) : Nat := if 96 ≤ n then 3 else if 64 ≤ n then 2 else if 32 ≤ n then 1 else 0

/-- Put a cell into an output queue: CM is raised to the queue's level and the sub-channel named. -/
def enqueue (s : State) (q cls : Nat) (c : BitVec 512) : State :=
  let f := cellF c
  let lvl := queueLevel (queueLen s q f.vc)
  let s1 := updOut s q (fun o => { o with queues := vmod o.queues f.vc (fun l => l ++ [remark c (max f.cm lvl) cls]) })
  updFabric s1 (fun x => { x with
    forwarded := bump x.forwarded, marked := if f.cm < lvl then bump x.marked else x.marked })

def dropRoute (s : State) : State := updFabric s (fun x => { x with dropRoute := bump x.dropRoute })
def dropCheck (s : State) : State := updFabric s (fun x => { x with dropCheck := bump x.dropCheck })

/-- ROUTE_UNREACHABLE, at most once per destination per second (R457). -/
def raiseUnreach (s : State) (d : Nat) : State :=
  let due : Bool := match lookupNat d s.fabric.unreach with
    | none => true
    | some t => decide (t + 1000000000 ≤ s.now)
  if due then raise (updFabric s (fun x => { x with unreach := assignNat d s.now x.unreach })) 0x61 ukPACKAGE 0
    (d % 65536)
  else s

/-- Send a cell from an endpoint of this member into the fabric (R416 to R421, R450, R451). -/
def inject (s : State) (c : BitVec 512) : State :=
  let f := cellF c
  if ingressClosed s || fenceActs s f.dmem then dropRoute s
  else match route s f none with
    | .out q cls => enqueue s q cls c
    | .here => s
    | .unreachable => raiseUnreach (dropRoute s) f.dmem

/-- A cell of a message of one cell on VC0 (R435). -/
def controlCell (s : State) (typ dmem dep sep flow : Nat) (payload : Nat) : BitVec 512 :=
  mkCell { dmem := dmem, dep := dep, smem := jobAddress s, sep := sep, vc := 0, typ := typ, cm := 0, last := true,
           esc := false, ecl := 0, flow := flow, seq := 0, retx := false, acknow := false, crc := 0, payload := payload }

def sendControl (s : State) (typ dmem dep sep flow : Nat) (payload : Nat) : State :=
  inject s (controlCell s typ dmem dep sep flow payload)

/-! ### Sending flows -/

/-- The cells of a message from a flow position on (R242, R409). -/
def messageCells (s : State) (o : FlowOut) (at_ : Nat) (data : List Byte) (status : Nat) : List (Nat × BitVec 512) :=
  let n := cellsFor data.length
  (List.range n).map (fun i =>
    let last := decide (i + 1 = n)
    let body := leNat ((data.drop (48 * i)).take 48) + (if last then tailWord n status * 2 ^ 320 else 0)
    (at_ + i, mkCell {
      dmem := o.tree.getD o.peer, dep := o.peerEp, smem := jobAddress s, sep := o.ep, vc := o.vc,
      typ := if o.tree.isSome then 2 else 1, cm := 0,
      last := last, esc := false, ecl := 0, flow := o.slot, seq := (o.first + at_ + i) % 2 ^ 24, retx := false,
      acknow := last, crc := 0, payload := body }))

/-- The same flow of this package. -/
def sameFlowOut (o : FlowOut) (ep peer peerEp slot : Nat) : Bool :=
  decide (o.ep = ep ∧ o.peer = peer ∧ o.peerEp = peerEp ∧ o.slot = slot)

def updFlowOut (s : State) (ep peer peerEp slot : Nat) (g : FlowOut → FlowOut) : State :=
  updFabric s (fun x => { x with flowsOut := x.flowsOut.map (fun o => if sameFlowOut o ep peer peerEp slot then g o else o) })

/-- The message fits the window: no cell at 16,384 or more past the lowest unacknowledged (R429). -/
def fitsWindow (o : FlowOut) (n : Nat) : Bool := decide (o.next + n ≤ o.low + 16384)

/-- The rate context of a destination and VC comes into use (R438). -/
def ceilingRate : Nat := 2050000000
def useRate (s : State) (member vc : Nat) : State :=
  if vc = 0 ∨ s.fabric.rates.any (fun r => decide (r.member = member ∧ r.vc = vc)) = true then s
  else
    let fresh : RateCtx := {
      member := member, vc := vc, rate := ceilingRate, cutAt := none, echoAt := s.now,
      ceilingAt := some s.now, held := 0 }
    let full := decide (4096 ≤ s.fabric.rates.length)
    let victim : Option RateCtx := leastBy (fun (r : RateCtx) => r.ceilingAt.getD 0)
      (s.fabric.rates.filter (fun r => r.ceilingAt.isSome))
    updFabric s (fun x => { x with rates :=
      (if full then (match victim with | some v => x.rates.filter (fun r => r ≠ v) | none => x.rates.drop 1) else x.rates) ++ [fresh] })

/-- Transmit a message on a flow. -/
def sendMessage (s : State) (o : FlowOut) (data : List Byte) (status : Nat) : State :=
  let cs := messageCells s o o.next data status
  let s1 := updFlowOut (useRate s o.peer o.vc) o.ep o.peer o.peerEp o.slot (fun y => { y with
    cells := y.cells ++ cs, next := y.next + cs.length, timerAt := if y.low = y.next then s.now else y.timerAt })
  cs.foldl (fun t c => inject t c.2) s1

/-- A new sending flow. -/
def newFlowOut (s : State) (ep peer peerEp slot vc first : Nat) (use : FlowUse) : FlowOut :=
  { ep := ep, peer := peer, peerEp := peerEp, slot := slot, vc := vc, use := use, first := first, next := 0, low := 0,
    cells := [], shown := [], resentAt := [], timer := 100000, timerAt := s.now, expiries := 0, stalled := false,
    tree := none, acked := [] }

/-- The destinations of a multicast entry that are not fenced (R445, R448). -/
def treeDests (s : State) (t : Nat) : List Nat :=
  ((s.fabric.dests.filter (fun w => decide (bits w.toNat 9 0 = t))).map (fun w => bits w.toNat 31 16)).filter (fun a => !fenced s a)

/-- The sequence of the next message on a tree from an endpoint: its flow goes on for as long as the entry stands. -/
def treeKey (ep entry : Nat) : Nat := 65536 + 16 * entry + ep
def treeSeq (s : State) (ep entry : Nat) : Nat := (lookupNat (treeKey ep entry) s.fabric.nextSeq).getD 0

/-! ### Receiving flows -/

/-- The initial sequence of the next flow of a slot (R424). -/
def slotFirst (s : State) (ep slot : Nat) : Nat := (lookupNat (4096 * ep + slot) s.fabric.nextSeq).getD 0

/-- Slots that the multicast entries reserve at an endpoint (R444). -/
def mcastSlots (s : State) : List Nat :=
  (s.fabric.mcast.toList.filter (fun e => e.toNat.testBit 0 && e.toNat.testBit 2)).map (fun e => bits e.toNat 47 36)

/-- A free flow slot of an endpoint: the lowest. -/
def freeSlot (s : State) (ep : Nat) : Option Nat :=
  (List.range 4096).find? (fun k => !(s.fabric.flowsIn.any (fun i => decide (i.ep = ep ∧ i.slot = k))) && !(mcastSlots s).contains k)

/-- A new receiving flow. -/
def newFlowIn (s : State) (ep slot peer peerEp : Nat) (use : FlowUse) : FlowIn :=
  { ep := ep, slot := slot, peer := peer, peerEp := peerEp, use := use, first := slotFirst s ep slot, base := 0, got := [],
    lasts := [], done := 0, cm := 0, marked := 0, unacked := 0, unackedAt := s.now, missAt := s.now, status := 0xFF, parts := [] }

/-- Close the receiving flows that a test names: each slot's next flow starts at the last sequence plus 800000h. -/
def closeIn (s : State) (p : FlowIn → Bool) : State :=
  let gone := s.fabric.flowsIn.filter p
  updFabric s (fun x => { x with
    flowsIn := x.flowsIn.filter (fun i => !p i)
    nextSeq := gone.foldl (fun l i => assignNat (4096 * i.ep + i.slot) ((i.first + (i.base - 1) + 0x800000) % 2 ^ 24) l) x.nextSeq })

def closeOut (s : State) (p : FlowOut → Bool) : State := updFabric s (fun x => { x with flowsOut := x.flowsOut.filter (fun o => !p o) })

/-- Close every flow that serves a move. -/
def closeMoveFlows (s : State) (reel move : Nat) : State :=
  closeOut (closeIn s (fun i => decide (i.use = .reel reel move ∨ i.use = .load reel move))) 
    (fun o => decide (o.use = .reel reel move ∨ o.use = .put reel move))

end Sys2Proof.Machine
end

