-- ==== Sys2Proof/Machine/Sequencer.lean ====
section
/-! DEFINITION. The sequencer's instructions (R186 to R201), the completion of operations (R189), and what the commands
of 8700h:03 do (R177, R205). Which write may give a command is decided where objects are written. -/

namespace Sys2Proof.Machine

/-- An instruction of a die issues, with an effect on its sequencer alone. -/
def seqStep (s : State) (die : Nat) (is_ : SeqF → Bool) (rd : ReadObs) (f : SeqS → SeqS) : State :=
  issueAt s die is_ rd (fun t => updSeq t die f)

/-! ### Stall causes (R206, R207) -/

/-- The cause of a board address's tier, for a reel that waits on it; FABRIC for a board peer. -/
def tierCause (s : State) (a : Addr) : Option Nat :=
  if !addrOwn s a then some 4
  else match a.tier with
    | .store => some 0
    | .hbm => some 1
    | .flash => some 2
    | .host => some 3
    | .loc => none

/-- Stacks that a range of a pair's space touches (R215). -/
def stacksOf (s : State) (k off len : Nat) : List Nat :=
  ((List.range ((off + len - 1) / 4096 + 1 - off / 4096)).filterMap (fun i =>
    (unitOf s k ((off / 4096 + i) * 4096)).map (fun p => p.1 / 32))).eraseDups

/-- The links on the path from a reel to an address of this package (R14, R15, R29); IOD reels stand on the IOD, where every
other address is reached through the die's link. -/
def pathLinks (s : State) (r : Nat) (a : Addr) (len : Nat) : List Nat :=
  let die : Option Nat := if r < 64 then some (r / 8) else none
  let up : List Nat := match die with
    | some k => [k]
    | none => []
  if !addrOwn s a then up
  else match a.tier with
  | .hbm =>
    let st := stacksOf s a.unit a.off len
    if die = some a.unit then st.map (fun j => 8 + j) else up ++ st.map (fun j => 24 + j)
  | .store => if die = some a.unit then [] else up ++ [a.unit]
  | .loc => if die = some (a.unit / 16) then [] else up ++ [a.unit / 16]
  | _ => up

def srcAddr (m : Move) (i : Nat) : Nat := let f := descF m.desc; tileAddr f.src f.sstride m.srcAdd i
def dstAddr (m : Move) (i : Nat) : Nat := let f := descF m.desc; tileAddr f.dst f.dstride m.dstAdd i
def statAddr (m : Move) (i : Nat) : Nat := ((descF m.desc).stat + i) % 2 ^ 64

/-- The board address of the access that a move is about: the one it waits on; else its next tile's source, or that tile's
destination where the move has no source or LOCAL is its source; its last tile's once all are through. -/
def accessAddr (s : State) (m : Move) : Nat :=
  let f := descF m.desc
  let i := min m.tile (f.nt - 1)
  let src (a : Nat) : Bool := ((addrF a).bind (tierCause s)).isSome
  match m.access with
  | some x => x.addr
  | none =>
    if f.kind = 1 then srcAddr m i
    else if f.kind = 0 ∧ m.tile < f.nt ∧ (src (srcAddr m i) = true ∨ src (dstAddr m i) = false) then srcAddr m i
    else dstAddr m i

/-- The tier that a move waits on, as a cause of R207: FABRIC for a SEND or RECV; a move among LOCAL storage alone waits on an
array or the VXE. -/
def accessCause (s : State) (m : Move) : Nat :=
  match m.access with
  | some x => x.cause
  | none =>
    if (descF m.desc).kind = 1 ∨ (descF m.desc).kind = 2 then 4
    else match addrF (accessAddr s m) with
      | none => 0
      | some a => (tierCause s a).getD (if a.unit % 16 = 8 then 8 else 7)

/-- A link on the path of the access is replaying a transfer (R26). -/
def linkReplays (s : State) (r : Nat) (m : Move) : Bool :=
  match addrF (accessAddr s m) with
  | none => false
  | some a => (pathLinks s r a 1).any (fun l => decide (0 < (vget s.sys.links l LinkS.reset).successive))

/-- What a reel reports for a move (R206): REPLAY while a link of its path replays, else the tier that it waits on. -/
def moveCause (s : State) (r : Nat) (m : Move) : Nat := if linkReplays s r m then 9 else accessCause s m

/-- The cause an operation reports (R206): that of its own unit, whether or not the operation has started there
(DEDUCED, log entry 34). -/
def opCause (s : State) (die : Nat) (o : OpRec) : Nat :=
  match o.body with
  | .pass a .. =>
    let x := arrOf s (8 * die + a)
    if x.halt = .halted then 10
    else if (x.pass.map (fun p => decide (p.op = o.id) && !p.reruns.isEmpty)).getD false then 9
    else 7
  | .kernel .. => 8
  | .move r d sa da => moveCause s (8 * die + r)
      (((reelOf s (8 * die + r)).queue.find? (fun m => decide (m.die = die ∧ m.op = o.id))).getD (moveOf s die d sa da o.id))
  | .coll .. => 5

/-- The earliest-issued of some operations. -/
def earliest : List OpRec → Option OpRec
  | [] => none
  | o :: os => match earliest os with
    | some x => some (if o.id ≤ x.id then o else x)
    | none => some o

/-- The blocking operation of a hold (R206). A RECV that a SUSPEND has withdrawn is still incomplete (DEDUCED, log entry 34). -/
def blockingOp (q : SeqS) : Option OpRec :=
  match q.hold with
  | .none => none
  | .wait c _ => earliest ((q.ops ++ q.withdrawn).filter (fun o => o.sige && decide (o.sigc = c)))
  | .stepEnd => earliest (q.ops ++ q.withdrawn)
  | .issue (.op b _ _) =>
    if queueDepth b ≤ (q.ops.filter (fun o => opUnit o.body = opUnit b)).length then
      q.ops.find? (fun o => opUnit o.body = opUnit b)
    else q.ops.head?
  | .issue (.setx _ _) => q.ops.head?

/-- The cause a stalled sequencer counts against (R206): DIE where no operation blocks it; none while its negative is
not running (R208). -/
def stallCause (s : State) (die : Nat) : Option Nat :=
  let q := seqOf s die
  if q.st ≠ .stalled ∨ q.hold = .none ∨ (runningNeg s die).isNone then none
  else match blockingOp q with
    | some o => some (opCause s die o)
    | none => some 6

/-! ### Control -/

/-- Issue is held at a WAIT past which MOVEs and NOPs may issue early: its stall cause is FABRIC or COLLECTIVE, and fewer
than 64 have (R196). -/
def prefetchable (s : State) (die : Nat) : Bool :=
  match (seqOf s die).hold with
  | .wait _ _ => !issueStopped s die && decide ((seqOf s die).prefetch < 64) &&
      (match blockingOp (seqOf s die) with
       | some o => decide (opCause s die o = 4 ∨ opCause s die o = 5)
       | none => false)
  | _ => false

def prefetchNext (q : SeqS) : SeqS := { q with prefetch := q.prefetch + 1 }

/-- An instruction issues early, at the end of the unbroken run after the WAIT that holds (R196). -/
def prefetchAt (s : State) (die : Nat) (is_ : SeqF → Bool) (rd : ReadObs) (k : State → State) : State :=
  fetchIssue s die ((seqOf s die).pc.toNat + 16 * (1 + (seqOf s die).prefetch)) (prefetchable s die) is_ rd k

/-- SEQ_NOP (R187). -/
def execSeqNop (die : Fin 8) (s : State) (rd : ReadObs := .clean) : Host.Outcome State Fault Refusal :=
  .next (if prefetchable s die then prefetchAt s die isNop rd (fun t => updSeq t die prefetchNext)
    else seqStep s die isNop rd pcNext)

/-- JUMP to ARG0 in PROGRAM. -/
def execJump (die : Fin 8) (off : U32) (s : State) (rd : ReadObs := .clean) : Host.Outcome State Fault Refusal :=
  .next (seqStep s die (isJump off) rd (fun q => { q with pc := off }))

/-- The place after the ENDLOOP that matches a LOOP, found in the PROGRAM from `pc` on, `open_` loops deep. -/
def afterEndloop (mem : Mem) (len : Nat) : Nat → Nat → Nat → Nat
  | 0, pc, _ => pc
  | n + 1, pc, open_ =>
    if len < pc + 16 then pc
    else
      let f := seqF (BitVec.ofNat 128 (leNat (memLoadN mem pc 16)))
      if f.cls = 0 ∧ f.op = 3 then (if open_ = 0 then pc + 16 else afterEndloop mem len n (pc + 16) (open_ - 1))
      else if f.cls = 0 ∧ f.op = 2 then afterEndloop mem len n (pc + 16) (open_ + 1)
      else afterEndloop mem len n (pc + 16) open_

/-- LOOP: the body runs ARG0 times, so not at all for 0. -/
def loopStep (n : U32) (q : SeqS) : SeqS :=
  if n = 0#32 then
    { q with pc := BitVec.ofNat 32 (afterEndloop q.mem q.progLen (q.progLen / 16) (q.pc.toNat + 16) 0) }
  else { pcNext q with loops := { start := q.pc.toNat + 16, left := n.toNat } :: q.loops }

def execLoop (die : Fin 8) (n : U32) (s : State) (rd : ReadObs := .clean) : Host.Outcome State Fault Refusal :=
  .next (seqStep s die (isLoop n) rd (loopStep n))

/-- ENDLOOP: another round of the innermost loop, or on past its end. -/
def endloopStep (f : LoopFrame) (fs : List LoopFrame) (q : SeqS) : SeqS :=
  if 1 < f.left then { q with pc := BitVec.ofNat 32 f.start, loops := { f with left := f.left - 1 } :: fs }
  else { pcNext q with loops := fs }

/-- The program counter takes a free value: an ENDLOOP or RET that ends nothing, for which no rule states where issue
goes on. -/
def freePc (s : State) (die : Nat) : State :=
  let (k, s1) := drawFree s
  updSeq s1 die (fun q => { q with pc := BitVec.ofNat 32 (Config.freeNat k) })

def execEndloop (die : Fin 8) (s : State) (rd : ReadObs := .clean) : Host.Outcome State Fault Refusal :=
  .next (issueAt s die isEndloop rd (fun t => match (seqOf t die).loops with
    | f :: fs => updSeq t die (endloopStep f fs)
    | [] => freePc t die))

/-- CALL ARG0. -/
def callStep (off : U32) (q : SeqS) : SeqS := { q with pc := off, calls := .call (q.pc.toNat + 16) :: q.calls }

def execCall (die : Fin 8) (off : U32) (s : State) (rd : ReadObs := .clean) : Host.Outcome State Fault Refusal :=
  .next (seqStep s die (isCall off) rd (callStep off))

/-- The j-th call of a schedule (R194): the micro-batch and whether it is the backward block; none past its last. -/
def schedCall (p : SchedPos) : Option (Nat × Bool) :=
  let w := min (p.stages - 1 - p.s) p.m
  let j := p.calls
  if j < w then some (j, false)
  else if j < w + 2 * (p.m - w) then
    let i := (j - w) / 2
    if (j - w) % 2 = 0 then some (w + i, false) else some (i, true)
  else if j < 2 * p.m then some (p.m - w + (j - (w + 2 * (p.m - w))), true)
  else none

/-- Go on with a schedule: set MB and call the next block, or return past the SCHED. -/
def schedStep (p : SchedPos) (rest : List CallFrame) (q : SeqS) : SeqS :=
  match schedCall p with
  | some (mb, bwd) =>
    { q with
      mb := BitVec.ofNat 16 mb, pc := BitVec.ofNat 32 (if bwd then p.bwd else p.fwd)
      calls := .sched { p with calls := p.calls + 1 } :: rest }
  | none => { q with pc := BitVec.ofNat 32 p.ret, calls := rest }

/-- RET: back to the caller, or on with the schedule that called the block. -/
def execRet (die : Fin 8) (s : State) (rd : ReadObs := .clean) : Host.Outcome State Fault Refusal :=
  .next (issueAt s die isRet rd (fun t => match (seqOf t die).calls with
    | .call r :: rest => updSeq t die (fun q => { q with pc := BitVec.ofNat 32 r, calls := rest })
    | .sched p :: rest => updSeq t die (schedStep p rest)
    | [] => freePc t die))

/-- SCHED (R194): the schedule of stage st of sn stages over mb micro-batches. With S = 0, M = 0 or s ≥ S it is refused
at load (R181, 1Dh) and so never issues. -/
def execSched (die : Fin 8) (st sn : U8) (mb : U16) (fwd bwd : U32) (s : State) (rd : ReadObs := .clean) :
    Host.Outcome State Fault Refusal :=
  if sn = 0#8 ∨ mb = 0#16 ∨ sn.toNat ≤ st.toNat then .next s
  else .next (seqStep s die (isSched st sn mb fwd bwd) rd (fun q => schedStep
    { s := st.toNat, stages := sn.toNat, m := mb.toNat, fwd := fwd.toNat, bwd := bwd.toNat, calls := 0,
      ret := q.pc.toNat + 16 } q.calls q))

/-- STEPEND (R201): the step ends at once when nothing is outstanding, else issue holds. -/
def execStepend (die : Fin 8) (s : State) (rd : ReadObs := .clean) : Host.Outcome State Fault Refusal :=
  .next (issueAt s die isStepend rd (fun t =>
    if nothingOut (seqOf t die) then endStep t die
    else updSeq t die (fun q => { q with hold := .stepEnd, st := .stalled })))

/-- HALT: the program of this die has ended; when every die's has, the negative enters ADMITTED (R177). -/
def execHalt (die : Fin 8) (s : State) (rd : ReadObs := .clean) : Host.Outcome State Fault Refusal :=
  .next (issueAt s die isHalt rd (fun t =>
    let t1 := updSeq t die (fun q => { q with halted := true, st := .idle })
    match runningNeg t die with
    | some p => checkStopped t1 p
    | none => t1))

/-! ### Counters and registers -/

/-- Issue goes on past a WAIT that is met, at the first instruction not yet issued (R196). -/
def pastWait (q : SeqS) : SeqS := { q with pc := q.pc + BitVec.ofNat 32 (16 * (1 + q.prefetch)), prefetch := 0 }

/-- WAIT: issue holds while counter UNIT is below ARG0[15:0]. -/
def waitStep (c : Fin 32) (least : U16) (q : SeqS) : SeqS :=
  if least.toNat ≤ (vget q.ctrs c 0#16).toNat then pastWait q
  else { q with hold := .wait c least.toNat, st := .stalled }

def execWait (die : Fin 8) (c : Fin 32) (least : U16) (s : State) (rd : ReadObs := .clean) : Host.Outcome State Fault Refusal :=
  .next (seqStep s die (isWait c least) rd (waitStep c least))

/-- WAIT_SATISFIED (R187, R196): the counter has reached the value; issue goes on at the first instruction not issued. -/
def execWaitSatisfied (die : Fin 8) (s : State) : Host.Outcome State Fault Refusal :=
  match (seqOf s die).hold with
  | .wait c least =>
    if least ≤ (vget (seqOf s die).ctrs c 0#16).toNat ∧ issueStopped s die = false then
      .next (updSeq s die (fun q => pastWait (unhold q)))
    else .next s
  | _ => .next s

/-- A die runs the same negative as another. -/
def sameNeg (s : State) (d e : Nat) : Bool :=
  (match runningNeg s d with
    | some p => (negOf s p).dieMask.toNat.testBit e && decide (partOfDie s e = some p)
    | none => false)

/-- SIGNAL: one more in counter UNIT of die ARG0[2:0] of the same negative. -/
def execSignal (die : Fin 8) (c : Fin 32) (peer : Fin 8) (s : State) (rd : ReadObs := .clean) : Host.Outcome State Fault Refusal :=
  .next (issueAt s die (isSignal c peer) rd (fun t =>
    let t1 := updSeq t die pcNext
    if sameNeg t die peer then updSeq t1 peer (fun q => { q with ctrs := incrCtr q.ctrs c }) else t1))

/-- CLEAR: counter UNIT takes 0. -/
def execClear (die : Fin 8) (c : Fin 32) (s : State) (rd : ReadObs := .clean) : Host.Outcome State Fault Refusal :=
  .next (seqStep s die (isClear c) rd (fun q => { pcNext q with ctrs := vset q.ctrs c 0#16 }))

/-- SETMB: the micro-batch register takes ARG0[15:0]. -/
def execSetmb (die : Fin 8) (v : U16) (s : State) (rd : ReadObs := .clean) : Host.Outcome State Fault Refusal :=
  .next (seqStep s die (isSetmb v) rd (fun q => { pcNext q with mb := v }))

/-- SETX: VXE register X(UNIT) takes ARG0, once no outstanding operation touches it (R192). -/
def execSetx (die : Fin 8) (x : Fin 16) (v : U32) (s : State) (rd : ReadObs := .clean) : Host.Outcome State Fault Refusal :=
  .next (issueAt s die (isSetx x v) rd (fun t => issueWord t die (.setx x v)))

/-! ### Operations -/

/-- KERNEL: `count` VXE words from offset `off` of KERNELS. -/
def execKernel (die : Fin 8) (off count : U32) (sigc : Fin 32) (sige : Bool) (s : State) (rd : ReadObs := .clean) :
    Host.Outcome State Fault Refusal :=
  .next (issueAt s die (fun f => isKernel off count f && hasSig sigc sige f) rd (fun t =>
    issueWord t die (.op (.kernel off.toNat count.toNat) sigc sige)))

/-- The operation of a MOVE: MB × stride added to the addresses it selects (R191). -/
def moveOpBody (s : State) (die reel : Nat) (desc stride : U32) (src dst : Bool) : OpBody :=
  let add := (seqOf s die).mb.toNat * stride.toNat
  .move reel desc.toNat (if src then add else 0) (if dst then add else 0)

/-- MOVE: descriptor `desc` to reel `reel`, with MB × stride added to the addresses chosen (R191). One with PF = 1 may
issue early past a held WAIT (R196). -/
def execMove (die : Fin 8) (reel : Fin 8) (desc stride : U32) (src dst : Bool) (sigc : Fin 32) (sige pf : Bool)
    (s : State) (rd : ReadObs := .clean) : Host.Outcome State Fault Refusal :=
  let is_ (f : SeqF) : Bool := isMove reel desc stride src dst pf f && hasSig sigc sige f
  let b (t : State) : OpBody := moveOpBody t die reel desc stride src dst
  .next (if prefetchable s die then
      prefetchAt s die (fun f => f.pf && is_ f) rd (fun t =>
        if hasRoom (seqOf t die) (b t) then issueOp (updSeq t die prefetchNext) die (b t) [] [] sigc sige else t)
    else issueAt s die is_ rd (fun t => issueWord t die (.op (b t) sigc sige)))

/-- COLL: a call of group `group` with entry descriptor `desc`. -/
def execColl (die : Fin 8) (group : U8) (desc : U32) (sigc : Fin 32) (sige : Bool) (s : State) (rd : ReadObs := .clean) :
    Host.Outcome State Fault Refusal :=
  .next (issueAt s die (fun f => isColl group desc f && hasSig sigc sige f) rd (fun t =>
    issueWord t die (.op (.coll group.toNat desc.toNat) sigc sige)))

/-- An operation has done its work: a kernel's last word has retired, a move has left its reel's queue, a call its group. -/
def workDone (s : State) (die : Nat) (o : OpRec) : Bool :=
  o.started && (match o.body with
    | .pass .. => false
    | .kernel .. => (match (vxeOf s die).kernel with
        | some k => decide (k.op = o.id ∧ k.count ≤ k.done)
        | none => false)
    | .move r .. => !((reelOf s (8 * die + r)).queue.any (fun m => decide (m.die = die ∧ m.op = o.id)))
    | .coll g .. => (match groupSlotOf s die g with
        | some i => !((slotOf s i).regs.any (fun r => decide (r.die = die ∧ r.op = o.id)))
        | none => true))

/-- The VXE is idle again after its kernel. -/
def endKernel (v : VxeS) : VxeS := { v with kernel := none, st := if v.st = .running then .idle else v.st }

/-- OPERATION_COMPLETE (R189): operation `op` of a die's scoreboard has done its work; its counter advances and what it
held may start. A PASS completes by PASS_COMPLETE. -/
def execOperationComplete (die : Fin 8) (op : Nat) (s : State) : Host.Outcome State Fault Refusal :=
  match (seqOf s die).ops.find? (fun o => decide (o.id = op)) with
  | none => .next s
  | some o =>
    if workDone s die o then
      let s1 := match o.body with
        | .kernel .. => updVxe s die endKernel
        | _ => s
      .next (completeOp s1 die op)
    else .next s

/-! ### The commands of 8700h:03 (R177) -/

/-- LOAD: from EMPTY into CHECKING. -/
def loadNeg (s : State) (p : Nat) : State := updNeg s p (fun n => { n with state := .checking, invChanged := false })

/-- Release every resource of a partition's negative (R177, R462). -/
def releaseNeg (s : State) (p : Nat) : State :=
  let n := negOf s p
  let s1 := n.groups.foldl (fun t i => updSlot t i (fun _ => GroupSlot.reset)) s
  let s2 := (negDies s1 p).foldl (fun t d => updSeq t d (fun q =>
    { q with
      st := if q.st = .outOfService then q.st else .idle, hold := .none, ctx := none, ctxImage := none, halted := false
      stopped := false })) s1
  updNeg s2 p (fun n => { NegS.reset with
    imgAddr := n.imgAddr, imgLen := n.imgLen, refCode := n.refCode, refDie := n.refDie, refSect := n.refSect,
    refOff := n.refOff })

/-- UNLOAD: every declared resource is released, and EMPTY is entered. -/
def unloadNeg (s : State) (p : Nat) : State := releaseNeg s p

/-- RUN of one die: its program from offset 0 with cleared counters. -/
def runDie (q : SeqS) : SeqS :=
  if q.st = .outOfService then q
  else
    { q with
      st := .running, pc := 0#32, fail := 0#8, ctrs := Vector.replicate 32 0#16, loops := [], calls := [], prefetch := 0,
      hold := .none, halted := false, stopped := false, stepWrites := [], ctx := none, ctxImage := none }

/-- RUN (R177, R188, R467, R790): counters and call numbers cleared, no bank kept, every die from offset 0. -/
def runNeg (s : State) (p : Nat) : State :=
  let dies := negDies s p
  let s1 := dies.foldl (fun t d => updSeq t d runDie) s
  let s2 := dies.foldl (fun t d => (List.range 8).foldl (fun u a => updArr u (8 * d + a) (fun x => { x with bank := none })) t) s1
  let s3 := (negOf s p).groups.foldl (fun t i => updSlot t i (fun x => { x with call := 0#32 })) s2
  updNeg s3 p (fun n => { n with state := .running })

/-- STOP: from RUNNING into STOPPING. -/
def stopNeg (s : State) (p : Nat) : State := updNeg s p (fun n => { n with state := .stopping })

/-- The descriptor kind of a queued move. -/
def moveKind (m : Move) : Nat := (descF m.desc).kind

/-- A fabric move without a match (R240). -/
def moveOpen (m : Move) : Bool := decide (m.phase = .waiting ∨ m.phase = .offered)

/-- The operations that a SUSPEND withdraws of a list in issue order: the RECVs named, and what the scoreboard holds behind
one of them, which could not complete without it (DESIGN CHOICE, log entry 74). -/
def withdrawWith (recvs : List Nat) (ops : List OpRec) : List OpRec :=
  ops.foldl (fun gone o =>
    if recvs.contains o.id || (!o.started && gone.any (fun g => holdsOp g o)) then gone ++ [o] else gone) []

/-- A SUSPEND parks the SENDs of a die's reels that hold no GRANT, and withdraws the RECVs that have no match (R244), with
the operations that the scoreboard holds behind them: the die counts them as not issued, and issues them again, in their
order, on RESUME. What stood behind a RECV in its reel's queue alone may start. -/
def suspendReels (s : State) (die : Nat) : State :=
  let open_ (m : Move) : Bool := decide (moveKind m = 2) && moveOpen m
  let recvs := (List.range 8).flatMap (fun r => ((reelOf s (8 * die + r)).queue.filter open_).map (fun m => m.op))
  let gone := withdrawWith recvs (seqOf s die).ops
  let left (m : Move) : Bool := gone.all (fun o => decide (o.id ≠ m.op))
  let s1 := (List.range 8).foldl (fun t r => updReel t (8 * die + r) (fun x =>
    let rest := x.queue.filter left
    { x with
      queue := rest.map (fun m => if m.started ∧ moveKind m = 1 ∧ moveOpen m = true then { m with phase := .parked } else m)
      st := if x.st ≠ .outOfService ∧ rest.isEmpty = true then .idle else x.st })) s
  afterOps (updSeq s1 die (fun q =>
    { q with withdrawn := q.withdrawn ++ gone, ops := q.ops.filter (fun o => gone.all (fun g => decide (g.id ≠ o.id))) })) die

/-- SUSPEND (R205): from RUNNING into SUSPENDING. -/
def suspendNeg (s : State) (p : Nat) : State :=
  (negDies s p).foldl suspendReels (updNeg s p (fun n => { n with state := .suspending }))

/-- An operation that need not complete for a suspend: a collective call, whose context the CLE saves, and a SEND that holds
no GRANT. -/
def outlastsSuspend (s : State) (die : Nat) (o : OpRec) : Bool :=
  match o.body with
  | .coll .. => true
  | .move r .. => (reelOf s (8 * die + r)).queue.any (fun m =>
      decide (m.die = die ∧ m.op = o.id ∧ moveKind m = 1 ∧ m.phase ≠ .matched))
  | _ => false

/-- The operations of a die that do not hold up a suspend: those, and what has not started because it waits on one of
them, on the scoreboard or in its unit's queue. -/
def suspendLeaves (s : State) (die : Nat) : List OpRec :=
  (seqOf s die).ops.foldl (fun kept o =>
    if outlastsSuspend s die o || (!o.started && kept.any (fun g => holdsOp g o || standsBefore g o)) then kept ++ [o] else kept) []

/-- A die saves its context (R205). Where a WAIT or STEPEND holds issue, it is the instruction at the program counter. -/
def saveDie (q : SeqS) : SeqS :=
  if q.st = .outOfService then q
  else
    { q with
      st := .suspended
      ctx := some {
        pc := q.pc, loops := q.loops, calls := q.calls, mb := q.mb, ctrs := q.ctrs, steps := q.steps,
        prefetch := q.prefetch } }

/-- A write of 8600h:05 in SUSPENDED (R205): an image that differs from the saved one replaces it. -/
def writeCtx (q : SeqS) (img : List Byte) : SeqS :=
  match q.ctx with
  | none => q
  | some c => { q with ctxImage := if img = ctxBytes c then none else some img }

/-- What 8600h:05 reads. -/
def readCtx (q : SeqS) : List Byte :=
  match q.ctxImage, q.ctx with
  | some img, _ => img
  | none, some c => ctxBytes c
  | none, none => []

/-- What 8600h:03 reads: the next instruction to issue, which stands past the WAIT or STEPEND that holds issue and past what
has been issued early (R196). -/
def nextPc (q : SeqS) : U32 :=
  match q.hold with
  | .wait _ _ => q.pc + BitVec.ofNat 32 (16 * (1 + q.prefetch))
  | .stepEnd => q.pc + 16#32
  | _ => q.pc

/-- A die goes on from its context as it stands (R205). The instruction that held issue, or the HALT that ended the
program, stands at the program counter and is come to again. -/
def restoreDie (q : SeqS) : SeqS :=
  match savedCtx q with
  | none => q
  | some c =>
    { q with
      st := .running, hold := .none, halted := false, stopped := false, pc := c.pc, loops := c.loops, calls := c.calls, mb := c.mb, ctrs := c.ctrs, steps := c.steps
      prefetch := c.prefetch, ctx := none, ctxImage := none }

/-- A withdrawn RECV is issued again (R244). -/
def reissue (s : State) (die : Nat) (o : OpRec) : State := issueOp s die o.body o.reads o.writes o.sigc o.sige

/-- An open flow of a call as a FLOWS entry (R500): base or next sequence, and the direction, 1 for a flow that this member
sends on. -/
def flowWord (slot peer seq : Nat) (out : Bool) : Nat :=
  slot % 4096 + peer % 65536 * 2 ^ 12 + seq % 2 ^ 24 * 2 ^ 28 + out.toNat * 2 ^ 52
def flowInWord (y : FlowIn) : Nat := flowWord y.slot y.peer (y.first + y.base) false
def flowOutWord (o : FlowOut) : Nat := flowWord o.slot o.peer (o.first + o.next) true
/-- The open flows of a slot's call, at most 29. -/
def callFlows (s : State) (i : Nat) : List Nat :=
  (((s.fabric.flowsIn.filter (fun y => decide (y.use = .cle i))).map flowInWord) ++
    ((s.fabric.flowsOut.filter (fun o => decide (o.use = .cle i))).map flowOutWord)).take 29
def packFlows (l : List Nat) : Nat := ((List.range l.length).map (fun k => l.getD k 0 * 2 ^ (64 * k))).sum

/-- The CLE saves the calls in progress of a partition (R499): nothing of a later step is sent until the RESUME. -/
def suspendCalls (s : State) (p : Nat) : State :=
  (negOf s p).groups.foldl (fun t i => updSlot t i (fun x =>
    if x.st = .agreeing ∨ x.st = .running then { x with st := .suspended } else x)) s

/-- The CLE goes on with the calls (R500): by the phase of the saved context. -/
def resumeCalls (s : State) (p : Nat) : State :=
  (negOf s p).groups.foldl (fun t i => updSlot t i (fun x =>
    if x.st = .suspended then { x with st := if x.phase = 0 then .agreeing else .running } else x)) s

/-- SUSPEND_DONE (R205): every die's issued operations are done but for collective calls and parked SENDs; every die
saves its context and the negative enters SUSPENDED. -/
def execSuspendDone (p : Fin 8) (s : State) : Host.Outcome State Fault Refusal :=
  if (negOf s p).state = .suspending ∧
      (negDies s p).all (fun d => (seqOf s d).ops.all (fun o => (suspendLeaves s d).contains o)) = true then
    let s1 := (negDies s p).foldl (fun t d => updSeq t d saveDie) (suspendCalls s p)
    .next (updNeg s1 p (fun n => { n with state := .suspended }))
  else .next s

/-- RESUME (R177, R205): every die goes on from its saved context. -/
def resumeNeg (s : State) (p : Nat) : State :=
  let s1 := (negDies s p).foldl (fun t d => updSeq t d restoreDie) (updNeg s p (fun n => { n with state := .running }))
  let s2 := (negDies s1 p).foldl (fun t d =>
    (seqOf t d).withdrawn.foldl (fun u o => reissue u d o) (updSeq t d (fun q => { q with withdrawn := [] }))) s1
  let s3 := (negDies s2 p).foldl (fun t d => (List.range 8).foldl (fun u a =>
    updArr u (8 * d + a) (fun x => { x with bank := none })) t) s2
  (negDies s3 p).foldl afterOps (resumeCalls s3 p)

end Sys2Proof.Machine
end

