-- ==== Sys2Proof/Machine/Elapse.lean ====
section
/-! DEFINITION. What the passing of time does whatever is commanded: the step-time unit (R650, R653, R654), the counters
of stalled, waiting and throttled time (R206, R255, R672), and the cells that the fibre ports take from their output
queues (R410, R442). -/

namespace Sys2Proof.Machine

/-! ### Output ports (R410, R442) -/

/-- The class of credits that a queued cell uses: adaptive, escape 0 or escape 1 (R414). -/
def cellClass (c : BitVec 512) : Nat := let f := cellF c; if f.esc then f.ecl + 1 else 0

/-- The head cell of a VC may go: there is one, and its sub-channel holds a credit. -/
def vcReady (o : OutPort) (vc : Nat) : Bool :=
  match vget o.queues vc [] with
  | [] => false
  | c :: _ => decide (0 < vget (vget o.credits vc #v[0, 0, 0]) (cellClass c) 0)

/-- The weight of a VC in the rotation: 8 for VC0, the objects 2B00h:01 to 2B00h:04 for the others. -/
def vcWeight (ws : Vector U8 4) (vc : Nat) : Nat := if vc = 0 then 8 else (vget ws (vc - 1) 1#8).toNat

/-- Weighted round robin from the VC of the turn on: the VC served, and the turn it leaves. -/
def rotation (o : OutPort) (ws : Vector U8 4) : Nat → Nat → Nat → Option (Nat × Nat × Nat)
  | 0, _, _ => none
  | k + 1, vc, left =>
    if 0 < left ∧ vcReady o vc = true then some (vc, vc, left - 1)
    else rotation o ws k ((vc + 1) % 5) (vcWeight ws ((vc + 1) % 5))

/-- Which VC a slot serves (R442). -/
def slotChoice (o : OutPort) (ws : Vector U8 4) : Option (Nat × Nat × Nat) :=
  if o.window.countP (fun b => b) < 128 ∧ vcReady o 0 = true then some (0, o.turn, o.left)
  else rotation o ws 7 o.turn o.left

/-- The head cell of a VC leaves and takes a credit. -/
def takeHead (o : OutPort) (vc turn left : Nat) : OutPort × Option (BitVec 512) :=
  match vget o.queues vc [] with
  | [] => (o, none)
  | c :: rest =>
    ({ o with
        queues := vset o.queues vc rest
        credits := vmod o.credits vc (fun v => vmod v (cellClass c) (fun k => k - 1))
        window := keepLast 1024 (o.window ++ [decide (vc = 0)]), turn := turn, left := left }, some c)

/-- The slots of a port: the cells that leave, oldest first, until none is ready; the slots that stay idle follow. -/
def drainSlots (ws : Vector U8 4) : Nat → Nat → OutPort → List (BitVec 512) → OutPort × List (BitVec 512)
  | 0, n, o, sent => ({ o with window := keepLast 1024 (o.window ++ List.replicate (min n 1024) false) }, sent)
  | fuel + 1, n, o, sent =>
    if n = 0 then (o, sent)
    else match slotChoice o ws with
      | none => ({ o with window := keepLast 1024 (o.window ++ List.replicate (min n 1024) false) }, sent)
      | some (vc, t, l) =>
        match takeHead o vc t l with
        | (o1, some c) => drainSlots ws fuel (n - 1) o1 (sent ++ [c])
        | (o1, none) => (o1, sent)

/-- Cell slots that a port of L lanes has between two moments: ten in 51.2 ns on each lane (R410). -/
def slotsBetween (lanes t dt : Nat) : Nat := lanes * 100 * (t + dt) / 512 - lanes * 100 * t / 512

/-- The lane that takes the next cell: round robin over the lane set, in increasing order (R413). -/
def nextLane (lanes : List Nat) (from_ : Nat) : Nat :=
  (lanes.find? (fun l => decide (from_ ≤ l % 16))).getD (lanes.headD 0)

/-- Cells take their lanes in turn: the outputs, and where the rotation stands after them. -/
def onLanes (lanes : List Nat) (q : Nat) : Nat → List (BitVec 512) → List Output × Nat
  | p, [] => ([], p)
  | p, c :: cs =>
    let l := nextLane lanes p
    let r := onLanes lanes q (l % 16 + 1) cs
    (.cell q l c :: r.1, r.2)

/-- One port's output over dt ns. -/
def drainPort (t dt : Nat) (s : State) (q : Nat) : State :=
  if portCarries s q then
    let o := outOf s q
    let lanes := ((engineOfPort s q).map (laneSet s)).getD []
    let queued := (o.queues.toList.map List.length).sum
    let r := drainSlots s.fabric.weights queued (slotsBetween lanes.length t dt) o []
    let c := onLanes lanes q r.1.lane r.2
    { updOut s q (fun _ => { r.1 with lane := c.2 }) with out := s.out ++ c.1 }
  else s

/-! ### Light (R327, R341) -/

def optPortOf (s : State) (q : Nat) : OptPortS := vget s.optics.ports q OptPortS.reset

/-- READY is what a port sends when the shroud is closed and it receives light (R341). -/
def sendsReady (s : State) (q : Nat) : Bool := !s.optics.shroudOpen && !(optPortOf s q).noLight

/-- The beacon's word (R341). -/
def beaconWord (ready : Bool) : U32 := if ready then 0x19C5A#32 else 0x29C5A#32

/-- Words of 25.6 µs that end between two moments, from a start on. -/
def wordsIn (start t dt : Nat) : Nat := (t + dt - start) / 25600 - (t - start) / 25600

/-- READY words that a port has sent in a row. -/
def readySent (s : State) (q : Nat) : Nat :=
  let p := optPortOf s q
  if sendsReady s q && p.safelight && portLit s q then (s.now - max (max p.readyFrom p.beaconFrom) s.optics.shroudClosedAt) / 25600 else 0

/-- The beacon words of a port over dt ns. -/
def beaconOut (s : State) (dt q : Nat) : List Output :=
  let p := optPortOf s q
  if p.safelight && portLit s q then
    let n := wordsIn p.beaconFrom s.now dt
    if n = 0 then [] else [.beacon q (beaconWord (sendsReady s q)) n]
  else []

/-- The lane-ID marker of a lane (R327, R372). -/
def markerWord (s : State) (q l : Nat) : U64 :=
  BitVec.ofNat 64 (l % 16 + l / 16 * 2 ^ 4 + q * 2 ^ 9 + s.fabric.member.toNat * 2 ^ 15 + 0xA5 * 2 ^ 56)

/-- Markers that a lane sends between two moments: one in 16,384 codewords of 51.2 ns (R327, R411). -/
def markersIn (t dt : Nat) : Nat := (t + dt) * 10 / 8388608 - t * 10 / 8388608

/-- The markers of a port over dt ns: on every lane that its engine trains or has in service. -/
def markerOut (s : State) (dt q : Nat) : List Output :=
  match engineOfPort s q with
  | none => []
  | some e =>
    let n := markersIn s.now dt
    if n = 0 ∨ ¬((engOf s e).st = .training ∨ (engOf s e).st = .inService) ∨ (laserOf s (e / 2)).st ≠ .on then []
    else (((List.range 16).map (fun i => 16 * e + i)).filter (fun l => decide ((laneOf s l).st ≠ .failed))).map (fun l =>
      .marker l (markerWord s q l) n)

/-- What the ports send over dt ns beside cells. -/
def signals (s : State) (dt : Nat) : List Output := (List.range 48).flatMap (fun q => beaconOut s dt q ++ markerOut s dt q)

/-! ### Counters of time -/

/-- The tier a move waits on, as an index of 8900h: 0 store, 1 HBM, 2 flash, 3 host, 4 fabric. -/
def waitTier (s : State) (m : Move) : Nat := accessCause s m

/-- A reel's wait time over n ns (8800h:10 to 8800h:14): that of a move that runs. -/
def reelWait (n : Nat) (s : State) (r : Nat) : State :=
  match (reelOf s r).st, (reelOf s r).queue.head? with
  | .waiting, some m =>
    if m.started then updReel s r (fun x => { x with wait := vmod x.wait (waitTier s m) (fun w => bumpBy w n) }) else s
  | _, _ => s

/-- A sequencer's stall time over n ns of step time (R206). -/
def seqStall (n : Nat) (s : State) (die : Nat) : State :=
  match stallCause s die with
  | some c => updSeq s die (fun q => { q with stall := vmod q.stall c (fun x => bumpBy x n) })
  | none => s

/-- A die's throttled time over n ns of step time (R672). -/
def throttleTime (n : Nat) (d : DiePowerS) : DiePowerS :=
  if d.frac.toNat < 16 then
    let t1 := vmod d.throttled 0 (fun x => bumpBy x n)
    { d with throttled := if d.cause.toNat = 0 then t1 else vmod t1 d.cause.toNat (fun x => bumpBy x n) }
  else d

/-! ### Time -/

/-- The counters that time alone moves. -/
def timeCounters (s : State) (dt steps : Nat) : State :=
  let s1 := (List.range 68).foldl (reelWait dt) s
  let s2 := (List.range 8).foldl (seqStall steps) s1
  { s2 with power := { s2.power with dies := s2.power.dies.map (throttleTime steps) } }

/-- dt ns pass. -/
def elapse (s : State) (dt : Nat) : State :=
  let clk := stuElapse s.clk dt
  let s1 := timeCounters s dt (clk.stepTime.toNat - s.clk.stepTime.toNat)
  let s2 := (List.range 48).foldl (drainPort s.now dt) s1
  { s2 with now := s.now + dt, clk := clk, out := s2.out ++ signals s dt }

/-- Time moves on to a moment that is not past. -/
def advanceTo (s : State) (t : Nat) : State := if t ≤ s.now then s else elapse s (t - s.now)

end Sys2Proof.Machine
end

