-- ==== Sys2Proof/Machine/Patrol.lean ====
section
/-! DEFINITION. Proof runs of the memory slices, the patrol scrubbers, page retirement, map-outs and the flash
controller's work (chapter 7, R726 to R728). -/

namespace Sys2Proof.Machine

/-! ### Proof runs (R263 to R268, R726, R727) -/

/-- The delay from detection to a proof run's start: 10 µs for the memory slices of kinds 1 to 3 (R726). -/
def proofDelay (sl : Slice) : Nat := if sliceKind sl ≤ 3 then 10000 else 0

/-- The holding row a slice's proof run needs is held by a row that has no spare left (R277). -/
def holdingTaken (s : State) (sl : Slice) : Bool :=
  match sl with
  | .hbmRow c b _ => (chanOf s c).held.any (fun h => decide (h.bank = b))
  | .storeBank r b _ => (regOf s r).held.any (fun h => decide (h.bank = effBank (regOf s r) b))
  | _ => false

/-- A queued run is the next of its tester: nothing runs there, and what stands before it waits for a holding row. A flash
block's run waits for the relocation before it (R263). -/
def proofNext (s : State) (sl : Slice) : Bool :=
  let mine := s.ev.proofs.filter (fun p => decide (sliceTester p.slice = sliceTester sl))
  !mine.any (fun p => p.running) && !holdingTaken s sl &&
    ((mine.takeWhile (fun p => !sameSlice p.slice sl)).all (fun p => holdingTaken s p.slice)) &&
    mine.any (fun p => sameSlice p.slice sl) &&
    (match sl with
     | .flashBlock st b => !(blockRec (flashOf s st) b).due
     | _ => true)

def updProof (s : State) (sl : Slice) (f : ProofReq → ProofReq) : State :=
  { s with ev := { s.ev with proofs := s.ev.proofs.map (fun p => if sameSlice p.slice sl then f p else p) } }

/-- PROOF_RUN_START (R263, R727): the next queued run of a slice starts after its delay. -/
def execProofRunStart (sl : Slice) (s : State) : Host.Outcome State Fault Refusal :=
  match s.ev.proofs.find? (fun p => sameSlice p.slice sl) with
  | none => .next s
  | some p =>
    if proofNext s sl then .next (updProof (advanceTo s (p.at_ + proofDelay sl)) sl (fun q => { q with running := true }))
    else .next s

/-- The die whose log of passes a row is kept in (R267), with the row's unit, bank and row. -/
def passPlace (sl : Slice) : Option (Nat × Nat × Nat × Nat) :=
  match sl with
  | .hbmRow c b r => some (8 + c / 32, c, b, r)
  | .storeBank g b r => some (g / 32, g, b, r)
  | _ => none

/-- 24 hours in ns. -/
def dayNs : Nat := 86400000000000

/-- Note a pass of a row (R267): true when it is the fourth within 24 hours of step time. -/
def notePass (s : State) (sl : Slice) : State × Bool :=
  match passPlace sl with
  | none => (s, false)
  | some (die, u, b, r) =>
    let t := stepNow s
    let log := vget s.mem.passLogs die []
    let old := ((log.find? (fun x => decide (x.unit = u ∧ x.bank = b ∧ x.row = r))).map (fun x => x.times)).getD []
    let times := old.filter (fun x => decide (t < x + dayNs)) ++ [t]
    let entry : PassLog := { unit := u, bank := b, row := r, times := times }
    let log1 := keepLast 256 (log.filter (fun x => !decide (x.unit = u ∧ x.bank = b ∧ x.row = r)) ++ [entry])
    (updMem s (fun m => { m with passLogs := vset m.passLogs die log1 }), decide (4 ≤ times.length))

/-- One more transient run (R266). -/
def countTransient (s : State) (sl : Slice) : State :=
  match sl with
  | .hbmRow c _ _ => updChan s c (fun x => { x with transient := bump x.transient })
  | .storeBank r _ _ => updReg s r (fun x => { x with transient := bump x.transient })
  | _ => s

/-- An array that stands FAULTED for a macro whose proof run has passed is IDLE again (R789). -/
def arrayReturns (m : Nat) (a : ArrayS) : ArrayS :=
  if a.st = .faulted ∧ a.bufFault = some m then { a with st := .idle, bufFault := none } else a

/-- What a pass gives back: arrays that stand FAULTED for the macro (R789), a sequencer out for it (R261). -/
def passReturns (s : State) (sl : Slice) : State :=
  match sl with
  | .sram d m =>
    let s1 := (List.range 8).foldl (fun t a => updArr t (8 * d + a) (arrayReturns m)) s
    if 288 ≤ m ∧ onFaultList s ukSEQ d = false then
      updSeq s1 d (fun q => if q.st = .outOfService ∧ q.lostFor = some m then { q with st := .idle, lostFor := none } else q)
    else s1
  | _ => s

/-- The end of a memory slice's run, with its outcome. A flash block's run has erased the block once (R263). -/
def memProofEnds (s0 : State) (sl : Slice) (inj passed : Bool) : State :=
  let s := match sl with
    | .flashBlock st b => eraseBlock s0 st b
    | _ => s0
  let (uk, ui) := sliceUnit sl
  if passed then
    let (s1, fourth) := notePass s sl
    if fourth then memSliceFails (raise s1 0x02 uk ui (sliceKind sl) inj) sl inj
    else passReturns (raise (countTransient s1 sl) 0x01 uk ui (sliceKind sl) inj) sl
  else memSliceFails (raise s 0x02 uk ui (sliceKind sl) inj) sl inj

/-- PROOF_RUN_DONE (R266 to R268, R285): a running memory proof run ends. `path`: it found a fault in the channel's
command, address or clock path. -/
def execProofRunDone (sl : Slice) (passed path : Bool) (s : State) : Host.Outcome State Fault Refusal :=
  match s.ev.proofs.find? (fun p => sameSlice p.slice sl) with
  | none => .next s
  | some p =>
    if p.running = false ∨ 4 < sliceKind sl then .next s
    else
      let s1 := { s with ev := { s.ev with proofs := s.ev.proofs.filter (fun q => !sameSlice q.slice sl) } }
      let s2 := memProofEnds s1 p.slice p.inj passed
      .next (match p.slice with
        | .hbmRow c _ _ => if path && !passed && !p.inj then chanPending s2 c else s2
        | _ => s2)

/-! ### Scrubbing (R269 to R273) -/

/-- The full-pass limit of a scrubber: 60 s for a store die, 24 h for a stack (R269). -/
def scrubLimit (u : Nat) : Nat := if u < 8 then 60000000000 else dayNs

/-- In P2 and P3 the scrubbers pause (R681). -/
def scrubsPause (s : State) : Bool := decide (s.power.st = .p2 ∨ s.power.st = .p3)

/-- The die whose tier a scrubber reads. -/
def scrubDie (u : Nat) : Nat := if u < 8 then u else (u - 8) / 2

/-- The place that a scrubber reads. -/
def scrubPlace (u : Nat) : Place := if u < 8 then .store u else .hbm (scrubDie u)

/-- A slice's row is the one that a proof run holds now (R264, R271): an HBM row while its own run goes on; of a store bank,
the row that the march has come to, which the command names with `held`. -/
def rowHeld (s : State) (sl : Slice) (held : Bool) : Bool :=
  match sl with
  | .storeBank .. => held && s.ev.proofs.any (fun p => p.running && sameSlice p.slice sl)
  | _ => s.ev.proofs.any (fun p => p.running && sameSlice p.slice sl)

/-- A scrubber reads a line: one of its own stack or die, not of a mapped-out channel or region nor of a retired page
(R273). -/
def scrubReads (s : State) (u off : Nat) : Bool :=
  match sliceAt s (scrubPlace u) off with
  | some (.hbmRow c _ _) => decide (c / 32 = u - 8) && !(retiredPages s (scrubDie u)).contains (off / 65536)
  | some _ => true
  | none => false

/-- One scrub of a line (R270): the tag is checked only where the pair's key is loaded. -/
def scrubLine (s : State) (u off : Nat) (rd : ReadObs) : State :=
  let keyed := decide (u < 8) || vget s.sec.hbmKeys (scrubDie u) false
  setCause (readChecked keyed s (scrubPlace u) (off / 64 * 64) 64 rd).1 false

/-- The slice of a spare row, which is numbered after its bank's rows of data, and that its channel or region is not mapped
out (R273). -/
def spareSlice (s : State) (u unit bank k : Nat) : Option Slice :=
  if u < 8 then
    if (regOf s (32 * u + unit)).st ≠ .mappedOut ∧ k < 16 then some (.storeBank (32 * u + unit) bank (storeDataRows + k)) else none
  else
    if (chanOf s (32 * (u - 8) + unit)).st ≠ .mappedOut ∧ bank < 16 then some (.hbmRow (32 * (u - 8) + unit) bank (hbmDataRows + k)) else none

/-- What a scrub of a spare row meets is counted, reported, and its proof run asked for (R261, R263). -/
def detectSpare (s : State) (sl : Slice) (k : ErrKind) (line : Nat) : State :=
  let (uk, ui) := sliceUnit sl
  let s1 := countError s sl k
  let s2 := if k = .corrected then s1
    else raise s1 0x30 uk ui (Config.detail 0x30 line (slicePart sl).1 (slicePart sl).2)
  startMemProof s2 sl false false

/-- A finished pass counts and the next begins (R302). What this pass skipped, the next one owes; what it owed, it has read
(R271). -/
def scrubPass (s : State) (u : Nat) : State :=
  let x := vget s.mem.scrubs u ScrubS.reset
  let s1 := x.owed.foldl (fun t off => if scrubReads t u off then scrubLine t u off .clean else t) s
  updMem s1 (fun m => { m with
    scrubs := vset m.scrubs u { start := s.now, progress := 0#8, behind := false, skipped := [], owed := x.skipped }
    storePasses := if u < 8 then bump m.storePasses else m.storePasses
    hbmPasses := if u < 8 then m.hbmPasses else bump m.hbmPasses })

/-- Every scrubber begins its pass now (R269, R272): at the end of a boot. -/
def scrubsBegin (s : State) : State :=
  updMem s (fun m => { m with scrubs := m.scrubs.map (fun x => { x with start := s.now }) })

/-- What a scrubber does at a place that it has come to: a line whose row a proof run holds is left for the next pass
(R271). -/
def scrubAt (s : State) (u : Nat) (at_ : ScrubAt) (rd : ReadObs) (held : Bool) : State :=
  match at_ with
  | .line off =>
    if !scrubReads s u off then s
    else if (sliceAt s (scrubPlace u) off).any (fun sl => rowHeld s sl held) then
      updMem s (fun m => { m with scrubs := vmod m.scrubs u (fun x => { x with skipped := x.skipped ++ [off / 64 * 64] }) })
    else
      updMem (scrubLine s u off rd) (fun m => { m with scrubs := vmod m.scrubs u (fun x => { x with
        owed := x.owed.filter (fun o => !decide (o = off / 64 * 64)) }) })
  | .spare unit bank k line =>
    match spareSlice s u unit bank k with
    | none => s
    | some sl =>
      if rowHeld s sl held then s
      else match rd with
        | .corrected _ => detectSpare s sl .corrected line
        | .uncorrectable _ => detectSpare s sl .uncorrectable line
        | _ => s

/-- SCRUB_READ (R270, R271, R273): scrubber u comes to a place and has come to `progress` percent of its pass. `held`: the
march of the place's store bank holds its row. -/
def execScrubRead (u : Fin 24) (at_ : ScrubAt) (rd : ReadObs) (progress : Fin 101) (s : State) (held : Bool := false) :
    Host.Outcome State Fault Refusal :=
  if scrubsPause s then .next s else
  let s1 := scrubAt s u at_ rd held
  .next (if progress.val = 100 then scrubPass s1 u
    else updMem s1 (fun m => { m with scrubs := vmod m.scrubs u (fun x => { x with progress := BitVec.ofNat 8 progress }) }))

/-- SCRUB_BEHIND (R272, R739, R747 case 6): the limit has passed without a finished pass. -/
def execScrubBehind (u : Fin 24) (s : State) : Host.Outcome State Fault Refusal :=
  if scrubsPause s then .next s else
  let x := vget s.mem.scrubs u ScrubS.reset
  let s1 := advanceTo s (x.start + scrubLimit u)
  let s2 := updMem s1 (fun m => { m with scrubs := vmod m.scrubs u (fun y => { y with start := s1.now, behind := true }) })
  let (uk, ui) := if u.val < 8 then (ukREGION, 32 * u.val) else (ukCHANNEL, 32 * (u.val - 8))
  let s3 := raise s2 0x39 uk ui 0
  .next (if x.behind then s3 else match partOfDie s3 (scrubDie u) with
    | some p => downgrade s3 p 3 6 6
    | none => s3)

/-! ### Page retirement (R279 to R284) -/

/-- A retirement takes effect at its commit (R280, R283, R284): the failing row's unit is recorded, or the unit of the
page's first 4 KiB; a page retired already stays as it is. The count stays at 65, the end of its range (R298). -/
def retirePage (s : State) (k page : Nat) : State :=
  if (retiredPages s k).contains page then s
  else
    let here (u : UnitRec) : Bool := decide (pageOf s k u = some page)
    let rec_ : Option UnitRec := ((pairOf s k).pending.find? here).orElse (fun _ =>
      (unitOf s k (65536 * page)).map (fun p => { chan := p.1 % 64, unit := p.2 }))
    match rec_ with
    | none => s
    | some u =>
      let c := 64 * k + u.chan
      let gone := (pairOf s k).pending.filter here
      let s1 := updPair s k (fun x => { x with retired := x.retired ++ [u], pending := x.pending.filter (fun y => !here y) })
      let s2 := gone.foldl (fun t y => updChan t (64 * k + y.chan) (fun z => { z with
        held := z.held.filter (fun h => !decide (h.bank = y.unit % 16 ∧ h.row = y.unit / 16)) })) s1
      let s3 := updChan s2 c (fun z => { z with retirements := if 65#8 ≤ z.retirements then z.retirements else bump z.retirements })
      let s4 := if 64 < (chanOf s3 c).retirements.toNat then chanPending s3 c else s3
      pageLeaves s4 k page

/-! ### Map-outs (R217, R218, R281, R286, R290) -/

/-- Everything of a place becomes indeterminate, and no location of it is known bad. -/
def scramblePlace (s : State) (pl : Place) : State :=
  let (k, s1) := drawFree s
  updMem (updPlace s1 pl (fun _ => memScramble k)) (fun m => { m with bad := m.bad.filter (fun b => !decide (b.place = pl)) })

/-- A channel is mapped out: its records are dropped, the pair's contents are indeterminate, and negatives that declare
an HBM region of the pair lose a unit. -/
def mapOutChannel (s : State) (c : Nat) : State :=
  let k := c / 64
  let s1 := updChan s c (fun x => { x with st := .mappedOut, held := [] })
  let s2 := updPair s1 k (fun x => { x with
    retired := x.retired.filter (fun u => decide (u.chan ≠ c % 64)), pending := x.pending.filter (fun u => decide (u.chan ≠ c % 64)) })
  unitLeaves (raise (scramblePlace s2 (.hbm k)) 0x38 ukCHANNEL c 0) ukCHANNEL c

def mapOutRegion (s : State) (r : Nat) : State :=
  let s1 := updReg s r (fun x => { x with st := .mappedOut, held := [] })
  unitLeaves (raise (scramblePlace s1 (.store (r / 32))) 0x38 ukREGION r 0) ukREGION r

/-- A pending map-out of a die's tier goes with an exposure of this driver: of the partition that holds the die, or of
any driver when none holds it (R286). -/
def mapOutBy (s : State) (die p : Nat) : Bool :=
  match partOfDie s die with
  | some q => decide (p = q)
  | none => true

/-- The map-outs that an exposure of partition p's driver carries out at its T_c. -/
def commitMapOuts (s : State) (p tc : Nat) : State :=
  let s1 := (List.range 512).foldl (fun t c =>
    if (chanOf t c).st = .mapoutPending ∧ (chanOf t c).pendingAt < tc ∧ mapOutBy t (c / 64) p = true then mapOutChannel t c else t) s
  (List.range 256).foldl (fun t r =>
    if (regOf t r).st = .mapoutPending ∧ (regOf t r).pendingAt < tc ∧ mapOutBy t (r / 32) p = true then mapOutRegion t r else t) s1

/-! ### Flash (R291 to R294) -/

/-- The sectors of a block move to another one: whatever stands in either stands in the other from now on, and the other is
written (R291). -/
def moveSectors (s : State) (st b target : Nat) : State :=
  updFlash s st (fun f =>
    let now_ (h : Nat) : Nat := (lookupNat h f.places).getD h
    let homes := ([b, target] ++ f.places.map (fun x => x.1)).eraseDups
    let moved := (homes.map (fun h => (h, if now_ h = b then target else if now_ h = target then b else now_ h))).filter
      (fun x => !decide (x.1 = x.2))
    { setBlock f target { blockRec f target with written := s.now } with places := moved })

/-- A block's relocation ends, whatever it was for: it is erased, and it is due no more. -/
def relocated (s : State) (st b : Nat) (why : RelocReason) (len : Nat) : State :=
  eraseBlock (updFlash s st (fun f =>
    { setBlock f b { blockRec f b with due := false, soft := (blockRec f b).soft + (if why = .soft then 1 else 0) } with
      wearBytes := bumpBy f.wearBytes len })) st b

/-- FLASH_RELOCATE (R291, R293, R263): a block's `len` bytes of valid sectors move to a target block and it is erased. A
program of the target that fails retires the target, and the sectors stay; an erase that fails retires the block, and so do
a program of it that failed and its third relocation for soft decoding. A relocation for an error leads to its proof run. -/
def execFlashRelocate (st : Fin 2) (b : Fin 262144) (why : RelocReason) (len : Fin 16777217) (fin : RelocEnd) (s : State)
    (target : Fin 262144 := 0) :
    Host.Outcome State Fault Refusal :=
  let old := blockRec (flashOf s st) b
  if old.retired ∨ (blockRec (flashOf s st) target).retired ∨ target = b ∨ (why = .aged ∧ old.due = false) then .next s
  else match fin with
    | .programFails => .next (retireBlock s st target)
    | .eraseFails =>
      .next (retireBlock (updFlash (moveSectors s st b target) st (fun f => { f with wearBytes := bumpBy f.wearBytes len })) st b)
    | .done =>
      let s1 := relocated (moveSectors s st b target) st b why len
      .next (if why = .program ∨ 3 ≤ (blockRec (flashOf s1 st) b).soft then retireBlock s1 st b
        else if why = .aged then s1
        else startMemProof s1 (.flashBlock st b) false false)

/-- FLASH_BLOCK_AGED (R291): a block has gone unwritten for 30 days and is due for relocation. -/
def execFlashBlockAged (st : Fin 2) (b : Fin 262144) (s : State) : Host.Outcome State Fault Refusal :=
  let r := blockRec (flashOf s st) b
  if r.retired then .next s
  else .next (updFlash (advanceTo s (r.written + 30 * dayNs)) st (fun f => setBlock f b { blockRec f b with due := true }))

end Sys2Proof.Machine
end

