-- ==== Sys2Proof/Machine/Optics.lean ====
section
/-! DEFINITION. Lasers, engines, rings, lanes and safelight mode (chapter 8). -/

namespace Sys2Proof.Machine

/-! ### The calibration set (R347 to R354) -/

/-- Length of a calibration set. -/
def calLength : Nat := 145664

/-- A number of the factory's set, free within its field's range. -/
def factoryNum (off lo count : Nat) : Nat := lo + Config.factoryField off % count

/-- The factory's heater map entry of a ring and its feed-forward entry (R349). -/
def factoryHeater (j : Nat) : Nat :=
  let o := 0x100 + 8 * j
  factoryNum o 0 32001 + (if 48 ≤ j % 240 then factoryNum (o + 2) 0 32001 else 0) * 2 ^ 16 + factoryNum (o + 4) 1000 7001 * 2 ^ 32
def factoryForward (j : Nat) : Nat :=
  let o := 0xF100 + 8 * j
  factoryNum o 0 65536 + factoryNum (o + 2) 0 65536 * 2 ^ 16 + factoryNum (o + 4) 10 9991 * 2 ^ 32 + factoryNum (o + 6) 10 9991 * 2 ^ 48

/-- A byte of the factory's set behind its header (R347, R349): what no entry uses is zero. -/
def factoryBody (i : Nat) : Byte :=
  let byteOf (n k : Nat) : Byte := BitVec.ofNat 8 (n / 256 ^ k)
  let free (n : Nat) : Byte := BitVec.ofNat 8 (factoryNum i 0 n)
  if i < 0xF100 then byteOf (factoryHeater ((i - 0x100) / 8)) (i % 8)
  else if i < 0x1E100 then byteOf (factoryForward ((i - 0xF100) / 8)) (i % 8)
  else if i < 0x22100 then
    let k := (i - 0x1E100) % 32
    if k = 3 then free 201 else if k < 3 ∨ (16 ≤ k ∧ k < 19) then free 256 else 0#8
  else if i < 0x23100 then (if i < 0x22100 + 4 * 932 then free 256 else 0#8)
  else if i < 0x23100 + 4 * 210 ∧ i % 4 < 2 then free 256 else 0#8

/-- The digest of the factory's set. -/
def factoryDigest : List Byte := sha384 ((List.range (calLength - 256)).map (fun i => factoryBody (256 + i)))

/-- A byte of the factory's set (R348). -/
def factoryByte (i : Nat) : Byte :=
  if i < 4 then (leBytes 4 0x6C3A9E02).getD i 0#8
  else if i = 4 then 1#8
  else if i < 8 then 0#8
  else if i < 12 then (leBytes 4 calLength).getD (i - 8) 0#8
  else if i < 16 then 0#8
  else if i < 64 then factoryDigest.getD (i - 16) 0#8
  else if i < 256 then 0#8
  else factoryBody i

/-- Bytes of a set. -/
def calBytes (c : CalSet) (off len : Nat) : List Byte :=
  match c with
  | .factory => (List.range len).map (fun i => factoryByte (off + i))
  | .user img => (img.drop off).take len

/-- An 8-byte entry of the set in force: heater map at 100h, feed-forward at F100h. -/
def calEntry (s : State) (base e i : Nat) : Nat :=
  match s.optics.calib.inForce with
  | none => 0
  | some c => leNat (calBytes c (base + 8 * (240 * e + i)) 8)

/-- A ring's bias, in 10^-5 µW (R349, R354). -/
def ringBias (s : State) (e i : Nat) : Int :=
  match s.optics.calib.inForce with
  | none => Config.sweptBias e i
  | some _ => (bits (calEntry s 0x100 e i) 15 0 : Int) * 100000
/-- Its park value. -/
def ringPark (s : State) (e i : Nat) : Int := (bits (calEntry s 0x100 e i) 31 16 : Int) * 100000
/-- Its tuning efficiency in 0.01 GHz/mW; the typical 40 GHz/mW without a set (R321, R354). -/
def ringEff (s : State) (e i : Nat) : Nat :=
  match s.optics.calib.inForce with
  | none => 4000
  | some _ => bits (calEntry s 0x100 e i) 47 32

/-- Heater limits: 0 and 32 mW (R321), in 10^-5 µW. -/
def heaterMax : Int := 3200000000
def oneMilliwatt : Int := 100000000
def clampHeater (h : Int) : Int := if h < 0 then 0 else if heaterMax < h then heaterMax else h

/-- A value of the set stands in its range, and its reserved bits are zero (R349, R351). -/
def heaterOk (n : Nat) (steering : Bool) : Bool :=
  decide (bits n 15 0 ≤ 32000) && decide (if steering then bits n 31 16 ≤ 32000 else bits n 31 16 = 0) &&
    decide (1000 ≤ bits n 47 32 ∧ bits n 47 32 ≤ 8000) && decide (bits n 63 48 = 0)
def forwardOk (n : Nat) : Bool :=
  decide (10 ≤ bits n 47 32 ∧ bits n 47 32 ≤ 10000) && decide (10 ≤ bits n 63 48 ∧ bits n 63 48 ≤ 10000)

def calAt (img : List Byte) (off len : Nat) : Nat := leNat ((img.drop off).take len)

/-- The checks of R351. -/
def calChecks (img : List Byte) : Bool :=
  decide (img.length = calLength) && decide (calAt img 0 4 = 0x6C3A9E02) && decide (calAt img 4 2 = 1) &&
  decide (calAt img 6 1 ≤ 1) && decide (calAt img 7 1 = 0) && decide (calAt img 8 4 = calLength) &&
  decide (calAt img 12 4 = 0) && decide ((img.drop 16).take 48 = sha384 (img.drop 256)) && decide (calAt img 64 192 = 0) &&
  (List.range 7680).all (fun i => heaterOk (calAt img (0x100 + 8 * i) 8) (decide (48 ≤ i % 240)) && forwardOk (calAt img (0xF100 + 8 * i) 8)) &&
  (List.range 512).all (fun l => decide (calAt img (0x1E100 + 32 * l + 3) 1 ≤ 200) && decide (calAt img (0x1E100 + 32 * l + 4) 12 = 0) &&
    decide (calAt img (0x1E100 + 32 * l + 19) 13 = 0)) &&
  (List.range 1024).all (fun i => decide (i < 932) || decide (calAt img (0x22100 + 4 * i) 4 = 0)) &&
  (List.range 512).all (fun i => if i < 210 then decide (calAt img (0x23100 + 4 * i + 2) 2 = 0) else decide (calAt img (0x23100 + 4 * i) 4 = 0))

def updCalib (s : State) (f : CalibS → CalibS) : State := updOptics s (fun o => { o with calib := f o.calib })

/-- A write to 2800h:03 stages a set and changes nothing in force (R351). -/
def stageCalibration (s : State) (img : List Byte) : State :=
  updCalib s (fun c => { c with staged := some img, state := .staged })

/-- A write of 1 to 2800h:05 checks the staged set and starts its commit, or leaves it INVALID (R351). -/
def commitCalibration (s : State) : State :=
  match s.optics.calib.staged with
  | none => updCalib s (fun c => { c with state := .invalid })
  | some img => updCalib s (fun c => { c with state := if calChecks img then .committing else .invalid })

/-- CALIBRATION_WRITTEN (R352): the stored set is replaced with ORIGIN 01h, and the staged state returns to NONE. -/
def execCalibrationWritten (s : State) : Host.Outcome State Fault Refusal :=
  let c := s.optics.calib
  match c.state, c.staged with
  | .committing, some img =>
    .next (raise (updCalib s (fun c => { c with
      stored := .user (img.take 6 ++ [1#8] ++ img.drop 7), staged := none, state := .none, commits := bump c.commits })) 0x4A ukPACKAGE 0 0)
  | _, _ => .next s

/-! ### Rings and loops -/

/-- The lane of a ring within its engine (R312). -/
def ringLane (i : Nat) : Nat := if i < 48 then i % 16 else (i - 48) % 16
/-- The steering rings that an engine's port selects for a lane: transmit and receive (R315). -/
def txRing (q k : Nat) : Nat := 48 + 16 * (q % 6) + k
def rxRing (q k : Nat) : Nat := 144 + 16 * (q % 6) + k
/-- A ring is one that an engine with this port uses: not a parked steering ring. -/
def ringUsed (port : Option Nat) (i : Nat) : Bool :=
  if i < 48 then true
  else match port with
    | none => false
    | some q => decide (i = txRing q (ringLane i) ∨ i = rxRing q (ringLane i))
/-- A ring of the receive path: a demultiplexer or a receive steering ring (R312). -/
def ringReceives (i : Nat) : Bool := decide (32 ≤ i ∧ i < 48 ∨ 144 ≤ i)

def updRings (s : State) (e : Nat) (f : Nat → RingS → RingS) : State :=
  updEng s e (fun x => { x with rings := Vector.ofFn (fun i => f i.val (vget x.rings i.val RingS.reset)) })
def updRing (s : State) (e i : Nat) (f : RingS → RingS) : State := updEng s e (fun x => { x with rings := vmod x.rings i f })
def ringOf (s : State) (e i : Nat) : RingS := vget (engOf s e).rings i RingS.reset

/-- The state of a loop at a moment (R320, R323): SWEEP, ACQUIRE and VERIFY until their ends, then what it comes to. -/
def loopNow (now : Nat) (r : RingS) : LoopState :=
  match r.loop with
  | .parked => if now < r.sweepEnd then .sweep else .parked
  | .acquire => if now < r.sweepEnd then .sweep else .acquire
  | .locked => if now < r.sweepEnd then .sweep else if now < r.acqEnd then .acquire else if now < r.verEnd then .verify else .locked
  | x => x

/-- A ring's loop as 8F00h shows it. -/
def loopAt (s : State) (e i : Nat) : LoopState := loopNow s.now (ringOf s e i)

/-- What the feed-forward takes off a ring's heater: the sum over both dies of c × y (R336), in 10^-5 µW. -/
def forwardOf (s : State) (e i : Nat) (r : RingS) : Int :=
  let n := calEntry s 0xF100 e i
  ((bits n 15 0 : Int) * r.y0 + (bits n 31 16 : Int) * r.y1) / 1000000

/-- A loop without the marks of its time on a line. -/
def RingS.fresh (r : RingS) : RingS :=
  { r with detuning := 0, noTone := 0, limitFrom := none, limitRaised := false, offFrom := none, sweepEnd := 0, acqEnd := 0, verEnd := 0 }

/-- A ring starts on its lane (R317, R323): at a feedback value, after a wait with or without a sweep, 100 µs of acquisition
and, for a transmit ring, 1 ms of verification. A receive ring goes on acquiring until its lane has trained. -/
def tuneRing (s : State) (e i : Nat) (feedback : Int) (wait : Nat) (sweep : Bool) (r : RingS) : RingS :=
  let t := s.now + wait
  { r.fresh with
    heater := clampHeater (feedback - forwardOf s e i r), feedback := feedback, loop := if ringReceives i then .acquire else .locked
    sweepEnd := if sweep then t else 0, acqEnd := t + 100000, verEnd := t + 1100000 }

/-- A parked ring (R315): its heater at the park value, and no lock to lose. -/
def parkRing (s : State) (e i : Nat) (sweepEnd : Nat) (r : RingS) : RingS :=
  { r.fresh with heater := ringPark s e i, feedback := ringPark s e i, loop := .parked, sweepEnd := sweepEnd }

/-- Set-up and sweep of a ring at bring-up (R323, steps 2 and 3), 50 ms longer without a calibration set (R354). -/
def sweepTime (s : State) : Nat := 500000 + (if s.optics.calib.inForce.isNone then 50000000 else 0)

/-- The rings of a lane: modulator, trim, selected steering rings, demultiplexer (R358). -/
def laneRings (port : Option Nat) (k : Nat) : List Nat :=
  [k, 16 + k, 32 + k] ++ (match port with
    | some q => [txRing q k, rxRing q k]
    | none => [])

def setLoops (s : State) (e : Nat) (rs : List Nat) (st : LoopState) : State :=
  rs.foldl (fun t i => updRing t e i (fun r => { r.fresh with detuning := r.detuning, loop := st })) s

def lanesOf (e : Nat) : List Nat := (List.range 16).map (fun k => 16 * e + k)

/-- A lane is marked FAILED, or requalifies. -/
def laneFailed (s : State) (e k : Nat) : Bool :=
  let st := (vget s.optics.lanes (16 * e + k) LaneS.reset).st
  decide (st = .failed ∨ st = .requalifying)

/-- A ring whose lane is marked FAILED: its loop stays FAILED whatever becomes of the light (R332). -/
def ringFailed (s : State) (e i : Nat) : Bool := ringUsed (engOf s e).port i && laneFailed s e (ringLane i)

/-- A relock in progress is abandoned (R334): its rings start again from the map. -/
def dropRelock (s : State) (l : Nat) : State :=
  match (laneOf s l).relock with
  | none => s
  | some r => r.rings.foldl (fun t i => updRing t (l / 16) i (tuneRing t (l / 16) i (ringBias t (l / 16) i) 0 false)) s

/-- Lanes other than FAILED take a state; a relock in progress is abandoned with its proof run (R334), and so is a
requalification, which leaves its lane FAILED. Dark lanes, and lanes of a safe port but lane 0, hold their trim at full drop
(R319). -/
def setLanes (s : State) (e : Nat) (st : LaneState) : State :=
  let s1 := { s with ev := { s.ev with proofs := s.ev.proofs.filter (fun p => match p.slice with
    | .lane l => decide (l / 16 ≠ e)
    | _ => true) } }
  (lanesOf e).foldl (fun t l =>
    if laneFailed t e (l % 16) then setLoops (updLane t l (fun x => { x with st := .failed })) e (laneRings (engOf t e).port (l % 16)) .failed
    else updLane (dropRelock t l) l (fun x => { x with
      st := st, relock := none, outFor := none, outUntil := 0, heard := false, trainFrom := t.now
      trim := if st = .dark ∨ (st = .safe ∧ l % 16 ≠ 0) then 200#8 else x.trim })) s1

def updLaser (s : State) (n : Nat) (f : LaserS → LaserS) : State := updOptics s (fun o => { o with lasers := vmod o.lasers n f })
def updOptPort (s : State) (q : Nat) (f : OptPortS → OptPortS) : State := updOptics s (fun o => { o with ports := vmod o.ports q f })

/-- The cells that wait at a port are lost (R346, R414): it goes dark, enters safelight mode or is remapped. -/
def dropCells (s : State) (q : Nat) : State := updOut s q (fun o => { o with queues := Vector.replicate 5 [] })

/-- The port is lit no more by any engine: it is in no safelight mode, and its cells are lost. -/
def unlight (s : State) (q : Nat) : State := dropCells (updOptPort s q (fun p => { p with safelight := false })) q

/-- An engine without light: its loops are off but for those of FAILED lanes, its lanes dark, the cells at its port lost. A
port in safelight mode stays in it: it leaves by R345 alone. -/
def engineDark (s : State) (e : Nat) (st : EngState) : State :=
  let s1 := setLanes s e .dark
  let s2 := updRings s1 e (fun i r => { r.fresh with heater := 0, loop := if ringFailed s1 e i then .failed else .off })
  let s3 := match (engOf s2 e).port with
    | some q => dropCells s2 q
    | none => s2
  updEng s3 e (fun x => { x with st := if x.st = .outOfService then x.st else st, launch := 0#16 })

/-! ### Safelight mode (R339 to R346) -/

/-- GUARANTEE_DOWNGRADED for every RUNNING partition (R747). -/
def downgradeRunning (s : State) (kept broken case_ : Nat) : State :=
  (List.range 8).foldl (fun t p => if (negOf t p).state = .running then downgrade t p kept broken case_ else t) s

/-- The receive rings of an engine acquire again: its partner's light is no more than a beacon. -/
def reacquire (s : State) (e : Nat) : State :=
  updRings s e (fun i r => if ringReceives i && decide (r.loop = .locked) then { r.fresh with loop := .acquire } else r)

/-- The beacon of a port begins when its transmit rings are verified (R317 step 4, R323 step 5). -/
def beaconStart (s : State) (q e : Nat) : Nat := max s.now (max (ringOf s e (txRing q 0)).verEnd (ringOf s e 0).verEnd)

/-- A lit port enters safelight mode (R339, R340): its engine stops sending cells, and lane 0 alone stays lit, at a trim code
that no rule gives. Causes: 1 shroud, 2 loss of light, 3 HOLD received, 4 newly lit. A port that is in it already follows
the path of R342 anew, with no entry counted. -/
def enterSafelight (s : State) (q cause : Nat) : State :=
  match engineOfPort s q with
  | none => s
  | some e =>
    if !portLit s q then s
    else
      let was := (optPortOf s q).safelight
      let s1 := reacquire (setLanes (updEng (dropCells s q) e (fun x => { x with st := .safe })) e .safe) e
      let s2 := updOptPort s1 q (fun p => { p with
        safelight := true, enteredAt := s.now, noLight := p.noLight || decide (cause = 2 ∨ cause = 4), readyFrom := s.now
        beaconFrom := if was && decide (cause ≠ 4) then p.beaconFrom else beaconStart s1 q e, recvReady := 0, recvHold := 0
        lastBeacon := s.now, backstopRead := false })
      let (d, s3) := drawFree s2
      let s4 := updLane s3 (16 * e) (fun x => if x.st = .failed then x else { x with trim := BitVec.ofNat 8 (Config.freeNat d % 201) })
      if was then s4
      else
        let s5 := updOptics s4 (fun o => { o with entries := bump o.entries })
        downgradeRunning (raise s5 0x45 ukPORT q (Config.detail 0x45 cause 0 0)) 1 5 1

/-! ### Bringing an engine up -/

/-- The port an engine lights before any contact sheet (R316). -/
def defaultPort (e : Nat) : Nat := 6 * (e / 4) + e % 4

/-- The port that an engine serves: its own, unless that is darkened (R376). -/
def livePort (s : State) (e : Nat) : Option Nat := (engOf s e).port.filter (fun q => !(portOf s q).dark)

/-- A newly lit port: its discovery begins anew, and it is in safelight mode (R339, R374). -/
def newlyLit (s : State) (e q : Nat) : State :=
  enterSafelight (updPort (updEng s e (fun x => { x with st := .training })) q (fun p => { p with litAt := s.now, heard := false, ready := false })) q 4

/-- An engine that lights no port: its steering parked, its lanes DARK (R315). -/
def noPort (s : State) (e : Nat) : State :=
  let s1 := setLanes (updEng s e (fun x => { x with st := if x.st = .outOfService then x.st else .dark })) e .dark
  updRings s1 e (fun i r => if 48 ≤ i ∧ ringFailed s1 e i = false then parkRing s1 e i 0 r else r)

/-- An engine may light: it is in service, and no trim test of R344 is due for its chiplet. -/
def mayLight (s : State) (e : Nat) : Bool := decide ((engOf s e).st ≠ .outOfService) && !(laserOf s (e / 2)).trimTest

/-- An engine whose laser is ON comes up (R323, R315): every ring sweeps from its bias; the used ones acquire and verify, the
unselected steering rings park; the port, newly lit, is in safelight mode. -/
def lightEngine (s : State) (e : Nat) : State :=
  if !mayLight s e then s
  else
    let s0 := if s.fabric.sheet.isEmpty ∧ (engOf s e).port = none then updEng s e (fun x => { x with port := some (defaultPort e) }) else s
    let port := livePort s0 e
    let s1 := updRings s0 e (fun i r =>
      if ringUsed port i && laneFailed s0 e (ringLane i) then { r.fresh with heater := 0, loop := .failed }
      else if ringUsed port i then tuneRing s0 e i (ringBias s0 e i) (sweepTime s0) true r
      else parkRing s0 e i (s0.now + sweepTime s0) r)
    match port with
    | none => setLanes (updEng s1 e (fun x => { x with st := .dark })) e .dark
    | some q => newlyLit s1 e q

/-- An engine whose laser is ON is steered to another port (R317): the old steering rings park within 50 µs, the new ones
acquire at their bias, the receive rings wait for the new partner, and the new port is newly lit. The rings of the lens
chiplet that serve the transmit side keep their lock. -/
def steerEngine (s : State) (e : Nat) : State :=
  if !mayLight s e then s
  else
    match livePort s e with
    | none => noPort s e
    | some q =>
      let s0 := setLanes s e .dark
      let s1 := updRings s0 e (fun i r =>
        if ringFailed s0 e i then { r.fresh with loop := .failed }
        else if i < 48 then r
        else if ringUsed (some q) i then tuneRing s0 e i (ringBias s0 e i) 50000 false r
        else parkRing s0 e i 0 r)
      newlyLit (reacquire s1 e) e q

/-- The light of a chiplet returns within the grace (R311): held loops acquire from their held values without a sweep, and
the lanes are brought up again under R323, the port newly lit. -/
def resumeEngine (s : State) (e : Nat) : State :=
  if (engOf s e).st ≠ .laserLost then s
  else if !mayLight s e then updEng s e (fun x => { x with st := .dark })
  else
    let s1 := updRings s e (fun i r =>
      if r.loop = .hold then { r with loop := if ringReceives i then .acquire else .locked, acqEnd := s.now + 100000, verEnd := s.now + 1100000 }
      else r)
    match livePort s1 e with
    | none => updEng s1 e (fun x => { x with st := .dark })
    | some q => newlyLit s1 e q

/-- Held steering while the light is lost: the rings of the engine's port at their bias, the others parked (R311, R315). -/
def holdSteering (s : State) (e : Nat) : State :=
  updRings s e (fun i r =>
    if i < 48 ∨ ringFailed s e i = true then r
    else if ringUsed (livePort s e) i then { tuneRing s e i (ringBias s e i) 0 false r with loop := .hold }
    else parkRing s e i 0 r)

/-- An engine is given another port, or none (R317): the old port goes dark, and the new one is newly lit. -/
def remapEngine (s : State) (e : Nat) (port : Option Nat) : State :=
  if (engOf s e).port = port then s
  else
    let s1 := match (engOf s e).port with
      | some q => unlight s q
      | none => s
    let s2 := updEng s1 e (fun x => { x with port := port })
    match (laserOf s2 (e / 2)).st with
    | .on => if (engOf s2 e).st = .outOfService ∨ port = none then noPort s2 e else steerEngine s2 e
    | .fault => if (engOf s2 e).st = .laserLost then holdSteering (setLanes s2 e .dark) e else s2
    | _ => s2

/-! ### Lasers (R308 to R311, R764) -/

/-- Both engines of a chiplet. -/
def updEngines (s : State) (n : Nat) (f : State → Nat → State) : State := f (f s (2 * n)) (2 * n + 1)

/-- Assert LSR_EN[n] and enter ENABLING. -/
def startLaser (s : State) (n : Nat) : State :=
  updLaser s n (fun l => { l with en := true, st := .enabling, changedAt := s.now, pending := false })

/-- A write of 1 to 9000h:01 (R309, R310); none where it is refused. -/
def laserEnable (s : State) (n : Nat) : Option State :=
  let s1 := updLaser s n (fun l => { l with reqEnable := true })
  match (laserOf s n).st with
  | .off => some (startLaser s1 n)
  | .disabling | .held => some (updLaser s1 n (fun l => { l with pending := true }))
  | .fault => none
  | .enabling | .on => some s1

/-- Deassert LSR_EN[n]: its engines lose their light. -/
def stopLaser (s : State) (n : Nat) (st : LaserState) : State :=
  updEngines (updLaser s n (fun l => { l with en := false, st := st, changedAt := s.now, graceFrom := none })) n
    (fun t e => engineDark t e .off)

/-- A write of 0 to 9000h:01 (R309). -/
def laserDisable (s : State) (n : Nat) : State :=
  let s1 := updLaser s n (fun l => { l with reqEnable := false, pending := false })
  let l := laserOf s1 n
  match l.st with
  | .enabling | .on => stopLaser s1 n .disabling
  | .fault =>
    if l.en then stopLaser s1 n .disabling
    else updLaser s1 n (fun x => { x with st := if s.now < l.changedAt + 500000 then .disabling else .off })
  | _ => s1

/-- The laser is ON: its engines come up, or its held loops acquire again. Where a trim test of R344 is due its engines stay
dark until it has ended. -/
def laserOn (s : State) (n : Nat) : State :=
  let l := laserOf s n
  let s1 := updLaser s n (fun x => { x with st := .on, graceFrom := none })
  if l.trimTest then updEngines s1 n (fun t e => updEng t e (fun x => { x with st := if x.st = .outOfService then x.st else .dark }))
  else if l.graceFrom.isSome then updEngines s1 n resumeEngine
  else updEngines s1 n lightEngine

/-- LSR_OK_ASSERT (R309, R311). -/
def execLsrOkAssert (n : Fin 16) (s : State) : Host.Outcome State Fault Refusal :=
  let l := laserOf s n
  let s1 := updLaser s n (fun x => { x with ok := true, injOk := false })
  .next (match l.st with
    | .enabling => laserOn s1 n
    | .fault => if l.graceFrom.isSome ∧ l.en then laserOn s1 n else s1
    | _ => s1)

/-- An engine loses its light (R311): every loop of it holds its heater; loops of FAILED lanes and parked rings stay. -/
def loseLight (s : State) (e : Nat) : State :=
  let s1 := setLanes s e .dark
  let s2 := updRings s1 e (fun _ r => { r.fresh with
    loop := if r.loop = .off ∨ r.loop = .parked ∨ r.loop = .failed then r.loop else .hold })
  let s3 := match (engOf s2 e).port with
    | some q => dropCells s2 q
    | none => s2
  updEng s3 e (fun x => { x with st := if x.st = .outOfService then x.st else .laserLost, launch := 0#16 })

/-- LSR_OK is lost in ON (R311). -/
def loseLaser (s : State) (n : Nat) (inj : Bool) : State :=
  let s1 := updLaser s n (fun x => { x with ok := false })
  if (laserOf s n).st ≠ .on then s1
  else
    let s2 := updLaser s1 n (fun x => { x with st := .fault, graceFrom := some s.now, faults := bump x.faults })
    raise (updEngines s2 n loseLight) 0x48 ukCHIPLET n 0 inj

/-- LSR_OK_DEASSERT (R311). -/
def execLsrOkDeassert (n : Fin 16) (s : State) : Host.Outcome State Fault Refusal := .next (loseLaser s n false)

/-- LASER_ENABLE_TIMEOUT (R309): 50 ms in ENABLING. -/
def execLaserEnableTimeout (n : Fin 16) (s : State) : Host.Outcome State Fault Refusal :=
  let l := laserOf s n
  if l.st = .enabling then
    let s1 := advanceTo s (l.changedAt + 50000000)
    .next (raise (updLaser s1 n (fun x => { x with en := false, st := .fault, changedAt := s1.now, faults := bump x.faults })) 0x48 ukCHIPLET n 0)
  else .next s

/-- LASER_DISABLE_END (R309, R310): 500 µs in DISABLING; a pending enable then runs. -/
def execLaserDisableEnd (n : Fin 16) (s : State) : Host.Outcome State Fault Refusal :=
  let l := laserOf s n
  if l.st = .disabling then
    let s1 := updLaser (advanceTo s (l.changedAt + 500000)) n (fun x => { x with st := .off })
    .next (if l.pending then startLaser s1 n else s1)
  else .next s

/-- LASER_GRACE_EXPIRY (R311): 100 ms without LSR_OK; the AON deasserts LSR_EN. -/
def execLaserGraceExpiry (n : Fin 16) (s : State) : Host.Outcome State Fault Refusal :=
  let l := laserOf s n
  match l.st, l.graceFrom with
  | .fault, some t => .next (stopLaser (advanceTo s (t + 100000000)) n .fault)
  | _, _ => .next s

/-- LSR_OK_WHILE_OFF (R764): LSR_OK stands asserted for 1 ms while the laser is OFF. -/
def execLsrOkWhileOff (n : Fin 16) (s : State) : Host.Outcome State Fault Refusal :=
  if (laserOf s n).st = .off then .next (raise (updLaser s n (fun x => { x with ok := true })) 0x48 ukCHIPLET n 1) else .next s

/-! ### Lanes -/

/-- A lane goes back to where it was before it left its set, unless another lane keeps it out (R329, R331). -/
def returnLane (s : State) (l : Nat) : State :=
  updLane s l (fun x => { x with relock := none, st := if x.outFor.isSome then .relocking else x.home })

/-- The lanes that a mislocked one kept out of the set return to it (R329): but for one that relocks itself, or has a proof
run to come. -/
def releasePartner (s : State) (l : Nat) : State :=
  (lanesOf (l / 16)).foldl (fun t j =>
    if (laneOf t j).outFor = some l then
      updLane t j (fun x => { x with
        outFor := none, st := if x.relock.isNone ∧ t.ev.proofs.any (fun p => decide (p.slice = .lane j)) = false then x.home else x.st })
    else t) s

/-- A lane is marked FAILED (R332). Reasons: 1 MISLOCK, 2 LOCK_LOST, 3 HEATER_LIMIT, 4 TRAINING, 5 PROOF_RUN, 6 TRIM. -/
def failLane (s : State) (l reason : Nat) (inj : Bool) : State :=
  let e := l / 16
  let s1 := updLane s l (fun x => { x with
    st := .failed, fail := BitVec.ofNat 8 reason, trim := 200#8, relock := none, outFor := none, outUntil := 0, returning := false, injFail := inj })
  let s2 := setLoops (releasePartner s1 l) e (laneRings (engOf s e).port (l % 16)) .failed
  raise s2 0x42 ukLANE l 0 inj

/-- The proof run of a lane is asked for (R331, R726 kind 7). -/
def laneProof (s : State) (l : Nat) (inj persist : Bool) : State :=
  enqueueProof (fun t => failLane t l 5 inj) s (.lane l) inj persist

/-- A lane whose lock can be found wrong: in service, in training, or out of its set for another reason than its own relock
(R326, R328). -/
def laneWatched (x : LaneS) : Bool := decide (x.st = .inService ∨ x.st = .training) || (decide (x.st = .relocking) && x.relock.isNone)

/-- A lane leaves the set: it remembers what it goes back to. -/
def leaveSet (x : LaneS) : LaneS := { x with st := .relocking, home := if x.st = .relocking then x.home else x.st, outUntil := 0 }

/-- A lane that a mislocked transmit ring corrupts leaves the set until that ring's lane is relocked (R329). -/
def corrupt (s : State) (l j : Nat) : State :=
  updLane s (16 * (l / 16) + j) (fun x =>
    if j ≠ l % 16 ∧ x.outFor = none ∧ (x.st = .inService ∨ x.st = .training ∨ x.st = .relocking) then { leaveSet x with outFor := some l } else x)

/-- A lane leaves its set and its relock begins (R329, R330). `named`: the line or lane seen at detection. -/
def startRelock (s : State) (l : Nat) (rings : List Nat) (receive : Bool) (named : Option Nat) (inj : Bool) : State :=
  if !laneWatched (laneOf s l) then s
  else
    let e := l / 16
    let r : Relock := { rings := rings, receive := receive, attempt := 0, limited := true, named := named.isSome }
    let s0 := { s with ev := { s.ev with proofs := s.ev.proofs.filter (fun p => decide (p.slice ≠ .lane l)) } }
    let s1 := setLoops (updLane s0 l (fun x => { leaveSet x with relock := some r })) e rings .relock
    let s2 := match (if receive then none else named) with
      | some j => corrupt s1 l j
      | none => s1
    let s3 := updEng s2 e (fun x => { x with
      mislocks := if named.isSome then bump x.mislocks else x.mislocks, lockLosses := if named.isSome then x.lockLosses else bump x.lockLosses })
    raise s3 (if named.isSome then 0x40 else 0x44) ukLANE l 0 inj

/-- The rings found wrong: a transmit ring itself, or both receive rings of its lane (R330). -/
def wrongRings (s : State) (e i : Nat) : List Nat :=
  if !ringReceives i then [i]
  else match (engOf s e).port with
    | some q => [rxRing q (ringLane i), 32 + ringLane i]
    | none => [32 + ringLane i]

/-- A ring's lane has lost lock (R321, R322, R326). -/
def loseLock (s : State) (e i : Nat) : State := startRelock s (16 * e + ringLane i) (wrongRings s e i) (ringReceives i) none false

/-- The discovery record of a port (R373, R374). -/
def recordOf (s : State) (q : Nat) : Nat :=
  s.fabric.member.toNat + q * 2 ^ 16 + s.fabric.variant.toNat % 2 * 2 ^ 22 + s.fabric.dw.toNat % 16 * 2 ^ 24 +
    csidNow s * 2 ^ 32 + Config.serial.toNat * 2 ^ 64

def sendRecord (s : State) (q : Nat) : State := emit s (.record q (leBytes 32 (recordOf s q)))

/-- A port has trained and its engine is in service. -/
def portTrained (s : State) (q : Nat) : Bool :=
  (portOf s q).ready && (match engineOfPort s q with
    | some e => decide ((engOf s e).st = .inService)
    | none => false)

/-- The record goes again on every trained port when what it says has changed (R374). -/
def sendRecords (s : State) : State :=
  (List.range 48).foldl (fun t q => if portTrained t q then sendRecord t q else t) s

/-- LANE_TRAINED (R323, step 7): a lane in training verifies, passes its PRBS31 check and enters service with the trim
code that training set. -/
def execLaneTrained (l : Fin 512) (trim : Fin 201) (s : State) : Host.Outcome State Fault Refusal :=
  let e := l.val / 16
  if (laneOf s l).st ≠ .training then .next s
  else
    let s1 := updLane s l (fun x => { x with st := .inService, trim := BitVec.ofNat 8 trim })
    let s2 := setLoops s1 e (laneRings (engOf s e).port (l % 16)) .locked
    let s3 := updEng s2 e (fun x => { x with st := .inService })
    .next (match (engOf s e).port with
      | some q => if (portOf s q).ready then s3 else sendRecord (updPort s3 q (fun p => { p with ready := true })) q
      | none => s3)

/-- LANE_TRAINING_TIMEOUT (R324): 100 ms of training without service, a relock within it counted in. -/
def execLaneTrainingTimeout (l : Fin 512) (s : State) : Host.Outcome State Fault Refusal :=
  let x := laneOf s l
  if x.st = .training ∨ (x.st = .relocking ∧ x.home = .training) then .next (failLane (advanceTo s (x.trainFrom + 100000000)) l 4 false)
  else .next s

/-! ### Focus loops (R320 to R322, R336) -/

/-- A ring's loop runs: its heater follows feedback and feed-forward. -/
def loopRuns (now : Nat) (r : RingS) : Bool := let l := loopNow now r; decide (l = .locked ∨ l = .acquire ∨ l = .verify)

/-- The heater of a running loop (R336), and since when it has stood near a limit (R322). -/
def driveRing (s : State) (e i : Nat) (r : RingS) : RingS :=
  if loopRuns s.now r then
    let h := clampHeater (r.feedback - forwardOf s e i r)
    let near := decide (h ≤ oneMilliwatt ∨ heaterMax - oneMilliwatt ≤ h)
    { r with heater := h, limitFrom := if near then (if r.limitFrom.isSome then r.limitFrom else some s.now) else none,
             limitRaised := r.limitRaised && near }
  else r

/-- FOCUS_LOOP_UPDATE (R321, R322): the loop of a ring takes its feedback value and its measured detuning. A heater at
a limit with more than 6 GHz of detuning is a lost lock. -/
def execFocusLoopUpdate (e : Fin 32) (i : Fin 240) (feedback detuning : Int) (s : State) : Host.Outcome State Fault Refusal :=
  let r := ringOf s e i
  if loopRuns s.now r then
    let r1 := driveRing s e i { r with feedback := feedback, detuning := detuning }
    let off := decide (detuning < -600 ∨ 600 < detuning)
    let s1 := updRing s e i (fun _ => { r1 with offFrom := if off then (if r.offFrom.isSome then r.offFrom else some s.now) else none })
    .next (if (detuning < -60 ∨ 60 < detuning) ∧ (r1.heater = 0 ∨ r1.heater = heaterMax) then loseLock s1 e i else s1)
  else .next s

/-- LOCK_LOST (R321): a detuning beyond 60 GHz for 10 µs, of a loop that runs. -/
def execLockLost (e : Fin 32) (i : Fin 240) (s : State) : Host.Outcome State Fault Refusal :=
  match (ringOf s e i).offFrom with
  | some t => if loopRuns s.now (ringOf s e i) then .next (loseLock (advanceTo s (t + 10000)) e i) else .next s
  | none => .next s

/-- HEATER_LIMIT (R322): 10 ms within 1 mW of a limit. -/
def execHeaterLimit (e : Fin 32) (i : Fin 240) (s : State) : Host.Outcome State Fault Refusal :=
  let r := ringOf s e i
  match r.limitFrom with
  | some t =>
    if r.limitRaised then .next s
    else .next (raise (updRing (advanceTo s (t + 10000000)) e i (fun x => { x with limitRaised := true })) 0x49 ukENGINE e (Config.detail 0x49 i 0 0))
  | none => .next s

/-- A fired injection of a lane: what its detector then sees in place of the truth (R733, 0Ah and 0Bh). -/
def laneInjection (s : State) (d l : Nat) : Option (State × Nat) :=
  (injArmed s d ukLANE l).map (fun x => (injFired s d, x.1 % 16))

/-- PILOT_WINDOW (R326): a 1 ms window of a locked transmit ring ends, naming a line or none. -/
def execPilotWindow (e : Fin 32) (i : Fin 240) (line : Option (Fin 16)) (s : State) : Host.Outcome State Fault Refusal :=
  let k := ringLane i
  if loopAt s e i ≠ .locked ∨ ringReceives i = true ∨ (laserOf s (e / 2)).st ≠ .on then .next s
  else
    let (s0, seen, inj) := match laneInjection s 0x0A (16 * e + k) with
      | some (t, j) => (t, some j, true)
      | none => (s, line.map (fun j => j.val), false)
    match seen with
    | some j =>
      if j = k then .next (updRing s0 e i (fun r => { r with noTone := 0 }))
      else .next (startRelock s0 (16 * e + k) [i] false (some j) inj)
    | none =>
      let n := (ringOf s0 e i).noTone + 1
      let s1 := updRing s0 e i (fun r => { r with noTone := n })
      .next (if 2 ≤ n then loseLock s1 e i else s1)

/-- A port is darkened (R376): its engine stops sending, parks its steering, and its lanes read DARK. -/
def darkenPort (s : State) (q : Nat) : State :=
  let s1 := unlight (updPort s q (fun p => { p with dark := true, ready := false })) q
  match engineOfPort s1 q with
  | none => s1
  | some e => noPort s1 e

/-- A marker's ENGINE fits the recorded PORT: an engine lights ports of its own steering group alone (R314). -/
def engineFits (engine port : Nat) : Bool := decide (engine / 4 = port / 6)

/-- LANE_ID_MARKER (R327, R328, R380): a marker of a receive lane that trains or is in service, or is out of its set for
another lane. Another LANE is a mislock; another ENGINE, PORT or MEMBER than the port's record allows darkens the port. One
without MTYPE A5h decodes as none. -/
def execLaneIdMarker (l : Fin 512) (m : U64) (s : State) : Host.Outcome State Fault Refusal :=
  let e := l.val / 16
  let k := l.val % 16
  if laneWatched (laneOf s l) = false ∨ bits m.toNat 63 56 ≠ 0xA5 then .next s
  else match (engOf s e).port with
    | none => .next s
    | some q =>
      let (s0, lane, inj) := match laneInjection s 0x0B l with
        | some (t, j) => (t, j, true)
        | none => (s, bits m.toNat 3 0, false)
      if lane ≠ k then .next (startRelock s0 l [rxRing q k, 32 + k] true (some lane) inj)
      else
        let p := portOf s0 q
        if p.outcome = 5#8 ∧ p.heard = true ∧ (bits m.toNat 14 9 ≠ p.port.toNat ∨ bits m.toNat 30 15 ≠ p.member.toNat ∨
            engineFits (bits m.toNat 8 4) p.port.toNat = false) then
          .next (raise (updPort (darkenPort s0 q) q (fun p => { p with outcome := 0#8 })) 0x53 ukPORT q 0)
        else .next (updLane s0 l (fun x => { x with heard := true }))

/-- MARKER_MISSING (R328): no marker in two consecutive intervals, of a lane that has decoded one since its training began. -/
def execMarkerMissing (l : Fin 512) (s : State) : Host.Outcome State Fault Refusal :=
  let e := l.val / 16
  match (engOf s e).port with
  | some q =>
    if (laneOf s l).st = .training ∧ (laneOf s l).heard = false then .next s
    else .next (startRelock s l [rxRing q (l % 16), 32 + l % 16] true none false)
  | none => .next s

/-! ### Relock (R330 to R334) -/

/-- The heater a relock attempt gives a ring: the map's bias, or a channel up or down by the sign of j − k. -/
def relockHeater (s : State) (e k i : Nat) (seen : Option Nat) : Int :=
  match seen with
  | none => ringBias s e i
  | some j =>
    let step : Int := if ringEff s e i = 0 then 0 else 4000000000000 / (ringEff s e i : Int)
    (ringOf s e i).heater + (if k < j then step else if j < k then -step else 0)

/-- The rings of a relocked lane: those of a lane in training that receive acquire on, the others are locked. -/
def lockLane (s : State) (l : Nat) : State :=
  let rs := laneRings (engOf s (l / 16)).port (l % 16)
  let s1 := setLoops s (l / 16) rs .locked
  if (laneOf s l).home = .training then setLoops s1 (l / 16) (rs.filter ringReceives) .acquire else s1

/-- RELOCK_ATTEMPT_DONE (R330): one attempt, with the line or lane that its rings were seen to serve at its start, and at its
end. A line that a transmit ring is found on is corrupted. -/
def execRelockAttemptDone (l : Fin 512) (seen : Option (Fin 16)) (s : State) (before : Option (Fin 16) := none) : Host.Outcome State Fault Refusal :=
  let e := l.val / 16
  let k := l.val % 16
  match (laneOf s l).relock with
  | none => .next s
  | some r =>
    if s.ev.proofs.any (fun p => decide (p.slice = .lane l)) then .next s
    else
      let hs := r.rings.map (fun i => (i, relockHeater s e k i (before.map (fun j => j.val))))
      let fits (h : Int) : Bool := decide (0 ≤ h ∧ h ≤ heaterMax)
      let stepOk := hs.all (fun x => fits x.2)
      let s1 := hs.foldl (fun t x => if fits x.2 then updRing t e x.1 (fun y => { y with
        heater := x.2, feedback := x.2 + forwardOf t e x.1 y, loop := .acquire }) else t) s
      let s2 := updEng s1 e (fun x => { x with attempts := bump x.attempts })
      let r1 := { r with attempt := r.attempt + 1, limited := r.limited && !stepOk }
      let s3 := updLane s2 l (fun x => { x with relock := some r1 })
      let s4 := if r.receive then s3 else (before.toList ++ seen.toList).foldl (fun t j => corrupt t l j.val) s3
      if stepOk ∧ seen.map (fun j => j.val) = some k then .next (laneProof (setLoops s4 e r.rings .verify) l false false)
      else if 3 ≤ r1.attempt then
        .next (failLane s4 l (if r1.limited then 3 else if r.named then 1 else 2) false)
      else .next s4

/-- LANE_PROOF_RUN_DONE (R331 to R333): the PRBS31 exchange of a lane ends. One that follows an injection under PERSIST
fails (R735). -/
def execLaneProofRunDone (l : Fin 512) (ok : Bool) (s : State) : Host.Outcome State Fault Refusal :=
  let mine := s.ev.proofs.filter (fun p => decide (sliceTester p.slice = sliceTester (.lane l)))
  match mine.head? with
  | none => .next s
  | some p =>
    if p.slice ≠ .lane l then .next s
    else
      let e := l.val / 16
      let passed := ok && !p.persist
      let s1 := { s with ev := { s.ev with proofs := s.ev.proofs.filter (fun q => decide (q.slice ≠ .lane l)) } }
      let s2 := raise s1 (if passed then 0x01 else 0x02) ukLANE l 7 p.inj
      if (laneOf s2 l).st = .requalifying then
        .next (if passed then updLane s2 l (fun x => { x with st := .failed, returning := true })
          else setLoops (updLane s2 l (fun x => { x with st := .failed })) e (laneRings (engOf s2 e).port (l % 16)) .failed)
      else if (laneOf s2 l).st ≠ .relocking then .next s2
      else if passed then
        let s3 := releasePartner (returnLane (updLane s2 l (fun x => { x with transient := bump x.transient })) l) l
        .next (raise (lockLane s3 l) 0x41 ukLANE l 0 p.inj)
      else .next (failLane s2 l 5 p.inj)

/-- A lane leaves its set for a proof run (R729). -/
def laneCodewords (s : State) (l : Nat) (inj persist : Bool) : State :=
  if (laneOf s l).st ≠ .inService then s
  else laneProof (raise (updLane s l leaveSet) 0x08 ukLANE l 0 inj) l inj persist

/-- LANE_CODEWORDS (R729): more than 16 uncorrectable codewords within 1 s on a lane. -/
def execLaneCodewords (l : Fin 512) (s : State) : Host.Outcome State Fault Refusal :=
  let x := laneOf s l
  let recent := x.badAt.filter (fun b => decide (s.now < b.1 + 1000000000))
  if recent.length ≤ 16 then .next s
  else .next (laneCodewords (updLane s l (fun y => { y with badAt := [], badPersist := false })) l (recent.any (fun b => b.2)) x.badPersist)

/-- The rings of a failed lane sweep from their bias (R333); without light there is nothing to sweep. -/
def sweepLane (s : State) (l : Nat) : State :=
  let e := l / 16
  if (laserOf s (e / 2)).st ≠ .on then s
  else (laneRings (engOf s e).port (l % 16)).foldl (fun t i => updRing t e i (tuneRing t e i (ringBias t e i) (sweepTime t) true)) s

/-- A write of 8E00h:09 (R333): the failed lanes of the mask requalify; other bits are ignored. -/
def requalifyLanes (s : State) (e mask : Nat) : State :=
  (setBits 16 mask).foldl (fun t k =>
    if (laneOf t (16 * e + k)).st = .failed ∧ (laneOf t (16 * e + k)).returning = false then
      laneProof (sweepLane (updLane t (16 * e + k) (fun x => { x with st := .requalifying })) (16 * e + k)) (16 * e + k) false false
    else t) s

/-- The default trim code of a lane's transmit entry in the set in force (R347). -/
def defaultTrim (s : State) (l : Nat) : U8 :=
  match s.optics.calib.inForce with
  | none => 200#8
  | some c => BitVec.ofNat 8 (leNat (calBytes c (0x1E100 + 32 * l + 3) 1))

/-- The rings of a lane that returns where its engine is not in service: as the engine's light has them (R333). -/
def returnRings (s : State) (l : Nat) : State :=
  let e := l / 16
  let rs := laneRings (livePort s e) (l % 16)
  match (laserOf s (e / 2)).st with
  | .on => rs.foldl (fun t i => updRing t e i (fun r =>
      if r.loop = .failed ∨ ringReceives i = true then tuneRing t e i (ringBias t e i) 0 false r else r)) s
  | .fault => if (engOf s e).st = .laserLost then
      rs.foldl (fun t i => updRing t e i (fun r => { tuneRing t e i (ringBias t e i) 0 false r with loop := .hold })) s
    else setLoops s e rs .off
  | _ => setLoops s e rs .off

/-- A requalified lane returns (R333): into its link's set where the engine is in service, and else as the engine's state has
its lanes. Lane 0 of a port in safelight mode is lit (R340). -/
def returnFailed (s : State) (l : Nat) : State :=
  let e := engOf s (l / 16)
  let st : LaneState := match e.st with
    | .inService => .inService
    | .training => .training
    | .safe => .safe
    | _ => .dark
  let (d, s0) := if st = .safe ∧ l % 16 = 0 then drawFree s else (0, s)
  let trim : U8 := if st = .inService then defaultTrim s l else if st = .safe ∧ l % 16 = 0 then BitVec.ofNat 8 (Config.freeNat d % 201) else 200#8
  let s1 := updLane s0 l (fun y => { y with
    returning := false, counted := true, fail := 0#8, injFail := false, trainFrom := s.now, heard := false, st := st, trim := trim })
  raise (if st = .inService then setLoops s1 (l / 16) (laneRings e.port (l % 16)) .locked else returnRings s1 l) 0x43 ukLANE l 0

/-- At an exposure's commit: requalified lanes return, and 1020h:04 counts the lanes that are not marked FAILED (R19, R332,
R333). -/
def commitLanes (s : State) : State :=
  (List.range 512).foldl (fun t l =>
    let x := laneOf t l
    if x.returning then returnFailed t l
    else
      let out : Bool := decide (x.st = .failed ∨ x.st = .requalifying)
      if x.counted = out then updLane t l (fun y => { y with counted := !out }) else t) s

/-- RESWEEP (R325): the next lane of an engine leaves its link for 300 µs and re-sweeps its modulator and receive rings, which
gives them new bias values for the loop; not while the engine trains or has a lane in relock. -/
def execResweep (e : Fin 32) (fm fr fd : Int) (s : State) : Host.Outcome State Fault Refusal :=
  let x := engOf s e
  if x.st = .inService ∧ (lanesOf e).all (fun l => decide ((laneOf s l).st ≠ .relocking ∧ (laneOf s l).st ≠ .training)) = true then
    match x.port with
    | none => .next s
    | some q =>
      let k := x.resweepLane
      let s1 := advanceTo s (x.resweepAt + 3750000000)
      let put (t : State) (i : Nat) (f : Int) : State := updRing t e i (fun r => { driveRing t e i { r with feedback := f } with sweepEnd := s1.now + 300000 })
      let s2 := if (laneOf s1 (16 * e + k)).st = .inService then
          put (put (put (updLane s1 (16 * e + k) (fun y => { y with outUntil := s1.now + 300000 })) k fm) (rxRing q k) fr) (32 + k) fd
        else s1
      .next (updEng s2 e (fun y => { y with resweepAt := s1.now, resweepLane := (k + 1) % 16 }))
  else .next s

/-! ### Heat from the compute dies (R335 to R337) -/

/-- 2^64 × e^(−10 / τ), by the first 24 terms of its series: the terms come in turn, each with its sign. -/
def expTerms (tau : Nat) : Nat → Nat → Int → Int
  | 0, _, _ => 0
  | n + 1, k, t => t + expTerms tau n (k + 1) (-(t * 10 / ((tau * (k + 1) : Nat) : Int)))
def decay64 (tau : Nat) : Int := if tau = 0 then 0 else expTerms tau 24 0 (2 ^ 64)

/-- The change of a filtered power over one sample (R336): (P − y) × (1 − e^(−10 µs / τ)), τ in µs. -/
def ffStep (tau : Nat) (diff : Int) : Int := diff * (2 ^ 64 - decay64 tau) / 2 ^ 64

/-- A sample of a die's power, in mW, reaches the filters of every ring of its field (R336). -/
def powerSample (s : State) (die mw : Nat) : State :=
  let f := die / 2
  (List.range 8).foldl (fun t j =>
    let e := 8 * f + j
    updRings t e (fun i r =>
      let n := calEntry t 0xF100 e i
      let p : Int := (mw : Int) * 1000000
      let r1 := if die % 2 = 0 then { r with y0 := r.y0 + ffStep (bits n 47 32) (p - r.y0) }
        else { r with y1 := r.y1 + ffStep (bits n 63 48) (p - r.y1) }
      driveRing t e i r1)) s

/-- Feed-forward is off without a calibration set (R354). -/
def feedSample (s : State) (die mw : Nat) : State := if s.optics.calib.inForce.isNone then s else powerSample s die mw

/-- POWER_SAMPLE (R335, R336), in mW. -/
def execPowerSample (die : Fin 8) (mw : Nat) (s : State) : Host.Outcome State Fault Refusal :=
  .next (feedSample { s with power := { s.power with dies := vmod s.power.dies die (fun d => { d with sampleMw := mw }) } } die mw)

/-- TRIP_NOTICE (R337): the chiplets of the field take the notice that carries a power, the oldest of those that the die has
sent, and apply it as a sample of that power. -/
def execTripNotice (die : Fin 8) (mw : Nat) (s : State) : Host.Outcome State Fault Refusal :=
  match (vget s.power.dies die DiePowerS.reset).notices with
  | [] => .next s
  | sent :: rest =>
    if sent ≠ mw then .next s
    else .next (feedSample { s with power := { s.power with dies := vmod s.power.dies die (fun d => { d with notices := rest }) } } die mw)

/-! ### The shroud and the beacon -/

/-- SHROUD_OPEN (R342): every lit port enters safelight mode, or follows its path anew. -/
def execShroudOpen (s : State) : Host.Outcome State Fault Refusal :=
  if s.optics.shroudOpen then .next s
  else
    let s1 := raise (updOptics s (fun o => { o with shroudOpen := true })) 0x0E ukPACKAGE 0 0
    .next ((List.range 48).foldl (fun t q => enterSafelight t q 1) s1)

/-- SHROUD_CLOSE (R345): the shroud-closed time begins. -/
def execShroudClose (s : State) : Host.Outcome State Fault Refusal :=
  if s.optics.shroudOpen then
    .next (raise (updOptics s (fun o => { o with shroudOpen := false, shroudClosedAt := s.now })) 0x0F ukPACKAGE 0 0)
  else .next s

/-- RX_POWER_LOSS (R339, R341): 50 µs below −20 dBm. A port that trains or is in service enters safelight mode; one in it
sends HOLD again. -/
def execRxPowerLoss (q : Fin 48) (s : State) : Host.Outcome State Fault Refusal :=
  match engineOfPort s q with
  | some e => .next (
      if (engOf s e).st = .training ∨ (engOf s e).st = .inService then enterSafelight s q 2
      else if (optPortOf s q).safelight then updOptPort s q (fun p => { p with noLight := true, recvReady := 0, recvHold := 0 })
      else s)
  | none => .next s

/-- BEACON_WORD (R339, R341): a word arrives, 25.6 µs after the one before it at the earliest. Four of HOLD bring the port
into safelight mode. -/
def execBeaconWord (q : Fin 48) (w : U32) (s : State) : Host.Outcome State Fault Refusal :=
  let st := bits w.toNat 17 16
  if bits w.toNat 15 0 ≠ 0x9C5A ∨ st = 0 ∨ st = 3 ∨ portLit s q = false then .next s
  else
    let s0 := advanceTo s ((optPortOf s q).lastBeacon + 25600)
    let s1 := updOptPort s0 q (fun p => { p with
      noLight := false, readyFrom := if p.noLight then s0.now else p.readyFrom, lastBeacon := s0.now
      recvReady := if st = 1 then min 4 (p.recvReady + 1) else 0, recvHold := if st = 2 then min 4 (p.recvHold + 1) else 0 })
    let s1 := updPort s1 q (fun p => { p with lostRaised := false })
    .next (if 4 ≤ (optPortOf s1 q).recvHold ∧ (optPortOf s1 q).safelight = false then enterSafelight s1 q 3 else s1)

/-- SAFELIGHT_BACKSTOP (R343): the launch monitor, read 1 ms after safelight entry, in µW; above −3.0 dBm, that is
501.187 µW, the laser is HELD. -/
def execSafelightBackstop (q : Fin 48) (launch : U16) (s : State) : Host.Outcome State Fault Refusal :=
  let p := optPortOf s q
  match engineOfPort s q with
  | none => .next s
  | some e =>
    if p.safelight = false ∨ p.backstopRead = true then .next s
    else
      let s1 := updEng (updOptPort (advanceTo s (p.enteredAt + 1000000)) q (fun x => { x with backstopRead := true })) e
        (fun x => { x with launch := launch })
      if launch.toNat ≤ 501 then .next s1
      else
        let s2 := updOptics (stopLaser s1 (e / 2) .held) (fun o => { o with backstops := bump o.backstops })
        .next (raise s2 0x47 ukPORT q 0)

/-- SAFELIGHT_EXIT (R345): once the shroud has been closed for 1 s and four READY words have gone out, a port that receives
READY leaves safelight mode and trains. -/
def execSafelightExit (q : Fin 48) (s : State) : Host.Outcome State Fault Refusal :=
  let p := optPortOf s q
  match engineOfPort s q with
  | none => .next s
  | some e =>
    if p.safelight = true ∧ s.optics.shroudOpen = false ∧ (laserOf s (e / 2)).st = .on ∧ p.noLight = false ∧ 4 ≤ p.recvReady then
      let words := max (max p.readyFrom p.beaconFrom) s.optics.shroudClosedAt + 4 * 25600
      let s1 := advanceTo s (max (s.optics.shroudClosedAt + 1000000000) words)
      let s2 := updPort (updOptPort s1 q (fun x => { x with safelight := false })) q
        (fun x => { x with ready := false, litAt := s1.now, heard := false, lostRaised := false })
      .next (raise (setLanes (updEng s2 e (fun x => { x with st := .training })) e .training) 0x46 ukPORT q 0)
    else .next s

/-- The outcome of an engine's trim test (R344): a lane whose trim ring does not reach code 200, or none. -/
def trimTested (s : State) (e : Nat) (bad : Option Nat) : State :=
  match bad with
  | none => s
  | some k =>
    let s1 := failLane s (16 * e + k) 6 false
    updEng (updRings s1 e (fun i r => if 48 ≤ i then parkRing s1 e i 0 r else r)) e (fun x => { x with st := .outOfService })

/-- HELD_RELEASE (R344): a HELD laser whose driver has written 1, with the shroud closed for 1 s, is enabled again; once
it is ON, the trim test of both engines ends and those that pass light. -/
def execHeldRelease (n : Fin 16) (bad0 bad1 : Option (Fin 16)) (s : State) : Host.Outcome State Fault Refusal :=
  let l := laserOf s n
  if l.st = .held ∧ l.pending = true ∧ s.optics.shroudOpen = false then
    let s1 := advanceTo s (s.optics.shroudClosedAt + 1000000000)
    .next (updLaser (startLaser s1 n) n (fun x => { x with trimTest := true }))
  else if l.st = .on ∧ l.trimTest = true then
    let s1 := updLaser s n (fun x => { x with trimTest := false })
    let s2 := trimTested (trimTested s1 (2 * n) (bad0.map (fun k => k.val))) (2 * n + 1) (bad1.map (fun k => k.val))
    .next (updEngines s2 n lightEngine)
  else .next s

end Sys2Proof.Machine
end

