-- ==== Sys2Proof/Machine/HostCore.lean ====
section
/-! DEFINITION. RDMA windows and host ports as the reels use them (R519 to R527): the window descriptor, the check of a
tile's range, sending operations, and a window that fails. -/

namespace Sys2Proof.Machine

/-- A window descriptor taken apart (R522). -/
structure WinF where
  port : Nat
  rd : Bool
  wr : Bool
  mtu : Nat
  ordm1 : Nat
  rpsn : Nat
  hva : Nat
  len : Nat
  usport : Nat
  pcp : Nat
  reserved : Bool
  deriving DecidableEq, Repr

def winF (d : BitVec 512) : WinF :=
  { port := field d 0 0, rd := flag d 1, wr := flag d 2, mtu := field d 5 4, ordm1 := field d 9 6, rpsn := field d 63 40,
    hva := field d 159 96, len := field d 199 160, usport := field d 215 200, pcp := field d 230 228,
    reserved := decide (field d 15 10 ≠ 0 ∨ field d 239 238 ≠ 0 ∨ field d 511 416 ≠ 0 ∨ field d 5 4 = 3) }

/-- Payload bytes of a packet. -/
def WinF.mtuBytes (f : WinF) : Nat := 1024 * 2 ^ f.mtu

def winOf (s : State) (w : Nat) : WindowS := vget s.host.windows w WindowS.reset
def updWin (s : State) (w : Nat) (f : WindowS → WindowS) : State :=
  { s with host := { s.host with windows := vmod s.host.windows w f } }
def hportOf (s : State) (n : Nat) : HostPortS := vget s.host.ports n HostPortS.reset
def updHport (s : State) (n : Nat) (f : HostPortS → HostPortS) : State :=
  { s with host := { s.host with ports := vmod s.host.ports n f } }

/-- The check of a tile's range against its window, by the move's partition (R526): the status that ends the move. -/
def winCheck (s : State) (part w off len : Nat) (write : Bool) : Option Nat :=
  let x := winOf s w
  let f := winF x.desc
  if f.len < off + len then some 1
  else if x.st ≠ .open_ ∨ x.owner.toNat ≠ part ∨ (if write then f.wr else f.rd) = false then some 6
  else none

/-- The port of a window sends now: its controlled port is open and no pause stands on the window's priority (R518,
R528). -/
def winSends (s : State) (w : Nat) : Bool :=
  let f := winF (winOf s w).desc
  let p := hportOf s f.port
  decide (p.st = .secured) && decide (vget p.pauses f.pcp 0 ≤ s.now)

/-- The operations of a host access: places and lengths of at most 64 KiB (R527). -/
def splitOps (off len : Nat) : List (Nat × Nat) :=
  (List.range ((len + 65535) / 65536)).map (fun i => (off + 65536 * i, min 65536 (len - 65536 * i)))

/-- PSNs an operation takes: a packet per path MTU. -/
def opPackets (f : WinF) (len : Nat) : Nat := (len + f.mtuBytes - 1) / f.mtuBytes

/-- Send one operation on a window, for a tile of a reel's move. A WRITE carries its bytes, a READ its length, in the byte
order of its standard (R7). -/
def sendOp (s : State) (w : Nat) (write : Bool) (reel move tile byte_ off len : Nat) (bytes : List Byte) : State :=
  let x := winOf s w
  let f := winF x.desc
  let n := opPackets f len
  let op : RdmaOp := {
    psn := x.psn, packets := n, write := write, reel := reel, move := move, tile := tile,
    byte_ := byte_, winOff := off, len := len, data := bytes, sentAt := s.now, late := false }
  let s1 := updWin s w (fun y => { y with ops := y.ops ++ [op], psn := (y.psn + n) % 2 ^ 24 })
  let s2 := if write then updHport s1 f.port (fun p => { p with sent := bumpBy p.sent len }) else s1
  emit s2 (.rdma w x.psn write ((f.hva + off) % 2 ^ 64) (if write then bytes else (leBytes 4 len).reverse))

/-- Send the WRITEs of runs of bytes. -/
def sendWrites (s : State) (w reel move tile : Nat) (runs : List (Nat × List Byte)) : State :=
  runs.foldl (fun t r =>
    (splitOps r.1 r.2.length).foldl (fun u o =>
      sendOp u w true reel move tile (o.1 - r.1) o.1 o.2 ((r.2.drop (o.1 - r.1)).take o.2)) t) s

/-- READs outstanding on a window. -/
def readsOut (x : WindowS) : Nat := x.ops.countP (fun o => !o.write)

/-- Send the READs of a tile's range that have not been sent, as many as the window lets be outstanding (R527). -/
def sendReads (s : State) (w reel move tile off len : Nat) (have_ : List Nat) : State :=
  (splitOps off len).foldl (fun t o =>
    let x := winOf t w
    let b := o.1 - off
    if have_.contains b || x.ops.any (fun y => !y.write && decide (y.reel = reel ∧ y.move = move ∧ y.tile = tile ∧ y.byte_ = b))
    then t
    else if readsOut x ≤ (winF x.desc).ordm1 ∧ winSends t w = true then sendOp t w false reel move tile b o.1 o.2 []
    else t) s

/-- The operations of a move have timed out (R525, R527): what a closing window waits for no longer. -/
def timeOutOps (s : State) (reel move : Nat) : State :=
  { s with host := { s.host with windows := s.host.windows.map (fun x => { x with
      ops := x.ops.map (fun o => if o.reel = reel ∧ o.move = move then { o with late := true } else o) }) } }

/-- Some operation of a move is still unanswered. -/
def opsOpen (s : State) (reel move : Nat) : Bool :=
  s.host.windows.any (fun x => x.ops.any (fun o => decide (o.reel = reel ∧ o.move = move)))

end Sys2Proof.Machine
end

