-- ==== Sys2Proof/Machine/Reel.lean ====
section
/-! DEFINITION. The reels (chapter 6): a move's tiles one at a time, what ends a move, sends and receives by rendezvous,
and the IOD reels' queues. -/

namespace Sys2Proof.Machine

/-! ### A move -/

/-- The move that a reel runs: the head of its queue once it has started (R239). -/
def runningMove (s : State) (r : Nat) : Option Move := ((reelOf s r).queue.head?).filter (fun m => m.started)

/-- The endpoint of a reel's flows: its die; an IOD reel's, which no rule names, is the MGP's. -/
def reelEndpoint (r : Nat) : Nat := if r < 64 then r / 8 else 9

def updMove (s : State) (r : Nat) (f : Move → Move) : State :=
  updReel s r (fun x => { x with queue := match x.queue with
    | [] => []
    | m :: ms => f m :: ms })

/-- Start the head of an IOD reel's queue (R239, R257). -/
def startIod (s : State) (r : Nat) : State :=
  match (reelOf s r).queue with
  | [] => s
  | m :: _ =>
    if m.started ∨ (reelOf s r).st = .outOfService then s
    else updMove (updReel (countMove s) r (fun x => { x with st := .moving })) r (fun m => { m with
      started := true, limits := vget s.watchdogs m.part watchdogReset, seqno := s.mem.moves, rtsAt := s.now, since := s.now })

/-- The range check of a move (R238): the partition's declared regions, or its own when it holds no negative; the MGP's
moves (no partition) may name anything but a park area (R85). -/
def moveRange (s : State) (part : Nat) (a : Addr) (len : Nat) : Bool :=
  if 8 ≤ part then !namesPark s a len else moveInside s part a len

/-- A pair offset range reaches a retired page or lies past the end of the pair space (R216, R280). -/
def hbmRetired (s : State) (k off len : Nat) : Bool :=
  decide (pairBytes s k < off + len) || (retiredIn s k off len).isSome

/-- The check of one address of a tile before it is touched (R238, R783, R280, R296, R526, R634): the status that ends
the move. -/
def addrCheck (s : State) (part addr len : Nat) (write : Bool) : Option Nat :=
  match addrF addr with
  | none => some 1
  | some a =>
    if !moveRange s part a len then some 1
    else if !a.self && (boardPos s).isNone then some 6
    else if !addrOwn s a then (if a.tier = .hbm ∨ a.tier = .store then none else some 6)
    else match a.tier with
      | .host => winCheck s part a.unit a.off len write
      | .hbm => if vget s.sec.rewriting a.unit false then some 6 else if hbmRetired s a.unit a.off len then some 4 else none
      | .store => if storeBytes s a.unit < a.off + len then some 1 else none
      | .flash => if write ∧ flashState s = 2 then some 6 else none
      | .loc => none

def linkFailed (s : State) (l : Nat) : Bool := (vget s.sys.links l LinkS.reset).failed

/-- A link of a compute die to the IOD or to its memory base dies has failed (R29). -/
def dieLinkFailed (s : State) (k : Nat) : Bool := linkFailed s k || linkFailed s (8 + 2 * k) || linkFailed s (9 + 2 * k)

/-- A stack whose regulator an injection has switched off (R662). -/
def stackOff (s : State) (j : Nat) : Bool := s.power.injRegs.contains (144 + 2 * j) || s.power.injRegs.contains (145 + 2 * j)

/-- A compute die that no access passes through: it and its store die are out of service, their lasting fault is on the fault
list, or its function is disabled (R15, R29, R708). -/
def dieDown (s : State) (k : Nat) : Bool :=
  vget s.mem.storeOut k false || onFaultList s ukISLAND (10 * k + 9) ||
    decide ((vget s.sys.funcs k FuncS.reset).st = .disabled)

/-- The compute die that an address of this package lies behind (R15). -/
def dieBehind (a : Addr) : Option Nat :=
  match a.tier with
  | .store => some a.unit
  | .loc => some (a.unit / 16)
  | _ => none

/-- The path of an access: LINK where a link of it has failed; OFFLINE where the compute die that it passes through is out of
service, or an injection has a stack or a flash stack off (R15, R252, R662). -/
def pathCheck (s : State) (r part addr len : Nat) : Option Nat :=
  match addrF addr with
  | none => none
  | some a =>
    if !addrOwn s a then (if r < 64 ∧ linkFailed s (r / 8) = true then some 7 else none)
    else if (pathLinks s r a len).any (linkFailed s) then some 7
    else if (dieBehind a).any (dieDown s) then some (if (dieBehind a).any (dieLinkFailed s) then 7 else 10)
    else match a.tier with
      | .hbm => if (stacksOf s a.unit a.off len).any (stackOff s) then some 10 else none
      | .flash =>
        if (List.range ((a.off + len - 1) / 4096 + 1 - a.off / 4096)).any (fun i =>
            !(vget s.power.regs (208 + (flashAt s part (a.off / 4096 + i)).1) true)) then some 10 else none
      | _ => none

/-- Everything an access of a reel is checked for before it is made. -/
def accessCheck (s : State) (r part addr len : Nat) (write : Bool) : Option Nat :=
  (addrCheck s part addr len write).orElse (fun _ => pathCheck s r part addr len)

/-- An access ends with a status before anything is touched. One to a retired page raises its event (R253, R280). -/
def refusedAccess (s : State) (addr len status : Nat) : State :=
  match addrF addr with
  | some a => if status = 4 then raiseRetiredIn s a.unit a.off len else s
  | none => s

/-- The destination regions of a move that it may reach: what is indeterminate when it fails (R251). -/
def failedDest (s : State) (m : Move) : List Region :=
  let f := descF m.desc
  (moveWrites s m.part m.desc m.dstAdd).filter (fun r => match r.place with
    | .host _ => false
    | .board .. => false
    | _ => (List.range f.nt).any (fun i =>
        let x := tileAddr f.dst f.dstride m.dstAdd i
        match addrF x with
        | some a => decide (addrPlace s m.part a = r.place ∧ a.off = r.lo) &&
            (addrCheck s m.part x (tileSpan f.dlay f.efmt f.dpitch) true).isNone
        | none => false))

/-- A move ends with a status (R251, R252): OK counts; any other leaves the destination indeterminate, but for SIZE,
which writes none of it (R241), and fails the step with LINK_FAILED for LINK and TIER_FAILED for every other. An IOD reel
raises an event for it. -/
def endMove (s : State) (r status failAddr : Nat) : State :=
  match (reelOf s r).queue with
  | [] => s
  | m :: rest =>
    let s1 := updReel (closeMoveFlows s r m.seqno) r (fun x => { x with
      queue := rest, lastStatus := BitVec.ofNat 8 status
      failAddr := if status = 0 then x.failAddr else BitVec.ofNat 64 failAddr
      failPart := if status = 0 then x.failPart else m.part
      completed := if status = 0 then bump x.completed else x.completed
      st := if x.st = .outOfService then x.st else if rest.isEmpty then .idle else .waiting })
    let s2 := if status = 0 ∨ status = 9 then s1 else (failedDest s m).foldl scramble s1
    if 64 ≤ r then startIod (setCause (if status = 0 then s2 else
      raise s2 Config.reelEvent ukREEL r (Config.detail Config.reelEvent status failAddr 0)) false) r
    else if status = 0 then s2
    else abortOp s2 (r / 8) m.op (if status = 7 then frLINK else frTIER) (decide (status ≠ 7))

/-- A move of a reel by its order of starting ends; the head is the only one that has started. -/
def endMoveIf (s : State) (r seqno status failAddr : Nat) : State :=
  match runningMove s r with
  | some m => if m.seqno = seqno then endMove s r status failAddr else s
  | none => s

/-- The move of a reel waits on an access, with the cause of R207: from now, where it did not wait on it already. -/
def reelWaits (s : State) (r cause addr : Nat) : State :=
  updMove (updReel s r (fun x => if x.st = .moving then { x with st := .waiting } else x)) r (fun m =>
    { m with access := match m.access with
        | some x => if x.cause = cause ∧ x.addr = addr then some x else some { cause := cause, addr := addr, since := s.now }
        | none => some { cause := cause, addr := addr, since := s.now } })

/-- The move of a reel goes on. -/
def reelMoves (s : State) (r : Nat) : State :=
  updMove (updReel s r (fun x => if x.st = .waiting then { x with st := .moving } else x)) r (fun m => { m with access := none })

/-- The islands that an access of a reel passes through (R21, R22). -/
def accessIslands (s : State) (r : Nat) (a : Addr) (len : Nat) : List Nat :=
  (if r < 64 then 10 * (r / 8) + 9 else 83) ::
  (if !addrOwn s a then [83]
   else match a.tier with
    | .loc => [10 * (a.unit / 16) + a.unit % 16]
    | .store => [10 * a.unit + 9]
    | .hbm => (stacksOf s a.unit a.off len).map (fun j => 104 + j)
    | .flash => [86]
    | .host => [80 + (winF (winOf s a.unit).desc).port])

/-- An access can be made now: none of its islands is stopped (R22), and no stack is in self-refresh (R677). -/
def accessRuns (s : State) (r : Nat) (addr len : Nat) : Bool :=
  match addrF addr with
  | none => true
  | some a => (accessIslands s r a len).all (islandRuns s) && !(decide (a.tier = .hbm) && addrOwn s a &&
      decide (s.power.st = .p2 ∨ (vget s.sys.funcs a.unit FuncS.reset).st = .disabled))

/-- The cause of R207 of an access. -/
def addrCause (s : State) (addr : Nat) : Nat :=
  match addrF addr with
  | none => 0
  | some a => (tierCause s a).getD (if a.unit % 16 = 8 then 8 else 7)

/-! ### One tile -/

/-- What came of a piece of work on a tile. -/
inductive TileRes where
  | ok (s : State) (data : List Byte) (status : Byte)
  | wait (s : State)
  | fail (s : State) (status addr : Nat)

/-- The addresses that a move's next tile names: its source, its destination, its status byte. -/
def moveAddrs (m : Move) : List Nat :=
  let f := descF m.desc
  (if f.kind = 0 ∨ f.kind = 1 then [srcAddr m m.tile] else []) ++ (if f.kind ≠ 1 then [dstAddr m m.tile] else []) ++
    (if f.statr || f.statw then [statAddr m m.tile] else [])

/-- The member that a board address names (R220): this member's with the board position changed. -/
def boardMember (s : State) (pkg : Nat) : Nat := jobAddress s / 4 * 4 + pkg

/-- The code that withholds data as a move's status (R252). -/
def errStatus : ErrKind → Nat
  | .integrity => 3
  | _ => 2

/-- Bytes of a tile come in pieces: those that have come, in order of place. -/
def gather (parts : List (Nat × List Byte)) : List Byte :=
  (parts.foldr (fun p acc => (acc.filter (fun q => q.1 < p.1)) ++ [p] ++ acc.filter (fun q => p.1 < q.1)) []).flatMap (fun p => p.2)

/-- Keys of the bytes kept for a tile beside its pieces: its status array's byte, and a board peer's answer with its status. -/
def statKey : Nat := 2 ^ 40
def answerKey (status : Nat) : Nat := 2 ^ 40 + 1 + status

/-- What a BREAD asks for (R435): an address, and the layout, format and pitch there. -/
structure Ask where
  addr : Nat
  lay : Nat
  efmt : Nat
  pitch : Nat
  deriving DecidableEq, Repr

/-- The board load of a move's next tile, and that of its status byte (layout 3 stands for one byte). -/
def askTile (m : Move) : Ask := let f := descF m.desc; ⟨srcAddr m m.tile, f.slay, f.efmt, f.spitch⟩
def askStat (m : Move) : Ask := ⟨statAddr m m.tile, 3, 0, 0⟩

/-- The payload of a BREAD. -/
def breadPayload (slot first : Nat) (q : Ask) : Nat := Config.ctrlPayload 7 [slot, first, q.addr, q.lay, q.efmt, q.pitch]

/-- A board load (R435): a flow slot is opened for the answer, and a BREAD names it. -/
def askPeer (s : State) (r : Nat) (m : Move) (a : Addr) (q : Ask) : State :=
  if s.fabric.flowsIn.any (fun i => decide (i.use = .load r m.seqno)) then s
  else match freeSlot s (reelEndpoint r) with
    | none => s
    | some k =>
      let peer := boardMember s a.pkg
      let fl := newFlowIn s (reelEndpoint r) k peer a.unit (.load r m.seqno)
      sendControl (updFabric s (fun x => { x with flowsIn := x.flowsIn ++ [fl] })) 7 peer a.unit (reelEndpoint r) k
        (breadPayload k fl.first q)

/-- READs of a tile of a move that are still unanswered, and the bytes they ask for. -/
def asksTile (r : Nat) (m : Move) (i : Nat) (o : RdmaOp) : Bool :=
  !o.write && decide (o.reel = r ∧ o.move = m.seqno ∧ o.tile = i)
def tileAsked (s : State) (r : Nat) (m : Move) (i : Nat) : Bool := s.host.windows.any (fun x => x.ops.any (asksTile r m i))
def askedBytes (s : State) (r : Nat) (m : Move) (i : Nat) : Nat :=
  (s.host.windows.toList.map (fun x => ((x.ops.filter (asksTile r m i)).map (fun o => o.len)).sum)).sum

/-- The ranges of a place that a tile's elements lie in: row by row where a pitch leaves gaps (R228). -/
def tileRuns (off lay efmt pitch : Nat) : List (Nat × Nat) :=
  let row := 256 * elemBytes efmt
  if lay = 1 ∧ row < 64 * pitch then (List.range 256).map (fun k => (off + k * (64 * pitch), row))
  else [(off, tileSpan lay efmt pitch)]

/-- A location known bad stops an access, whose status says so (R261, R262). -/
def badStops (s : State) (pl : Place) (b : BadLoc) (x : Nat) : TileRes :=
  .fail (redetect s pl b.lo (if b.integrity then .integrity else .uncorrectable)) (if b.integrity then 3 else 2) x

/-- The status byte of tile i (R232): the status array's where the descriptor reads one, from a host window by a READ and
from a board peer by a load of its own after the tile's; else what the source keeps. -/
def fetchStat (s : State) (r : Nat) (m : Move) (i : Nat) (other : Byte) : TileRes :=
  if !(descF m.desc).statr then .ok s [] other
  else
    let x := statAddr m i
    match lookupNat statKey m.parts with
    | some bs => .ok s [] (bs.headD 0#8)
    | none =>
      match accessCheck s r m.part x 1 false, addrF x with
      | some e, _ => .fail (refusedAccess s x 1 e) e x
      | none, none => .fail s 1 x
      | none, some a =>
        if !accessRuns s r x 1 then .wait (reelWaits s r (addrCause s x) x)
        else if !addrOwn s a then
          if fenced s (boardMember s a.pkg) then .fail s 8 x else .wait (askPeer (reelWaits s r 4 x) r m a (askStat m))
        else match a.tier with
          | .host =>
            let asked := (winOf s a.unit).ops.any (fun o => asksTile r m i o && decide (o.byte_ = statKey))
            if !asked && decide (readsOut (winOf s a.unit) ≤ (winF (winOf s a.unit).desc).ordm1) && winSends s a.unit then
              .wait (sendOp (reelWaits s r 3 x) a.unit false r m.seqno i statKey a.off 1 [])
            else .wait (reelWaits s r 3 x)
          | _ =>
            let pl := addrPlace s m.part a
            match badIn s pl a.off 1 with
            | some b => badStops s pl b x
            | none => .ok s [] ((placeLoadN s pl a.off 1).headD 0#8)

/-- A tile's bytes, and then its status. -/
def withStat (s : State) (r : Nat) (m : Move) (i : Nat) (data : List Byte) (other : Byte) : TileRes :=
  match fetchStat s r m i other with
  | .ok s1 _ st => .ok s1 data st
  | x => x

/-- Fetch tile i of a move from its source (R236, R238). -/
def fetchTile (s : State) (r : Nat) (m : Move) (i : Nat) (rd : ReadObs) (peer : PeerSays) : TileRes :=
  let f := descF m.desc
  let x := srcAddr m i
  let span := tileSpan f.slay f.efmt f.spitch
  let parts := m.parts.filter (fun p => decide (p.1 < span))
  let begun := decide (m.parts ≠ []) || tileAsked s r m i
  match (if begun then none else accessCheck s r m.part x span false), addrF x with
  | some st, _ => .fail (refusedAccess s x span st) st x
  | none, none => .fail s 1 x
  | none, some a =>
    let own := addrOwn s a
    if !accessRuns s r x span then .wait (reelWaits s r (addrCause s x) x)
    else if own && decide (a.tier ≠ .host) then
      let pl := addrPlace s m.part a
      let (s1, e) := readRuns pl (tileRuns a.off f.slay f.efmt f.spitch) rd s
      match e with
      | some (o, k) => .fail s1 (errStatus k) (x - a.off + o)
      | none => withStat s1 r m i (readTile s1 pl a.off f.slay f.efmt f.spitch) ((keptStatus s1 pl a.off).getD 0#8)
    else if own then
      let have_ := (parts.map (fun p => p.2.length)).sum
      let sent := have_ + askedBytes s r m i
      if span ≤ have_ then
        let img := gather parts
        withStat s r m i (if f.slay = 0 then img else packTile f.slay f.efmt f.spitch img.toArray) 0#8
      else if sent < span ∧ (winOf s a.unit).st ≠ .open_ then .fail s 6 (x + sent)
      else .wait (sendReads (reelWaits s r 3 x) a.unit r m.seqno i a.off span (parts.map (fun p => p.1)))
    else if fenced s (boardMember s a.pkg) then .fail s 8 x
    else if peer ≠ 0 then .fail s peer x
    else match m.parts.find? (fun p => decide (statKey < p.1)) with
      | some (key, data) => withStat s r m i data (BitVec.ofNat 8 (key - answerKey 0))
      | none => .wait (askPeer (reelWaits s r 4 x) r m a (askTile m))

/-- User bytes written to flash count at the stack that holds each sector (R301), and its block has been written (R291). -/
def countFlash (s : State) (p off len : Nat) : State :=
  (List.range ((off + len + 4095) / 4096 - off / 4096)).foldl (fun t i =>
    let o := off / 4096 + i
    let n := min (off + len) (4096 * (o + 1)) - max off (4096 * o)
    let h := flashAt t p o
    updFlash t h.1 (fun x => { setBlock x h.2 { blockRec x h.2 with written := t.now } with userBytes := bumpBy x.userBytes n })) s

/-- What a write of runs counts, where the place is flash. -/
def countRuns (s : State) (pl : Place) (runs : List (Nat × List Byte)) : State :=
  match pl with
  | .flash p => runs.foldl (fun t q => countFlash t p q.1 q.2.length) s
  | _ => s

/-- The sending flow of a move's board stores to a peer: its slot there and its first sequence are free values. -/
def storeFlow (s : State) (r : Nat) (m : Move) (a : Addr) : State × FlowOut :=
  let peer := boardMember s a.pkg
  match s.fabric.flowsOut.find? (fun o => decide (o.use = .put r m.seqno ∧ o.peer = peer ∧ o.peerEp = a.unit)) with
  | some o => (s, o)
  | none =>
    let o := newFlowOut s (reelEndpoint r) peer a.unit (Config.storeSlot peer a.unit m.seqno % 4096) 2
      (Config.storeFirst peer a.unit m.seqno % 2 ^ 24) (.put r m.seqno)
    (updFabric s (fun x => { x with flowsOut := x.flowsOut ++ [o] }), o)

/-- A store to an address may be sent now: a window that sends, room on the flow to a peer. -/
def storeReady (s : State) (r : Nat) (m : Move) (a : Addr) (cells : Nat) : Bool :=
  if !addrOwn s a then fitsWindow (storeFlow s r m a).2 cells
  else decide (a.tier ≠ .host) || winSends s a.unit

/-- The status array of a tile can take its byte now, where one is written. -/
def statReady (s : State) (r : Nat) (m : Move) (i : Nat) : Bool :=
  !(descF m.desc).statw || (match addrF (statAddr m i) with
    | some a => accessRuns s r (statAddr m i) 1 && storeReady s r m a 1
    | none => true)

/-- Write a tile's status byte to the status array (R232). -/
def putStat (s : State) (r : Nat) (m : Move) (i : Nat) (st : Byte) : TileRes :=
  if !(descF m.desc).statw then .ok s [] st
  else
    let x := statAddr m i
    match accessCheck s r m.part x 1 true, addrF x with
    | some e, _ => .fail (refusedAccess s x 1 e) e x
    | none, none => .fail s 1 x
    | none, some a =>
      if !addrOwn s a then
        let (s1, o) := storeFlow s r m a
        .ok (sendMessage s1 o [st] 0) [] st
      else match a.tier with
        | .host => .ok (sendOp s a.unit true r m.seqno i statKey a.off 1 [st]) [] st
        | _ =>
          let pl := addrPlace s m.part a
          match mergeBad s pl a.off 1 with
          | some b => badStops s pl b x
          | none => .ok (countRuns (placeStore s pl a.off [st]) pl [(a.off, [st])]) [] st

/-- Land tile i of a move at its destination: the elements in tiled order, and the status byte (R232, R236, R237). -/
def landTile (s : State) (r : Nat) (m : Move) (i : Nat) (data : List Byte) (status : Byte) : TileRes :=
  let f := descF m.desc
  let x := dstAddr m i
  let span := tileSpan f.dlay f.efmt f.dpitch
  match accessCheck s r m.part x span true, addrF x with
  | some st, _ => .fail (refusedAccess s x span st) st x
  | none, none => .fail s 1 x
  | none, some a =>
    let runs := writeRuns a.off f.dlay f.efmt f.dpitch data
    let count (t : State) : State := updReel t r (fun y => { y with bytes := bumpBy y.bytes ((runs.map (fun q => q.2.length)).sum) })
    if !addrOwn s a && fenced s (boardMember s a.pkg) then .fail s 8 x
    else if !accessRuns s r x span || !storeReady s r m a (cellsFor data.length + 1) then .wait (reelWaits s r (addrCause s x) x)
    else if !statReady s r m i then .wait (reelWaits s r (addrCause s (statAddr m i)) (statAddr m i))
    else if !addrOwn s a then
      let (s1, o) := storeFlow s r m a
      putStat (count (sendMessage s1 o data status.toNat)) r m i status
    else match a.tier with
      | .host => putStat (count (sendWrites s a.unit r m.seqno i runs)) r m i status
      | _ =>
        let pl := addrPlace s m.part a
        match runs.findSome? (fun q => mergeBad s pl q.1 q.2.length) with
        | some b => badStops s pl b (x - a.off + b.lo)
        | none =>
          let s1 := putStatus (putRuns s pl runs) pl a.off f.efmt f.eint f.dlay status
          putStat (count (countRuns s1 pl runs)) r m i status

/-- Everything a move has sent has been answered (R239, R531). -/
def moveSettled (s : State) (r : Nat) (m : Move) : Bool :=
  !opsOpen s r m.seqno && s.fabric.flowsOut.all (fun o => !decide (o.use = .reel r m.seqno ∨ o.use = .put r m.seqno) || decide (o.low = o.next))

/-- Tile i is done: the next one's turn, or the move's end once everything is answered. -/
def tileDone (s : State) (r : Nat) (m : Move) : State :=
  let s1 := updMove (reelMoves s r) r (fun m => { m with tile := m.tile + 1, since := s.now, parts := [] })
  if m.tile + 1 < (descF m.desc).nt then s1
  else if moveSettled s1 r m then endMove s1 r 0 0
  else reelWaits s1 r (addrCause s (dstAddr m m.tile)) (dstAddr m m.tile)

/-- A board peer has refused a store that a move has sent it (R220): the move ends with its status. -/
def storeRefused (s : State) (r : Nat) (m : Move) (peer : PeerSays) : Option State :=
  let x := dstAddr m (min m.tile ((descF m.desc).nt - 1))
  if peer ≠ 0 ∧ (addrF x).any (fun a => !addrOwn s a) = true ∧
      s.fabric.flowsOut.any (fun o => decide (o.use = .put r m.seqno)) = true then some (endMove s r peer x) else none

/-- Land a tile that has been fetched and pass to the next. -/
def finishTile (s : State) (r : Nat) (m : Move) (data : List Byte) (status : Byte) : State :=
  match landTile s r m m.tile data status with
  | .ok s1 _ _ => tileDone s1 r m
  | .wait s1 => s1
  | .fail s1 st x => endMove s1 r st x

/-- A unit takes no moves when out of service. -/
def reelServes (s : State) (r : Nat) : Bool := decide ((reelOf s r).st ≠ .outOfService)

/-! ### COPY and FILL -/

/-- REEL_COPY (R234, R236 to R239, R250 to R253): the running COPY of a reel moves its next tile, or ends once all its
tiles are written and acknowledged. `peer`: a board peer's refusal of a load or store (R220). -/
def execReelCopy (r : Fin 68) (rd : ReadObs) (peer : PeerSays) (s : State) : Host.Outcome State Fault Refusal :=
  match runningMove s r with
  | none => .next s
  | some m =>
    if moveKind m ≠ 0 ∨ reelServes s r = false then .next s
    else match storeRefused s r m peer with
      | some s1 => .next s1
      | none =>
        if (descF m.desc).nt ≤ m.tile then .next (if moveSettled s r m then endMove s r 0 0 else s)
        else match fetchTile s r m m.tile rd peer with
          | .ok s1 data st => .next (finishTile s1 r m data st)
          | .wait s1 => .next s1
          | .fail s1 st x => .next (endMove s1 r st x)

/-- FILL (R234): the next tile of +0. `peer`: a board peer's refusal of a store (R220). -/
def execFill (r : Fin 68) (s : State) (peer : PeerSays := 0) : Host.Outcome State Fault Refusal :=
  match runningMove s r with
  | none => .next s
  | some m =>
    if moveKind m ≠ 3 ∨ reelServes s r = false then .next s
    else match storeRefused s r m peer with
      | some s1 => .next s1
      | none =>
        .next (if (descF m.desc).nt ≤ m.tile then (if moveSettled s r m then endMove s r 0 0 else s)
          else finishTile s r m (List.replicate (tileBytes (descF m.desc).efmt) 0#8) 0#8)

/-! ### SEND and RECV (R240 to R245) -/

/-- What the two sides must agree in (R241). -/
def sameShape (a b : DescF) : Bool := decide (a.nt = b.nt ∧ a.efmt = b.efmt ∧ a.eint = b.eint)

/-- The posted RECV of an endpoint that an offer matches: the earliest (R240). -/
def matchRecv (s : State) (ep peer tag : Nat) : Option Nat :=
  let ready := (List.range 68).filter (fun r => decide (reelEndpoint r = ep) && (match runningMove s r with
    | some m => decide (moveKind m = 2 ∧ m.phase = .offered ∧ (descF m.desc).peer = peer ∧ (descF m.desc).tag = tag)
    | none => false))
  leastBy (fun r => ((runningMove s r).map (fun m => m.seqno)).getD 0) ready

/-- The offer of a SEND (R423). -/
def sendRts (s : State) (r : Nat) (m : Move) : State :=
  let f := descF m.desc
  sendControl (updMove s r (fun m => { m with rtsAt := s.now })) 5 f.peer f.pep (reelEndpoint r) 0
    (Config.ctrlPayload 5 [f.tag, f.nt, f.efmt, f.eint.toNat])

/-- The status byte with which a RECV writes a tile: that of its status array where the descriptor reads one, else the one
that came (R232, R233). -/
def recvStat (s : State) (r : Nat) (m : Move) (st : Byte) : TileRes :=
  fetchStat s r m m.tile st

/-- A SEND to a RECV of this package: both sides are here, and tiles pass from one to the other. -/
def localSend (s : State) (r : Nat) (m : Move) (rd : ReadObs) (peer : PeerSays) : State :=
  let f := descF m.desc
  match m.phase with
  | .matched =>
    let q := m.flow
    match (runningMove s q).filter (fun n => decide (moveKind n = 2 ∧ n.phase = .matched ∧ n.flow = r)) with
    | none => endMove s r 10 (accessAddr s m)
    | some n =>
      if f.nt ≤ m.tile then (if moveSettled s q n then endMove (endMove s q 0 0) r 0 0 else s)
      else match fetchTile s r m m.tile rd peer with
      | .ok s1 data st =>
        (match putStat s1 r m m.tile st with
         | .ok s1 _ _ =>
           (match recvStat s1 q n st with
            | .ok s2 _ st2 =>
              (match landTile s2 q n n.tile data st2 with
               | .ok s3 _ _ =>
                 let next (y : Move) : Move := { y with tile := y.tile + 1, since := s.now, parts := [] }
                 let s4 := updMove (updMove (reelMoves (reelMoves s3 q) r) q next) r next
                 if f.nt ≤ m.tile + 1 ∧ moveSettled s4 q n = true then endMove (endMove s4 q 0 0) r 0 0 else s4
               | .wait s3 => s3
               | .fail s3 st x => endMove s3 q st x)
            | .wait s2 => s2
            | .fail s2 st x => endMove s2 q st x)
         | .wait s2 => s2
         | .fail s2 st x => endMove s2 r st x)
      | .wait s1 => s1
      | .fail s1 st x => endMove s1 r st x
  | _ =>
    match matchRecv s f.pep (jobAddress s) f.tag with
    | none => updMove (reelWaits s r 4 (srcAddr m 0)) r (fun y => { y with phase := if y.phase = .waiting then .offered else y.phase })
    | some q =>
      match runningMove s q with
      | some n =>
        if sameShape f (descF n.desc) then
          updMove (updMove (reelMoves (reelMoves s r) q) q (fun y => { y with phase := .matched, flow := r, since := s.now })) r
            (fun y => { y with phase := .matched, flow := q, since := s.now })
        else endMove (endMove s q 9 (descF n.desc).dst) r 9 f.src
      | none => s

/-- A tile of a SEND has been transmitted: the next one's turn, or the wait for what is not acknowledged (R243). -/
def tileSent (s : State) (r : Nat) (m : Move) : State :=
  let s1 := updMove (reelMoves s r) r (fun y => { y with tile := y.tile + 1, since := s.now, parts := [] })
  if m.tile + 1 < (descF m.desc).nt then s1 else reelWaits s1 r 4 (srcAddr m m.tile)

/-- SEND: offers itself, and once granted transmits its next tile (R240, R242, R243, R245); where the descriptor writes a
status array, the tile's status goes there too (R233). -/
def execSend (r : Fin 68) (rd : ReadObs) (s : State) (peer : PeerSays := 0) : Host.Outcome State Fault Refusal :=
  match runningMove s r with
  | none => .next s
  | some m =>
    let f := descF m.desc
    if moveKind m ≠ 1 ∨ reelServes s r = false then .next s
    else if isOwn s f.peer then .next (localSend s r m rd peer)
    else if fenced s f.peer then .next (endMove s r 8 f.src)
    else match m.phase with
      | .waiting => .next (sendRts (updMove (reelWaits s r 4 (srcAddr m 0)) r (fun y => { y with phase := .offered })) r m)
      | .matched =>
        if f.nt ≤ m.tile then .next (if moveSettled s r m then endMove s r 0 0 else s)
        else
          match s.fabric.flowsOut.find? (fun o => decide (o.use = .reel r m.seqno)) with
          | none => .next s
          | some o =>
            if fitsWindow o (cellsFor (tileBytes f.efmt)) then
              if !statReady s r m m.tile then .next (reelWaits s r (addrCause s (statAddr m m.tile)) (statAddr m m.tile))
              else match fetchTile s r m m.tile rd peer with
              | .ok s1 data st =>
                (match putStat s1 r m m.tile st with
                 | .ok s2 _ _ => .next (tileSent (sendMessage s2 o data st.toNat) r m)
                 | .wait s2 => .next s2
                 | .fail s2 st x => .next (endMove s2 r st x))
              | .wait s1 => .next s1
              | .fail s1 st x => .next (endMove s1 r st x)
            else .next (reelWaits s r 4 (srcAddr m m.tile))
      | _ => .next s

/-! ### Watchdogs -/

/-- Since when the access that a move is about has waited. -/
def accessSince (m : Move) : Nat := (m.access.map (fun x => x.since)).getD m.since

/-- REEL_WATCHDOG_TIMEOUT (R250): an access of the running move has waited past the limit of its tier, which the move
took at its start; a limit of 0 waits without end, and LOCAL storage has none. -/
def execReelWatchdogTimeout (r : Fin 68) (s : State) : Host.Outcome State Fault Refusal :=
  match runningMove s r with
  | none => .next s
  | some m =>
    let lim := (vget m.limits (accessCause s m) 0#32).toNat
    if lim = 0 ∨ reelServes s r = false then .next s
    else
      .next (endMove (timeOutOps (advanceTo s (accessSince m + 1000 * lim)) r m.seqno) r 5 (accessAddr s m))

/-! ### IOD reels (R246, R247) -/

/-- The descriptor names a range outside the partition's (R246), or an address that reaches no package (R214, R783). -/
def iodOutside (s : State) (part : Nat) (d : BitVec 512) : Bool :=
  (descRanges d).any (fun x => match addrF x.1 with
    | none => true
    | some a => !moveRange s part a x.2 ||
        (!a.self && (boardPos s).isNone) ||
        (!addrOwn s a && decide (a.tier ≠ .hbm ∧ a.tier ≠ .store)))

/-- The queue has no place for a descriptor of the partition (R247). -/
def iodFull (s : State) (r part : Nat) : Bool :=
  decide (16 ≤ (reelOf s r).queue.length) || decide (4 ≤ (reelOf s r).queue.countP (fun m => decide (m.part = part)))

/-- Queue a checked descriptor. -/
def queueIod (s : State) (r who part : Nat) (d : BitVec 512) : State :=
  let m : Move := {
    desc := d, srcAdd := 0, dstAdd := 0, owner := who, part := part, die := 8, op := 0, started := false,
    limits := watchdogReset, phase := .waiting, flow := 0, rtsAt := s.now, seqno := 0, tile := 0, since := s.now,
    access := none, parts := [] }
  startIod (updReel s r (fun x => { x with queue := x.queue ++ [m] })) r

end Sys2Proof.Machine
end

