-- ==== Sys2Proof/Machine/Discovery.lean ====
section
/-! DEFINITION. Discovery, the contact sheet and its commit, detours, assumed addresses, fences and the checks of the
multicast table (chapter 9, R444 to R453). -/

namespace Sys2Proof.Machine

/-! ### Discovery (R373 to R382) -/

/-- A port whose partner is the expected one is EXTRA (R382): the committed sheet, or none, does not have it in the plan. -/
def portExtra (s : State) (q partner : Nat) : Bool :=
  match sheetNow s with
  | none => decide (partner ≠ s.fabric.member.toNat)
  | some f =>
    let a := s.fabric.member.toNat
    let used : Bool := match dimOfPort q with
      | some d => if isActive a then f.used.testBit d else true
      | none => true
    let lit : Bool := if isActive a then f.lit.testBit q else true
    let spareLink : Bool := if isActive a then decide (q = 47) else true
    !used || !lit || !jobMember f partner || (spareLink && !f.spareblk.testBit (blockOf a))

/-- The outcome of a record (R375). -/
def outcomeOf (s : State) (q rec_ : Nat) : Nat :=
  let member := bits rec_ 15 0
  let port := bits rec_ 21 16
  if bits rec_ 22 22 ≠ s.fabric.variant.toNat ∨ bits rec_ 27 24 ≠ s.fabric.dw.toNat then 2
  else match expected s q with
    | none => 3
    | some (m, p) => if member ≠ m ∨ port ≠ p then 3 else if portExtra s q m then 4 else 5

/-- What an outcome does to a lit port (R376). -/
def takeOutcome (s : State) (q o : Nat) : State :=
  let s1 := updPort s q (fun p => { p with outcome := BitVec.ofNat 8 o })
  if o = 5 then s1
  else
    let s2 := darkenPort s1 q
    if o = 2 ∨ o = 3 then raise s2 0x52 ukPORT q 0 else if o = 4 then raise s2 0x51 ukPORT q 0 else s2

/-- DISCOVERY_RECORD (R374, R375): a record arrives on a lit port and is evaluated. -/
def execDiscoveryRecord (q : Fin 48) (rec_ : BitVec 256) (s : State) : Host.Outcome State Fault Refusal :=
  if portLit s q = false ∨ (portOf s q).dark = true then .next s
  else
    let n := rec_.toNat
    let s1 := updPort s q (fun p => { p with
      member := BitVec.ofNat 16 n, port := BitVec.ofNat 8 (bits n 21 16), serial := BitVec.ofNat 64 (bits n 127 64)
      csid := BitVec.ofNat 32 (bits n 63 32), records := bump p.records, heard := true })
    .next (takeOutcome s1 q (outcomeOf s q n))

/-- DISCOVERY_RECORD_TIMEOUT (R375): 100 ms lit without a record. -/
def execDiscoveryRecordTimeout (q : Fin 48) (s : State) : Host.Outcome State Fault Refusal :=
  let p := portOf s q
  if portLit s q = true ∧ p.dark = false ∧ p.heard = false then .next (takeOutcome (advanceTo s (p.litAt + 100000000)) q 1)
  else .next s

/-- Step time moves on to a moment that is not past. -/
def advanceToStep (s : State) (t : Nat) : State := if t ≤ stepNow s then s else advanceTo s (s.now + (t - stepNow s))

/-- Give engines their ports by a plan (R317, R387): every port that changes hands goes dark first, and a darkened port is
lit again. -/
def assignSome (s : State) (engines : List Nat) (plan : Nat → Option Nat) : State :=
  let s0 := engines.foldl (fun t e =>
    if (engOf t e).st = .outOfService ∨ (engOf t e).port ≠ plan e then remapEngine t e none else t) s
  engines.foldl (fun t e =>
    if (engOf t e).st = .outOfService then t
    else
      let relit : Bool := match plan e with
        | some q => (portOf t q).dark
        | none => false
      let t1 := match plan e with
        | some q => updPort t q (fun p => { p with dark := false })
        | none => t
      if relit ∧ (engOf t1 e).port = plan e then
        (if (laserOf t1 (e / 2)).st = .on then steerEngine t1 e else if (engOf t1 e).st = .laserLost then holdSteering t1 e else t1)
      else remapEngine t1 e (plan e)) s0

/-- Every engine by a plan. -/
def assignEngines (s : State) (plan : Nat → Option Nat) : State := assignSome s (List.range 32) plan

/-- The engines' ports under a committed sheet (R387). -/
def sheetPlan (s : State) (f : SheetF) (e : Nat) : Option Nat :=
  let g := e / 4
  if isSpare s.fabric.member.toNat then
    (if spareFaces (s.fabric.member.toNat - 0x2000) (6 * g + e % 4) < 2 ^ s.fabric.dw.toNat then some (6 * g + e % 4) else none)
  else
    let ports := ((List.range 6).map (fun p => 6 * g + p)).filter (fun q => f.lit.testBit q)
    let engines := ((List.range 4).map (fun i => 4 * g + i)).filter (fun x => decide ((engOf s x).st ≠ .outOfService))
    match findIdxFrom (fun x => decide (x = e)) 0 engines with
    | some (i, _) => ports[i]?
    | none => none

/-- The plan in force: the committed sheet's, or that of R316. -/
def planNow (s : State) (e : Nat) : Option Nat :=
  match sheetNow s with
  | some f => sheetPlan s f e
  | none => some (defaultPort e)

/-- Lit ports that no record has reached take NONE (R378). -/
def unanswered (s : State) : State :=
  (List.range 48).foldl (fun t q =>
    if portLit t q = true ∧ (portOf t q).heard = false ∧ (portOf t q).dark = false then takeOutcome t q 1 else t) s

/-- A write of step time T to 2A00h:07 (R378). One written while the rounds of another go on takes its place (DESIGN CHOICE:
no rule says; log entry 76). -/
def startDiscovery (s : State) (t : Nat) : State :=
  updFabric s (fun x => { x with discAt := some t, discPlaced := false, discState := if x.discState = 3#8 then 3#8 else 0#8 })

/-- DISCOVERY_ROUND_A (R378): at T every engine goes to reach index e mod 4. -/
def execDiscoveryRoundA (s : State) : Host.Outcome State Fault Refusal :=
  match s.fabric.discAt with
  | none => .next s
  | some t =>
    if s.fabric.discState = 1#8 ∨ s.fabric.discState = 2#8 then .next s
    else
      let s1 := updFabric (advanceToStep s t) (fun x => { x with discState := 1#8 })
      let s2 := (List.range 48).foldl (fun u q =>
        if portLit u q = true ∧ (portOf u q).dark = false ∧ (portOf u q).outcome = 5#8 ∧ q % 6 < 4 then u
        else updPort u q (fun p => { p with outcome := 0#8 })) s1
      .next (assignEngines s2 (fun e => some (defaultPort e)))

/-- DISCOVERY_ROUND_B: engines 4g and 4g + 1 go to reach indices 4 and 5; the others keep their ports. -/
def execDiscoveryRoundB (s : State) : Host.Outcome State Fault Refusal :=
  match s.fabric.discAt with
  | none => .next s
  | some t =>
    if s.fabric.discState ≠ 1#8 then .next s
    else
      let s1 := unanswered (updFabric (advanceToStep s (t + 100000000)) (fun x => { x with discState := 2#8 }))
      .next (assignSome s1 ((List.range 32).filter (fun e => decide (e % 4 < 2))) (fun e => some (6 * (e / 4) + 4 + e % 4)))

/-- DISCOVERY_FINISH: the engines go to the committed sheet, or to R316. -/
def execDiscoveryFinish (s : State) : Host.Outcome State Fault Refusal :=
  match s.fabric.discAt with
  | none => .next s
  | some t =>
    if s.fabric.discState ≠ 2#8 ∨ s.fabric.discPlaced = true then .next s
    else
      let s1 := unanswered (advanceToStep s (t + 200000000))
      .next (assignEngines (updFabric s1 (fun x => { x with discPlaced := true })) (planNow s1))

/-- DISCOVERY_DONE. -/
def execDiscoveryDone (s : State) : Host.Outcome State Fault Refusal :=
  match s.fabric.discAt with
  | none => .next s
  | some _ =>
    if s.fabric.discState ≠ 2#8 ∨ s.fabric.discPlaced = false then .next s
    else .next (raise (updFabric s (fun x => { x with discState := 3#8, discAt := none })) 0x50 ukPACKAGE 0 0)

/-- MEMBER_LOST (R393): every lit port that faces a neighbour has been in safelight mode for 10 ms without a word. -/
def execMemberLost (q : Fin 48) (s : State) : Host.Outcome State Fault Refusal :=
  match expected s q with
  | none => .next s
  | some (y, _) =>
    let facing := (List.range 48).filter (fun p => portLit s p && (match expected s p with
      | some (m, _) => decide (m = y)
      | none => false))
    if facing.isEmpty ∨ facing.all (fun p => (optPortOf s p).safelight && !(portOf s p).lostRaised) = false then .next s
    else
      let t := (facing.map (fun p => (optPortOf s p).lastBeacon + 10000000)).foldl max 0
      let s1 := facing.foldl (fun u p => updPort u p (fun x => { x with lostRaised := true })) (advanceTo s t)
      .next (raise s1 0x54 ukPACKAGE 0 y)

/-! ### The contact sheet (R383 to R387, R391, R401) -/

/-- Axes of a sheet. -/
def SheetF.axes (f : SheetF) : List Nat := [f.axd % 8192, f.axt % 8192, f.axp % 8192, f.axs % 8192]

/-- The check of a sheet (R385): the first code that fails, 0 when all pass. -/
def sheetCheck (s : State) (img : List Byte) : Nat :=
  let f := sheetF img
  let own := s.fabric.member.toNat
  let dw := s.fabric.dw.toNat
  let litPorts := setBits 48 f.lit
  let inPlan (a : Nat) : Bool := decide (isActive a = true) && decide ((a ||| f.used) = (f.base ||| f.used))
  if f.magic ≠ 0x3C5A7E01 ∨ f.version ≠ 1 ∨ 256 < f.nsub ∨ img.length ≠ 128 + 4 * f.nsub ∨ f.csid = 0 ∨ f.reserved = true then 1
  else if f.variant ≠ s.fabric.variant.toNat ∨ f.dw ≠ dw ∨ 2 ^ dw ≤ f.used ∨ f.base &&& f.used ≠ 0 ∨ 2 ^ dw ≤ f.base then 2
  else if litPorts.any (fun q => match dimOfPort q with
      | some d => !f.used.testBit d
      | none => decide (f.spareblk = 0)) ∨ (f.spareblk ≠ 0 ∧ f.lit.testBit 47 = false) then 3
  else if (List.range 8).any (fun g =>
      let n := (litPorts.filter (fun q => decide (q / 6 = g))).length
      decide (4 < n) || decide (((List.range 4).filter (fun i => decide ((engOf s (4 * g + i)).st ≠ .outOfService))).length < n)) then 4
  else if (List.range 13).any (fun d => decide (1 < (f.axes.filter (fun x => x.testBit d)).length)) ∨
      f.axes.foldl (fun a b => a ||| b) 0 ≠ f.used ∨
      (f.variant = 1 ∧ f.axes.any (fun x => [1, 2, 3, 4, 5].any (fun j => x.testBit (2 * j + 1) && !x.testBit (2 * j)))) then 5
  else if f.subs.any (fun x => !inPlan x || !f.spareblk.testBit (x / 32)) ∨
      (f.subs.map (fun x => x / 32)).length ≠ (f.subs.map (fun x => x / 32)).eraseDups.length then 6
  else if !(inPlan own || (isSpare own && f.spareblk.testBit (own - 0x2000))) then 7
  else 0

/-- Take an assumed address (R394). -/
def assume_ (s : State) (x : Nat) : State := raise (updFabric s (fun f => { f with assumed := BitVec.ofNat 16 x })) 0x55 ukPACKAGE 0 x

/-- Install detours: each new one is reported, and lifts a fence of its position (R395, R396, R453). -/
def installDetours (s : State) (ds : List Nat) : State :=
  let new := ds.filter (fun x => !detoured s x)
  let s1 := updFabric s (fun f => { f with detours := ds.map (BitVec.ofNat 32) })
  new.foldl (fun t x =>
    let lifted := fenced t x
    let t1 := raise (updFabric t (fun f => { f with fences := f.fences.filter (fun w => decide (w.toNat % 65536 ≠ x)) })) 0x56 ukPACKAGE 0 x
    if lifted then raise t1 0x63 ukPACKAGE 0 x else t1) s1

/-- The commit of a checked sheet (R387, R391, R401). -/
def commitSheet (s : State) (img : List Byte) : State :=
  let f := sheetF img
  let own := s.fabric.member.toNat
  let s1 := updFabric s (fun x => { x with sheet := img, check := 0#8 })
  let mine := f.subs.find? (fun x => isSpare own && decide (x / 32 = own - 0x2000))
  let kept := mine.any (fun x => decide (s1.fabric.assumed.toNat = x))
  let s1a := if s1.fabric.assumed ≠ 0xFFFF#16 ∧ kept = false then
      raise (updFabric s1 (fun y => { y with assumed := 0xFFFF#16 })) 0x57 ukPACKAGE 0 s1.fabric.assumed.toNat
    else s1
  let s2 := match mine with
    | some x => if kept then s1a else assume_ s1a x
    | none => s1a
  let s3 := installDetours s2 f.subs
  sendRecords (assignEngines s3 (sheetPlan s3 f))

/-- Member address, variant and DW take effect (R367, R374). -/
def setMember (s : State) (f : FabricS → FabricS) : State := sendRecords (updFabric s f)

/-! ### Multicast and fences (R444 to R453) -/

/-- A multicast entry taken apart (R444). -/
structure McF where
  valid : Bool
  source : Bool
  local_ : Bool
  indim : Nat
  out : Nat
  leaf : Nat
  vcm : Nat
  fslot : Nat
  reserved : Bool
  deriving DecidableEq, Repr

def mcF (e : U64) : McF :=
  let n := e.toNat
  { valid := n.testBit 0, source := n.testBit 1, local_ := n.testBit 2, indim := bits n 6 3, out := bits n 19 7,
    leaf := bits n 32 20, vcm := bits n 35 33, fslot := bits n 47 36, reserved := decide (bits n 63 48 ≠ 0) }

def mcOf (s : State) (i : Nat) : McF := mcF (vget s.fabric.mcast i 0#64)

/-- A flow into a slot that a multicast entry reserves. -/
def isTree : FlowUse → Bool
  | .tree _ => true
  | _ => false

/-- The slots that entries reserve at this member. -/
def localSlots (es : List McF) : List Nat := (es.filter (fun e => e.local_)).map (fun e => e.fslot)

/-- The check of a multicast table and a fence list before their exposure commits (R446): the first code that fails. -/
def tableCheck (s : State) (table : List U64) (fences : List U32) : Nat :=
  let used := usedDims s
  let tw := decide (s.fabric.variant = 1#8)
  let es := (table.map mcF).filter (fun e => e.valid)
  let fence (a : Nat) : Bool := fences.any (fun w => decide (w.toNat % 65536 = a))
  if (table.map mcF).any (fun e => e.reserved) || es.any (fun e => decide (e.vcm ≠ 0 ∧ e.vcm ≠ 3 ∧ e.vcm ≠ 4) ||
      decide (e.indim ≠ 15 ∧ used.testBit e.indim = false) || decide (e.out &&& used ≠ e.out) || decide (e.leaf &&& used ≠ e.leaf)) then 1
  else if es.any (fun e => (e.source && decide (e.indim ≠ 15)) ||
      (!e.source && (setBits 13 e.out).any (fun d => decide (escapeRank tw d ≤ escapeRank tw e.indim)))) then 2
  else if es.any (fun e => decide (e.leaf &&& e.out ≠ e.leaf)) then 3
  else if es.any (fun e => (setBits 13 e.out).any (fun d => !e.leaf.testBit d && fence (nbr tw s.fabric.member.toNat d))) then 4
  else if decide (1024 < es.length) || decide (localSlots es ≠ (localSlots es).eraseDups) ||
      (localSlots es).any (fun k => s.fabric.flowsIn.any (fun i => decide (i.slot = k ∧ 8 ≤ i.ep) && !isTree i.use)) then 5
  else if 512 < fences.length ∨ fences.any (fun w => decide (65536 ≤ w.toNat)) then 6
  else 0

/-- A move has an open flow to or from a member. -/
def flowsWith (s : State) (r : Nat) (m : Move) (f : Nat) : Bool :=
  s.fabric.flowsIn.any (fun i => decide ((i.use = .reel r m.seqno ∨ i.use = .load r m.seqno) ∧ i.peer = f)) ||
    s.fabric.flowsOut.any (fun o => decide ((o.use = .reel r m.seqno ∨ o.use = .put r m.seqno) ∧ o.peer = f))

/-- Every reel move with a fenced member ends: its SENDs and RECVs, and the moves that load from its board or store to it
(R245, R450). -/
def fenceMoves (s : State) (f : Nat) : State :=
  (List.range 68).foldl (fun t r => match runningMove t r with
    | some m =>
      let d := descF m.desc
      if ((d.kind = 1 ∨ d.kind = 2) ∧ d.peer = f) ∨ flowsWith t r m f = true then
        endMove t r 8 (accessAddr t m)
      else t
    | none => t) s

/-- The flow of a tree whose every destination has acknowledged it or is fenced ends (R448, R452). -/
def settleTrees (s : State) : State :=
  closeOut s (fun o => match o.tree with
    | some t => (treeDests s t).all (fun a => o.acked.contains a)
    | none => false)

/-- Everything of this member that meets a newly fenced member ends or is dropped (R450). -/
def fenceOne (s : State) (f : Nat) : State :=
  let s1 := fenceMoves s f
  let s2 := settleTrees (closeOut (closeIn s1 (fun i => decide (i.peer = f))) (fun o => decide (o.peer = f ∧ o.tree = none)))
  if detoured s f then s2
  else
    let queued := (s2.fabric.outs.toList.map (fun o => (o.queues.toList.map (fun q => (q.filter (fun c => decide ((cellF c).dmem = f ∧ (cellF c).typ ≠ 2))).length)).sum)).sum
    updFabric s2 (fun x => { x with
      outs := x.outs.map (fun o => { o with queues := o.queues.map (fun q => q.filter (fun c => !decide ((cellF c).dmem = f ∧ (cellF c).typ ≠ 2))) })
      dropRoute := bumpBy x.dropRoute queued })

/-- The commit of a multicast table (R446): the flows of an entry that changes, at either end, end with it. -/
def commitMcast (s : State) (table : Vector U64 1024) : State :=
  let changed (t : Nat) : Bool := decide (vget s.fabric.mcast t 0#64 ≠ vget table t 0#64)
  let s1 := closeOut (closeIn s (fun i => match i.use with
    | .tree t => changed t
    | _ => false)) (fun o => match o.tree with
    | some t => changed t
    | none => false)
  updFabric s1 (fun f => { f with
    mcast := table
    nextSeq := f.nextSeq.map (fun p => if 65536 ≤ p.1 ∧ changed ((p.1 - 65536) / 16) = true then (p.1, (p.2 + 0x7FFFFF) % 2 ^ 24) else p) })

/-- The commit of a fence list (R449, R450, R453): added members are reported and act, removed ones are lifted. -/
def commitFences (s : State) (fs : List U32) : State :=
  let old := s.fabric.fences.map (fun w => w.toNat % 65536)
  let new := fs.map (fun w => w.toNat % 65536)
  let s1 := updFabric s (fun x => { x with fences := fs })
  let s2 := (new.filter (fun x => !old.contains x)).foldl (fun t x => fenceOne (raise t 0x62 ukPACKAGE 0 x) x) s1
  (old.filter (fun x => !new.contains x)).foldl (fun t x => raise t 0x63 ukPACKAGE 0 x) s2

end Sys2Proof.Machine
end

