-- ==== Sys2Proof/Machine/Cells.lean ====
section
/-! DEFINITION. Cells that arrive (chapter 10): codewords and control pairs, the router, the endpoints, acknowledgement
and resend, rendezvous, board loads, and rate contexts. -/

namespace Sys2Proof.Machine

/-! ### On the link (R410 to R412) -/

/-- An uncorrectable codeword on a lane (R412, R729). -/
def badCodeword (s : State) (l : Nat) (inj persist : Bool) : State :=
  let s1 := updFabric s (fun x => { x with uncorr := bump x.uncorr })
  updLane s1 l (fun x => { x with
    badAt := keepLast 17 (x.badAt.filter (fun b => decide (s.now < b.1 + 1000000000)) ++ [(s.now, inj)])
    badPersist := x.badPersist || persist })

/-- CODEWORD_RECEIVED (R412): a codeword arrives on a lane. An uncorrectable one drops its ten slots and is counted. An
armed LANE_FEC point corrupts it: up to 15 symbols are corrected (R410, R733). -/
def execCodewordReceived (l : Fin 512) (d : Decoded) (s : State) : Host.Outcome State Fault Refusal :=
  let good (t : State) : State := updFabric t (fun x => { x with corrected := bump x.corrected })
  .next (match injArmed s 0x08 ukLANE l with
    | some (loc, per) =>
      let t := injFired s 0x08
      if d = .uncorrectable ∨ 15 < loc % 32 then badCodeword t l true per else good t
    | none => match d with
      | .clean => s
      | .corrected => good s
      | .uncorrectable => badCodeword s l false false)

/-- CONTROL_PAIR (R411, R414): credit returns, an idle, or a lane-ID marker. A slot with mixed markers is dropped (R412). -/
def execControlPair (q : Fin 48) (c : ControlPair) (s : State) : Host.Outcome State Fault Refusal :=
  match c with
  | .credits vc pool n =>
    .next (updOut s q (fun o => { o with credits := vmod o.credits vc (fun v => vmod v pool (fun k => k + n)) }))
  | .idle | .mixed => .next s
  | .marker l m => execLaneIdMarker l m s

/-! ### The router -/

/-- One copy of a multicast cell across a dimension (R447, R452): on escape class 0 of the tree's VC; to a detoured leaf
as a unicast DATA cell; to a fenced leaf not at all. -/
def mcastCopy (s : State) (c : BitVec 512) (e : McF) (d : Nat) : State :=
  let tw := decide (s.fabric.variant = 1#8)
  let y := nbr tw s.fabric.member.toNat d
  let f := cellF c
  if e.leaf.testBit d ∧ detoured s y then inject s (mkCell { f with dmem := y, typ := 1 })
  else if e.leaf.testBit d ∧ fenced s y then dropRoute s
  else match portToward s d e.vcm none with
    | some q => enqueue s q 1 c
    | none => dropRoute s

/-- A multicast cell at a member, arriving on a dimension or injected by its own source. One that comes another way is not
forwarded; where no entry takes it, it is dropped (R425, R426). -/
def mcastForward (s : State) (c : BitVec 512) (arrived : Option Nat) : State :=
  let f := cellF c
  let e := mcOf s f.dmem
  let ok := e.valid && (match arrived with
    | some d => decide (e.indim = d)
    | none => e.source)
  if ok then (setBits 13 e.out).foldl (fun t d => mcastCopy t c e d) s else if e.valid && e.local_ then s else dropCheck s

/-- CELL_ROUTE (R416 to R421, R441, R447, R450): a cell arrives on a port. A cell of this member's endpoints is left for
them (CELL_RECEIVE); a link-local record is evaluated and never forwarded. The input slot is free again, and its credit goes
back (R411, R414). -/
def execCellRoute (q : Fin 48) (c : BitVec 512) (s : State) : Host.Outcome State Fault Refusal :=
  let f := cellF c
  if f.typ = 0 then (if cellGood c then execDiscoveryRecord q (BitVec.ofNat 256 f.payload) s else .next (dropCheck s))
  else if portCarries s q = false then .next s
  else if 5 ≤ f.vc then .next (dropCheck s)
  else
    let s0 := emit s (.credit q f.vc (if f.esc then f.ecl + 1 else 0))
    if f.typ = 2 then .next (match dimOfPort q with
      | some d => mcastForward s0 c (some d)
      | none => dropCheck s0)
    else if isOwn s f.dmem then .next s0
    else if fenceActs s f.dmem then .next (dropRoute s0)
    else .next (match route s0 f (dimOfPort q) with
      | .here => s0
      | .out p cls => enqueue s0 p cls c
      | .unreachable => raiseUnreach (dropRoute s0) f.dmem)

/-! ### Acknowledgement (R427, R428) -/

/-- B of a flow, modulo 2^24. -/
def flowB (i : FlowIn) : Nat := (i.first + i.base) % 2 ^ 24

/-- The bitmap of sequences B + 1 to B + 256 that a test names. -/
def bitmapOf (p : Nat → Bool) : Nat := leNatBits ((List.range 256).map p)

/-- The payload of an ACK or NAK (R427). -/
def ackPayload (i : FlowIn) (bm : Nat) : Nat :=
  flowB i + i.cm * 2 ^ 24 + i.marked % 65536 * 2 ^ 32 + bm * 2 ^ 64

def sameFlowIn (i : FlowIn) (ep slot : Nat) : Bool := decide (i.ep = ep ∧ i.slot = slot)
def flowInOf (s : State) (ep slot : Nat) : Option FlowIn := s.fabric.flowsIn.find? (fun i => sameFlowIn i ep slot)
def updFlowIn (s : State) (ep slot : Nat) (g : FlowIn → FlowIn) : State :=
  updFabric s (fun x => { x with flowsIn := x.flowsIn.map (fun i => if sameFlowIn i ep slot then g i else i) })

/-- Send an ACK of a flow: the counts since the last one start again. -/
def sendAck (s : State) (ep slot : Nat) : State :=
  match flowInOf s ep slot with
  | none => s
  | some i =>
    let s1 := sendControl s 3 i.peer i.peerEp ep slot (ackPayload i (bitmapOf (fun k => i.got.contains (i.base + 1 + k))))
    updFlowIn s1 ep slot (fun x => { x with cm := 0, marked := 0, unacked := 0 })

/-- The end below which a missing cell is known to be missing: the highest counted, or a held LAST. -/
def knownEnd (i : FlowIn) : Nat := (i.got ++ i.lasts.map (fun l => l.1)).foldl max 0

/-- A cell is known missing. -/
def hasGap (i : FlowIn) : Bool := decide (i.base < knownEnd i)

/-- ACK_TIMER (R427): 4 µs after the first cell not yet acknowledged. A multicast flow acknowledges messages only (R448). -/
def execAckTimer (ep : Fin 16) (slot : Fin 4096) (s : State) : Host.Outcome State Fault Refusal :=
  match flowInOf s ep slot with
  | none => .next s
  | some i => .next (if i.unacked = 0 ∨ isTree i.use = true then s else sendAck (advanceTo s (i.unackedAt + 4000)) ep slot)

/-- NAK_TIMER (R428): a gap has stood for 20 µs; the NAK marks the missing cells. -/
def execNakTimer (ep : Fin 16) (slot : Fin 4096) (s : State) : Host.Outcome State Fault Refusal :=
  match flowInOf s ep slot with
  | none => .next s
  | some i =>
    if hasGap i then
      let s1 := advanceTo s (i.missAt + 20000)
      let bm := bitmapOf (fun k => decide (i.base + 1 + k < knownEnd i) && !i.got.contains (i.base + 1 + k))
      .next (updFlowIn (sendControl s1 4 i.peer i.peerEp ep slot (ackPayload i bm)) ep slot (fun x => { x with missAt := s1.now }))
    else .next s

/-! ### Receiving (R422, R425, R426, R431 to R433, R448) -/

/-- Pass over the counted positions from the base on. -/
def riseBase : Nat → Nat → List Nat → Nat
  | 0, b, _ => b
  | n + 1, b, got => if got.contains b then riseBase n (b + 1) got else b

/-- Count a position of a flow (R425, R431). -/
def countCell (now pos cm : Nat) (i : FlowIn) : FlowIn :=
  let got := pos :: i.got
  let base := riseBase got.length i.base got
  { i with
    base := base, got := got.filter (fun p => decide (base ≤ p)), cm := max i.cm cm
    marked := i.marked + (if cm = 0 then 0 else 1), unacked := i.unacked + 1
    unackedAt := if i.unacked = 0 then now else i.unackedAt
    missAt := if hasGap i && decide (base = i.base) then i.missAt else now }

/-- Bytes of a message, from the pieces held by flow position. -/
def messageBytes (parts : List (Nat × List Byte)) (lo hi : Nat) : List Byte :=
  (List.range (hi + 1 - lo)).flatMap (fun k => (lookupNat (lo + k) parts).getD [])

/-- A message of a RECV's flow completes: its tile is written (R432, R433). False: the tile cannot be written yet. -/
def reelMessage (s : State) (r seqno lo hi status : Nat) (ep slot : Nat) : State × Bool :=
  match runningMove s r with
  | none => (s, true)
  | some m =>
    if m.seqno ≠ seqno then (s, true)
    else
      let data := messageBytes m.parts lo hi
      match recvStat s r m (BitVec.ofNat 8 status) with
      | .wait s1 => (s1, false)
      | .fail s1 st x => (endMove s1 r st x, true)
      | .ok s0 _ st =>
          match landTile s0 r m m.tile (data.take (tileBytes (descF m.desc).efmt)) st with
          | .ok s1 _ _ =>
            let s2 := updMove (reelMoves s1 r) r (fun y => { y with
              tile := y.tile + 1, since := s.now, parts := y.parts.filter (fun p => decide (hi < p.1 ∧ p.1 ≠ statKey)) })
            if (descF m.desc).nt ≤ m.tile + 1 ∧ moveSettled s2 r m = true then (endMove (sendAck s2 ep slot) r 0 0, true)
            else (reelWaits s2 r (if m.tile + 1 < (descF m.desc).nt then 4 else addrCause s2 (dstAddr m m.tile)) (dstAddr m m.tile), true)
          | .wait s1 => (s1, false)
          | .fail s1 st x => (endMove s1 r st x, true)

/-- A move loads its next tile from a board peer, and the answer has not come. -/
def loadsTile (s : State) (m : Move) : Bool :=
  decide (moveKind m ≠ 2) && !(addrF (srcAddr m m.tile)).any (addrOwn s) && !(m.parts.any (fun p => decide (statKey < p.1)))

/-- A board load's answer completes: a tile, or its status byte, is held for the move (R435), and the flow ends. -/
def loadMessage (s : State) (i : FlowIn) (r seqno lo hi status : Nat) : State :=
  let data := messageBytes i.parts lo hi
  let s1 := match runningMove s r with
    | some m =>
      if m.seqno = seqno then updMove s r (fun y => { y with parts := y.parts ++
        [if loadsTile s m then (answerKey status, data.take (tileBytes (descF m.desc).efmt)) else (statKey, data.take 1)] })
      else s
    | none => s
  closeIn (sendAck s1 i.ep i.slot) (fun y => sameFlowIn y i.ep i.slot)

/-! ### Board grants (R220, R608, R621) -/

/-- A board grant admits a sender's access (R621). A sender other than a die has none. -/
def grantAdmits (g : BitVec 256) (pos die tier unit off len : Nat) (write : Bool) : Bool :=
  decide (field g 1 0 = pos) && decide (die < 8) && flag g (2 + die) && (if write then flag g 14 else flag g 13) &&
    decide (field g 19 16 = tier) && decide (field g 22 20 = unit) &&
    decide (field g 127 64 ≤ off ∧ off + len ≤ field g 127 64 + field g 191 128)

/-- Some grant admits it, and the granted partition holds the region's die. -/
def boardAdmits (s : State) (pos die tier unit off len : Nat) (write : Bool) : Bool :=
  s.sec.grants.any (fun g => grantAdmits g pos die tier unit off len write && decide (partOfDie s unit = some (field g 12 10)))

/-- The check of a board peer's access to this package (R220, R252): the status that refuses it, 0 where it is admitted. -/
def peerAccess (s : State) (peer peerEp addr : Nat) (a : Addr) (len : Nat) (write : Bool) : Nat :=
  if (a.tier ≠ .hbm ∧ a.tier ≠ .store) ∨ boardAdmits s (peer % 4) peerEp (bits addr 55 52) a.unit a.off len write = false then 6
  else match a.tier with
    | .hbm => if hbmRetired s a.unit a.off len then 4 else if (stacksOf s a.unit a.off len).any (stackOff s) then 10 else 0
    | _ => if storeBytes s a.unit < a.off + len then 1 else if dieDown s a.unit then 10 else 0

/-- A message of a board peer's stores completes: a tile, or a status byte, is written where a grant admits it; a store that
is refused is answered with its status (R220). -/
def storeMessage (s : State) (i : FlowIn) (lo hi : Nat) : State :=
  let data := messageBytes i.parts lo hi
  let h (k : Nat) : Nat := Config.storeHead [i.peer, i.peerEp, i.ep, i.slot, (i.first + lo) % 2 ^ 24] k
  let lay := h 1 % 3
  let efmt := h 2 % 8
  let pitch := h 3 % 65536
  let byte_ := decide (data.length < 65536)
  let len := if byte_ then 1 else tileSpan lay efmt pitch
  let answer (t : State) (st : Nat) : State := sendControl t 8 i.peer i.peerEp i.ep i.slot (Config.ctrlPayload 8 [i.slot, st])
  match addrF (h 0 % 2 ^ 64) with
  | none => answer s 6
  | some a =>
    let pl : Place := if a.tier = .hbm then .hbm a.unit else .store a.unit
    let st := peerAccess s i.peer i.peerEp (h 0) a len true
    if st ≠ 0 then answer (refusedAccess s (h 0 % 2 ^ 64) len st) st
    else
      let runs := if byte_ then [(a.off, data.take 1)] else writeRuns a.off lay efmt pitch (data.take (tileBytes efmt))
      match runs.findSome? (fun q => mergeBad s pl q.1 q.2.length) with
      | some b => answer (setCause (redetect s pl b.lo (if b.integrity then .integrity else .uncorrectable)) false) (if b.integrity then 3 else 2)
      | none => putRuns s pl runs

/-- The message that completes next in a flow: first and last position, and status (R432, R433). -/
def nextMessage (i : FlowIn) : Option (Nat × Nat × Nat) :=
  (leastBy (fun l => l.1) i.lasts).bind (fun l => if l.1 < i.base then some (l.1 + 1 - l.2.1, l.1, l.2.2) else none)

/-- Complete, in sequence order, every message that can; one of a tree is acknowledged as it completes (R448). -/
def completeMessages : Nat → Nat → Nat → State → State
  | 0, _, _, s => s
  | n + 1, ep, slot, s =>
    match flowInOf s ep slot with
    | none => s
    | some i =>
      match nextMessage i with
      | none => s
      | some (lo, hi, status) =>
        let done (t : State) : State := updFlowIn t ep slot (fun x => { x with
          done := x.done + 1, lasts := x.lasts.filter (fun l => decide (l.1 ≠ hi)), parts := x.parts.filter (fun p => decide (hi < p.1)) })
        match i.use with
        | .reel r mv => (match reelMessage s r mv lo hi status ep slot with
          | (s2, true) => completeMessages n ep slot (done s2)
          | (s2, false) => s2)
        | .tree _ => completeMessages n ep slot (sendAck (done s) ep slot)
        | .load r mv => loadMessage s i r mv lo hi status
        | .store => completeMessages n ep slot (done (storeMessage s i lo hi))
        | _ => completeMessages n ep slot (done s)

/-- A RECV that a SEND of this package has matched, and whose SEND has ended without it (R23). -/
def orphaned (s : State) (r : Nat) (m : Move) : Bool :=
  decide (m.phase = .matched) && isOwn s (descF m.desc).peer &&
    !((runningMove s m.flow).any (fun n => decide (moveKind n = 1 ∧ n.phase = .matched ∧ n.flow = r)))

/-- RECV: posts itself (R240); a fenced peer ends it (R245). Its tiles are written as their messages complete; one that
could not be written is tried again, and a RECV whose writes are all answered ends. -/
def execRecv (r : Fin 68) (s : State) (peer : PeerSays := 0) : Host.Outcome State Fault Refusal :=
  match runningMove s r with
  | none => .next s
  | some m =>
    if moveKind m ≠ 2 ∨ reelServes s r = false then .next s
    else if fenced s (descF m.desc).peer then .next (endMove s r 8 (accessAddr s m))
    else if orphaned s r m then .next (endMove s r 10 (accessAddr s m))
    else match storeRefused s r m peer with
    | some s1 => .next s1
    | none => match m.phase with
      | .waiting => .next (countMove (updMove (reelWaits s r 4 (dstAddr m 0)) r (fun y => { y with phase := .offered, seqno := s.mem.moves })))
      | _ =>
        if (descF m.desc).nt ≤ m.tile then .next (if moveSettled s r m then endMove s r 0 0 else s)
        else match s.fabric.flowsIn.find? (fun i => decide (i.use = .reel r m.seqno)) with
          | some i => .next (completeMessages 64 i.ep i.slot s)
          | none => .next s

/-- The member's end of an MCAST cell (R448): the entry's own slot. -/
def cellSlot (s : State) (f : CellF) : Nat := if f.typ = 2 then (mcOf s f.dmem).fslot else f.flow

/-- A cell names this member (R425). -/
def cellForUs (s : State) (f : CellF) : Bool :=
  if f.typ = 2 then (mcOf s f.dmem).valid && (mcOf s f.dmem).local_ else isOwn s f.dmem

/-- An armed CELL_CRC point of an endpoint: its target names the package, or a reel of the endpoint's die. -/
def crcInjected (s : State) (ep : Nat) : Bool :=
  let p := vget s.ev.points 9 InjPoint.reset
  p.armed && decide (bits p.target.toNat 7 0 = ukPACKAGE ∨ (bits p.target.toNat 7 0 = ukREEL ∧ bits p.target.toNat 19 8 / 8 = ep))

/-- The slot that a multicast entry reserves opens for the first sender whose cell comes to it (R422, R444). -/
def openTree (s : State) (f : CellF) (slot : Nat) : State :=
  match flowInOf s f.dep slot with
  | some _ => s
  | none =>
    match (List.range 1024).find? (fun t => (mcOf s t).valid && (mcOf s t).local_ && decide ((mcOf s t).fslot = slot)) with
    | some t =>
      if f.typ = 2 ∧ f.dmem ≠ t then s
      else updFabric s (fun x => { x with flowsIn := x.flowsIn ++ [newFlowIn s f.dep slot f.smem f.sep (.tree t)] })
    | none => s

/-- The slot of a board peer's stores opens with the first cell that comes to it (R220). -/
def openStore (s : State) (f : CellF) : State :=
  if f.typ = 1 ∧ f.vc = 2 ∧ f.smem < 0x2000 ∧ f.smem / 4 = jobAddress s / 4 ∧ (flowInOf s f.dep f.flow).isNone = true ∧
      Config.isStoreSlot f.smem f.sep f.flow = true then
    updFabric s (fun x => { x with flowsIn := x.flowsIn ++ [newFlowIn s f.dep f.flow f.smem f.sep .store] })
  else s

/-- A DATA or MCAST cell that fits its flow is counted and its payload kept for its place. -/
def takeCell (s : State) (f : CellF) (slot pos : Nat) : State :=
  let body := leBytes 48 f.payload
  let s1 := updFlowIn s f.dep slot (countCell s.now pos f.cm)
  let s2 := if f.last then updFlowIn s1 f.dep slot (fun x => { x with lasts := x.lasts ++ [(pos, tailCount f.payload, tailStatus f.payload)] }) else s1
  let s3 := match (flowInOf s2 f.dep slot).map (fun i => i.use) with
    | some .store | some (.load ..) => updFlowIn s2 f.dep slot (fun x => { x with parts := x.parts ++ [(pos, if f.last then body.take 40 else body)] })
    | some (.reel r mv) => (match runningMove s2 r with
      | some m => if m.seqno = mv then updMove s2 r (fun y => { y with parts := y.parts ++ [(pos, if f.last then body.take 40 else body)] }) else s2
      | none => s2)
    | _ => s2
  let s4 := completeMessages 64 f.dep slot s3
  match flowInOf s4 f.dep slot with
  | none => s4
  | some i => if !isTree i.use && (f.acknow || decide (64 ≤ i.unacked)) then sendAck s4 f.dep slot else s4

/-- CELL_RECEIVE (R422, R425 to R428, R431 to R433, R450, R451): an endpoint takes a cell. Messages of one cell on VC0
have rows of their own for what they say. -/
def execCellReceive (c : BitVec 512) (s : State) : Host.Outcome State Fault Refusal :=
  let f := cellF c
  let hurt := crcInjected s f.dep
  let s0 := if hurt then injFired s 9 else s
  if ingressClosed s ∨ fenced s f.smem = true then .next (dropRoute s0)
  else if hurt ∨ cellGood c = false ∨ cellForUs s f = false ∨ 10 ≤ f.dep then .next (dropCheck s0)
  else if 8 < f.typ ∨ 5 ≤ f.vc then .next (dropCheck s0)
  else if f.typ ≠ 1 ∧ f.typ ≠ 2 then .next s0
  else
    let slot := cellSlot s f
    let sr := openStore (openTree s0 f slot) f
    match flowInOf sr f.dep slot with
    | none => .next (dropCheck s0)
    | some i =>
      if i.peer ≠ f.smem ∨ i.peerEp ≠ f.sep then .next (dropCheck s0)
      else
        let ahead := (f.seq + 2 ^ 24 - flowB i) % 2 ^ 24
        let behind := (flowB i + 2 ^ 24 - f.seq) % 2 ^ 24
        if ahead < 16384 ∧ i.got.contains (i.base + ahead) = false then .next (takeCell sr f slot (i.base + ahead))
        else if ahead < 16384 ∨ (behind ≤ 16384 ∧ behind ≤ i.base) then
          .next (sendAck (updFabric sr (fun x => { x with dups := bump x.dups })) f.dep slot)
        else .next (dropCheck s0)

/-! ### Resend and rates (R429, R430, R437 to R440) -/

/-- The multiplier of an echo (R439), and its floor. -/
def cutRate (rate cm : Nat) : Nat :=
  max 1170000 (match cm with
    | 1 => rate * 15 / 16
    | 2 => rate * 3 / 4
    | _ => rate / 2)

/-- An echo reaches its context: it acts at most once in 8 µs, with the highest of that time (R439). -/
def echoRate (s : State) (member vc cm : Nat) : State :=
  if cm = 0 then s
  else updFabric s (fun x => { x with rates := x.rates.map (fun r =>
    if r.member = member ∧ r.vc = vc then
      let due : Bool := match r.cutAt with
        | none => true
        | some t => decide (t + 8000 ≤ s.now)
      if due then { r with rate := cutRate r.rate (max cm r.held), cutAt := some s.now, echoAt := s.now, ceilingAt := none, held := 0 }
      else { r with held := max r.held cm, echoAt := s.now }
    else r) })

/-- RATE_INCREASE (R440): 16 µs without a marked echo add 2.34 GB/s, up to the ceiling. An echo held from the running
8 µs acts first. -/
def execRateIncrease (member : U16) (vc : Fin 5) (s : State) : Host.Outcome State Fault Refusal :=
  match s.fabric.rates.find? (fun r => decide (r.member = member.toNat ∧ r.vc = vc.val)) with
  | none => .next s
  | some r =>
    let s1 := advanceTo s (r.echoAt + 16000)
    let r1 := if r.held = 0 then r else { r with rate := cutRate r.rate r.held, held := 0, ceilingAt := none }
    let rate := min ceilingRate (r1.rate + 2340000)
    let r2 := { r1 with rate := rate, echoAt := s1.now, ceilingAt := if rate = ceilingRate then (if r1.ceilingAt.isSome then r1.ceilingAt else some s1.now) else none }
    .next (updFabric s1 (fun x => { x with rates := x.rates.map (fun y => if y = r then r2 else y) }))

/-- The sending flow that an ACK or NAK is about. -/
def flowOutOf (s : State) (f : CellF) : Option FlowOut :=
  s.fabric.flowsOut.find? (fun o => sameFlowOut o f.dep f.smem f.sep f.flow)

/-- Multicast flows of an endpoint that a member is a destination of (R448). -/
def treeFlowsTo (s : State) (ep dest : Nat) : List FlowOut :=
  s.fabric.flowsOut.filter (fun o => decide (o.ep = ep) && (match o.tree with
    | some t => (treeDests s t).contains dest
    | none => false))

/-- A destination of trees has acknowledged all that precedes B; a flow ends once every destination has (R448). -/
def treeAck (s : State) (f : CellF) : State :=
  let b := bits f.payload 23 0
  let covered (o : FlowOut) : Bool := decide ((b + 2 ^ 24 - (o.first + o.next) % 2 ^ 24) % 2 ^ 24 < 0x800000) && !o.acked.contains f.smem
  let hit := (treeFlowsTo s f.dep f.smem).filter covered
  settleTrees (updFabric s (fun x => { x with
    flowsOut := x.flowsOut.map (fun o => if hit.contains o then { o with acked := o.acked ++ [f.smem] } else o) }))

/-- A control cell that this member may read: good, and for it. -/
def controlOk (s : State) (c : BitVec 512) (typ : Nat) : Bool :=
  let f := cellF c
  decide (f.typ = typ) && cellGood c && isOwn s f.dmem

/-- A cell of a fenced member, or one that arrives while this member's ingress is closed (R450, R451). -/
def fencedOff (s : State) (c : BitVec 512) : Bool := fenced s (cellF c).smem || ingressClosed s

/-- A flow's use once everything of it is acknowledged (R243, R435). -/
def flowSettled (s : State) (o : FlowOut) : State :=
  match o.use with
  | .reel r mv | .put r mv => (match runningMove s r with
    | some m => if m.seqno = mv ∧ (descF m.desc).nt ≤ m.tile ∧ moveSettled s r m = true then endMove s r 0 0 else s
    | none => s)
  | .answer => closeOut s (fun y => sameFlowOut y o.ep o.peer o.peerEp o.slot)
  | _ => s

/-- ACK_RECEIVED (R429, R437, R439): what it covers is freed; an advance restarts the resend timer. -/
def execAckReceived (c : BitVec 512) (s : State) : Host.Outcome State Fault Refusal :=
  let f := cellF c
  if fencedOff s c then .next (dropRoute s)
  else if controlOk s c 3 = false then .next (dropCheck s)
  else match flowOutOf s f with
    | none => .next (treeAck s f)
    | some o =>
      let b := bits f.payload 23 0
      let up := (b + 2 ^ 24 - (o.first + o.low) % 2 ^ 24) % 2 ^ 24
      let low := if o.low + up ≤ o.next then o.low + up else o.low
      let adv := decide (o.low < low)
      let shown := ((List.range 256).filter (fun k => f.payload.testBit (64 + k))).map (fun k => low + 1 + k)
      let s1 := updFlowOut s o.ep o.peer o.peerEp o.slot (fun y => { y with
        low := low, cells := y.cells.filter (fun p => decide (low ≤ p.1)), shown := shown
        timer := if adv then 100000 else y.timer, timerAt := if adv then s.now else y.timerAt
        expiries := if adv then 0 else y.expiries, resentAt := y.resentAt.filter (fun p => decide (low ≤ p.1)) })
      let s2 := echoRate s1 o.peer o.vc (bits f.payload 31 24 % 4)
      .next (if low = o.next then flowSettled s2 o else s2)

/-- Resend one kept cell with RETX set. -/
def resend (s : State) (o : FlowOut) (pos : Nat) (acknow : Bool) : State :=
  match lookupNat pos o.cells with
  | none => s
  | some c =>
    let f := cellF c
    let s1 := updFlowOut s o.ep o.peer o.peerEp o.slot (fun y => { y with resentAt := assignNat pos s.now y.resentAt })
    inject (updFabric s1 (fun x => { x with resent := bump x.resent })) (mkCell { f with retx := true, acknow := f.acknow || acknow })

/-- A cell may be resent now: no more often than once in 10 µs (R428). -/
def resendDue (s : State) (o : FlowOut) (key : Nat) : Bool :=
  match lookupNat key o.resentAt with
  | none => true
  | some t => decide (t + 10000 ≤ s.now)

/-- Resend a cell of a multicast flow to one destination, as unicast DATA (R448). -/
def treeResend (s : State) (o : FlowOut) (dest pos : Nat) (acknow : Bool) : State :=
  let key := pos + 2 ^ 32 * (dest + 1)
  match lookupNat pos o.cells with
  | none => s
  | some c =>
    if !resendDue s o key then s
    else
    let f := cellF c
    let s1 := updFlowOut s o.ep o.peer o.peerEp o.slot (fun y => { y with resentAt := assignNat key s.now y.resentAt })
    inject (updFabric s1 (fun x => { x with resent := bump x.resent }))
      (mkCell { f with dmem := dest, typ := 1, retx := true, acknow := f.acknow || acknow })

/-- NAK_RECEIVED (R428): B and every marked cell is resent once, no cell more often than once in 10 µs. -/
def execNakReceived (c : BitVec 512) (s : State) : Host.Outcome State Fault Refusal :=
  let f := cellF c
  if fencedOff s c then .next (dropRoute s)
  else if controlOk s c 4 = false then .next (dropCheck s)
  else match flowOutOf s f with
    | none =>
      let b := bits f.payload 23 0
      let seqs := b :: ((List.range 256).filter (fun k => f.payload.testBit (64 + k))).map (fun k => b + 1 + k)
      .next ((treeFlowsTo s f.dep f.smem).foldl (fun t o =>
        seqs.foldl (fun u q => treeResend u o f.smem ((q + 2 ^ 24 - o.first % 2 ^ 24) % 2 ^ 24) false) t) s)
    | some o =>
      let b := o.low + (bits f.payload 23 0 + 2 ^ 24 - (o.first + o.low) % 2 ^ 24) % 2 ^ 24
      let missing := b :: ((List.range 256).filter (fun k => f.payload.testBit (64 + k))).map (fun k => b + 1 + k)
      .next ((missing.filter (resendDue s o)).foldl (fun t p => resend t o p false) s)

/-- RESEND_TIMER (R429, R430): up to 256 unacknowledged cells that the last bitmap does not show, oldest first; the timer
doubles to at most 1.6 ms, and FLOW_STALLED is raised once at 64 expiries in succession. -/
def execResendTimer (ep : Fin 16) (peer : U16) (peerEp : Fin 16) (slot : Fin 4096) (s : State) :
    Host.Outcome State Fault Refusal :=
  match s.fabric.flowsOut.find? (fun o => sameFlowOut o ep peer.toNat peerEp slot) with
  | none => .next s
  | some o =>
    if o.low = o.next then .next s
    else
      let s1 := advanceTo s (o.timerAt + o.timer)
      let due := ((o.cells.map (fun p => p.1)).filter (fun p => !o.shown.contains p && (o.tree.isSome || resendDue s1 o p))).take 256
      let s2 := match o.tree with
        | none => due.foldl (fun t p => resend t o p true) s1
        | some t => ((treeDests s t).filter (fun a => !o.acked.contains a)).foldl (fun u a =>
            due.foldl (fun v p => treeResend v o a p true) u) s1
      let n := o.expiries + 1
      let raise_ := decide (64 ≤ n) && !o.stalled
      let s3 := updFlowOut s2 o.ep o.peer o.peerEp o.slot (fun y => { y with
        timer := min 1600000 (2 * y.timer), timerAt := s1.now, expiries := n, stalled := y.stalled || raise_ })
      .next (if raise_ then raise s3 0x60 ukPACKAGE 0 (o.peer % 65536) else s3)

/-! ### Rendezvous (R423, R424, R240, R241) -/

/-- Answer an offer with a GRANT that names a slot and the initial sequence, or SIZE. -/
def sendGrant (s : State) (ep peer peerEp tag slot first : Nat) (size : Bool) : State :=
  sendControl s 6 peer peerEp ep slot (Config.ctrlPayload 6 [tag, slot, first, size.toNat])

/-- The flow that answered this offer before and has seen no cell: a repeated RTS receives the same GRANT. -/
def grantedFlow (s : State) (ep peer peerEp tag : Nat) : Option FlowIn :=
  s.fabric.flowsIn.find? (fun i => decide (i.ep = ep ∧ i.peer = peer ∧ i.peerEp = peerEp ∧ i.base = 0 ∧ i.got = []) &&
    (match i.use with
     | .reel r mv => (match runningMove s r with
       | some m => decide (m.seqno = mv ∧ moveKind m = 2 ∧ (descF m.desc).tag = tag)
       | none => false)
     | _ => false))

/-- An offer from (peer, peerEp) to a reel's endpoint (R240, R241, R423). One that was answered with SIZE, and that no RECV
takes now, is answered so again. -/
def reelOffer (s : State) (ep peer peerEp tag nt efmt : Nat) (eint : Bool) : State :=
  match grantedFlow s ep peer peerEp tag with
  | some i => sendGrant s ep peer peerEp tag i.slot i.first false
  | none =>
    let offer := [ep, peer, peerEp, tag, nt, efmt, eint.toNat]
    match matchRecv s ep peer tag with
    | none => if s.fabric.sized.contains offer then sendGrant s ep peer peerEp tag 0 0 true else s
    | some r =>
      match runningMove s r with
      | none => s
      | some m =>
        let d := descF m.desc
        if d.nt = nt ∧ d.efmt = efmt ∧ d.eint = eint then
          match freeSlot s ep with
          | none => s
          | some k =>
            let i := newFlowIn s ep k peer peerEp (.reel r m.seqno)
            let s1 := updMove (updFabric s (fun x => { x with flowsIn := x.flowsIn ++ [i], sized := x.sized.filter (fun y => y ≠ offer) })) r
              (fun y => { y with phase := .matched, flow := k })
            sendGrant s1 ep peer peerEp tag k i.first false
        else
          let s1 := updFabric s (fun x => { x with sized := if x.sized.contains offer then x.sized else x.sized ++ [offer] })
          endMove (sendGrant s1 ep peer peerEp tag 0 0 true) r 9 d.dst

/-- A SEND's offer without a GRANT goes again every 100 µs (R423). -/
def reelReoffer (s : State) (r : Nat) : State :=
  match runningMove s r with
  | none => s
  | some m =>
    if moveKind m = 1 ∧ (m.phase = .offered ∨ m.phase = .parked) ∧ isOwn s (descF m.desc).peer = false then
      sendRts (advanceTo s (m.rtsAt + 100000)) r m
    else s

/-- The SEND that a GRANT answers. -/
def grantedSend (s : State) (ep peer peerEp tag : Nat) : Option Nat :=
  (List.range 68).find? (fun r => decide (reelEndpoint r = ep) && (match runningMove s r with
    | some m => decide (moveKind m = 1 ∧ (m.phase = .offered ∨ m.phase = .parked) ∧ (descF m.desc).peer = peer ∧
        (descF m.desc).pep = peerEp ∧ (descF m.desc).tag = tag)
    | none => false))

/-- A GRANT to a reel's endpoint (R241, R423): the SEND is matched and its flow opens, or it ends with SIZE. -/
def reelGranted (s : State) (ep peer peerEp tag slot first : Nat) (size : Bool) : State :=
  match grantedSend s ep peer peerEp tag with
  | none => s
  | some r =>
    match runningMove s r with
    | none => s
    | some m =>
      let d := descF m.desc
      if size then endMove s r 9 d.src
      else
        let o := newFlowOut s ep peer peerEp slot (if d.vcb then 3 else 2) first (.reel r m.seqno)
        updMove (updFabric (reelMoves s r) (fun x => { x with flowsOut := x.flowsOut ++ [o] })) r
          (fun y => { y with phase := .matched, flow := slot })

/-! ### Board loads (R220, R435, R621) -/

/-- BREAD_RECEIVED (R220, R435): a board peer's die asks for a tile, or a status byte (layout 3), at an address of this package. The answer is a flow
on VC2 into the slot it names; a load that no grant admits, or that this package cannot read, is answered with its
status in a control cell. -/
def execBreadReceived (peer : U16) (peerEp : Fin 16) (slot : Fin 4096) (first : Fin 16777216) (addr : U64) (lay : Fin 4)
    (efmt : Fin 8) (pitch : U16) (rd : ReadObs) (s : State) : Host.Outcome State Fault Refusal :=
  if fenced s peer.toNat ∨ ingressClosed s = true then .next (dropRoute s)
  else
    let span := if lay.val = 3 then 1 else tileSpan lay efmt pitch.toNat
    let refuse (t : State) (unit st : Nat) : State := sendControl t 8 peer.toNat peerEp unit slot (Config.ctrlPayload 8 [slot, st])
    match addrF addr.toNat with
    | none => .next (refuse s 0 6)
    | some a =>
      let st := peerAccess s peer.toNat peerEp addr.toNat a span false
      if st ≠ 0 then .next (refuse (refusedAccess s addr.toNat span st) (a.unit % 8) st)
      else if s.fabric.flowsOut.any (fun o => sameFlowOut o a.unit peer.toNat peerEp slot) then .next s
      else
        let pl : Place := if a.tier = .hbm then .hbm a.unit else .store a.unit
        let (s1, e) := readCheck s pl a.off span rd
        match e with
        | some (_, k) => .next (refuse (setCause s1 false) a.unit (errStatus k))
        | none =>
          let o := newFlowOut s1 a.unit peer.toNat peerEp slot 2 first .answer
          .next (sendMessage (updFabric s1 (fun x => { x with flowsOut := x.flowsOut ++ [o] })) o (if lay.val = 3 then placeLoadN s1 pl a.off 1 else readTile s1 pl a.off lay efmt pitch.toNat) 0)

/-- BREAD_REPEAT (R435): an unanswered load is asked for again. -/
def execBreadRepeat (r : Fin 68) (s : State) : Host.Outcome State Fault Refusal :=
  match runningMove s r with
  | none => .next s
  | some m =>
    match s.fabric.flowsIn.find? (fun i => decide (i.use = .load r m.seqno)) with
    | some i =>
      .next (if i.base = 0 then
          sendControl s 7 i.peer i.peerEp i.ep i.slot (breadPayload i.slot i.first (if loadsTile s m then askTile m else askStat m))
        else s)
    | none => .next s

end Sys2Proof.Machine
end

