-- ==== Sys2Proof/Machine/EumonCore.lean ====
section
/-! DEFINITION. What an Eumon answer is and where it goes (R545 to R549, R566), and how an exposure and a proposal end
without commit (R580, R584, R630). -/

namespace Sys2Proof.Machine

/-- The master identity as R741 numbers it. -/
def identNat : Ident → Nat
  | .aon => 0x00
  | .mgp => 0x01
  | .sep => 0x02
  | .flc => 0x03
  | .repair => 0x04
  | .seq d => 0x10 + d.val
  | .driver p => 0x20 + p.val
  | .cle => 0x30
  | .debug => idDEBUG
  | .operator => idOPERATOR
  | .securityOfficer => idSECURITY
  | .claim => idCLAIM
  | .none_ => idNone

/-! ### Abort codes (R548) -/

def abNO_OBJECT : Nat := 0x01
def abNO_SUBINDEX : Nat := 0x02
def abNO_INSTANCE : Nat := 0x03
def abREAD_ONLY : Nat := 0x04
def abWRITE_ONLY : Nat := 0x05
def abLENGTH : Nat := 0x06
def abRANGE : Nat := 0x07
def abRESERVED : Nat := 0x08
def abRIGHTS : Nat := 0x09
def abSTATE : Nat := 0x0A
def abEXPOSURE_REQUIRED : Nat := 0x0B
def abNOT_STAGEABLE : Nat := 0x0C
def abGENERATION : Nat := 0x0D
def abBLOCK_REQUIRED : Nat := 0x0E
def abNO_SESSION : Nat := 0x0F
def abBUSY : Nat := 0x10
def abCONFLICT : Nat := 0x11
def abEXPOSURE_STATE : Nat := 0x12
def abEXPIRED : Nat := 0x13
def abREFUSED : Nat := 0x14
def abLATE : Nat := 0x15
def abRESOURCE : Nat := 0x16
def abTRANSFER : Nat := 0x17
def abABORTED : Nat := 0x18
def abDEVICE : Nat := 0x19

/-! ### Messages -/

/-- A message of R545: header and data. -/
def msgBytes (gen mtype seq index sub inst exp status : Nat) (data : List Byte) : List Byte :=
  leBytes 16 (gen % 16 + mtype % 256 * 2 ^ 8 + seq % 65536 * 2 ^ 16 + index % 65536 * 2 ^ 32 + sub % 256 * 2 ^ 48 +
    inst % 4096 * 2 ^ 56 + exp % 256 * 2 ^ 72 + data.length % 65536 * 2 ^ 80 + status % 2 ^ 32 * 2 ^ 96) ++ data

/-- A message taken apart; none where its length disagrees with LEN (R544). -/
def parseMsg (bs : List Byte) : Option EMsg :=
  let n := leNat (bs.take 16)
  if bs.length < 16 ∨ bs.length - 16 ≠ bits n 95 80 then none
  else some { gen := bits n 3 0, mtype := bits n 15 8, seq := bits n 31 16, index := bits n 47 32, sub := bits n 55 48,
              inst := bits n 67 56, exp := bits n 79 72, data := bs.drop 16 }

/-- The header by which a repeated request is known (R549). -/
def reqHeader (m : EMsg) : List Byte :=
  (msgBytes m.gen m.mtype m.seq m.index m.sub m.inst m.exp 0 m.data).take 16

def findSession (s : State) (id : U32) : Option Session := s.eumon.sessions.find? (fun x => decide (x.id = id))
def updSession (s : State) (id : U32) (f : Session → Session) : State :=
  { s with eumon := { s.eumon with sessions := s.eumon.sessions.map (fun x => if x.id = id then f x else x) } }

/-- The ENVELOPE of a body (R566): the 24-byte header, the body, and the HMAC under KD over both. -/
def sealBody (x : Session) (body : List Byte) : List Byte :=
  let hdr := leBytes 24 (3 + 0x24 * 2 ^ 8 + x.id.toNat * 2 ^ 32 + (x.ctrOut + 1) % 2 ^ 64 * 2 ^ 64 + body.length % 65536 * 2 ^ 128)
  hdr ++ body ++ hmac384 x.kd (hdr ++ body)

/-- Send a message to a requester: inside an ENVELOPE of its session, or plain. -/
def sendTo (s : State) (dest : Asker) (body : List Byte) : State :=
  match dest with
  | .direct _ => s
  | .plain _ => emit s (.message dest body)
  | .session id => match findSession s id with
    | none => s
    | some x => emit (updSession s id (fun y => { y with ctrOut := y.ctrOut + 1 })) (.message dest (sealBody x body))

/-- The last 64 answers of a session are kept (R549); BLKEND is no answer to a request. -/
def keepAnswer (s : State) (o : Owed) (body : List Byte) : State :=
  match o.asker with
  | .session id =>
    if o.rtype = 0x16 then s
    else updSession s id (fun y => { y with kept := keepLast 64 (y.kept ++ [{ hdr := reqHeader o.msg, resp := body }]) })
  | _ => s

/-- A transfer ends with a status, kept for the messages that still name it (R554, R555). -/
def endTransfer (s : State) (id status : Nat) : State :=
  { s with eumon := { s.eumon with transfers := s.eumon.transfers.map (fun t =>
    if t.id = id then { t with ended := some (status, s.now), segs := [], copy := [] } else t) } }

/-- Answer a request (R547): the echoed header, STATUS and data; a command of its own row gets its status. -/
def respond (s : State) (o : Owed) (status : Nat) (data : List Byte) : State :=
  match o.asker with
  | .direct who => emit s (.status (identNat who) status)
  | _ =>
    let m := o.msg
    let body := msgBytes m.gen o.rtype m.seq m.index m.sub m.inst m.exp status data
    let s1 :=
      if o.rtype = 0x16 then endTransfer s m.index status
      else { s with eumon := { s.eumon with served := bump s.eumon.served } }
    keepAnswer (sendTo s1 o.asker body) o body

/-- An answer still owed, if any. -/
def settleOwed (s : State) (o : Option Owed) (status : Nat) : State :=
  match o with
  | none => s
  | some x => respond s x status []

/-! ### Exposures and proposals that end without commit -/

def expOf (s : State) (e : Nat) : ExpSlot := vget s.exps.slots e ExpSlot.reset
def updExp (s : State) (e : Nat) (f : ExpSlot → ExpSlot) : State :=
  { s with exps := { s.exps with slots := vmod s.exps.slots e f } }

/-- A security event that names a proposal slot, partition, key slot or credential slot (R644). -/
def raiseSec (s : State) (code n : Nat) : State := raise s code ukPACKAGE 0 (Config.detail code n 0 0)

def updProp (s : State) (k : Nat) (f : ProposalS → ProposalS) : State :=
  { s with sec := { s.sec with proposals := vmod s.sec.proposals k f } }
def propOf (s : State) (k : Nat) : ProposalS := vget s.sec.proposals k ProposalS.reset

/-- A proposal ends ABORTED with a code (R630): SEC_ABORTED, and its countersignature is answered. -/
def abortProposal (s : State) (k code : Nat) : State :=
  let o := (propOf s k).signer
  settleOwed (raiseSec (updProp s k (fun p => { p with
    st := .aborted, abort := BitVec.ofNat 32 code, expSlot := none, signer := none })) 0x94 k) o code

/-- An exposure in OPEN or PREPARING aborts with a code (R580, R584): every staged write is discarded, its Close is
answered, and the proposal it carries ends. -/
def abortExposure (s : State) (e code : Nat) : State :=
  let x := expOf s e
  if x.st = .open_ ∨ x.st = .preparing then
    let s1 := updExp { s with exps := { s.exps with aborts := bump s.exps.aborts } } e (fun y => { y with
      st := .aborted, abort := BitVec.ofNat 32 code, writes := [], closer := none })
    let s2 := settleOwed s1 x.closer code
    (List.range 4).foldl (fun t k =>
      if (propOf t k).st = .committing ∧ (propOf t k).expSlot = some e then abortProposal t k code else t) s2
  else s

/-- The island that holds an object (R21, R584): the dies' objects on their islands, the engines' on their chiplets, host
ports on ETH, groups on the CLE; everything else of the three stageable ranges is held by the FRT, the SEP or the AON. -/
def objIsland (x : ObjRef) : Nat :=
  if x.index = 0x8400 then 10 * (x.inst / 8) + x.inst % 8
  else if x.index = 0x8500 then 10 * x.inst + 8
  else if x.index = 0x8600 then 10 * x.inst + 9
  else if x.index = 0x8800 then (if x.inst < 64 then 10 * (x.inst / 8) + 9 else 83)
  else if x.index = 0x8C00 then 104 + 2 * x.inst
  else if x.index = 0x8E00 then 88 + x.inst / 2
  else if x.index = 0x9000 then 88 + x.inst
  else if x.index = 0x9400 then 80 + x.inst
  else if x.index = 0x2C00 ∨ x.index = 0x9200 then 82
  else if (0x2A00 ≤ x.index ∧ x.index < 0x2C00) ∨ x.index = 0x2E00 then 83
  else if 0xD000 ≤ x.index then 85
  else 87

/-- Exposures in OPEN or PREPARING that hold writes of islands which are reset or leave service abort (R584). -/
def exposuresLose (s : State) (hit : Nat → Bool) : State :=
  (List.range 16).foldl (fun t e =>
    if (expOf t e).writes.any (fun w => hit (objIsland w.obj)) then abortExposure t e abDEVICE else t) s

/-- The island that goes with a unit of R721, where the unit is the island's own. -/
def unitIsland (uk ui : Nat) : Option Nat :=
  match uk with
  | 0x01 => some (10 * (ui / 8) + ui % 8)
  | 0x02 => some (10 * ui + 8)
  | 0x03 => some (10 * ui + 9)
  | 0x0C => some (88 + ui)
  | 0x0F => some ui
  | 0x12 => some (80 + ui)
  | _ => none

/-- Every request that the MGP holds when it is reset is answered DEVICE (R696). -/
def answerHeld (s : State) : State :=
  let held := s.eumon.waiting.filter (fun w => !w.aon)
  let closers := s.exps.slots.toList.filterMap (fun x => x.closer)
  let signers := s.sec.proposals.toList.filterMap (fun p => p.signer)
  let s1 := { s with
    eumon := { s.eumon with waiting := s.eumon.waiting.filter (fun w => w.aon) }
    exps := { s.exps with slots := s.exps.slots.map (fun x => { x with closer := none }) }
    sec := { s.sec with proposals := s.sec.proposals.map (fun p => { p with signer := none }) } }
  (held.map (fun w => w.owed) ++ closers ++ signers).foldl (fun t o => respond t o abDEVICE []) s1

end Sys2Proof.Machine
end

