-- ==== Sys2Proof/Machine/Coll.lean ====
section
/-! DEFINITION. The collective engine (chapter 11): agreement, the reductions in their fixed order, the norm, the moves
between ranks, how a call ends, abort notices, suspension and fencing. -/

namespace Sys2Proof.Machine

/-! ### A slot's call -/

/-- The die's registered COLL of the current call: its first that has not ended (R467). -/
def regOfDie (g : GroupSlot) (k : Nat) : Option CallReg := g.regs.find? (fun r => decide (r.die = k))
/-- The participating dies, in die-rank order (R460). -/
def slotDies (g : GroupSlot) : List Nat := setBits 8 g.dmask
def slotP (g : GroupSlot) : Nat := 2 ^ (setBits 13 g.dims).length
def slotD (g : GroupSlot) : Nat := (slotDies g).length
def slotCoord (s : State) (g : GroupSlot) : Nat := coordOf g.dims (jobAddress s)
/-- The address bits that a coordinate stands for. -/
def addrOfCoord (dims c : Nat) : Nat :=
  let ds := setBits 13 dims
  ((List.range ds.length).map (fun i => if c.testBit i then 2 ^ (ds.getD i 0) else 0)).sum
/-- The member at a coordinate of the group (R460). -/
def memberAt (s : State) (g : GroupSlot) (c : Nat) : Nat :=
  let own := jobAddress s
  own - addrOfCoord g.dims (coordOf g.dims own) + addrOfCoord g.dims c
/-- Every other member of the group. -/
def otherMembers (s : State) (g : GroupSlot) : List Nat :=
  ((List.range (slotP g)).filter (fun c => decide (c ≠ slotCoord s g))).map (memberAt s g)
/-- The descriptor that a die's COLL names. -/
def descOf (s : State) (g : GroupSlot) (k : Nat) : CollF :=
  collF (collAt s k (((regOfDie g k).map (fun r => r.desc)).getD 0))
/-- The call's descriptor: its lowest die's. -/
def callDesc (s : State) (g : GroupSlot) : CollF := descOf s g ((slotDies g).headD 0)
def callOpen (g : GroupSlot) : Bool := decide (g.st = .agreeing) || decide (g.st = .running) || decide (g.st = .suspended)

/-- The algorithm that AUTO resolves to (R475), 0 for an operation with one. -/
def resolvedAlg (g : GroupSlot) (f : CollF) : Nat :=
  if f.op = 1 then (if f.alg = 0 then (if f.count * elemBytes f.sfmt < g.threshold.toNat then 2 else 1) else f.alg)
  else 0

/-- A die's signature block as a number (R470). -/
def sigBlock (g : GroupSlot) (f : CollF) : Nat :=
  f.op + f.redop * 2 ^ 4 + f.sfmt * 2 ^ 6 + f.dfmt * 2 ^ 9 + f.rmode * 2 ^ 12 + resolvedAlg g f * 2 ^ 14 +
    (if f.op = 4 then f.root else 0) * 2 ^ 16 + g.gid.toNat * 2 ^ 32 + g.dims * 2 ^ 64 + g.dmask * 2 ^ 80 +
    g.call.toNat * 2 ^ 96 + f.count * 2 ^ 128 + (if f.op = 6 then f.blk else 0) * 2 ^ 192 +
    (if f.op = 5 then f.clip else 0) * 2 ^ 224
/-- A die's signature (R470). -/
def signature (g : GroupSlot) (f : CollF) : Nat := leNat ((sha384 (leBytes 32 (sigBlock g f))).take 8)

/-! ### Storage (R466, R503) -/

/-- Read bytes at a board address for a call: the R252 status that the access ends with, or the bytes. -/
def collRead (s : State) (part addr len : Nat) (rd : ReadObs) : State × Option Nat × List Byte :=
  if len = 0 then (s, none, [])
  else match accessCheck s 64 part addr len false, addrF addr with
    | some st, _ => (refusedAccess s addr len st, some st, [])
    | none, none => (s, some 1, [])
    | none, some a =>
      let pl := addrPlace s part a
      let (s1, e) := readCheck s pl a.off len rd
      match e with
      | some (_, k) => (s1, some (errStatus k), [])
      | none => (s1, none, placeLoadN s1 pl a.off len)

/-- Write bytes at a board address for a call. -/
def collWrite (s : State) (part addr : Nat) (bytes : List Byte) : State × Option Nat :=
  if bytes = [] then (s, none)
  else match accessCheck s 64 part addr bytes.length true, addrF addr with
    | some st, _ => (refusedAccess s addr bytes.length st, some st)
    | none, none => (s, some 1)
    | none, some a =>
      let pl := addrPlace s part a
      match mergeBad s pl a.off bytes.length with
      | some b => (redetect s pl b.lo (if b.integrity then .integrity else .uncorrectable), some (if b.integrity then 3 else 2))
      | none => (placeStore s pl a.off bytes, none)

/-- A list of writes, until one fails. -/
def collWrites (part : Nat) : List (Nat × List Byte) → State → State × Option Nat
  | [], s => (s, none)
  | (x, bs) :: ws, s =>
    match collWrite s part x bs with
    | (s1, none) => collWrites part ws s1
    | (s1, some e) => (s1, some e)

/-- Read a list of ranges, until one fails. The observation is that of the first. -/
def collReads (part : Nat) (rd : ReadObs) : List (Nat × Nat) → State → State × Option Nat × List (List Byte)
  | [], s => (s, none, [])
  | (x, n) :: rs, s =>
    match collRead s part x n rd with
    | (s1, some e, _) => (s1, some e, [])
    | (s1, none, bs) =>
      match collReads part .clean rs s1 with
      | (s2, e, l) => (s2, e, bs :: l)

/-- A buffer of a call becomes indeterminate (R503). -/
def scrambleAddr (s : State) (part addr len : Nat) : State :=
  (addrRegion s part addr len).foldl scramble s

/-! ### How a call ends (R467, R473, R501 to R503) -/

/-- Bytes of DST at a rank. -/
def dstBytes (g : GroupSlot) (f : CollF) : Nat :=
  let pd := slotP g * slotD g
  match f.op with
  | 1 => f.count * elemBytes f.dfmt
  | 2 => f.count / max pd 1 * elemBytes f.dfmt
  | 3 => f.count * pd * elemBytes f.sfmt
  | 5 => 16
  | 0 => 0
  | _ => f.count * elemBytes f.sfmt

/-- What a status leaves indeterminate at one die (R496, R503). -/
def scrambleDie (s : State) (g : GroupSlot) (k status : Nat) : State :=
  let f := descOf s g k
  let part := (partOfDie s k).getD 0xFF
  let s1 := scrambleAddr s part f.scratch f.scrlen
  if status = 0 ∨ status = 1 ∨ (f.op = 6 ∧ g.phase < 5 ∧ f.dst = f.src) ∨ f.dst = 0 then s1
  else scrambleAddr s1 part f.dst (dstBytes g f)

/-- Statuses that spread by ABORT cells (R502). -/
def spreads (status : Nat) : Bool := decide (status = 2 ∨ status = 3 ∨ status = 4 ∨ status = 6)

/-- Send an ABORT of a call (R502). -/
def sendAbort (s : State) (g : GroupSlot) (peer call status : Nat) : State :=
  sendControl s 8 peer 8 8 0 (Config.ctrlPayload 8 [2, g.gid.toNat, call, status])

/-- Drop the first registered COLL of each participating die. -/
def dropFirst (k : Nat) : List CallReg → List CallReg
  | [] => []
  | r :: rs => if r.die = k then rs else r :: dropFirst k rs

/-- Complete one die's COLL: success loads X(XREG) under R490; any other status fails the step (R202, R503). -/
def endDie (g : GroupSlot) (status : Nat) (s : State) (r : CallReg) : State :=
  if status = 0 then
    let f := collF (collAt s r.die r.desc)
    let s1 := if f.op = 5 ∧ f.xen = true then updVxe s r.die (fun v => { v with xs := vset v.xs f.xreg g.gscale }) else s
    completeOp s1 r.die r.op
  else abortOp s r.die r.op frCOLL (decide (3 ≤ status ∧ status ≤ 5))

/-- The current call of a slot ends with a status (R503): every participating die's COLL completes, the call number
advances, events are raised and abort notices sent. -/
def endCall (s : State) (i status detail : Nat) : State :=
  let g := slotOf s i
  let dies := (slotDies g).filter (fun k => (regOfDie g k).isSome)
  let regs := dies.filterMap (regOfDie g)
  let s1 := dies.foldl (fun t k => scrambleDie t g k status) s
  let peers := if spreads status then (otherMembers s g).filter (fun a => !fenced s a) else []
  let outs : List AbortOut := peers.map (fun a => {
    peer := a, call := g.call.toNat, status := status, sent := 1, at_ := s.now })
  let s2 := updSlot s1 i (fun x => { x with
    call := x.call + 1#32, last := BitVec.ofNat 8 status, detail := BitVec.ofNat 8 detail, step := 0#16
    st := if (x.abortsOut ++ outs).isEmpty then .idle else .ending
    regs := dies.foldl (fun l k => dropFirst k l) x.regs, phase := 0, ok := false, agreed := false, dimAt := 0
    agrees := x.agrees.filter (fun a => decide (g.call.toNat < a.call))
    aborts := x.aborts.filter (fun a => decide (g.call.toNat < a.call)), done := false, flowBits := none
    abortsOut := x.abortsOut ++ outs, awaited := 0xFFFF#16, offers := [] })
  let s3 := closeOut (closeIn s2 (fun y => decide (y.use = .cle i))) (fun y => decide (y.use = .cle i))
  let s4 := if status = 0 then { s3 with cle := { s3.cle with completed := bump s3.cle.completed } }
    else if status = 1 then raise s3 0x71 ukGROUP i (Config.detail 0x71 g.call.toNat detail 0)
    else raise s3 0x72 ukGROUP i (Config.detail 0x72 g.call.toNat status 0)
  let s5 := peers.foldl (fun t a => sendAbort t g a g.call.toNat status) s4
  regs.foldl (endDie g status) s5

/-- The rank of a cause (R502): the higher is reported. -/
def causeRank (status : Nat) : Nat :=
  match status with
  | 2 => 5 | 3 => 4 | 4 => 3 | 5 => 2 | 6 => 1 | _ => 0

/-- The highest abort notice held for the current call. -/
def heldAbort (g : GroupSlot) : Option Nat :=
  ((g.aborts.filter (fun a => decide (a.call = g.call.toNat))).map (fun a => a.status)).foldl
    (fun o x => match o with
      | none => some x
      | some y => if causeRank y < causeRank x then some x else some y) none

/-- The group meets the fence list (R501): this member's address, or a member of it. -/
def groupFenced (s : State) (g : GroupSlot) : Bool :=
  ingressClosed s || (otherMembers s g).any (fenced s)

/-- A cause ends the call in progress; a suspended call keeps it as a notice for its RESUME (R499, R500). -/
def causeCall (s : State) (i status : Nat) : State :=
  let g := slotOf s i
  if g.st = .suspended then updSlot s i (fun x => { x with aborts := x.aborts ++ [{ call := g.call.toNat, status := status }] })
  else endCall s i status 0

/-- A fence commit ends the calls of the groups that it meets (R501); a PERMUTE past its completion round ignores it
(R496). -/
def fenceCalls (s : State) : State :=
  (List.range 64).foldl (fun t i =>
    let g := slotOf t i
    if callOpen g && groupFenced t g && !(decide ((callDesc t g).op = 6) && decide (5 ≤ g.phase)) then causeCall t i 2 else t) s

/-! ### Flows between CLEs (R468, R472, R477, R478, R492, R497) -/

/-- Ring bits of a coordinate on ring r of NR: ring bit k is coordinate bit r + k modulo NR (R477). -/
def ringBits (nr r c : Nat) : Nat := leNatBits ((List.range nr).map (fun k => c.testBit ((r + k) % max nr 1)))
/-- The coordinate of ring bits. -/
def unringBits (nr r b : Nat) : Nat := leNatBits ((List.range nr).map (fun t => b.testBit ((t + nr - r % max nr 1) % max nr 1)))
/-- The position whose reflected Gray code is given. -/
def ungray : Nat → Nat → Nat
  | 0, _ => 0
  | n + 1, b => let hi := ungray n (b / 2); 2 * hi + (if (hi % 2 = 1) ≠ (b % 2 = 1) then 1 else 0)
def ringPos (nr r c : Nat) : Nat := ungray nr (ringBits nr r c)
def ringCoord (nr r i : Nat) : Nat := unringBits nr r (i ^^^ i >>> 1)

/-- The TAG of a call's flows (R468). -/
def cleTag (g : GroupSlot) : Nat := g.owner.toNat % 8 * 2 ^ 13 + g.num.toNat % 64 * 2 ^ 7 + g.call.toNat % 128

/-- The coordinates that a coordinate sends to in the steps of a call, or in its first step alone: the next position of each
ring, the partner across each dimension of a butterfly or a tree, the neighbour of a KVRING. -/
def sendsTo (g : GroupSlot) (f : CollF) (first : Bool) (c : Nat) : List Nat :=
  let nr := (setBits 13 g.dims).length
  let p := slotP g
  let next (r back : Nat) : Nat := ringCoord nr r ((ringPos nr r c + back) % p)
  let rings := (List.range nr).foldl (fun l r => if l.contains (next r 1) then l else l ++ [next r 1]) []
  let stages := (List.range (if first then 1 else nr)).map (fun k => c ^^^ 2 ^ k)
  if nr = 0 then []
  else match f.op with
    | 1 => if resolvedAlg g f = 2 then stages else rings
    | 2 | 3 => rings
    | 4 => if f.mcen then [] else ((List.range nr).filter (fun k => decide (c ^^^ (f.root / max (slotD g) 1) < 2 ^ k))).map (fun k => c ^^^ 2 ^ k)
    | 5 => stages
    | 7 => [next 0 (if f.dir then p - 1 else 1)]
    | _ => []

/-- An operation with a SCRATCH minimum above zero, whose first step's flows open before the round ends (R472). -/
def opensEarly (f : CollF) : Bool := decide (f.op = 1 ∨ f.op = 2)

/-- Offer a flow of the call to a member (R468): the signature goes with the offer (R472). -/
def sendCallRts (s : State) (i a : Nat) : State :=
  let g := slotOf s i
  sendControl (updSlot s i (fun x => { x with offers := assignNat a s.now x.offers })) 5 a 8 8 0
    (Config.ctrlPayload 5 [cleTag g, 0, 0, 0, g.sig])

/-- The call's flow to a member, or its offer, is there. -/
def offered (s : State) (i a : Nat) : Bool :=
  (slotOf s i).offers.any (fun o => decide (o.1 = a)) || s.fabric.flowsOut.any (fun o => decide (o.use = .cle i ∧ o.peer = a))

/-- Offer the flows of a call's steps, of the first step alone before the agreement. -/
def offerCall (s : State) (i : Nat) (first : Bool) : State :=
  let g := slotOf s i
  ((sendsTo g (callDesc s g) first (slotCoord s g)).map (memberAt s g)).foldl (fun t a =>
    if offered t i a || fenced t a then t else sendCallRts t i a) s

/-- The slot whose call in progress an offer or a GRANT of a peer CLE names (R468). -/
def slotOfTag (s : State) (peer tag : Nat) : Option Nat :=
  (List.range 64).find? (fun i => let g := slotOf s i
    (decide (g.st = .agreeing) || decide (g.st = .running)) && decide (cleTag g = tag) && (otherMembers s g).contains peer)

/-- The CLE grants a flow of the current call (R472): of the first step where the signature is its own, of any step once the
members have agreed. -/
def grantsCall (s : State) (g : GroupSlot) (peer sig : Nat) : Bool :=
  let f := callDesc s g
  let c := coordOf g.dims peer
  (g.agreed && (sendsTo g f false c).contains (slotCoord s g)) ||
    (opensEarly f && decide (sig = g.sig) && (sendsTo g f true c).contains (slotCoord s g))

/-- An offer of a peer CLE (R468, R472). One for a later call waits: its sender repeats it. -/
def cleOffer (s : State) (peer peerEp tag sig : Nat) : State :=
  match slotOfTag s peer tag with
  | none => s
  | some i =>
    match s.fabric.flowsIn.find? (fun y => decide (y.use = .cle i ∧ y.peer = peer ∧ y.peerEp = peerEp)) with
    | some y => if y.base = 0 ∧ y.got = [] then sendGrant s 8 peer peerEp tag y.slot y.first false else s
    | none =>
      if grantsCall s (slotOf s i) peer sig then
        match freeSlot s 8 with
        | none => s
        | some k =>
          let y := newFlowIn s 8 k peer peerEp (.cle i)
          sendGrant (updFabric s (fun x => { x with flowsIn := x.flowsIn ++ [y] })) 8 peer peerEp tag k y.first false
      else s

/-- A GRANT to the CLE: the offered flow opens on VC1 (R465, R468). -/
def cleGranted (s : State) (peer peerEp tag slot first : Nat) : State :=
  match slotOfTag s peer tag with
  | none => s
  | some i =>
    if (slotOf s i).offers.any (fun o => decide (o.1 = peer)) then
      let o := newFlowOut s 8 peer peerEp slot 1 first (.cle i)
      updSlot (updFabric s (fun x => { x with flowsOut := x.flowsOut ++ [o] })) i (fun x => { x with
        offers := x.offers.filter (fun q => decide (q.1 ≠ peer)) })
    else s

/-- RTS_RECEIVED (R240, R241, R423, R468, R472): an offer from (peer, peerEp) to a reel's endpoint or to the CLE. -/
def execRtsReceived (ep : Fin 16) (peer : U16) (peerEp : Fin 16) (tag : U16) (nt : U32) (efmt : Fin 8) (eint : Bool)
    (s : State) (sig : U64 := 0#64) : Host.Outcome State Fault Refusal :=
  if fenced s peer.toNat ∨ ingressClosed s = true then .next (dropRoute s)
  else if ep.val = 8 then .next (cleOffer s peer.toNat peerEp tag.toNat sig.toNat)
  else .next (reelOffer s ep peer.toNat peerEp tag.toNat nt.toNat efmt eint)

/-- RTS_REPEAT (R423, R468): an offer without a GRANT goes again every 100 µs. -/
def execRtsRepeat (who : RtsFrom) (s : State) : Host.Outcome State Fault Refusal :=
  match who with
  | .reel r => .next (reelReoffer s r)
  | .call i peer =>
    let g := slotOf s i.val
    match lookupNat peer.toNat g.offers with
    | some t => .next (if g.st = .agreeing ∨ g.st = .running then sendCallRts (advanceTo s (t + 100000)) i.val peer.toNat else s)
    | none => .next s

/-- GRANT_RECEIVED (R241, R423, R468). -/
def execGrantReceived (ep : Fin 16) (peer : U16) (peerEp : Fin 16) (tag : U16) (slot : Fin 4096) (first : Fin 16777216)
    (size : Bool) (s : State) : Host.Outcome State Fault Refusal :=
  if fenced s peer.toNat ∨ ingressClosed s = true then .next (dropRoute s)
  else if ep.val = 8 then .next (if size then s else cleGranted s peer.toNat peerEp tag.toNat slot first)
  else .next (reelGranted s ep peer.toNat peerEp tag.toNat slot first size)

/-! ### Agreement (R471 to R473) -/

/-- A PERMUTE map entry (R493). -/
structure MapEnt where
  srank : Nat
  sblk : Nat
  reserved : Bool
  deriving DecidableEq, Repr

def mapEnt (n : Nat) : MapEnt := { srank := bits n 15 0, sblk := bits n 47 16, reserved := decide (bits n 63 48 ≠ 0) }

def blocksOf (f : CollF) : Nat := f.count / max f.blk 1
def blockBytes (f : CollF) : Nat := f.blk * elemBytes f.sfmt

/-- The entries of a die's map. -/
def mapOf (bytes : List Byte) : List MapEnt :=
  (List.range (bytes.length / 8)).map (fun j => mapEnt (leNat ((bytes.drop (8 * j)).take 8)))

/-- The rank of a die in its group (R460). -/
def rankOf (s : State) (g : GroupSlot) (k : Nat) : Nat := slotCoord s g * slotD g + dieRank g.dmask k

/-- The moving entries of a die's map, in map order: place and source (R494). -/
def movingOf (own : Nat) (m : List MapEnt) : List (Nat × MapEnt) :=
  ((List.range m.length).zip m).filter (fun e => decide (e.2.srank ≠ own ∨ e.2.sblk ≠ e.1))

def mapValid (g : GroupSlot) (f : CollF) (m : List MapEnt) : Bool :=
  m.all (fun e => decide (e.srank < slotP g * slotD g ∧ e.sblk < blocksOf f) && !e.reserved)

/-- The map of a die, read without an observation. -/
def dieMap (s : State) (g : GroupSlot) (k : Nat) : List MapEnt :=
  let f := descOf s g k
  let part := (partOfDie s k).getD 0xFF
  match addrF f.aux with
  | some a => mapOf (placeLoadN s (addrPlace s part a) a.off (8 * blocksOf f))
  | none => []

/-- The local flag at call entry, as the detail of a mismatch: 0 when everything holds (R471, R506). -/
def localDetail (s : State) (g : GroupSlot) : Nat :=
  let sigs := (slotDies g).map (fun k => signature g (descOf s g k))
  if sigs.any (fun x => decide (x ≠ sigs.headD 0)) then 2
  else if (callDesc s g).op ≠ 6 then 0
  else if (slotDies g).any (fun k => !mapValid g (descOf s g k) (dieMap s g k)) then 3
  else if (slotDies g).any (fun k =>
      let f := descOf s g k
      decide (f.scrlen < (movingOf (rankOf s g k) (dieMap s g k)).length * blockBytes f)) then 4
  else 0

/-- The dimension of the agreement stage that a slot is at. -/
def dimNow (g : GroupSlot) : Option Nat := (setBits 13 g.dims)[g.dimAt]?
/-- The partner across that dimension. -/
def partnerNow (s : State) (g : GroupSlot) : Option Nat :=
  (dimNow g).map (fun d => jobAddress s ^^^ 2 ^ d)

/-- Send the AGREE of the stage a slot is at (R471). -/
def sendAgree (s : State) (i : Nat) : State :=
  let g := slotOf s i
  match partnerNow s g with
  | some a =>
    sendControl (updSlot s i (fun x => { x with agreeAt := s.now })) 8 a 8 8 0
      (Config.ctrlPayload 8 [1, g.gid.toNat, g.call.toNat, g.sig, g.ok.toNat])
  | none => s

/-- Request the blocks of the moving entries that lie at other members (R495). -/
def requestBlocks (s : State) (i : Nat) : State :=
  let g := slotOf s i
  if (callDesc s g).op ≠ 6 then s
  else (slotDies g).foldl (fun t k =>
    (movingOf (rankOf s g k) (dieMap s g k)).foldl (fun u e =>
      let c := e.2.srank / max (slotD g) 1
      if c = slotCoord s g then u
      else sendControl u 8 (memberAt s g c) 8 8 0 (Config.ctrlPayload 8 [3, g.gid.toNat, g.call.toNat, e.2.srank, e.2.sblk])) t) s

/-- The agreement round has ended (R471, R473): the data phases begin, or the call ends with MISMATCH. -/
def agreementDone (s : State) (i : Nat) : State :=
  let g := slotOf s i
  if g.ok then
    offerCall (requestBlocks (updSlot s i (fun x => { x with
      agreed := true, st := .running, phase := if (callDesc s g).op = 6 then 3 else if (callDesc s g).op = 1 ∨ (callDesc s g).op = 2 ∨ (callDesc s g).op = 5 then 1 else 2
      step := 0#16, progressAt := s.now, done := false })) i) i false
  else endCall s i 1 (if localDetail s g = 0 then 1 else localDetail s g)

/-- Take the stages whose partner's AGREE is here; at most as many as there are dimensions. -/
def advanceAgree (i : Nat) : Nat → State → State
  | 0, s => s
  | n + 1, s =>
    let g := slotOf s i
    match partnerNow s g with
    | none => agreementDone s i
    | some a =>
      match g.agrees.find? (fun r => decide (r.peer = a ∧ r.call = g.call.toNat)) with
      | none => s
      | some r =>
        let s1 := updSlot s i (fun x => { x with
          ok := x.ok && r.ok && decide (r.sig = x.sig), dimAt := x.dimAt + 1, progressAt := s.now })
        let s2 := match partnerNow s1 (slotOf s1 i) with
          | some _ => sendAgree s1 i
          | none => s1
        advanceAgree i n s2

/-- The maps of a PERMUTE are read at its entry (R471, R503): the access that failed, if any. -/
def callMaps (s : State) (g : GroupSlot) : State × Option Nat :=
  if (callDesc s g).op = 6 then
    let r := collReads g.owner.toNat .clean ((slotDies g).map (fun k => ((descOf s g k).aux, 8 * blocksOf (descOf s g k)))) s
    (r.1, r.2.1)
  else (s, none)

/-- CALL_BEGIN (R467, R471, R501 to R503): every participating die has registered the call; a fence, a held notice or a map
that cannot be read ends it at entry, otherwise the agreement round runs. -/
def execCallBegin (i : Fin 64) (s : State) : Host.Outcome State Fault Refusal :=
  let g := slotOf s i.val
  if (g.st = .idle ∨ g.st = .ending) ∧ g.owner ≠ 0xFF#8 ∧ g.dmask ≠ 0 ∧
      (slotDies g).all (fun k => (regOfDie g k).isSome) = true then
    let g1 := { g with threshold := s.cle.threshold, interval := s.cle.interval }
    let sig := signature g1 (callDesc s g1)
    let s1 := updSlot s i.val (fun x => { x with
      st := .agreeing, threshold := s.cle.threshold, interval := s.cle.interval, phase := 0, dimAt := 0
      desc := ((regOfDie g ((slotDies g).headD 0)).map (fun r => r.desc)).getD 0
      sig := sig, ok := decide (localDetail s g1 = 0), agreed := false, step := 0#16, beginAt := s.now, progressAt := s.now
      stragRaised := false, done := false, replayed := false })
    if groupFenced s g then .next (endCall s1 i.val 2 0)
    else match heldAbort g with
      | some st => .next (endCall s1 i.val st 0)
      | none => match callMaps s1 g with
        | (t, some e) => .next (endCall t i.val 4 e)
        | (t, none) => .next (advanceAgree i.val 14 (sendAgree (if opensEarly (callDesc t (slotOf t i.val)) then offerCall t i.val true else t) i.val))
  else .next s

/-- AGREE_RECEIVED (R471): kept for the current call and the next seven; the round advances. -/
def execAgreeReceived (i : Fin 64) (peer : U16) (call : U32) (sig : U64) (ok : Bool) (s : State) :
    Host.Outcome State Fault Refusal :=
  let g := slotOf s i.val
  if g.owner = 0xFF#8 ∨ ingressClosed s = true ∨ fenced s peer.toNat = true ∨ call.toNat < g.call.toNat ∨
      g.call.toNat + 7 < call.toNat then .next s
  else
    let r : AgreeRec := { peer := peer.toNat, call := call.toNat, sig := sig.toNat, ok := ok }
    let s1 := updSlot s i.val (fun x => { x with
      agrees := x.agrees.filter (fun a => !decide (a.peer = r.peer ∧ a.call = r.call)) ++ [r] })
    .next (if g.st = .agreeing then advanceAgree i.val 14 s1 else s1)

/-- AGREE_REPEAT (R471): 100 µs after the last, while the partner's has not come. -/
def execAgreeRepeat (i : Fin 64) (s : State) : Host.Outcome State Fault Refusal :=
  let g := slotOf s i.val
  if g.st = .agreeing then .next (sendAgree (advanceTo s (g.agreeAt + 100000)) i.val) else .next s

/-! ### Reduction in the fixed order (R474 to R479) -/

/-- A source element as an FP32 code (R474, R49). -/
def to32 (fmt code : Nat) : Nat := (convert (fmtD fmt) .fp32 .rne 0 code).1
/-- One combining step: an FP32 sum rounded to nearest even, or an exact selection. -/
def combine (redop a b : Nat) : Nat :=
  let x := readNum .fp32 a
  let y := readNum .fp32 b
  match redop with
  | 0 => (roundExact .fp32 .rne 0 (addExact x y)).1
  | 1 => (roundExact .fp32 .rne 0 (exactOf (maxNum x y))).1
  | _ => (roundExact .fp32 .rne 0 (exactOf (minNum x y))).1

/-- Elements of a packed array. -/
def elemsOf (fmt : Nat) (bytes : List Byte) : List Nat :=
  let w := elemBytes fmt
  (List.range (bytes.length / w)).map (fun i => leNat ((bytes.drop (w * i)).take w))

/-- Fold a nonempty list of vectors in order (R476). -/
def foldVecs (redop : Nat) : List (List Nat) → List Nat
  | [] => []
  | v :: vs => vs.foldl (fun a b => List.zipWith (combine redop) a b) v

/-- The block that holds an element: the cut of a length into parts at floor(b N ÷ P) (R477). -/
def partOfElem (n parts e : Nat) : Nat := ((e + 1) * parts - 1) / max n 1

/-- The ring and block of element e of N over P members. -/
def ringOfElem (n p nr e : Nat) : Nat × Nat :=
  let b := partOfElem n p e
  let lo := b * n / p
  let hi := (b + 1) * n / p
  (partOfElem (hi - lo) nr (e - lo), b)

/-- One element by RING: the terms in ring order from the position after the owner's (R477). -/
def ringElem (redop n p nr e : Nat) (x : Nat → Nat) : Nat :=
  if nr = 0 then x 0
  else
    let (r, b) := ringOfElem n p nr e
    let pos := ringPos nr r b
    ((List.range (p - 1)).map (fun k => x (ringCoord nr r ((pos + k + 2) % p)))).foldl (combine redop)
      (x (ringCoord nr r ((pos + 1) % p)))

/-- One stage of BUTTERFLY over all members: partners in pairs, the lower coordinate first (R478). -/
def pairUp (f : Nat → Nat → Nat) : List Nat → List Nat
  | a :: b :: rest => f a b :: pairUp f rest
  | l => l
def butterflyElem (redop nr : Nat) (xs : List Nat) : Nat :=
  ((List.range nr).foldl (fun l _ => pairUp (combine redop) l) xs).headD 0

/-- One reduced element, before its final rounding. -/
def reduceElem (redop alg n p nr : Nat) (vecs : List (List Nat)) (e : Nat) : Nat :=
  if alg = 2 then butterflyElem redop nr (vecs.map (fun v => v.getD e 0))
  else ringElem redop n p nr e (fun c => (vecs.getD c []).getD e 0)

/-- The final rounding of an element (R474). -/
def finish32 (dfmt rmode code : Nat) : Nat × Byte := convert .fp32 (fmtD dfmt) (rmD rmode) 0 code

/-- The slot runs the data phases of an operation. -/
def runsOp (s : State) (i op : Nat) : Bool :=
  let g := slotOf s i
  decide (g.st = .running) && decide ((callDesc s g).op = op) && !g.done

/-- The data phases are finished. -/
def dataDone (s : State) (i : Nat) (num : Byte) : State :=
  updSlot s i (fun x => { x with done := true, numeric := num, progressAt := s.now })

/-- Sources of the participating dies. -/
def readSources (s : State) (g : GroupSlot) (rd : ReadObs) : State × Option Nat × List (List Byte) :=
  let part := g.owner.toNat
  collReads part rd ((slotDies g).map (fun k => let f := descOf s g k; (f.src, f.count * elemBytes f.sfmt))) s

/-- Write a destination of every participating die. -/
def writeDests (s : State) (g : GroupSlot) (bytes : Nat → List Byte) : State × Option Nat :=
  collWrites g.owner.toNat (((slotDies g).map (fun k => ((descOf s g k).dst, bytes k))).filter (fun w => decide (w.1 ≠ 0))) s

/-- End a data phase: what was written, or the access that failed (TIER_ERROR with its R252 code). -/
def settleData (i : Nat) (num : Byte) : State × Option Nat → State
  | (s, none) => dataDone s i num
  | (s, some e) => endCall s i 4 e

/-- The contributions of every coordinate: this member's fold, the others' vectors as they came (R476). -/
def contributions (own : Nat) (fold : List Nat) (peers : List (List Byte)) : List (List Nat) :=
  (List.range peers.length).map (fun c => if c = own then fold else elemsOf 4 (peers.getD c []))

/-- Every other member's data is here, of the length that is due. -/
def peersHere (p own len : Nat) (peers : List (List Byte)) : Bool :=
  decide (peers.length = p) && (List.range p).all (fun c => decide (c = own) || decide ((peers.getD c []).length = len))

/-- The elements reduced: all of them with final rounding, and the status of this member's roundings. -/
def reduceAll (g : GroupSlot) (f : CollF) (own lo len : Nat) (vecs : List (List Nat)) : List Nat × Byte :=
  let p := slotP g
  let nr := (setBits 13 g.dims).length
  let alg := if f.op = 1 then resolvedAlg g f else 1
  (List.range len).foldl (fun acc j =>
    let e := lo + j
    let (c, st) := finish32 f.dfmt f.rmode (reduceElem f.redop alg f.count p nr vecs e)
    let mine := decide (alg = 2) || decide (p = 1) || decide ((ringOfElem f.count p nr e).2 = own)
    (acc.1 ++ [c], if mine then acc.2 ||| st else acc.2)) ([], 0#8)

/-- ALLREDUCE (R474 to R478): `peers` holds each coordinate's folded vector of FP32 values (this member's own ignored). -/
def execAllreduce (i : Fin 64) (peers : List (List Byte)) (rd : ReadObs) (s : State) : Host.Outcome State Fault Refusal :=
  let g := slotOf s i.val
  let f := callDesc s g
  let own := slotCoord s g
  if runsOp s i.val 1 && peersHere (slotP g) own (4 * f.count) peers then
    match readSources s g rd with
    | (s1, some e, _) => .next (endCall s1 i.val 4 e)
    | (s1, none, srcs) =>
      let fold := foldVecs f.redop (srcs.map (fun b => (elemsOf f.sfmt b).map (to32 f.sfmt)))
      let (codes, st) := reduceAll g f own 0 f.count (contributions own fold peers)
      let bytes := codes.flatMap (leBytes (elemBytes f.dfmt))
      .next (settleData i.val st (writeDests s1 g (fun _ => bytes)))
  else .next s

/-- REDUCESCATTER (R479). -/
def execReducescatter (i : Fin 64) (peers : List (List Byte)) (rd : ReadObs) (s : State) : Host.Outcome State Fault Refusal :=
  let g := slotOf s i.val
  let f := callDesc s g
  let own := slotCoord s g
  if runsOp s i.val 2 && peersHere (slotP g) own (4 * f.count) peers then
    match readSources s g rd with
    | (s1, some e, _) => .next (endCall s1 i.val 4 e)
    | (s1, none, srcs) =>
      let fold := foldVecs f.redop (srcs.map (fun b => (elemsOf f.sfmt b).map (to32 f.sfmt)))
      let blk := f.count / slotP g
      let share := blk / max (slotD g) 1
      let (codes, st) := reduceAll g f own (own * blk) blk (contributions own fold peers)
      .next (settleData i.val st (writeDests s1 g (fun k =>
        ((codes.drop (dieRank g.dmask k * share)).take share).flatMap (leBytes (elemBytes f.dfmt)))))
  else .next s

/-- ALLGATHER (R479): `peers` holds each coordinate's sources, its dies' in rank order. -/
def execAllgather (i : Fin 64) (peers : List (List Byte)) (rd : ReadObs) (s : State) : Host.Outcome State Fault Refusal :=
  let g := slotOf s i.val
  let f := callDesc s g
  let own := slotCoord s g
  if runsOp s i.val 3 && peersHere (slotP g) own (slotD g * f.count * elemBytes f.sfmt) peers then
    match readSources s g rd with
    | (s1, some e, _) => .next (endCall s1 i.val 4 e)
    | (s1, none, srcs) =>
      let all_ := ((List.range (slotP g)).map (fun c => if c = own then srcs.flatten else peers.getD c [])).flatten
      .next (settleData i.val 0#8 (writeDests s1 g (fun _ => all_)))
  else .next s

/-- Send a message on a multicast entry (R447): every cell goes across each OUT dimension, and is kept until every
destination has acknowledged it (R448). A member whose ingress is closed injects none (R451). -/
def sendTree (s : State) (i ep : Nat) (entry : Nat) (data : List Byte) : State :=
  let e := mcOf s entry
  let o : FlowOut := { newFlowOut s ep (s.fabric.member.toNat) ep e.fslot e.vcm (treeSeq s ep entry) (.cle i) with tree := some entry }
  let cs := messageCells s o 0 data 0
  let s1 := updFabric s (fun x => { x with
    flowsOut := x.flowsOut ++ [{ o with cells := cs, next := cs.length }]
    nextSeq := assignNat (treeKey ep entry) ((o.first + cs.length) % 2 ^ 24) x.nextSeq })
  if ingressClosed s then cs.foldl (fun t _ => dropRoute t) s1 else cs.foldl (fun t c => mcastForward t c.2 none) s1

/-- BROADCAST (R492): the root's source at every rank; `data` is what came from a root at another member. -/
def execBroadcast (i : Fin 64) (data : List Byte) (rd : ReadObs) (s : State) : Host.Outcome State Fault Refusal :=
  let g := slotOf s i.val
  let f := callDesc s g
  let len := f.count * elemBytes f.sfmt
  if runsOp s i.val 4 then
    match (slotDies g).find? (fun k => decide (rankOf s g k = f.root)) with
    | some k =>
      match collRead s g.owner.toNat (descOf s g k).src len rd with
      | (s1, some e, _) => .next (endCall s1 i.val 4 e)
      | (s1, none, bytes) =>
        let s2 := if f.mcen then sendTree s1 i.val 8 f.mcidx bytes else s1
        .next (settleData i.val 0#8 (writeDests s2 g (fun _ => bytes)))
    | none =>
      if data.length = len then .next (settleData i.val 0#8 (writeDests s g (fun _ => data))) else .next s
  else .next s

/-! ### NORM (R486 to R491) -/

/-- A contribution as a tray (R487). -/
def normValue (n : Nat) : Tray :=
  { Tray.fresh with value := BitVec.ofNat 560 n, nan := n.testBit 560, pinf := n.testBit 561, ninf := n.testBit 562,
                    sat := n.testBit 563, neg0 := false, res := BitVec.ofNat 7 (fold127 (BitVec.ofNat 560 n).toInt) }

/-- The exact adder (R488): the sum of the values, the side bits ORed. -/
def normAdd (a b : Tray) : Tray :=
  let x : TreeSum := { TreeSum.zero with v := b.value.toInt, nan := b.nan, pinf := b.pinf, ninf := b.ninf, notNeg0 := true }
  let t := (trayAdd a x false).1
  { t with sat := t.sat || b.sat }

/-- One stage of the exchange over trays with their LONG bits. -/
def pairNorm : List (Tray × Bool) → List (Tray × Bool)
  | (a, l) :: (b, m) :: rest => (normAdd a b, l || m) :: pairNorm rest
  | l => l

/-- S < 0. -/
def normNeg (t : Tray) : Bool := !t.pinf && (t.ninf || decide (t.value.toInt < 0))

/-- CLIP ÷ √S rounded once, for S = v 2^-266 > 0 and CLIP = m 2^e. -/
def clipOver (m : Nat) (e : Int) (v : Nat) : Nat :=
  let n := m * m * 2 ^ 800
  let r := isqrt (n / v)
  (roundExact .fp32 .rne 0 (.real false r (e + 133 - 400) (decide (r * r * v ≠ n)))).1

/-- S ≤ CLIP² exactly, for a finite S = v 2^-266. -/
def withinClip (v : Int) (clip : Nat) : Bool :=
  match readNum .fp32 clip with
  | .fin _ m e => decide (v * 2 ^ (if 2 * e + 266 < 0 then (-(2 * e + 266)).toNat else 0) ≤
      (m * m * 2 ^ (if 2 * e + 266 < 0 then 0 else (2 * e + 266).toNat) : Nat))
  | _ => true

/-- NORM and GSCALE of S (R489). -/
def normOf (t : Tray) : Nat :=
  if t.nan || normNeg t then nanCode .fp32
  else if t.pinf || t.sat then infCode .fp32
  else (roundExact .fp32 .rne 0 (let (r, k, st) := sqrtMag t.value.toNat (-266); .real false r k st)).1
def gscaleOf (t : Tray) (clip : Nat) : Nat :=
  let norm := normOf t
  if norm = nanCode .fp32 then norm
  else if clip = infCode .fp32 ∨ (!t.sat && !t.pinf && !t.ninf && withinClip t.value.toInt clip) = true then 0x3F800000
  else if norm = infCode .fp32 then 0
  else match readNum .fp32 clip with
    | .fin _ m e => clipOver m e t.value.toNat
    | _ => 0x3F800000

/-- The 16-byte result block (R489). -/
def normBlock (t : Tray) (long : Bool) (clip : Nat) : Nat :=
  (drainTray .fp32 .rne 0 { t with neg0 := false }).1 + normOf t * 2 ^ 32 + gscaleOf t clip * 2 ^ 64 +
    t.nan.toNat * 2 ^ 96 + (t.pinf || t.ninf).toNat * 2 ^ 97 + t.sat.toNat * 2 ^ 98 + long.toNat * 2 ^ 99 +
    (normNeg t).toNat * 2 ^ 100

/-- The park records that a die contributes (R486): read, and checked by their residues. -/
def readRecords (s : State) (g : GroupSlot) (rd : ReadObs) : State × Option Nat × List (Tray × Bool) :=
  let places := (slotDies g).flatMap (fun k => let f := descOf s g k; (setBits 8 f.parkMask).map (fun a => (8 * k + a, f.pslot)))
  places.foldl (fun acc p =>
    match acc with
    | (t, some e, l) => (t, some e, l)
    | (t, none, l) =>
      let (t1, e) := readCheck t (.buf p.1) (131072 * p.2) 136 (if l.isEmpty then rd else .clean)
      match e with
      | some (_, k) => (t1, some (errStatus k), l)
      | none =>
        let bytes := placeLoadN t1 (.buf p.1) (131072 * p.2) 136
        let img := trayOfImage (leNat (bytes.take 72))
        if !img.sat && decide (img.res.toNat % 127 ≠ fold127 img.value.toInt) then (t1, some 0, l)
        else (t1, none, l ++ [(img, (leNat (bytes.drop 72)).testBit 40)])) (s, none, [])

/-- NORM (R486 to R490): `peers` holds each coordinate's 71-byte value (this member's own ignored). -/
def execNorm (i : Fin 64) (peers : List (List Byte)) (rd : ReadObs) (s : State) : Host.Outcome State Fault Refusal :=
  let g := slotOf s i.val
  let f := callDesc s g
  let own := slotCoord s g
  if runsOp s i.val 5 && peersHere (slotP g) own 71 peers then
    match readRecords s g rd with
    | (s1, some e, _) => .next (endCall s1 i.val 4 e)
    | (s1, none, recs) =>
      let zero : Tray × Bool := (normValue 0, false)
      let mine := recs.foldl (fun a b => (normAdd a.1 b.1, a.2 || b.2)) zero
      let all_ := (List.range (slotP g)).map (fun c =>
        if c = own then mine else let n := leNat (peers.getD c []); (normValue n, n.testBit 564))
      let (t, long) := ((setBits 13 g.dims).foldl (fun l _ => pairNorm l) all_).headD zero
      let blk := leBytes 16 (normBlock t long f.clip)
      let s2 := updSlot s1 i.val (fun x => { x with gscale := BitVec.ofNat 32 (gscaleOf t f.clip) })
      .next (settleData i.val 0#8 (writeDests s2 g (fun _ => blk)))
  else .next s

/-! ### PERMUTE and KVRING (R493 to R497) -/

/-- PERMUTE (R495, fetch): every moving block lands in its scratch slot. `blocks` holds, die by die in rank order, the
blocks of the moving entries in map order; those of this member's own ranks are read here. -/
def execPermute (i : Fin 64) (blocks : List (List (List Byte))) (rd : ReadObs) (s : State) : Host.Outcome State Fault Refusal :=
  let g := slotOf s i.val
  let d := slotD g
  let own := slotCoord s g
  let jobs : List (Nat × Nat × MapEnt × List Byte) := (slotDies g).flatMap (fun k =>
    let mv := movingOf (rankOf s g k) (dieMap s g k)
    (List.range mv.length).map (fun m => (k, m, (mv.getD m (0, mapEnt 0)).2, ((blocks.getD (dieRank g.dmask k) []).getD m []))))
  let here : Bool := jobs.all (fun j => decide (j.2.2.1.srank / max d 1 = own) ||
    decide (j.2.2.2.length = blockBytes (descOf s g j.1)))
  if runsOp s i.val 6 && decide (g.phase = 3) && here then
    let (s1, err) := jobs.foldl (fun acc j =>
      match acc with
      | (t, some e) => (t, some e)
      | (t, none) =>
        let f := descOf s g j.1
        let n := blockBytes f
        let dstA := f.scratch + j.2.1 * n
        if j.2.2.1.srank / max d 1 = own then
          let k := (slotDies g).getD (j.2.2.1.srank % max d 1) 0
          match collRead t g.owner.toNat ((descOf s g k).src + j.2.2.1.sblk * n) n rd with
          | (u, some e, _) => (u, some e)
          | (u, none, bs) => collWrite u g.owner.toNat dstA bs
        else collWrite t g.owner.toNat dstA j.2.2.2) (s, none)
    match err with
    | some e => .next (endCall s1 i.val 4 e)
    | none => .next (sendAgree (updSlot s1 i.val (fun x => { x with phase := 4, step := 0#16, dimAt := 0, progressAt := s.now })) i.val)
  else .next s

/-- PERMUTE_FETCH_REQUEST (R495): a member asks for a block of a rank of this member; it is answered from the rank's SRC
by a flow on VC3 into the slot that the request names. -/
def execPermuteFetchRequest (i : Fin 64) (peer : U16) (slot : Fin 4096) (first : Fin 16777216) (rank : Fin 8) (blk : U32)
    (rd : ReadObs) (s : State) : Host.Outcome State Fault Refusal :=
  let g := slotOf s i.val
  let k := (slotDies g).getD rank 0
  let f := descOf s g k
  if g.st = .running ∧ (callDesc s g).op = 6 ∧ g.agreed = true ∧ rank.val < slotD g ∧ blk.toNat < blocksOf f ∧
      (otherMembers s g).contains peer.toNat = true ∧ fenced s peer.toNat = false then
    match collRead s g.owner.toNat (f.src + blk.toNat * blockBytes f) (blockBytes f) rd with
    | (s1, some e, _) => .next (endCall s1 i.val 4 e)
    | (s1, none, bs) =>
      let o := newFlowOut s1 8 peer.toNat 8 slot 3 first (.cle i.val)
      .next (sendMessage (updFabric s1 (fun x => { x with flowsOut := x.flowsOut ++ [o] })) o bs 0)
  else .next s

/-- COMPLETION_ROUND_END (R495, copy): every member has landed its blocks; this one copies its own. -/
def execCompletionRoundEnd (i : Fin 64) (rd : ReadObs) (s : State) : Host.Outcome State Fault Refusal :=
  let g := slotOf s i.val
  if runsOp s i.val 6 && decide (g.phase = 4) then
    let s0 := updSlot s i.val (fun x => { x with phase := 5, step := 0#16, progressAt := s.now })
    let jobs : List (Nat × Nat × Nat) := (slotDies g).flatMap (fun k =>
      let f := descOf s g k
      let n := blockBytes f
      let mp := dieMap s g k
      let mv := movingOf (rankOf s g k) mp
      ((List.range mv.length).map (fun m => (f.scratch + m * n, f.dst + (mv.getD m (0, mapEnt 0)).1 * n, n))) ++
        (if f.dst = f.src then [] else
          ((List.range mp.length).filter (fun j => !(mv.any (fun e => decide (e.1 = j))))).map (fun j => (f.src + j * n, f.dst + j * n, n))))
    let (s1, err) := jobs.foldl (fun acc j =>
      match acc with
      | (t, some e) => (t, some e)
      | (t, none) =>
        match collRead t g.owner.toNat j.1 j.2.2 rd with
        | (u, some e, _) => (u, some e)
        | (u, none, bs) => collWrite u g.owner.toNat j.2.1 bs) (s0, none)
    .next (settleData i.val 0#8 (s1, err))
  else .next s

/-- KVRING (R497): `recv` holds, die by die in rank order, the source of the same die at the ring position the data comes
from; with one member SRC is copied. -/
def execKvring (i : Fin 64) (recv : List (List Byte)) (rd : ReadObs) (s : State) : Host.Outcome State Fault Refusal :=
  let g := slotOf s i.val
  let f := callDesc s g
  let len := f.count * elemBytes f.sfmt
  if runsOp s i.val 7 && (decide (slotP g = 1) || (decide (recv.length = slotD g) && recv.all (fun b => decide (b.length = len)))) then
    match readSources s g rd with
    | (s1, some e, _) => .next (endCall s1 i.val 4 e)
    | (s1, none, srcs) =>
      let data := if slotP g = 1 then srcs else recv
      .next (settleData i.val 0#8 (writeDests s1 g (fun k => data.getD (dieRank g.dmask k) [])))
  else .next s

/-- BARRIER (R465): agreement only; the call has no data phase. -/
def execBarrier (i : Fin 64) (s : State) : Host.Outcome State Fault Refusal :=
  if (slotOf s i.val).st = .running ∧ (callDesc s (slotOf s i.val)).op = 0 then .next (dataDone s i.val 0#8) else .next s

/-- Everything that a call has sent is acknowledged, by every destination of its tree (R448, R452). -/
def callFlowsDone (s : State) (i : Nat) : Bool :=
  s.fabric.flowsOut.all (fun o => decide (o.use ≠ .cle i) || (o.tree.isNone && decide (o.low = o.next)))

/-- CALL_END (R467): a call whose data phases are finished, and whose cells are acknowledged, ends with OK. -/
def execCallEnd (i : Fin 64) (s : State) : Host.Outcome State Fault Refusal :=
  if (slotOf s i.val).st = .running ∧ (slotOf s i.val).done = true ∧ callFlowsDone s i.val = true then .next (endCall s i.val 0 0) else .next s

/-! ### Steps, replays and adder lanes (R480 to R483) -/

/-- The lane that replays a step: the lowest in service other than the failing one. -/
def replayLane (s : State) (l : Nat) : Option Nat := (List.range 16).find? (fun k => decide (k ≠ l) && vget s.cle.lanes k false)

/-- A lane leaves service (R482, R483); with the last one the CLE leaves service. -/
def cleLaneOut (s : State) (l : Nat) (inj : Bool) : State :=
  let s1 := { s with cle := { s.cle with lanes := vset s.cle.lanes l false } }
  let s2 := addFault (raise s1 0x74 ukCLELANE l 0 inj) ukCLELANE l 0x74 inj
  if s2.cle.lanes.any (fun x => x) then s2 else exposuresLose (unitLeaves s2 ukCLELANE l) (fun i => decide (i = 82))

/-- The lane whose armed CLE_RESIDUE point fires at the next add (R733, 06h), and whether its proof run is to fail. -/
def cleInjection (s : State) : Option (Nat × Bool) :=
  ((List.range 16).filter (fun l => vget s.cle.lanes l false)).findSome? (fun l => (injArmed s 6 ukCLELANE l).map (fun x => (l, x.2)))

/-- The residue error a step meets: the lane, whether it is injected, and whether its self-check is to fail. -/
def stepResidue (s : State) (residue : Option Nat) : State × Option (Nat × Bool × Bool) :=
  match cleInjection s with
  | some (l, per) => match residue with
    | some k => (injFired s 6, some (k, false, false))
    | none => (injFired s 6, some (l, true, per))
  | none => (s, residue.map (fun k => (k, false, false)))

/-- CLE_STEP_DONE (R480 to R483). `residue`: the lane whose check failed, if any; `replayOk`: the replay passes. Only a
reduction's steps have adds and checks. -/
def execCleStepDone (i : Fin 64) (residue : Option (Fin 16)) (replayOk : Bool) (s : State) : Host.Outcome State Fault Refusal :=
  let g := slotOf s i.val
  if g.st ≠ .running then .next s
  else
    let next (t : State) : State := updSlot t i.val (fun x => { x with step := x.step + 1#16, progressAt := t.now, replayed := false })
    match (if (callDesc s g).op ∈ [1, 2, 5] then stepResidue s (residue.map Fin.val) else (s, none)) with
    | (s0, none) => .next (next s0)
    | (s0, some (l, inj, per)) =>
      let s1 := { s0 with cle := { s0.cle with replays := bump s0.cle.replays } }
      let s2 := raise (updSlot s1 i.val (fun x => { x with replayed := true })) 0x73 ukCLELANE l i.val inj
      let s3 := enqueueProof (fun t => cleLaneOut t l inj) s2 (.cleLane l) inj per
      if replayOk && (replayLane s l).isSome then .next (next s3) else .next (endCall s3 i.val 3 0)

/-- CLE_LANE_SELFCHECK_DONE (R482, R726): the self-check of the lane first in the CLE's queue ends. -/
def execCleLaneSelfcheckDone (l : Fin 16) (passed : Bool) (s : State) : Host.Outcome State Fault Refusal :=
  match (s.ev.proofs.filter (fun p => decide (sliceTester p.slice = sliceTester (.cleLane l)))).head? with
  | none => .next s
  | some p =>
    if p.slice ≠ .cleLane l then .next s
    else
      let ok := passed && !p.persist
      let s1 := { s with ev := { s.ev with proofs := s.ev.proofs.filter (fun q => decide (q.slice ≠ .cleLane l)) } }
      let s2 := raise s1 (if ok then 0x01 else 0x02) ukCLELANE l 6 p.inj
      .next (if ok || !vget s2.cle.lanes l.val false then s2 else cleLaneOut s2 l p.inj)

/-! ### Stragglers (R498) -/

/-- The straggler interval of a group in ms. -/
def stragMs (g : GroupSlot) : Nat := if g.strag = 0 then g.interval.toNat else g.strag

/-- STRAGGLER (R498): no progress for longer than the interval while waiting on a peer; in an agreement the partner of
the stage, in a data phase the peer named. -/
def execStraggler (i : Fin 64) (peer : Fin 8192) (s : State) : Host.Outcome State Fault Refusal :=
  let g := slotOf s i.val
  let who : Option Nat := if g.st = .agreeing then partnerNow s g
    else if g.st = .running ∧ (otherMembers s g).contains peer.val = true then some peer.val else none
  match who with
  | none => .next s
  | some a =>
    if g.stragRaised then .next s
    else
      let s1 := advanceTo s (g.progressAt + 1000000 * stragMs g + 1)
      let s2 := updSlot s1 i.val (fun x => { x with
        stragRaised := true, awaited := BitVec.ofNat 16 a, stragglers := bump x.stragglers })
      .next (raise s2 0x70 ukGROUP i.val (Config.detail 0x70 g.call.toNat a 0))

/-! ### Aborts (R502, R504) -/

/-- The status under which a received ABORT ends a call: TIER_ERROR is received as PEER_FAILED. -/
def receivedStatus (st : Nat) : Nat := if st = 4 then 5 else st

/-- ABORT_RECEIVED (R502): answered; it ends the current call, or is held for a later one. -/
def execAbortReceived (i : Fin 64) (peer : U16) (call : U32) (status : Fin 8) (s : State) : Host.Outcome State Fault Refusal :=
  let g := slotOf s i.val
  if g.owner = 0xFF#8 ∨ ingressClosed s = true ∨ fenced s peer.toNat = true ∨ spreads status.val = false then .next s
  else
    let s1 := sendControl s 8 peer.toNat 8 8 0 (Config.ctrlPayload 8 [4, g.gid.toNat, call.toNat])
    let st := receivedStatus status.val
    if call.toNat < g.call.toNat then .next s1
    else if call.toNat = g.call.toNat ∧ (g.st = .agreeing ∨ g.st = .running) then
      if (callDesc s g).op = 6 ∧ 5 ≤ g.phase then .next s1 else .next (endCall s1 i.val st 0)
    else .next (updSlot s1 i.val (fun x => { x with aborts := x.aborts ++ [{ call := call.toNat, status := st }] }))

/-- ABORT_REPEAT (R502): every 1 ms, up to 100 times. -/
def execAbortRepeat (i : Fin 64) (peer : U16) (s : State) : Host.Outcome State Fault Refusal :=
  let g := slotOf s i.val
  match g.abortsOut.find? (fun a => decide (a.peer = peer.toNat)) with
  | none => .next s
  | some a =>
    let s1 := advanceTo s (a.at_ + 1000000)
    let s2 := sendAbort s1 g a.peer a.call a.status
    let outs := if 100 ≤ a.sent then g.abortsOut.filter (fun b => decide (b ≠ a))
      else g.abortsOut.map (fun b => if b = a then { b with sent := b.sent + 1, at_ := s1.now } else b)
    .next (updSlot s2 i.val (fun x => { x with
      abortsOut := outs, st := if x.st = .ending ∧ outs.isEmpty then .idle else x.st }))

/-- ABORT_ACK_RECEIVED (R502). -/
def execAbortAckReceived (i : Fin 64) (peer : U16) (call : U32) (s : State) : Host.Outcome State Fault Refusal :=
  let outs := (slotOf s i.val).abortsOut.filter (fun b => !decide (b.peer = peer.toNat ∧ b.call = call.toNat))
  .next (updSlot s i.val (fun x => { x with
    abortsOut := outs, st := if x.st = .ending ∧ outs.isEmpty then .idle else x.st }))

/-- A write of 1 to 9200h:0A (R504): the call in progress, or one that a die has registered, ends with ABORTED. -/
def abortCall (s : State) (i : Nat) : State :=
  let g := slotOf s i
  if callOpen g || !g.regs.isEmpty then causeCall s i 6 else s

/-! ### Suspension (R499, R500) -/

/-- The context image of a slot (R500). -/
def callContext (s : State) (i : Nat) : List Byte :=
  let g := slotOf s i
  let ab := heldAbort g
  let body := g.call.toNat + g.step.toNat * 2 ^ 32 + g.phase % 16 * 2 ^ 48 + g.ok.toNat * 2 ^ 52 + g.agreed.toNat * 2 ^ 53 +
    ab.isSome.toNat * 2 ^ 54 + (ab.getD 0) % 256 * 2 ^ 55 + g.desc % 2 ^ 32 * 2 ^ 64 + g.flowBits.getD (packFlows (callFlows s i)) % 2 ^ 1856 * 2 ^ 96
  let b := leBytes 252 body
  b ++ leBytes 4 (crc32c b).toNat

/-- A written context image is taken (R500): its CRC matches and its CALL is the slot's. -/
def contextGood (g : GroupSlot) (img : List Byte) : Bool :=
  decide (leNat (img.drop 252) = (crc32c (img.take 252)).toNat) && decide (leNat (img.take 4) = g.call.toNat) &&
    decide (bits (leNat img) 51 48 ≤ 5)

/-- The first registered COLL of a die takes a descriptor index. -/
def reindex (k desc : Nat) : List CallReg → List CallReg
  | [] => []
  | r :: rs => if r.die = k then { r with desc := desc } :: rs else r :: reindex k desc rs

/-- A written context image (R500). DESC is that of the lowest participating die, whose descriptor is the call's. -/
def writeContext (g : GroupSlot) (img : List Byte) : GroupSlot :=
  let n := leNat img
  { g with
    regs := reindex ((slotDies g).headD 0) (bits n 95 64) g.regs
    step := BitVec.ofNat 16 (bits n 47 32), phase := bits n 51 48, ok := n.testBit 52, agreed := n.testBit 53
    desc := bits n 95 64, flowBits := some (bits n 1951 96)
    aborts := g.aborts.filter (fun a => decide (a.call ≠ g.call.toNat)) ++
      (if n.testBit 54 then [{ call := g.call.toNat, status := bits n 62 55 }] else []) }

/-- The flows of a call as a written context image names them (R500): those it lists as they are stay, those it does not
list close, and the others open at the sequence it gives. -/
def takeFlows (s : State) (i : Nat) (img : Nat) : State :=
  let words := ((List.range 29).map (fun k => bits img (64 * k + 63) (64 * k))).filter (fun w => w ≠ 0)
  let fresh := words.filter (fun w => !(callFlows s i).contains w)
  let s1 := closeOut (closeIn s (fun y => decide (y.use = .cle i) && !words.contains (flowInWord y)))
    (fun o => decide (o.use = .cle i) && !words.contains (flowOutWord o))
  fresh.foldl (fun t w =>
    let slot := bits w 11 0
    let peer := bits w 27 12
    let seq := bits w 51 28
    updFabric t (fun x =>
      if w.testBit 52 then { x with flowsOut := x.flowsOut ++ [newFlowOut t 8 peer 8 slot 1 seq (.cle i)] }
      else { x with flowsIn := x.flowsIn ++ [{ newFlowIn t 8 slot peer 8 (.cle i) with first := seq }] })) s1

/-- RESUME of a partition with its calls (R500): a call whose image holds an abort notice ends at once. -/
def resumePartition (s : State) (p : Nat) : State :=
  let gs := (negOf s p).groups
  gs.foldl (fun t0 i =>
    let t := match (slotOf t0 i).flowBits with
      | some img => updSlot (takeFlows t0 i img) i (fun x => { x with flowBits := none })
      | none => t0
    let g := slotOf t i
    if g.st = .agreeing ∨ g.st = .running then
      match heldAbort g with
      | some st => endCall t i st 0
      | none => if groupFenced t g then endCall t i 2 0 else if g.st = .agreeing then advanceAgree i 14 t else t
    else t) (resumeNeg s p)

end Sys2Proof.Machine
end

