-- ==== Sys2Proof/Machine/HostNet.lean ====
section
/-! DEFINITION. The host Ethernet ports and the RDMA windows (chapter 12): training, MKA and admission, opening and
closing a window, the answers of the host, retransmission, rate control and pauses. -/

namespace Sys2Proof.Machine

/-! ### Ports (R512 to R519) -/

/-- The board address at which an unanswered operation reaches host memory: its window's, at its offset (R213). -/
def opAddr (m : Move) (o : RdmaOp) : Nat :=
  (if o.byte_ = statKey then statAddr m o.tile else if o.write then dstAddr m o.tile else srcAddr m o.tile) / 2 ^ 40 * 2 ^ 40 +
    o.winOff

/-- Operations of a list that serve a move. -/
def opOf (r : Nat) (m : Move) (o : RdmaOp) : Bool := decide (o.reel = r ∧ o.move = m.seqno)

/-- End, with a status, every move that one of the listed operations serves, reel by reel (R519, R527). -/
def endMovesOf (s : State) (ops : List RdmaOp) (status : Nat) : State :=
  (List.range 68).foldl (fun t r => match runningMove t r with
    | none => t
    | some m => match ops.find? (opOf r m) with
      | some o => endMove t r status (opAddr m o)
      | none => t) s

/-- A window's queue pair fails: ERROR, and nothing of it is outstanding (R519, R527). -/
def failWindow (s : State) (w : Nat) : State := updWin s w (fun x => { x with st := .error, ops := [] })

/-- A window in use on a port. -/
def usesPort (x : WindowS) (n : Nat) : Bool :=
  decide ((winF x.desc).port = n) && (decide (x.st = .open_) || decide (x.st = .closing) || decide (x.st = .error))

/-- The controlled port closes (R519): its windows enter ERROR, their moves end with OFFLINE, MACSEC_LOST is raised. -/
def closePort (s : State) (n : Nat) : State :=
  let wins := (List.range 256).filter (fun w => usesPort (winOf s w) n)
  let ops := wins.flatMap (fun w => (winOf s w).ops)
  let s1 := updHport s n (fun p => { p with sak := false })
  raise (endMovesOf (wins.foldl failWindow s1) ops 10) 0x83 ukHOSTPORT n 0

/-- The port's function is not off (R708, R710). -/
def portRuns (s : State) (n : Nat) : Bool :=
  let f := (vget s.sys.funcs (8 + n) FuncS.reset).st
  decide (f = .enabled ∨ f = .enabling)

/-- HOST_LANE_LOCK (R512, step 2). -/
def execHostLaneLock (n : Fin 2) (s : State) : Host.Outcome State Fault Refusal :=
  if portRuns s n ∧ (hportOf s n.val).st = .training then .next (updHport s n.val (fun p => { p with
    lockedAt := if p.locked then p.lockedAt else s.now, locked := true })) else .next s

/-- HOST_LINK_UP (R512 step 3, 2 ms after step 2; R517): ENROLLMENT while the port's host-link key slot is empty. -/
def execHostLinkUp (n : Fin 2) (s : State) : Host.Outcome State Fault Refusal :=
  let p := hportOf s n.val
  if p.st = .training ∧ p.locked = true then
    let st : HostState := if vget s.sec.hostKeys n.val false then .linkUp else .enrollment
    .next (raise (updHport (advanceTo s (p.lockedAt + 2000000)) n.val (fun p => { p with st := st })) 0x80 ukHOSTPORT n.val 0)
  else .next s

/-- HOST_LINK_DOWN (R513): back to TRAINING at step 2. -/
def execHostLinkDown (n : Fin 2) (s : State) : Host.Outcome State Fault Refusal :=
  let st := (hportOf s n.val).st
  if st = .training ∨ st = .fault then .next s
  else
    let s1 := updHport s n.val (fun p => { p with st := .training, locked := false, trainFrom := s.now })
    let s2 := raise s1 0x81 ukHOSTPORT n.val 0
    .next (if st = .secured then closePort s2 n.val else s2)

/-- HOST_TRAINING_FAULT (R514): training has failed for 60 s. -/
def execHostTrainingFault (n : Fin 2) (s : State) : Host.Outcome State Fault Refusal :=
  let p := hportOf s n.val
  if portRuns s n ∧ p.st = .training then
    let s1 := advanceTo s (p.trainFrom + 60000000000)
    .next (updHport s1 n.val (fun p => { p with st := .fault, locked := false, trainFrom := s1.now }))
  else .next s

/-- HOST_TRAINING_RETRY (R514): 10 s after the port entered FAULT. -/
def execHostTrainingRetry (n : Fin 2) (s : State) : Host.Outcome State Fault Refusal :=
  let p := hportOf s n.val
  if p.st = .fault then
    let s1 := advanceTo s (p.trainFrom + 10000000000)
    .next (updHport s1 n.val (fun p => { p with st := .training, locked := false, trainFrom := s1.now }))
  else .next s

/-- MKPDU_RECEIVED (R516, R512 step 4). `sak`: the live peer is found and its SAK is installed both ways. -/
def execMkpduReceived (n : Fin 2) (sak : Bool) (s : State) : Host.Outcome State Fault Refusal :=
  let p := hportOf s n.val
  if p.st = .training ∨ p.st = .fault then .next s
  else
    let s1 := updHport s n.val (fun p => { p with frames := bump p.frames })
    if p.st = .linkUp ∧ sak = true then
      .next (raise (updHport s1 n.val (fun p => { p with st := .secured, sak := true })) 0x82 ukHOSTPORT n.val 0)
    else .next s1

/-- MACSEC_LOST (R519): MKA loses its live peer. -/
def execMacsecLost (n : Fin 2) (s : State) : Host.Outcome State Fault Refusal :=
  if (hportOf s n.val).st = .secured then
    .next (closePort (updHport s n.val (fun p => { p with st := .linkUp })) n.val)
  else .next s

/-- What a port accepts before and after its controlled port opens (R518, R515). -/
def frameAccepted (st : HostState) (kind : FrameKind) (macsecOk : Bool) : Bool :=
  match st, kind with
  | .secured, .eapol => true
  | .secured, _ => macsecOk
  | .linkUp, .eapol => true
  | .enrollment, .eapol => true
  | .enrollment, .eumonSession => true
  | _, _ => false

/-- FRAME_RECEIVED (R513, R515, R518, R535): counted, and counted again when dropped. `fixed` and `lost` are the FEC codewords
of the frame that were corrected and that could not be: one of the latter drops the frame and changes no state. -/
def execFrameReceived (n : Fin 2) (kind : FrameKind) (macsecOk : Bool) (s : State) (fixed lost : Nat := 0) :
    Host.Outcome State Fault Refusal :=
  let p := hportOf s n.val
  if p.st = .training ∨ p.st = .fault then .next s
  else .next (updHport s n.val (fun p => { p with
    corrected := bumpBy p.corrected fixed, uncorr := bumpBy p.uncorr lost
    frames := if lost = 0 then bump p.frames else p.frames
    refused := if lost ≠ 0 ∨ frameAccepted p.st kind macsecOk = true then p.refused else bump p.refused }))

/-- A port's controlled port is open. -/
def portOpen (s : State) (w : Nat) : Bool := decide ((hportOf s (winF (winOf s w).desc).port).st = .secured)

/-- HOST_REQUEST_NAK (R520): a request from the host is answered with an invalid-request NAK and places nothing. -/
def execHostRequestNak (w : Fin 256) (s : State) : Host.Outcome State Fault Refusal :=
  .next (if portOpen s w.val then emit s (.nak w.val) else s)

/-! ### Opening and closing a window (R523 to R525) -/

/-- A descriptor with which a window opens (R524). -/
def descOpens (d : BitVec 512) : Bool := let f := winF d; !f.reserved && (f.rd || f.wr)

/-- Open a closed window for a partition (R521, R524, R528). -/
def openWindow (s : State) (w part : Nat) : State :=
  updWin s w (fun x => { x with
    st := .open_, owner := BitVec.ofNat 8 part, psn := (winF x.desc).rpsn, rate := 100000#32, retrans := 0#32, ops := [],
    cutAt := none, cnpAt := s.now, echoAt := none, pendingOpen := none })

/-- A write of 9300h:02 that its session may make (R524, R525): the new state, or none where the state forbids it. -/
def writeWindowOpen (s : State) (w part v : Nat) : Option State :=
  let x := winOf s w
  if v = 1 then
    match x.st with
    | .closed => if descOpens x.desc then some (openWindow s w part) else none
    | .closing => if x.pendingOpen.isNone then some (updWin s w (fun y => { y with pendingOpen := some part })) else none
    | _ => none
  else
    match x.st with
    | .open_ | .error => some (updWin s w (fun y => { y with st := .closing }))
    | _ => some s

/-- A write of 9300h:01 is taken in this state (R523, R525). -/
def descWritable (x : WindowS) : Bool :=
  match x.st with
  | .closing => false
  | .closed => Config.closedWindowWritable
  | _ => true

/-- A window in CLOSING whose operations are all answered or timed out enters CLOSED, and a pending open runs (R525). -/
def closeDone (s : State) (w : Nat) : State :=
  let x := winOf s w
  if x.st = .closing ∧ x.ops.all (fun o => o.late) = true then
    let s1 := updWin s w (fun y => { y with st := .closed, owner := 0xFF#8, pendingOpen := none, ops := [] })
    match x.pendingOpen with
    | some p => if descOpens x.desc then openWindow s1 w p else s1
    | none => s1
  else s

/-- WINDOW_CLOSE_DONE (R525). -/
def execWindowCloseDone (w : Fin 256) (s : State) : Host.Outcome State Fault Refusal := .next (closeDone s w.val)

/-! ### Answers (R527 to R533) -/

/-- A PSN lies at or before another of the same connection. -/
def psnLe (a b : Nat) : Bool := decide ((b + 2 ^ 24 - a) % 2 ^ 24 < 2 ^ 23)
def lastPsn (o : RdmaOp) : Nat := (o.psn + o.packets - 1) % 2 ^ 24

/-- Every running move whose tiles are done and answered ends (R531). -/
def settleMoves (s : State) (ops : List RdmaOp) : State :=
  (List.range 68).foldl (fun t r => match runningMove t r with
    | none => t
    | some m =>
      if ops.any (opOf r m) && decide ((descF m.desc).nt ≤ m.tile) && moveSettled t r m then endMove t r 0 0 else t) s

/-- RDMA_ACK_RECEIVED (R527, R531): the WRITEs up to a PSN are acknowledged. -/
def execRdmaAckReceived (w : Fin 256) (psn : BitVec 24) (s : State) : Host.Outcome State Fault Refusal :=
  if portOpen s w.val then
    let gone := (winOf s w.val).ops.filter (fun o => o.write && psnLe (lastPsn o) psn.toNat)
    let s1 := updWin s w.val (fun x => { x with ops := x.ops.filter (fun o => !(o.write && psnLe (lastPsn o) psn.toNat)) })
    .next (settleMoves s1 gone)
  else .next s

/-- READ_RESPONSE_RECEIVED (R527, R528, R533): the answer to the READ of a PSN, with its bytes; `ce`: it carries an ECN
mark of CE. -/
def execReadResponseReceived (w : Fin 256) (psn : BitVec 24) (bytes : List Byte) (ce : Bool) (s : State) :
    Host.Outcome State Fault Refusal :=
  let x := winOf s w.val
  match x.ops.find? (fun o => !o.write && decide (o.psn = psn.toNat)) with
  | none => .next s
  | some o =>
    if portOpen s w.val = false ∨ bytes.length ≠ o.len then .next s
    else
      let s1 := updWin s w.val (fun y => { y with ops := y.ops.filter (fun p => decide (p ≠ o)) })
      let s2 := updHport s1 (winF x.desc).port (fun p => { p with received := bumpBy p.received o.len })
      let s3 := match runningMove s2 o.reel with
        | some m => if m.seqno = o.move ∧ m.tile = o.tile then
            updMove s2 o.reel (fun m => { m with parts := m.parts ++ [(o.byte_, bytes)] }) else s2
        | none => s2
      let free : Bool := match x.echoAt with
        | none => true
        | some t => decide (t + 50000 ≤ s.now)
      .next (if ce && free then emit (updWin s3 w.val (fun y => { y with echoAt := some s.now })) (.cnp w.val) else s3)

/-- RDMA_NAK_RECEIVED (R527): a NAK other than receiver-not-ready fails the queue pair. -/
def execRdmaNakReceived (w : Fin 256) (s : State) : Host.Outcome State Fault Refusal :=
  let x := winOf s w.val
  if portOpen s w.val = true ∧ (x.st = .open_ ∨ x.st = .closing) then
    .next (raise (endMovesOf (failWindow s w.val) x.ops 6) 0x84 ukWINDOW w.val 0)
  else .next s

/-- Send again every operation of a window, oldest first (R527). -/
def resendOps (s : State) (w : Nat) : State :=
  let x := winOf s w
  let f := winF x.desc
  let s1 := updWin s w (fun y => { y with
    ops := y.ops.map (fun o => { o with sentAt := s.now }), retrans := bumpBy y.retrans y.ops.length })
  x.ops.foldl (fun t o => emit t (.rdma w o.psn o.write ((f.hva + o.winOff) % 2 ^ 64)
    (if o.write then o.data else (leBytes 4 o.len).reverse))) s1

/-- RDMA_ACK_TIMEOUT (R527): 131 µs after the oldest unanswered operation went, go-back-N. -/
def execRdmaAckTimeout (w : Fin 256) (s : State) : Host.Outcome State Fault Refusal :=
  match (winOf s w.val).ops with
  | [] => .next s
  | o :: _ => if winSends s w.val then .next (resendOps (advanceTo s (o.sentAt + 131000)) w.val) else .next s

/-- CNP_RECEIVED (R528): the rate halves, at most once in 50 µs, to no less than 100 MB/s. -/
def execCnpReceived (w : Fin 256) (s : State) : Host.Outcome State Fault Refusal :=
  let x := winOf s w.val
  if portOpen s w.val = false ∨ x.st = .closed then .next s
  else
    let s1 := updHport s (winF x.desc).port (fun p => { p with cnps := bump p.cnps })
    let cut : Bool := match x.cutAt with
      | none => true
      | some t => decide (t + 50000 ≤ s.now)
    .next (updWin s1 w.val (fun y => { y with
      rate := if cut then BitVec.ofNat 32 (max (y.rate.toNat / 2) 100) else y.rate
      cutAt := if cut then some s.now else y.cutAt
      cnpAt := s.now }))

/-- WINDOW_RATE_INCREASE (R528): 55 µs without a notification adds 1.25 GB/s. -/
def execWindowRateIncrease (w : Fin 256) (s : State) : Host.Outcome State Fault Refusal :=
  let x := winOf s w.val
  if x.st = .closed then .next s
  else
    let s1 := advanceTo s (x.cnpAt + 55000)
    .next (updWin s1 w.val (fun y => { y with
      rate := BitVec.ofNat 32 (min (y.rate.toNat + 1250) 100000), cnpAt := s1.now }))

/-- PFC_FRAME (R528): IEEE 802.1Qbb; a quantum is 512 bit times, 0.64 ns at 800 Gbit/s. -/
def execPfcFrame (n : Fin 2) (prio : Fin 8) (quanta : U16) (s : State) : Host.Outcome State Fault Refusal :=
  if (hportOf s n.val).st = .secured then
    .next (updHport s n.val (fun p => { p with
      pauses := vset p.pauses prio.val (s.now + (quanta.toNat * 16 + 24) / 25) }))
  else .next s

end Sys2Proof.Machine
end

