-- ==== Sys2Proof/Machine/Units.lean ====
section
/-! DEFINITION. Units with a lasting fault: how each stops, leaves service at the next exposure and returns (R29, R662,
R731, R732), and the base links (R26 to R29). -/

namespace Sys2Proof.Machine

/-! ### Which units a fault takes -/

/-- Reels of a die. -/
def dieReels (k : Nat) : List Nat := (List.range 8).map (fun r => 8 * k + r)

/-- The units of R721 that make up CDk with SDk. R721 has no kind for a store die: it is named by the island that holds it, DFX
of CDk (R21). -/
def dieUnits (k : Nat) : List (Nat × Nat) :=
  (List.range 8).map (fun a => (ukARRAY, 8 * k + a)) ++ [(ukVXE, k), (ukSEQ, k)] ++ (dieReels k).map (fun r => (ukREEL, r)) ++
    [(ukISLAND, 10 * k + 9)]

/-- The units that an island carries (R21, R645); the island itself where R721 names no other. -/
def islandUnits (i : Nat) : List (Nat × Nat) :=
  if i < 80 then
    (if i % 10 < 8 then [(ukARRAY, 8 * (i / 10) + i % 10)] else if i % 10 = 8 then [(ukVXE, i / 10)] else dieUnits (i / 10))
  else if i < 82 then [(ukHOSTPORT, i - 80)]
  else if i = 82 then (List.range 16).map (fun l => (ukCLELANE, l))
  else if 88 ≤ i ∧ i < 104 then [(ukCHIPLET, i - 88)]
  else [(ukISLAND, i)]

/-- The die that an island belongs to. -/
def dieOfIsland (i : Nat) : Option Nat := if i < 80 then some (i / 10) else none

/-- What a regulator feeds (R661): units that leave service, or a stack whose channels are to be mapped out. -/
def regulatorUnits (r : Nat) : List (Nat × Nat) :=
  if r < 16 then []
  else if r < 136 then islandUnits (r - 16)
  else if r < 144 then dieUnits (r - 136)
  else if r < 176 then []
  else if r < 208 then [(ukCHIPLET, (r - 176) % 16)]
  else [(ukFLASH, r - 208)]

def regulatorStack (r : Nat) : Option Nat :=
  if 120 ≤ r ∧ r < 136 then some (r - 120) else if 144 ≤ r ∧ r < 176 then some ((r - 144) / 2) else none

/-- The units that a failed link takes (R29). -/
def linkUnits (l : Nat) : List (Nat × Nat) :=
  if l < 8 then dieUnits l else if l < 24 then dieUnits ((l - 8) / 2) else if l < 40 then [(ukISLAND, 80 + l)] else [(ukCHIPLET, l - 40)]
def linkStack (l : Nat) : Option Nat := if 24 ≤ l ∧ l < 40 then some (l - 24) else none

/-- The channels of a stack are set MAPOUT_PENDING (R29, R285, R662). -/
def stackPending (s : State) (j : Nat) : State := (List.range 32).foldl (fun t c => chanPending t (32 * j + c)) s

/-! ### Stopping -/

/-- A reel goes out of service: its running move ends with OFFLINE (R252). -/
def stopReel (s : State) (r : Nat) : State :=
  let s1 := updReel s r (fun x => { x with st := .outOfService })
  match runningMove s1 r with
    | some m => endMove s1 r 10 (accessAddr s1 m)
    | none => s1

/-- An engine goes out of service; its lanes are marked FAILED (R29, R332). The reason no rule gives is a free value. -/
def stopEngine (s : State) (e : Nat) (inj : Bool) : State :=
  let (k, s1) := drawFree s
  let s2 := (lanesOf e).foldl (fun t l => if (laneOf t l).st = .failed then t else failLane t l (Config.freeNat k % 7) inj) s1
  let s3 := match (engOf s2 e).port with
    | some q => unlight s2 q
    | none => s2
  updEng (engineDark s3 e .off) e (fun x => { x with st := .outOfService })

/-- A host port goes out of service. -/
def stopHostPort (s : State) (n : Nat) : State :=
  let was := (hportOf s n).st
  let s1 := updHport s n (fun p => { p with st := .fault, locked := false, trainFrom := s.now })
  if was = .secured then closePort s1 n else s1

/-- A unit with a lasting fault stops at once (R731). -/
def stopUnit (s : State) (uk ui : Nat) (inj : Bool) : State :=
  match uk with
  | 0x01 => if (arrOf s ui).st = .outOfService then s else faultArray s ui none
  | 0x02 => if (vxeOf s ui).st = .outOfService then s else faultVxe s ui
  | 0x03 => loseSequencer s ui none
  | 0x04 => stopReel s ui
  | 0x09 => stopEngine s ui inj
  | 0x0C => stopEngine (stopEngine s (2 * ui) inj) (2 * ui + 1) inj
  | 0x0D => { s with cle := { s.cle with lanes := vset s.cle.lanes ui false } }
  | 0x12 => stopHostPort s ui
  | _ => s

/-- A lasting fault of a unit: it stops, and the fault list names it (R731). -/
def unitFault (s : State) (uk ui code : Nat) (inj : Bool) : State := addFault (stopUnit s uk ui inj) uk ui code inj

def unitFaults (s : State) (us : List (Nat × Nat)) (code : Nat) (inj : Bool) : State :=
  us.foldl (fun t u => unitFault t u.1 u.2 code inj) s

/-! ### Leaving and returning (R731, R732) -/

/-- A unit reads OUT_OF_SERVICE. -/
def markOut (s : State) (uk ui : Nat) : State :=
  match uk with
  | 0x01 => updArr s ui (fun a => { a with st := .outOfService, pass := none })
  | 0x02 => updVxe s ui (fun v => { v with st := .outOfService, kernel := none })
  | 0x03 => updSeq s ui (seqLeaves none)
  | 0x04 => updReel s ui (fun x => { x with st := .outOfService })
  | 0x0F => if ui < 80 ∧ ui % 10 = 9 then updMem s (fun m => { m with storeOut := vset m.storeOut (ui / 10) true }) else s
  | 0x09 => updEng s ui (fun x => { x with st := .outOfService })
  | 0x0C => updEng (updEng s (2 * ui) (fun x => { x with st := .outOfService })) (2 * ui + 1) (fun x => { x with st := .outOfService })
  | _ => s

/-- One unit of the fault list leaves service: its state, the event, the negatives that declare it, and the exposures that
hold writes of its island (R184, R584, R731). -/
def leaveUnit (s : State) (f : FaultEntry) : State :=
  let uk := f.ukind.toNat
  let ui := f.uinst.toNat
  let s1 := unitLeaves (raise (markOut s uk ui) 0x03 uk ui 0 f.inj) uk ui
  exposuresLose s1 (fun i => decide (unitIsland uk ui = some i))

/-- At an exposure's T_c, or at a reset that covers them, units with a lasting fault leave service (R731). -/
def leaveUnits (s : State) (covers : Nat → Nat → Bool) : State :=
  let go (f : FaultEntry) : Bool := f.leaves && covers f.ukind.toNat f.uinst.toNat
  let gone := s.ev.faults.filter go
  let s1 := { s with ev := { s.ev with faults := s.ev.faults.map (fun f => if go f then { f with leaves := false } else f) } }
  gone.foldl leaveUnit s1

/-- The regulators that feed a unit are on again. -/
def feedUnit (s : State) (uk ui : Nat) : State :=
  { s with power := { s.power with regs := Vector.ofFn (fun r : Fin 210 =>
      s.power.regs[r] || (regulatorUnits r.val).contains (uk, ui)) } }

/-- A unit is in service again. -/
def restoreUnit (s0 : State) (uk ui : Nat) : State :=
  let s := feedUnit s0 uk ui
  let engine (t : State) (e : Nat) : State :=
    let t1 := updEng t e (fun x => { x with st := .off })
    let t2 := (lanesOf e).foldl (fun u l => updLane u l (fun x =>
      if x.st = .failed then { x with st := .dark, fail := 0#8, injFail := false, counted := true } else x)) t1
    if (laserOf t2 (e / 2)).st = .on then lightEngine t2 e else engineDark t2 e .off
  match uk with
  | 0x01 => updArr s ui (fun a => { a with st := .idle, bufFault := none, pass := none })
  | 0x02 => updVxe s ui (fun v => { v with st := .idle, kernel := none })
  | 0x03 => updSeq s ui (fun q => { q with st := .idle, lostFor := none })
  | 0x04 =>
    let t := updReel s ui (fun x => { x with st := if x.queue.isEmpty then .idle else if x.queue.any (fun m => m.started) then .moving else .waiting })
    if 64 ≤ ui then startIod t ui else t
  | 0x09 => engine s ui
  | 0x0C => engine (engine s (2 * ui)) (2 * ui + 1)
  | 0x0F => if ui < 80 ∧ ui % 10 = 9 then updMem s (fun m => { m with storeOut := vset m.storeOut (ui / 10) false }) else s
  | 0x0D => { s with cle := { s.cle with lanes := vset s.cle.lanes ui true } }
  | 0x12 => updHport s ui (fun p => { p with st := .training, locked := false, trainFrom := s.now })
  | _ => s

/-- Units whose requalification passed return at an exposure's T_c (R732). -/
def returnUnits (s : State) : State :=
  s.ev.returning.foldl (fun t u => raise (restoreUnit t u.1.toNat u.2.toNat) 0x04 u.1.toNat u.2.toNat 0)
    { s with ev := { s.ev with returning := [] } }

/-- Entries with INJ set clear at a reset that covers their unit (R732). -/
def clearInjFaults (s : State) (covers : Nat → Nat → Bool) : State :=
  let go (f : FaultEntry) : Bool := f.inj && covers f.ukind.toNat f.uinst.toNat
  let gone := s.ev.faults.filter go
  gone.foldl (fun t f => restoreUnit t f.ukind.toNat f.uinst.toNat)
    { s with ev := { s.ev with faults := s.ev.faults.filter (fun f => !go f) } }

/-- Whether a unit of R721 is one that exists: 1 a reserved kind, 2 an instance past the kind's range, 0 otherwise. -/
def unitExists (uk ui : Nat) : Nat :=
  match [1, 64, 8, 8, 68, 3072, 256, 512, 2, 32, 512, 48, 16, 16, 56, 120, 932, 210, 2, 256, 64][uk]? with
  | none => 1
  | some n => if ui < n then 0 else 2

/-- The proof-run kind of a unit (R726); R725 gives none for a unit that no kind tests. -/
def proofKind (uk ui : Nat) : Nat :=
  if uk = ukARRAY then 5 else if uk = ukCLELANE then 6 else if uk = ukLANE then 7
  else if uk = ukVXE ∨ uk = ukSEQ ∨ uk = ukSRAM then 1 else Config.detail 0x01 uk ui 0

/-- The Operator's requalification of a unit on the fault list (R732): on a pass it leaves the list at once and returns
at the next exposure. -/
def requalify (s : State) (uk ui : Nat) (passed : Bool) : State :=
  let s1 := raise s (if passed then 0x01 else 0x02) uk ui (proofKind uk ui)
  if passed then
    { s1 with ev := { s1.ev with
        faults := s1.ev.faults.filter (fun f => !decide (f.ukind.toNat = uk ∧ f.uinst.toNat = ui))
        returning := s1.ev.returning ++ [(BitVec.ofNat 8 uk, BitVec.ofNat 12 ui)] } }
  else s1

/-! ### Base links -/

def linkOf (s : State) (l : Nat) : LinkS := vget s.sys.links l LinkS.reset
def updLink (s : State) (l : Nat) (f : LinkS → LinkS) : State := { s with sys := { s.sys with links := vmod s.sys.links l f } }

/-- Every running move whose access passes over a link that has failed ends with LINK (R252). -/
def endMovesOver (s : State) (l : Nat) : State :=
  (List.range 68).foldl (fun t r => match runningMove t r with
    | some m =>
      (match (moveAddrs m).find? (fun x => (addrF x).any (fun a => (pathLinks t r a 1).contains l)) with
       | some x => endMove t r 7 x
       | none => t)
    | none => t) s

/-- The compute die that a link joins. -/
def dieOfLink (l : Nat) : Option Nat := if l < 8 then some l else if l < 24 then some ((l - 8) / 2) else none

/-- A link fails (R27 to R29): LINK_FAILED, the moves over it end with LINK, a die that it joins fails its step for it (R202),
and what it joins leaves service. An injected failure maps nothing out (R737). -/
def failLink (s : State) (l : Nat) (inj : Bool) : State :=
  let s1 := raise (updLink s l (fun x => { x with failed := true, successive := 0, injected := inj })) 0x07 ukLINK l 0 inj
  let s1a := endMovesOver s1 l
  let s1b := match dieOfLink l with
    | some k => if (runningNeg s1a k).isSome then failStep s1a k frLINK false else s1a
    | none => s1a
  let s2 := unitFaults s1b (linkUnits l) 0x07 inj
  match linkStack l with
  | some j => if inj then s2 else stackPending s2 j
  | none => s2

/-- Spare wires per direction of a base link (R24): CDk to IOD, CDk to its base dies, base dies to IOD, lens chiplets to IOD. -/
def spareWires (l : Nat) : Nat := if l < 8 then 128 else if l < 24 then 256 else if l < 40 then 16 else 32

/-- The wire test of R27 of the links that a test names: each failing wire is replaced with a spare, and a link with more
failing wires than spares in a direction fails. Links that the test does not list have no failing wire. -/
def testWires (s : State) (covers : Nat → Bool) (wires : List WireCount) : State :=
  ((List.range 56).filter covers).foldl (fun t l =>
    if (linkOf t l).failed then t
    else
      let n := ((wires.find? (fun w => decide (w.1.val = l))).map (fun w => w.2)).getD (0, 0)
      if spareWires l < n.1 ∨ spareWires l < n.2 then failLink t l false
      else updLink t l (fun x => { x with spares := n })) s

/-- Links of a compute die: to the IOD and to its base dies. -/
def dieLink (k l : Nat) : Bool := decide (l = k ∨ l = 8 + 2 * k ∨ l = 9 + 2 * k)

/-- LINK_TRANSFER (R26, R28): a transfer of 128 bytes arrives. One that fails its CRC is replayed and counted; the
eighth replay of one transfer in succession fails the link. -/
def execLinkTransfer (l : Fin 56) (crcOk : Bool) (s : State) : Host.Outcome State Fault Refusal :=
  if (linkOf s l).failed then .next s
  else
    let (s0, inj) := match injArmed s 7 ukLINK l with
      | some _ => (injFired s 7, true)
      | none => (s, false)
    if crcOk && !inj then .next (updLink s0 l (fun x => { x with successive := 0 }))
    else
      let s1 := updLink s0 l (fun x => { x with replays := bump x.replays, successive := x.successive + 1 })
      .next (if 8 ≤ (linkOf s1 l).successive then failLink s1 l inj else s1)

end Sys2Proof.Machine
end

