-- ==== Sys2Proof/Machine/Reset.lean ====
section
/-! DEFINITION. What a reset reaches (R600, R690 to R693, R785): a mailbox receiver, an island, a die, the package; and
what a thermal trip or an input fault stops (R660, R683). -/

namespace Sys2Proof.Machine

/-! ### Mailbox channels -/

def chOf (s : State) (c : Nat) : MailboxS := vget s.mail.chans c (MailboxS.reset 18)
def updCh (s : State) (c : Nat) (f : MailboxS → MailboxS) : State := { s with mail := { s.mail with chans := vmod s.mail.chans c f } }
def chSender (m : MailboxS) : Nat := bits m.bind.toNat 7 0
def chReceiver (m : MailboxS) : Nat := bits m.bind.toNat 15 8
def chWake (m : MailboxS) : Bool := m.bind.toNat.testBit 16

/-- Clear a channel whose receiver enters reset (R600). -/
def resetChannel (m : MailboxS) : MailboxS :=
  let held : Bool := decide (m.st = .full ∨ m.st = .waking)
  { m with
    st := .resetting, msg := [], notice := if held then 1#8 else m.notice, notices := if held then bump m.notices else m.notices }

/-- Every channel of a receiver that enters reset (R600). -/
def resetReceiver (s : State) (who : Nat) : State :=
  (List.range 64).foldl (fun t c =>
    if chReceiver (chOf t c) = who ∧ (chOf t c).st ≠ .unbound then updCh t c resetChannel else t) s

/-- The receiver has left reset: its channels are EMPTY (R600). -/
def receiverOut (s : State) (who : Nat) : State :=
  (List.range 64).foldl (fun t c =>
    if chReceiver (chOf t c) = who ∧ (chOf t c).st = .resetting then updCh t c (fun m => { m with st := .empty }) else t) s

/-! ### The package (R691, R785) -/

/-- What the flash controller finds after power went in the middle of a calibration commit: the old set or the new
(R352). -/
def settleCalib (c : CalibS) (draw : Nat) : CalibS :=
  match c.state, c.staged with
  | .committing, some img =>
    { c with stored := if Config.freeNat draw % 2 = 1 then .user (img.take 6 ++ [1#8] ++ img.drop 7) else c.stored
             staged := none, state := .none }
  | _, _ => { c with staged := none, state := .none }

/-- Event record, fault list and service state after a reset of the package (R724, R732, R785). -/
def keptEvents (e : EventS) (cold : Bool) : EventS :=
  { EventS.reset with
    prior := keepLast 256 e.record, priorMade := e.made, faults := e.faults.filter (fun f => !f.inj)
    service := if cold then .normal else e.service
    locate := !cold && e.locate
    presses := if cold then 0#32 else e.presses
    buttonFrom := e.buttonFrom, buttonRead := e.buttonRead, buttonFromRelease := e.buttonFromRelease }

/-- Security tables and keys that a reset of the package keeps (R631, R691); HBM keys are lost. -/
def keptSecurity (x : SecurityS) : SecurityS :=
  { x with
    check := 0#8, clearing := 0#8, hbmKeys := Vector.replicate 8 false, rewriting := Vector.replicate 8 false
    proposals := Vector.replicate 4 ProposalS.reset, spdmNegotiated := [] }

/-- Power control after a reset of the package: injected regulator faults end (R662), genuine ones stay; the readings
are the last ones taken. -/
def keptPower (p : PowerS) (cold : Bool) : PowerS :=
  { PowerS.reset with
    convs := Vector.ofFn (fun i : Fin 16 => p.convs[i] || p.injRegs.contains i.val)
    regs := Vector.ofFn (fun i : Fin 210 => p.regs[i] || p.injRegs.contains i.val)
    convertersOn := p.convertersOn, inputValid := p.inputValid
    mv := if cold then 0#16 else p.mv, ma := if cold then 0#32 else p.ma, power := if cold then 0#32 else p.power
    ms := if cold then [] else p.ms
    hottest := if cold then 0 else p.hottest, hottestSensor := if cold then 0#16 else p.hottestSensor
    sensors := p.sensors }

/-- Mailboxes after a reset of the package: a PACKAGE reset resets the MGP and the SEP as receivers (R600); a COLD one
loses what the AON held, and keeps the binding table and the counts since manufacture (R691). -/
def coldChannel (m : MailboxS) : MailboxS :=
  { m with st := if m.st = .unbound then .unbound else .empty, msg := [], notice := 0#8, wakeFrom := 0 }
def keptMail (s : State) (cold : Bool) : MailS :=
  let s1 := if cold then { s with mail := { s.mail with chans := s.mail.chans.map coldChannel } } else s
  { (resetReceiver (resetReceiver s1 0x01) 0x02).mail with check := 0#8 }

/-- The management side after a reset of the package (R691, R703, R785): a firmware image in WRITING is lost. -/
def keptSystem (y : SystemS) (cold : Bool) : SystemS :=
  { SystemS.reset with
    boot := y.boot, bootFrom := y.bootFrom, cause := y.cause, boots := y.boots
    armedAt := if cold then none else y.armedAt
    wdInterval := if cold then 500#16 else y.wdInterval
    latched := y.latched, latchedCause := y.latchedCause, afterBoot := y.afterBoot, rstN := y.rstN
    fwValid := y.fwValid && decide (y.fwState ≠ .writing)
    fwVersion := y.fwVersion, fwFloor := y.fwFloor, fwDigest := y.fwDigest
    fwImage := if y.fwState = .writing then none else y.fwImage
    i3cAddr := if cold then none else y.i3cAddr
    attn := !cold && y.attn
    links := y.links.map (fun l => { l with successive := 0, failed := l.failed && !l.injected, injected := false })
    jtag := y.jtag }

/-- Units of the fault list stay out of service at boot (R731, R732). -/
def keepOut (s : State) : State :=
  s.ev.faults.foldl (fun t f =>
    let uk := f.ukind.toNat
    let ui := f.uinst.toNat
    if uk = ukCLELANE then { t with cle := { t.cle with lanes := vset t.cle.lanes ui false } } else markOut t uk ui) s

/-- Everything that a reset of the package, a trip or an input fault loses is lost, and what survives stands (R691,
R683). -/
def loseVolatile (s : State) (cold : Bool) : State :=
  let (k, s0) := drawFree s
  let r := State.reset
  keepOut { r with
    now := s0.now, free := s0.free, out := s0.out, pending := s0.pending
    mem := { r.mem with
      flash := s0.mem.flash, chans := s0.mem.chans, regions := s0.mem.regions, pairs := s0.mem.pairs
      flashes := s0.mem.flashes, moves := s0.mem.moves
      bad := s0.mem.bad.filter (fun b => match b.place with
        | .flash _ => true
        | _ => false) }
    optics := { r.optics with
      lasers := s0.optics.lasers.map (fun l => { LaserS.reset with ok := l.ok, changedAt := s0.now, temp := if cold then 0 else l.temp })
      shroudOpen := s0.optics.shroudOpen, shroudClosedAt := s0.optics.shroudClosedAt
      calib := settleCalib s0.optics.calib k }
    ev := keptEvents s0.ev cold
    sec := keptSecurity s0.sec
    clk := { r.clk with refHoldover := s0.clk.refHoldover, lastPulse := s0.now }
    power := keptPower s0.power cold
    mail := keptMail s0 cold
    sys := keptSystem s0.sys cold }

/-! ### A die and an island (R691) -/

/-- End every move that names a die's local storage or store, other than the die's own (R23, R611): OFFLINE. -/
def endMovesTo (s : State) (hits : Addr → Bool) : State :=
  (List.range 68).foldl (fun t r => match runningMove t r with
    | none => t
    | some m =>
      let names (x : Nat) : Bool := match addrF x with
        | some a => addrOwn t a && hits a
        | none => false
      match (moveAddrs m).find? names with
      | some x => endMove t r 10 x
      | none => t) s

/-- An address lies in a die's local storage or its store. -/
def onDie (k : Nat) (a : Addr) : Bool :=
  match a.tier with
  | .store => decide (a.unit = k)
  | .loc => decide (a.unit / 16 = k)
  | _ => false

/-- Units that a reset of CDk covers (R690). -/
def dieCovers (k uk ui : Nat) : Bool :=
  [0x01, 0x02, 0x03, 0x04, 0x05, 0x06, 0x0F].contains uk && (uk ≠ 0x0F || decide (ui < 80)) && decide (dieOfUnit uk ui = some k)

/-- A store die as after reset (R21, R691): its contents cleared, its scrubber at the start of a pass, its record of rows
that passed proof runs empty. Its repair maps stay. -/
def resetStoreDie (s : State) (k : Nat) : State :=
  updMem s (fun m => { m with
    store := vset m.store k Mem.empty, passLogs := vset m.passLogs k [], scrubs := vset m.scrubs k { ScrubS.reset with start := s.now }
    bad := m.bad.filter (fun b => decide (b.place ≠ .store k)) })

/-- The storage of an island as after reset has no bad location. -/
def clearBadIn (s : State) (pl : Place) : State := updMem s (fun m => { m with bad := m.bad.filter (fun b => decide (b.place ≠ pl)) })

/-- The die's arrays, VXE, sequencer and reels as after reset; what the fault list names stays out. -/
def freshDie (s : State) (k : Nat) : State :=
  let s1 := (List.range 8).foldl (fun t a => updArr t (8 * k + a) (fun _ => ArrayS.reset)) s
  let s2 := updSeq (updVxe s1 k (fun _ => VxeS.reset)) k (fun _ => SeqS.reset)
  let s3 := (dieReels k).foldl (fun t r => updReel t r (fun _ => ReelS.reset)) s2
  let s4 := updMem s3 (fun m => { m with
    store := vset m.store k Mem.empty
    bad := m.bad.filter (fun b => match b.place with
      | .buf a => decide (a / 8 ≠ k)
      | .vxe d => decide (d ≠ k)
      | .seqMem d => decide (d ≠ k)
      | .store d => decide (d ≠ k)
      | _ => true) })
  keepOut (resetStoreDie s4 k)

/-- Proof runs of a die's SRAM, arrays and store leave their queues. -/
def dropDieProofs (s : State) (k : Nat) : State :=
  { s with ev := { s.ev with proofs := s.ev.proofs.filter (fun p => match p.slice with
      | .sram d _ => decide (d ≠ k)
      | .storeBank r _ _ => decide (r / 32 ≠ k)
      | .array a => decide (a / 8 ≠ k)
      | _ => true) } }

/-- Proof runs that a test names leave their queues: their tester's island is reset. -/
def dropProofs (s : State) (hit : Slice → Bool) : State :=
  { s with ev := { s.ev with proofs := s.ev.proofs.filter (fun p => !hit p.slice) } }

/-- A DIE reset's effect on its die (R691). -/
def resetDie (s : State) (k : Nat) : State :=
  let s1 := (dieReels k).foldl (fun t r => match runningMove t r with
    | some m => endMove t r 10 (accessAddr t m)
    | none => t) (endMovesTo s (onDie k))
  clearInjFaults (freshDie (dropDieProofs s1 k) k) (dieCovers k)

/-- The reels of an island that is reset: a running move ends with OFFLINE, and the reel is as after reset. -/
def resetReels (s : State) (rs : List Nat) : State :=
  rs.foldl (fun t r => updReel (match runningMove t r with
    | some m => endMove t r 10 (accessAddr t m)
    | none => t) r (fun _ => ReelS.reset)) s

/-- Every running move with a flow through the router ends with OFFLINE (R23). -/
def endFlows (s : State) : State :=
  (List.range 68).foldl (fun t r => match runningMove t r with
    | some m =>
      let mine (u : FlowUse) : Bool := decide (u = .reel r m.seqno ∨ u = .load r m.seqno ∨ u = .put r m.seqno)
      if t.fabric.flowsIn.any (fun i => mine i.use) || t.fabric.flowsOut.any (fun o => mine o.use) then endMove t r 10 (accessAddr t m) else t
    | none => t) s

/-- The FRT's state: fabric, IOD reels, step time and the exposure controller (R21, R655, R691). Exposures that still may
abort do. With no contact sheet the engines go to the ports of R316. -/
def resetFrt (s0 : State) : State :=
  let s := keepOut (resetReels (endFlows s0) [64, 65, 66, 67])
  let s1 := (List.range 16).foldl (fun t e => abortExposure t e abDEVICE) s
  let s2 := { s1 with fabric := FabricS.reset, clk := { ClockS.reset with refHoldover := s1.clk.refHoldover, lastPulse := s1.now } }
  let s3 := (List.range 32).foldl (fun t e => remapEngine t e none) s2
  (List.range 32).foldl (fun t e => if (engOf t e).st = .outOfService then t else remapEngine t e (some (defaultPort e))) s3

/-- The island that holds a slice of local SRAM, of a store die, or an array (R21). -/
def sliceInIsland (i : Nat) : Slice → Bool
  | .sram d m => decide (i = 10 * d + (if m < 256 then m / 32 else if m < 288 then 8 else 9))
  | .storeBank r _ _ => decide (i = 10 * (r / 32) + 9)
  | .array a => decide (i = arrIsland a)
  | _ => false

/-- An ISLAND reset's effect (R691); that of the CLE keeps 2C00h:01 and 2C00h:02 (R787). Of an array that is FAULTED for an uncorrectable word (R261) the island's state is lost
with the buffers that held the word, so it is IDLE: R789 names a DIE or wider reset alone, and R691 has any reset of the
island lose its state, of which the model takes R691 (DEDUCED, log entry 57). -/
def resetIsland (s : State) (i : Nat) : State :=
  let s0 := exposuresLose s (fun j => decide (j = i))
  if i < 80 then
    let k := i / 10
    if i % 10 < 8 then
      let a := 8 * k + i % 10
      let s1 := endMovesTo s0 (fun x => decide (x.tier = .loc ∧ x.unit = 16 * k + i % 10))
      keepOut (dropProofs (clearBadIn (updArr s1 a (fun _ => ArrayS.reset)) (.buf a)) (sliceInIsland i))
    else if i % 10 = 8 then
      let s1 := endMovesTo s0 (fun x => decide (x.tier = .loc ∧ x.unit = 16 * k + 8))
      keepOut (dropProofs (clearBadIn (updVxe s1 k (fun _ => VxeS.reset)) (.vxe k)) (sliceInIsland i))
    else
      let s1 := resetStoreDie (updSeq (resetReels (endMovesTo s0 (onDie k)) (dieReels k)) k (fun _ => SeqS.reset)) k
      keepOut (dropProofs (clearBadIn s1 (.seqMem k)) (sliceInIsland i))
  else if i < 82 then
    let n := i - 80
    let s1 := if (hportOf s0 n).st = .secured then closePort s0 n else s0
    updHport s1 n (fun p => { HostPortS.reset with ip := p.ip, polarity := p.polarity, vlanClear := p.vlanClear, trainFrom := s.now })
  else if i = 82 then keepOut (dropProofs { s0 with cle := { CleS.reset with threshold := s0.cle.threshold, interval := s0.cle.interval } } (fun x => decide ((sliceTester x).1 = 6)))
  else if i = 83 then resetFrt s0
  else if i = 84 then answerHeld (resetReceiver { s0 with sys := { s0.sys with mgp := .resetting } } 0x01)
  else if i = 85 then
    let s1 := resetReceiver { s0 with sys := { s0.sys with sep := .resetting } } 0x02
    { s1 with
      eumon := { s1.eumon with sessions := s1.eumon.sessions.filter (fun x => x.confirmed) }
      sys := { s1.sys with
        fwValid := s1.sys.fwValid && decide (s1.sys.fwState ≠ .writing)
        fwImage := if s1.sys.fwState = .writing then none else s1.sys.fwImage
        fwState := if s1.sys.fwState = .writing then .none else s1.sys.fwState } }
  else if 88 ≤ i ∧ i < 104 then
    let s1 := updEngines s0 (i - 88) (fun t e =>
      (lanesOf e).foldl (fun u l => updLane u l (fun x => { LaneS.reset with counted := x.counted }))
        (updEng (match (engOf t e).port with
          | some q => unlight t q
          | none => t) e (fun x => { EngineS.reset with port := x.port })))
    keepOut (dropProofs s1 (fun x => match x with
      | .lane l => decide (l / 32 = i - 88)
      | _ => false))
  else if i = 86 then endMovesTo s0 (fun x => decide (x.tier = .flash))
  else if 104 ≤ i then updMem (endMovesTo s0 (fun x => decide (x.tier = .hbm ∧ x.unit = (i - 104) / 2))) (fun m => { m with
    passLogs := vset m.passLogs (i - 96) [], scrubs := vset m.scrubs (i - 96) { ScrubS.reset with start := s.now } })
  else s0

/-! ### Stopping the package (R660, R683) -/

/-- Every island clock and every converter stops, and every LSR_EN is deasserted; the AON runs on. -/
def stopPackage (s : State) (why : PowerStop) : State :=
  let s1 := downgradeRunning s 1 5 3
  let s2 := loseVolatile s1 false
  { s2 with
    power := { s2.power with convertersOn := false, stop := why, thermtrip := s.power.thermtrip || decide (why = .tripped) }
    sys := { s2.sys with boot := if why = .tripped then .tripped else .rom, bootDue := false, booting := false, running := none } }

/-- A thermal trip (R683): THERMTRIP names the die or unit that reached 105 °C. -/
def thermalTrip (s : State) (uk ui : Nat) (inj : Bool) : State :=
  if s.power.stop = .tripped then s else stopPackage (setCause (raise s 0xA6 uk ui 0 inj) inj) .tripped

end Sys2Proof.Machine
end

