-- ==== Sys2Proof/Machine/Power.lean ====
section
/-! DEFINITION. The reference and step time, the 48 V input, power limits, throttling, the sensors, performance points and
power states (chapter 16). -/

namespace Sys2Proof.Machine

/-! ### The reference (R648, R649) -/

def updClk (s : State) (f : ClockS → ClockS) : State := { s with clk := f s.clk }

/-- A realignment, a slew or a half rate in progress ends (R655). -/
def holdClock (c : ClockS) : ClockS :=
  { c with
    sync := if c.sync = .locked ∨ c.sync = .aligning then .holdover else c.sync
    slew := 0, halve := 0, half := false, forward := none }

/-- REFCLK_LOST (R648, R655). A boot that waits for its PLLs reads WAIT_REFCLK (R698). -/
def execRefclkLost (s : State) : Host.Outcome State Fault Refusal :=
  if s.clk.refHoldover then .next s
  else
    let s1 := updClk s (fun c => { holdClock c with refHoldover := true })
    let wait : Bool := s.sys.booting && decide (s.now < s.sys.bootFrom + 5000000)
    let s2 := if wait then { s1 with sys := { s1.sys with boot := .waitRefclk } } else s1
    .next (raise s2 0xA0 ukPACKAGE 0 0)

/-! ### Step time (R651 to R655) -/

/-- 2^20 ns: the interval of STEP, and what an epoch is a multiple of. -/
def stepInterval : Nat := 1048576

/-- The counter less the nearest multiple of 2^20 (R653). Half way between two, either is nearest: the draw decides. -/
def pulseError (t : Nat) (up : Bool) : Int :=
  let m := t % stepInterval
  if m < 524288 ∨ (m = 524288 ∧ up = true) then m else (m : Int) - stepInterval

/-- No two of the last three errors differ by more than 2 ns (R653). -/
def agree (es : List Int) : Bool :=
  match es with
  | [a, b, c] => decide ((a - b).natAbs ≤ 2 ∧ (a - c).natAbs ≤ 2 ∧ (b - c).natAbs ≤ 2)
  | _ => false

/-- A realignment to an error (R654): a step forward at the next 1,024 ns boundary, or half rate. -/
def realign (c : ClockS) (e : Int) : ClockS :=
  if e < 0 then
    { c with sync := .aligning, slew := 0, halve := 0, half := false, errs := []
             forward := some ((c.stepTime.toNat / 1024 + 1) * 1024, e.natAbs) }
  else { c with sync := .aligning, slew := 0, halve := e.natAbs, half := false, forward := none, errs := [] }

/-- A pulse that the unit measures (R653, R655). A realignment in progress runs to its end. -/
def measurePulse (s : State) (e : Int) : State :=
  let s1 := updClk s (fun c => { c with pulseErr := e })
  if e.natAbs ≤ 16 then
    updClk s1 (fun c => { c with
      errs := []
      sync := if c.sync = .holdover then .locked else c.sync
      slew := if c.sync = .aligning then c.slew else e
      slewPhase := if c.sync = .aligning then c.slewPhase else 0 })
  else
    let s2 := updClk s1 (fun c => { c with slips := bump c.slips, errs := keepLast 3 (c.errs ++ [e]) })
    let s3 := raise s2 0xA3 ukPACKAGE 0 0
    if s3.clk.sync ≠ .aligning ∧ agree s3.clk.errs = true then updClk s3 (fun c => realign c e) else s3

/-- An epoch is loaded at a pulse (R652, R655). -/
def loadEpoch (s : State) (e : Nat) : State :=
  updClk s (fun c => { c with
    stepTime := BitVec.ofNat 64 e, sync := .locked, epoch := none, slew := 0, halve := 0, half := false, forward := none, errs := [] })

/-- The epoch that a pulse loads: written at least 100 µs before it, with REFCLK locked. -/
def dueEpoch (s : State) : Option Nat :=
  match s.clk.epoch with
  | some (e, t) => if t + 100000 ≤ s.now ∧ s.clk.refHoldover = false then some e else none
  | none => none

/-- STEP_PULSE (R652, R653, R655): the pulse arrives now. -/
def execStepPulse (s : State) : Host.Outcome State Fault Refusal :=
  let s0 := updClk s (fun c => { c with lastPulse := s.now })
  match dueEpoch s0 with
  | some e => .next (loadEpoch s0 e)
  | none =>
    if s0.clk.sync = .unset ∨ s0.clk.refHoldover = true then .next s0
    else
      let (k, s1) := drawFree s0
      .next (measurePulse s1 (pulseError (stepNow s1) (decide (Config.freeNat k % 2 = 1))))

/-- STEP_LOST (R655): no pulse for four intervals. -/
def execStepLost (s : State) : Host.Outcome State Fault Refusal :=
  if s.clk.sync = .locked ∨ s.clk.sync = .aligning then
    .next (raise (updClk (advanceTo s (s.clk.lastPulse + 4194304)) holdClock) 0xA2 ukPACKAGE 0 0)
  else .next s

/-- A write of 2E00h:02 (R652). -/
def setEpoch (s : State) (e : Nat) : State := updClk s (fun c => { c with epoch := some (e, s.now) })

/-- What is left of a realignment, in ns. -/
def alignLeft (c : ClockS) : Nat :=
  match c.forward with
  | some (b, _) => b - c.stepTime.toNat
  | none => 2 * c.halve - (if c.half then 1 else 0)

/-- ALIGNMENT_COMPLETE (R654): the realignment reaches the aligned value. -/
def execAlignmentComplete (s : State) : Host.Outcome State Fault Refusal :=
  if s.clk.sync = .aligning then
    .next (updClk (advanceTo s (s.now + alignLeft s.clk)) (fun c => { c with
      sync := if c.sync = .aligning ∧ c.halve = 0 ∧ c.forward = none then .locked else c.sync }))
  else .next s

/-! ### The throttle fraction (R668 to R672) -/

def dieP (s : State) (k : Nat) : DiePowerS := vget s.power.dies k DiePowerS.reset
def updDieP (s : State) (k : Nat) (f : DiePowerS → DiePowerS) : State :=
  { s with power := { s.power with dies := vmod s.power.dies k f } }
def updPower (s : State) (f : PowerS → PowerS) : State := { s with power := f s.power }

/-- The caps of R669 with their codes. -/
def capsOf (d : DiePowerS) : List (Nat × Nat) :=
  [(1, if d.slewUntil.isSome then 8 else 16), (2, if d.storeHold then 0 else d.storeCap),
   (3, if d.dieHold then 0 else d.dieCap), (4, d.sensorCap), (5, d.powerCap), (6, d.limit.toNat)]

/-- The lowest cap, the lower code of several: code and cap; code 0 where no cap is below 16. -/
def lowestCap (d : DiePowerS) : Nat × Nat :=
  (capsOf d).foldl (fun best c => if c.2 < best.2 then c else best) (0, 16)

/-- The power a notice predicts (R675), in mW; where F was 0 the rule's quotient has no value. -/
def predicted (d : DiePowerS) (fOld fNew draw : Nat) : Nat :=
  let idle := d.idle.toNat * 100
  if fOld = 0 then Config.freeNat draw
  else ((idle : Int) + ((d.sampleMw : Int) - idle) * fNew / fOld).toNat

/-- A notice goes to the lens chiplets of the die's field, which apply it in turn (R337, R674). -/
def sendNotice (s : State) (k fOld fNew : Nat) : State :=
  let (n, s1) := drawFree s
  let mw := predicted (dieP s1 k) fOld fNew n
  emit (updDieP s1 k (fun d => { d with notices := d.notices ++ [mw] })) (.notice k mw)

/-- F follows a fall of the lowest cap at once, and leaves 0 for 8 when the last hold ends (R670); the limiting cause is
that of the lowest cap, or the one that last held F down (R669). -/
def settleF (now : Nat) (d : DiePowerS) : DiePowerS :=
  let (code, cap) := lowestCap d
  let f := d.frac.toNat
  if cap < f then { d with frac := BitVec.ofNat 8 cap, cause := BitVec.ofNat 8 code, riseAt := now }
  else if cap = f then { d with cause := BitVec.ofNat 8 code }
  else if f = 0 then
    { d with frac := 8#8, cause := if cap = 8 then BitVec.ofNat 8 code else d.cause, riseAt := now }
  else d

def settle (s : State) (k : Nat) : State := updDieP s k (settleF s.now)

/-- F rises by one sixteenth (R670); a die that leaves a slew sends a notice at each step (R674). -/
def riseF (s : State) (k : Nat) : State :=
  let d := dieP s k
  let f := d.frac.toNat
  let (code, cap) := lowestCap d
  let cause : U8 := if f + 1 = 16 then 0#8 else if f + 1 = cap then BitVec.ofNat 8 code else d.cause
  let s1 := updDieP s k (fun x => { x with frac := BitVec.ofNat 8 (f + 1), cause := cause, riseAt := s.now })
  if d.cause.toNat = 1 then sendNotice s1 k f (f + 1) else s1

/-- F may rise: it is at least 8 and below the lowest cap. -/
def mayRise (d : DiePowerS) : Bool := decide (8 ≤ d.frac.toNat ∧ d.frac.toNat < (lowestCap d).2)

/-- THROTTLE_RISE (R670). -/
def execThrottleRise (k : Fin 8) (s : State) : Host.Outcome State Fault Refusal :=
  if mayRise (dieP s k) then .next (riseF (advanceTo s ((dieP s k).riseAt + 1000000)) k) else .next s

/-- The SLEW cap is withdrawn; F may rise at once where it has stood for 1 ms (R674). -/
def endSlewHold (s : State) (k : Nat) : State :=
  let s1 := settle (updDieP s k (fun d => { d with slewUntil := none })) k
  if mayRise (dieP s1 k) ∧ (dieP s1 k).riseAt + 1000000 ≤ s1.now then riseF s1 k else s1

/-- SLEW_HOLD_END (R674). -/
def execSlewHoldEnd (k : Fin 8) (s : State) : Host.Outcome State Fault Refusal :=
  match (dieP s k).slewUntil with
  | some t => .next (endSlewHold (advanceTo s t) k)
  | none => .next s

/-- The slew detector of a die trips on a sensor's sample (R674): while the SLEW cap stands, the hold starts again and
nothing else happens. -/
def slewTrip (s : State) (k sensor : Nat) (inj : Bool) : State :=
  let d := dieP s k
  if d.slewUntil.isSome then updDieP s k (fun x => { x with slewUntil := some (s.now + 1000000) })
  else
    let s1 := settle (updDieP s k (fun x => { x with slewUntil := some (s.now + 1000000), trips := bump x.trips })) k
    raise (sendNotice s1 k d.frac.toNat (dieP s1 k).frac.toNat) 0xA4 ukSENSOR sensor k inj

/-! ### Sensors (R673) -/

/-- The groups of R673, as first sensor and length, in index order over sensors 0 to 931. -/
def sensorGroups : List (Nat × Nat) :=
  (List.range 8).flatMap (fun k => [(96 * k, 64), (96 * k + 64, 32)]) ++
  (List.range 16).flatMap (fun j => [(768 + 4 * j, 2), (768 + 4 * j + 2, 2)]) ++
  (List.range 16).map (fun n => (832 + 4 * n, 4)) ++ [(896, 32), (928, 2), (930, 2)]

def insertInt (x : Int) : List Int → List Int
  | [] => [x]
  | y :: ys => if x ≤ y then x :: y :: ys else y :: insertInt x ys

def sortInts (xs : List Int) : List Int := xs.foldr insertInt []

/-- Twice the median (R673). -/
def median2 (xs : List Int) : Int :=
  let ys := sortInts xs
  let n := ys.length
  if n % 2 = 1 then 2 * ys.getD (n / 2) 0 else ys.getD (n / 2 - 1) 0 + ys.getD (n / 2) 0

/-- A reading passes the range test: −20 °C to 150 °C. -/
def inSensorRange (x : Int) : Bool := decide (-200 ≤ x ∧ x ≤ 1500)

/-- Which readings of one group are valid (R673). -/
def groupValid (xs : List Int) : List Bool :=
  let m := median2 (xs.filter inSensorRange)
  xs.map (fun x => inSensorRange x && decide ((2 * x - m).natAbs ≤ 300))

def sensorOf (s : State) (i : Nat) : SensorS := vget s.power.sensors i SensorS.reset

/-- A sensor's readings carry an injected offset now. -/
def sensorInjected (s : State) (i : Nat) : Bool := s.power.sensorInj.any (fun x => decide (x.1 = i))

/-- A SENSOR injection fires at the sample (R733, R735); offsets that have lasted 1 ms end. -/
def armSensor (s : State) : State :=
  let keep := s.power.sensorInj.filter (fun x => decide (s.now < x.2.2))
  let p := vget s.ev.points 0x0C InjPoint.reset
  let uk := bits p.target.toNat 7 0
  let ui := bits p.target.toNat 19 8
  if p.armed ∧ uk = ukSENSOR ∧ ui < 932 then
    let next := keep.filter (fun x => decide (x.1 ≠ ui)) ++ [(ui, signedOf 16 (pointLoc p), s.now + 1000000)]
    injFired (updPower s (fun w => { w with sensorInj := next })) 0x0C
  else updPower s (fun w => { w with sensorInj := keep })

/-- The readings as the T1 sees them. -/
def readSensors (s : State) (temps : Vector Int 932) : List Int :=
  (List.range 932).map (fun i => vget temps i 0 + ((s.power.sensorInj.find? (fun x => decide (x.1 = i))).map (fun x => x.2.1)).getD 0)

/-- Which of all readings are valid, in index order. -/
def allValid (rs : List Int) : List Bool := sensorGroups.flatMap (fun g => groupValid ((rs.drop g.1).take g.2))

/-- One sensor takes its reading; SENSOR_FAULT where it becomes invalid. -/
def takeReading (rs : List Int) (vs : List Bool) (s : State) (i : Nat) : State :=
  let was := (sensorOf s i).valid
  let v := vs.getD i false
  let s1 := updPower s (fun w => { w with sensors := vset w.sensors i { hist := (rs.getD i 0 :: (sensorOf s i).hist).take 26, valid := v } })
  if was && !v then raise s1 0xA9 ukSENSOR i 0 (sensorInjected s1 i) else s1

def lastReading (s : State) (i : Nat) : Int := (sensorOf s i).hist.headD 0

/-- The hottest valid sensor of a range of so many: reading and index, the lowest index of several. -/
def hottestOf (s : State) (first n : Nat) : Option (Int × Nat) :=
  ((List.range n).map (fun i => first + i)).foldl (fun best i =>
    if (sensorOf s i).valid then
      match best with
      | some b => if b.1 < lastReading s i then some (lastReading s i, i) else best
      | none => some (lastReading s i, i)
    else best) none

def validCount (s : State) (first n : Nat) : Nat :=
  ((List.range n).map (fun i => first + i)).countP (fun i => (sensorOf s i).valid)

/-- A cap of R669 bounded to 8 to 16. -/
def boundCap (x : Int) : Nat := (min 16 (max 8 x)).toNat
/-- floor(16 × (1 − (Ts − 85) ÷ 20)), Ts in 0.1 °C. -/
def storeTempCap (t : Int) : Nat := boundCap (16 * (1050 - t) / 200)
/-- floor(16 − (Tc − 95)), Tc in 0.1 °C. -/
def dieTempCap (t : Int) : Nat := boundCap ((1110 - t) / 10)

/-- The valid sensor of a die that reads more than 2.0 °C above its reading 250 µs earlier. -/
def slewSensor (s : State) (k : Nat) : Option Nat :=
  ((List.range 64).map (fun i => 96 * k + i)).find? (fun i =>
    (sensorOf s i).valid &&
      (match (sensorOf s i).hist[25]? with
       | some old => decide (old + 20 < lastReading s i)
       | none => false))

/-- THERMAL_HOLD is raised, and the RUNNING partition that holds the die is downgraded (R671, R747 case 2). -/
def holdEvents (s : State) (k i det : Nat) : State :=
  let s1 := raise s 0xA5 ukSENSOR i det (sensorInjected s i)
  match partOfDie s1 k with
  | some p =>
    if (negOf s1 p).state = .running then setCause (downgrade (setCause s1 (sensorInjected s i)) p 1 5 2) false else s1
  | none => s1

/-- A hold of a die's store, or of the die itself (R671). -/
def holdStore (s : State) (k : Nat) : State :=
  let i := ((hottestOf s (96 * k + 64) 32).map (fun x => x.2)).getD (96 * k + 64)
  holdEvents (settle (updDieP s k (fun d => { d with storeHold := true })) k) k i k
def holdDie (s : State) (k : Nat) : State :=
  let i := ((hottestOf s (96 * k) 64).map (fun x => x.2)).getD (96 * k)
  holdEvents (settle (updDieP s k (fun d => { d with dieHold := true })) k) k i (k + 256)

/-- The holds whose conditions stand (R671). -/
def applyHolds (s : State) (k : Nat) : State :=
  let d := dieP s k
  let s1 := match d.storeHotFrom with
    | some t => if !d.storeHold ∧ t + 1000000 ≤ s.now then holdStore s k else s
    | none => s
  if (hottestOf s (96 * k) 64).isSome ∧ 1040 ≤ d.tc ∧ !d.dieHold then holdDie s1 k else s1

/-- One die after a sample: its temperatures and caps, the end of holds, and the slew detector, genuine and injected (R669,
R671, R674, R733). -/
def dieSample (s : State) (k : Nat) : State :=
  let c := (hottestOf s (96 * k) 64).map (fun x => x.1)
  let t := (hottestOf s (96 * k + 64) 32).map (fun x => x.1)
  let few : Bool := decide (2 * validCount s (96 * k) 64 < 64 ∨ 2 * validCount s (96 * k + 64) 32 < 32)
  let s1 := updDieP s k (fun d => { d with
    tc := c.getD d.tc, ts := t.getD d.ts
    dieCap := (c.map dieTempCap).getD 16, storeCap := (t.map storeTempCap).getD 16
    sensorCap := if few then 8 else 16
    storeHotFrom := (match t with
      | some x => if 980 ≤ x then some (d.storeHotFrom.getD s.now) else none
      | none => none)
    storeHold := d.storeHold && (match t with
      | some x => decide (930 ≤ x)
      | none => true)
    dieHold := d.dieHold && (match c with
      | some x => decide (1000 ≤ x)
      | none => true) })
  let s2 := applyHolds (settle s1 k) k
  let s3 := match slewSensor s2 k with
    | some i => slewTrip s2 k i (sensorInjected s2 i)
    | none => s2
  if (injArmed s3 0x0D ukVXE k).isSome ∨ (injArmed s3 0x0D ukSEQ k).isSome then slewTrip (injFired s3 0x0D) k (96 * k) true else s3

/-- SLEW holds that are over at a moment end. -/
def endDueHolds (s : State) : State :=
  (List.range 8).foldl (fun t k => match (dieP t k).slewUntil with
    | some u => if u ≤ t.now then endSlewHold t k else t
    | none => t) s

/-- 9000h:05 of each chiplet: its hottest valid ring-bank sensor (R360, R673). -/
def chipletTemps (s : State) : State :=
  (List.range 16).foldl (fun t n => match hottestOf t (832 + 4 * n) 4 with
    | some (x, _) => updLaser t n (fun l => { l with temp := x })
    | none => t) s

/-- SENSOR_SAMPLE (R673): every sensor is read, in 0.1 °C. A valid sensor at 105 °C trips the package (R683). -/
def execSensorSample (temps : Vector Int 932) (s : State) : Host.Outcome State Fault Refusal :=
  let s0 := endDueHolds (advanceTo s (s.power.sampleAt + 10000))
  let s1 := armSensor (updPower s0 (fun w => { w with sampleAt := s0.now }))
  let rs := readSensors s1 temps
  let s2 := (List.range 932).foldl (takeReading rs (allValid rs)) s1
  let s3 := match hottestOf s2 0 932 with
    | some (t, i) => updPower s2 (fun w => { w with hottest := t, hottestSensor := BitVec.ofNat 16 i })
    | none => s2
  let s4 := startAll ((List.range 8).foldl dieSample (chipletTemps s3))
  .next (match hottestOf s4 0 932 with
    | some (t, i) => if 1050 ≤ t then thermalTrip s4 ukSENSOR i (sensorInjected s4 i) else s4
    | none => s4)

/-- THERMAL_HOLD (R671): a store die has stood at 98 °C for 1 ms, or a compute die has reached 104 °C. -/
def execThermalHold (k : Fin 8) (s : State) : Host.Outcome State Fault Refusal :=
  let d := dieP s k
  match d.storeHotFrom with
  | some t => .next (applyHolds (if d.storeHold then s else advanceTo s (t + 1000000)) k)
  | none => .next (applyHolds s k)

/-- THERMTRIP (R683): the comparator of a die or unit fires; the command names it as R721 does. -/
def execThermtrip (uk : Fin 21) (ui : Fin 4096) (s : State) : Host.Outcome State Fault Refusal :=
  .next (if unitExists uk ui = 0 then thermalTrip s uk ui false else s)

/-! ### The 48 V input (R658 to R662) -/

/-- The effective package cap in 0.1 W: the set cap, 100 A at the input voltage below 42 V, and 262.5 W for each
converter once one is out (R659, R662). -/
def effCap (s : State) : Nat :=
  let n := s.power.convs.toList.countP (fun b => b)
  min (10 * s.power.setCap.toNat)
    (min (if n < 16 then 2625 * n else 42000) (if s.power.inputValid ∧ s.power.mv.toNat < 42000 then s.power.mv.toNat else 42000))

/-- The converters start, and a boot is due once RST_N is deasserted (R660, R698). -/
def startConverters (s : State) : State :=
  { s with
    power := { s.power with convertersOn := true }
    sys := { s.sys with boot := .rom, bootDue := true, running := some .cold } }

/-- INPUT_VALID (R660): the input has stood at or above 40 V for 10 ms. INPUT_FAULT is left through a reset alone. -/
def execInputValid (mv : U16) (s : State) : Host.Outcome State Fault Refusal :=
  if mv.toNat < 40000 then .next s
  else
    let s1 := updPower s (fun w => { w with mv := mv, inputValid := true })
    .next (if s.power.convertersOn ∨ s.power.stop ≠ .none ∨ s.power.inputValid = true then s1 else startConverters s1)

/-- The input leaves its range: the converters stop as for a trip, in INPUT_FAULT (R660). -/
def inputFault (s : State) (mv : U16) (code : Nat) : State :=
  let s1 := updPower s (fun w => { w with mv := mv })
  if s.power.convertersOn then stopPackage (raise s1 code ukPACKAGE 0 0) .inputFault else s1

/-- INPUT_UNDERVOLTAGE (R660): below 38 V for 50 µs. -/
def execInputUndervoltage (mv : U16) (s : State) : Host.Outcome State Fault Refusal :=
  .next (if mv.toNat < 38000 then inputFault s mv 0xA7 else s)

/-- INPUT_OVERVOLTAGE (R660): above 60 V for 10 µs. -/
def execInputOvervoltage (mv : U16) (s : State) : Host.Outcome State Fault Refusal :=
  .next (if 60000 < mv.toNat then inputFault s mv 0xA8 else s)

/-- A regulator or converter is on. -/
def regulatorOn (s : State) (r : Nat) : Bool := if r < 16 then vget s.power.convs r false else vget s.power.regs r false

/-- A converter or regulator switches off (R662); an injected fault maps nothing out, and the channels of its stack
count as units that leave service. -/
def regulatorFault (s : State) (r : Nat) (inj : Bool) : State :=
  if !regulatorOn s r then s
  else
    let s1 := raise s 0xAA ukREGULATOR r 0 inj
    let s2 := updPower s1 (fun w => { w with
      convs := if r < 16 then vset w.convs r false else w.convs
      regs := if r < 16 then w.regs else vset w.regs r false
      injRegs := if inj then w.injRegs ++ [r] else w.injRegs })
    let s3 := unitFaults s2 (regulatorUnits r) 0xAA inj
    match regulatorStack r with
    | some j => if inj then unitLeaves s3 ukCHANNEL (32 * j) else stackPending s3 j
    | none => s3

/-- REGULATOR_FAULT (R662). -/
def execRegulatorFault (r : Fin 210) (s : State) : Host.Outcome State Fault Refusal := .next (regulatorFault s r false)

/-! ### Power limits (R663, R664) -/

/-- What the AON measures of one die over the last 1 ms, in 0.1 W: the die, its store die, its HBM pair. -/
abbrev DieReading := Nat × Nat × Nat

/-- The fraction that keeps a consumer within its limit: its power above idle follows F. -/
def powerFraction (f p idle limit : Nat) : Nat :=
  if p ≤ limit ∨ p ≤ idle ∨ f = 0 then 16 else boundCap ((f * (limit - idle) / (p - idle) : Nat) : Int)

/-- A die's POWER cap (R663, R669): within 287.5 W or its budget, and its store die within 30 W. A die that is within its
limits at a fraction below 16 keeps the cap that its power at 16 would need. -/
def powerCapOf (d : DiePowerS) : Nat :=
  let f := d.frac.toNat
  let full (p idle : Nat) : Nat := if f = 0 then p else idle + (p - idle) * 16 / f
  let p := d.diePower.toNat
  let st := d.storePower.toNat
  min (powerFraction 16 (full p d.idle.toNat) d.idle.toNat (min 2875 d.budget)) (powerFraction 16 (full st 0) 0 300)

/-- Budgets (R664): over the cap, each die's falls by its share of the excess, in proportion to its power above idle;
within it, each rises by its share of the room, to at most 287.5 W. -/
def newBudget (cap projected total : Nat) (d : DiePowerS) : Nat :=
  let above := d.diePower.toNat - d.idle.toNat
  if cap < projected then max d.idle.toNat (min d.budget d.diePower.toNat - (if total = 0 then 0 else (projected - cap) * above / total))
  else if total = 0 then 2875
  else min 2875 (d.budget + (cap - projected) * above / total)

/-- POWER_BUDGET_UPDATE (R663, R664): the measurements of the last 1 ms, and the projection of the package input in
0.1 W. -/
def execPowerBudgetUpdate (mv : U16) (ma power : U32) (projected : Nat) (dies : Vector (U16 × U16 × U16) 8) (s : State) :
    Host.Outcome State Fault Refusal :=
  let s0 := advanceTo s (s.power.budgetAt + 1000000)
  let s1 := updPower s0 (fun w => { w with
    budgetAt := s0.now, mv := mv, ma := ma, power := power, ms := keepLast 1000 (w.ms ++ [power.toNat])
    dies := Vector.ofFn (fun k : Fin 8 =>
      let d := w.dies[k]
      let r := dies[k]
      { d with
        diePower := r.1, storePower := r.2.1, hbmPower := r.2.2
        ms := keepLast 100 (d.ms ++ [(r.1.toNat, r.2.1.toNat, r.2.2.toNat)]) }) })
  let total := (s1.power.dies.toList.map (fun d => d.diePower.toNat - d.idle.toNat)).sum
  let cap := effCap s1
  .next (updPower s1 (fun w => { w with dies := w.dies.map (fun d =>
    let d1 := { d with budget := newBudget cap projected total d }
    settleF s1.now { d1 with powerCap := powerCapOf d1 }) }))

/-! ### Performance points (R665 to R667) -/

/-- A write of 9500h:01 (R667): latched during a change, nothing where the point is in force already. -/
def setPoint (s : State) (k : Nat) (p : U8) : State :=
  updDieP s k (fun d =>
    if d.changing then { d with pendingPoint := p }
    else if d.point = p then d
    else { d with from_ := d.point, point := p, changing := true })

/-- A change of performance point completes, and a latched request runs (R666, R667). -/
def pointDone (d : DiePowerS) : DiePowerS :=
  if d.changing then
    if d.pendingPoint = 0xFF#8 ∨ d.pendingPoint = d.point then { d with changing := false, from_ := d.point, pendingPoint := 0xFF#8 }
    else { d with from_ := d.point, point := d.pendingPoint, pendingPoint := 0xFF#8 }
  else d

/-- PERFORMANCE_POINT_DONE (R666). -/
def execPerformancePointDone (k : Fin 8) (s : State) : Host.Outcome State Fault Refusal := .next (updDieP s k pointDone)

/-! ### Power states (R677 to R682) -/

/-- Every partition is EMPTY. -/
def allEmpty (s : State) : Bool := s.negs.all (fun n => decide (n.state = .empty))

/-- A change that R678 lists, in the state it needs. -/
def changeOk (s : State) (a b : PowerSt) : Bool :=
  match a, b with
  | .p0, .p1 => s.negs.all (fun n => !decide (n.state = .running ∨ n.state = .stopping ∨ n.state = .suspending))
  | .p1, .p0 => true
  | .p0, .p2 => allEmpty s
  | .p1, .p2 => allEmpty s
  | .p2, .p0 => true
  | .p2, .p1 => true
  | .p0, .p3 => allEmpty s
  | .p1, .p3 => allEmpty s
  | .p2, .p3 => allEmpty s
  | .p3, .p0 => true
  | _, _ => false

/-- A change starts. The exit from P3 runs the boot sequence (R681). -/
def startChange (s : State) (b : PowerSt) : State :=
  let s1 := updPower s (fun w => { w with target := some b })
  if s.power.st = .p3 then
    { s1 with
      power := { s1.power with convertersOn := true }
      sys := { s1.sys with boot := .rom, bootDue := true, fromP3 := true } }
  else s1

def powerCode : PowerSt → Nat
  | .p0 => 0
  | .p1 => 1
  | .p2 => 2
  | .p3 => 3

/-- A request for a power state (R678, R680); none where it is refused. -/
def requestPower (s : State) (b : PowerSt) : Option State :=
  if s.power.stop ≠ .none then none
  else if s.power.target.isSome then some (updPower s (fun w => { w with pending := BitVec.ofNat 8 (powerCode b) }))
  else if changeOk s s.power.st b then some (startChange s b)
  else none

/-- What an array keeps when its island is power-gated: buffers; its trays are fresh (R677). -/
def gateArray (a : ArrayS) : ArrayS := { a with trays := Vector.replicate 256 Tray.fresh, run := 0#40, long := false, bank := none }

/-- Entry to P1: trays are fresh, and each die's idle power is measured (R675, R677). -/
def enterP1 (s : State) (idle : Vector U16 8) : State :=
  updPower { s with arrays := s.arrays.map gateArray } (fun w => { w with
    dies := Vector.ofFn (fun k : Fin 8 => { w.dies[k] with idle := idle[k] }) })

/-- Entry to P2: the compute and store dies lose what R678 lists, which is indeterminate afterwards; their registers and
counters stay. -/
def enterP2 (s : State) : State :=
  let (k, s0) := drawFree s
  { s0 with
    arrays := s0.arrays.map (fun a => { gateArray a with bufs := memScramble k })
    vxes := s0.vxes.map (fun v => { v with mem := memScramble k })
    seqs := s0.seqs.map (fun q => { q with mem := memScramble k })
    mem := { s0.mem with
      store := s0.mem.store.map (fun _ => memScramble k)
      bad := s0.mem.bad.filter (fun b => match b.place with
        | .buf _ => false
        | .vxe _ => false
        | .seqMem _ => false
        | .store _ => false
        | _ => true) }
    power := { s0.power with pausedAt := s0.now } }

/-- Entry to P3 (R681): the laser enables are recorded, every LSR_EN is deasserted, and all but the AON and the flash
controller is off. What the AON holds stays: sessions, mailboxes, events and the settings of R785. -/
def enterP3 (s : State) : State :=
  let rec_ := s.optics.lasers.map (fun l => l.reqEnable)
  let t := loseVolatile s false
  { t with
    ev := { s.ev with proofs := [] }
    eumon := { s.eumon with transfers := [], sessions := s.eumon.sessions.filter (fun x => x.confirmed) }
    mail := (resetReceiver (resetReceiver s 0x01) 0x02).mail
    power := { s.power with
      convertersOn := false, lasers := rec_, dies := Vector.replicate 8 DiePowerS.reset, pausedAt := s.now }
    sys := { s.sys with
      mgp := .resetting, sep := .resetting, links := t.sys.links, funcs := t.sys.funcs, booting := false, bootDue := false
      running := none, resetting := [], armedAt := s.sys.armedAt } }

/-- The scrubbers' limits do not count the time in P2 (R681). -/
def resumeScrubs (s : State) : State :=
  updMem s (fun m => { m with scrubs := m.scrubs.map (fun x => { x with start := x.start + (s.now - s.power.pausedAt) }) })

/-- A change of power state completes: what it loses is lost, and the links of a compute die that fail the wire test of
R27 fail. -/
def enterPower (s : State) (b : PowerSt) (idle : Vector U16 8) (wires : List WireCount) : State :=
  let a := s.power.st
  let s1 := match a with
    | .p2 => if b = .p3 then s else testWires (resumeScrubs s) (fun l => decide (l < 24)) wires
    | _ => s
  let s2 := match b with
    | .p0 => s1
    | .p1 => enterP1 s1 idle
    | .p2 => enterP2 s1
    | .p3 => enterP3 s1
  startAll (updPower s2 (fun w => { w with st := b, target := none }))

/-- The request that waited runs as if it had just been written (R680). -/
def runPending (s : State) : State :=
  let p := s.power.pending.toNat
  let s1 := updPower s (fun w => { w with pending := 0xFF#8 })
  let want : Option PowerSt := match p with
    | 0 => some .p0
    | 1 => some .p1
    | 2 => some .p2
    | 3 => some .p3
    | _ => none
  match want with
  | some b => if s1.power.st = b then s1 else (requestPower s1 b).getD s1
  | none => s1

/-- POWER_STATE_CHANGE_DONE (R680): the idle powers are those measured at an entry to P1; the wires, those that the
wire test of a return from P2 finds failing. The exit from P3 ends with the boot. -/
def execPowerStateChangeDone (idle : Vector U16 8) (wires : List WireCount) (s : State) : Host.Outcome State Fault Refusal :=
  match s.power.target with
  | none => .next s
  | some b => if s.power.st = .p3 then .next s else .next (runPending (enterPower s b idle wires))

/-! ### Sleep (R682) -/

/-- ISLAND_SLEEP (R682): the MGP, or the SEP, puts its own island to sleep. -/
def execIslandSleep (sep : Bool) (s : State) : Host.Outcome State Fault Refusal :=
  .next (if sep then (if s.sys.sep = .up then { s with sys := { s.sys with sep := .asleep } } else s)
    else (if s.sys.mgp = .up then { s with sys := { s.sys with mgp := .asleep } } else s))

/-- The AON wakes a sleeping island. -/
def wakeIsland (s : State) (sep : Bool) : State :=
  if sep then (if s.sys.sep = .asleep then { s with sys := { s.sys with sep := .waking } } else s)
  else (if s.sys.mgp = .asleep then { s with sys := { s.sys with mgp := .waking } } else s)

/-- ISLAND_WAKE (R682). -/
def execIslandWake (sep : Bool) (s : State) : Host.Outcome State Fault Refusal := .next (wakeIsland s sep)

end Sys2Proof.Machine
end

