-- ==== Sys2Proof/Machine/Security.lean ====
section
/-! DEFINITION. Partitions and keys (chapter 15): a die that changes hands (R610 to R612), a partition's quota and keys
(R631), and zeroisation (R633, R634). -/

namespace Sys2Proof.Machine

def updSec (s : State) (f : SecurityS → SecurityS) : State := { s with sec := f s.sec }

/-! ### Dies that change hands (R610 to R612) -/

/-- Descriptors that wait in an IOD reel and name a die's storage end with OFFLINE before they start (R611, step 1). -/
def dropQueuedIod (s : State) (hits : Addr → Bool) : State :=
  let names (m : Move) : Bool := (descRanges m.desc).any (fun x => match addrF x.1 with
    | some a => addrOwn s a && hits a
    | none => false)
  let gone (m : Move) : Bool := !m.started && names m
  [64, 65, 66, 67].foldl (fun t r =>
    match ((reelOf t r).queue.filter gone).getLast? with
    | none => t
    | some m => updReel t r (fun x => { x with
        queue := x.queue.filter (fun y => !gone y), lastStatus := 10#8, failAddr := BitVec.ofNat 64 (accessAddr t m)
        failPart := m.part })) s

/-- A die of a partition begins to be cleared: its moves and those that name its storage end, its pair's keys are
destroyed, and the pair is being rewritten (R611, steps 1 and 2; log entry 65). -/
def beginClear (s : State) (k : Nat) : State :=
  let hits (a : Addr) : Bool := onDie k a || (decide (a.tier = .hbm) && decide (a.unit = k))
  let s1 := (dieReels k).foldl (fun t r => match runningMove t r with
    | some m => endMove t r 10 (accessAddr t m)
    | none => t) (endMovesTo (dropQueuedIod s hits) hits)
  updSec s1 (fun x => { x with
    clearing := x.clearing ||| BitVec.ofNat 8 (2 ^ k), hbmKeys := vset x.hbmKeys k false, rewriting := vset x.rewriting k true })

/-- Locations of a pair that hold corrupted data are none once it is rewritten. -/
def rewritePair (s : State) (k : Nat) : State :=
  updMem s (fun m => { m with
    hbm := vset m.hbm k Mem.empty
    bad := m.bad.filter (fun b => match b.place with
      | .hbm j => decide (j ≠ k)
      | _ => true) })

/-- DIE_CLEAR_DONE (R611): pair, local storage and store are zero, the pair has new keys, and the die's seeds, drain
indices and counters are reset. -/
def execDieClearDone (k : Fin 8) (s : State) : Host.Outcome State Fault Refusal :=
  if s.sec.clearing.toNat.testBit k then
    let s1 := rewritePair (freshDie (dropDieProofs s k) k) k
    let keys : Bool := (partOfDie s1 k).isSome
    .next (updSec s1 (fun x => { x with
      clearing := x.clearing &&& ~~~ BitVec.ofNat 8 (2 ^ k.val), hbmKeys := vset x.hbmKeys k keys, rewriting := vset x.rewriting k false }))
  else .next s

/-- A partition that has lost its last die: its group slots, windows and mailbox channels (R612). -/
def emptyPartition (s : State) (p : Nat) : State :=
  let s1 := { s with cle := { s.cle with groups := s.cle.groups.map (fun g => if g.owner.toNat = p then GroupSlot.reset else g) } }
  let s2 := (List.range 256).foldl (fun t w => if (winOf t w).owner.toNat = p then (writeWindowOpen t w p 0).getD t else t) s1
  (List.range 64).foldl (fun t c =>
    let m := chOf t c
    if m.st ≠ .unbound ∧ (chSender m = 0x20 + p ∨ chReceiver m = 0x20 + p) then
      updCh t c (fun y => { resetChannel y with st := if y.st = .resetting then .resetting else .empty })
    else t) s2

/-- A new partition map takes effect (R604, R610 to R612): a die that leaves a partition is cleared; a die that joins one
from none has new keys (R631). -/
def commitPartMap (s : State) (new : Vector U8 8) : State :=
  let old := s.sec.partMap
  let s1 := updSec s (fun x => { x with partMap := new })
  let s2 := (List.range 8).foldl (fun t k =>
    let a := vget old k 0xFF#8
    let b := vget new k 0xFF#8
    if a = b then t
    else if a ≠ 0xFF#8 then beginClear t k
    else updSec t (fun x => { x with hbmKeys := vset x.hbmKeys k true })) s1
  (List.range 8).foldl (fun t p =>
    let had : Bool := old.toList.any (fun b => decide (b.toNat = p))
    let has : Bool := new.toList.any (fun b => decide (b.toNat = p))
    if had && !has then emptyPartition t p else t) s2

/-- New quotas take effect (R609, R612, R631): flash keys are generated for a quota that becomes nonzero without keys; a
quota of zero gives the space back. -/
def commitQuotas (s : State) (new : Vector U16 8) : State :=
  let s1 := updSec s (fun x => { x with
    flashQuota := new
    flashKeys := Vector.ofFn (fun p : Fin 8 => x.flashKeys[p] || decide (new[p] ≠ 0#16)) })
  updMem s1 (fun m => { m with flash := Vector.ofFn (fun p : Fin 8 => if new[p] = 0#16 then Mem.empty else m.flash[p]) })

/-! ### Zeroisation (R633, R634) -/

/-- KEYS_ZEROISED, with the code in DETAIL. -/
def keysZeroised (s : State) (code : Nat) (part : Option Nat) : State :=
  raiseP { s with sec := { s.sec with zeroisations := bump s.sec.zeroisations } } 0x95 ukPACKAGE 0 (Config.detail 0x95 code 0 0) false part

/-- The keys of a partition go (R634): its running negative fails, its pairs are to be rewritten, its flash reads zero. -/
def destroyPart (s : State) (p : Nat) : State :=
  let n := negOf s p
  let runs : Bool := decide (n.state = .running ∨ n.state = .stopping ∨ n.state = .suspending)
  let s1 := if runs then downgrade (loseUnit s p ((negDies s p).headD 0)) p 4 5 4 else s
  let mine (k : Nat) : Bool := decide (partOfDie s k = some p)
  updMem (updSec s1 (fun x => { x with
      hbmKeys := Vector.ofFn (fun k : Fin 8 => x.hbmKeys[k] && !mine k)
      rewriting := Vector.ofFn (fun k : Fin 8 => x.rewriting[k] || mine k)
      flashKeys := vset x.flashKeys p false }))
    (fun m => { m with
      flash := vset m.flash p Mem.empty
      bad := m.bad.filter (fun b => match b.place with
        | .flash q => decide (q ≠ p)
        | _ => true) })

/-- A host-link key slot is emptied (R634): its port enters ENROLLMENT where its link is up, and its controlled port
closes under R519. -/
def destroyHost (s : State) (n : Nat) : State :=
  let was := (hportOf s n).st
  let up : Bool := decide (was = .linkUp ∨ was = .secured ∨ was = .enrollment)
  let s1 := updSec s (fun x => { x with hostKeys := vset x.hostKeys n false, hostWrapped := vset x.hostWrapped n [] })
  let s2 := if up then updHport s1 n (fun p => { p with st := .enrollment }) else s1
  if was = .secured then closePort s2 n else s2

/-- Code PARTITION. -/
def zeroisePart (s : State) (p : Nat) : State := keysZeroised (destroyPart s p) (0x100 + p) (some p)
/-- Code HOST_LINK. -/
def zeroiseHost (s : State) (n : Nat) : State := keysZeroised (destroyHost s n) (0x200 + n) none
/-- Code ALL. -/
def zeroiseAll (s : State) : State :=
  keysZeroised ((List.range 2).foldl destroyHost ((List.range 8).foldl destroyPart s)) 0x3FF none

/-- ZEROISE_REWRITE_DONE (R634): a partition's pairs hold zero data under new keys, and its flash keys are new where its
quota is nonzero. -/
def execZeroiseRewriteDone (p : Fin 8) (s : State) : Host.Outcome State Fault Refusal :=
  let todo (k : Nat) : Bool := vget s.sec.rewriting k false && !s.sec.clearing.toNat.testBit k && decide (partOfDie s k = some p.val)
  let s1 := (List.range 8).foldl (fun t k => if todo k then rewritePair t k else t) s
  .next (updSec s1 (fun x => { x with
    hbmKeys := Vector.ofFn (fun k : Fin 8 => x.hbmKeys[k] || todo k)
    rewriting := Vector.ofFn (fun k : Fin 8 => x.rewriting[k] && !todo k)
    flashKeys := vset x.flashKeys p (vget x.flashKeys p false || decide (vget x.flashQuota p 0#16 ≠ 0#16)) }))

/-! ### The tables at manufacture (R589, R616, R706) -/

/-- Guard table, credential table and binding table at their manufacture values, and D000h:02 at 0. -/
def factoryTables (s : State) : State :=
  let s1 := updSec s (fun x => { x with
    partMap := Vector.replicate 8 0xFF#8, flashQuota := Vector.replicate 8 0#16, rights := Vector.replicate 8 0#8
    debugEn := 0#8, injEn := 0#16, grants := [], creds := Vector.replicate 64 [], ownership := .unowned, generation := 0#64 })
  { s1 with mail := { s1.mail with chans := Vector.ofFn (fun c : Fin 64 =>
      let m := s1.mail.chans[c]
      { MailboxS.reset c with messages := m.messages, notices := m.notices }) } }

/-- CLAIMING_EXPIRY (R618): ten minutes without a claim. -/
def execClaimingExpiry (s : State) : Host.Outcome State Fault Refusal :=
  if s.sec.ownership = .claiming then
    let s1 := advanceTo s (s.sec.claimFrom + 600000000000)
    .next { s1 with
      sec := { s1.sec with ownership := .unowned }
      eumon := { s1.eumon with sessions := s1.eumon.sessions.filter (fun x => decide (x.ident ≠ idCLAIM)) } }
  else .next s

end Sys2Proof.Machine
end

