-- ==== Sys2Proof/Machine/Boot.lean ====
section
/-! DEFINITION. Resets, the boot sequence, firmware, the MGP's watchdog, recovery, functions and the management bus
(chapter 17). -/

namespace Sys2Proof.Machine

def updSys (s : State) (f : SystemS → SystemS) : State := { s with sys := f s.sys }

/-! ### Boot states (R698, R699) -/

/-- 2F00h:02. While a boot runs, the state follows the time since its origin; before one starts it reads ROM. -/
def bootCode (s : State) : Nat :=
  match s.sys.boot with
  | .waitRefclk => 1
  | .loading => 2
  | .init => 3
  | .ready => 4
  | .loader => 5
  | .recovery => 6
  | .tripped => 7
  | .rom =>
    if !s.sys.booting then 0
    else
      let t := s.now - s.sys.bootFrom
      if t < 175000000 then 0 else if t < 225000000 then 2 else 3

/-! ### Resets of the package (R690 to R694) -/

/-- How far a reset reaches: a reset absorbs what is no wider (R692). -/
def resetWidth : ResetKind → Nat
  | .island _ => 1
  | .die _ => 2
  | .package => 3
  | .cold => 4
  | .recovery => 5

/-- A reset of the whole package runs (R691, R693): what it loses is lost, and a boot is due. -/
def runReset (s : State) (kind : ResetKind) (cause : U8) : State :=
  let s1 := loseVolatile (s.ev.returning.foldl (fun t u => feedUnit t u.1.toNat u.2.toNat) s) (decide (kind ≠ .package))
  { s1 with
    power := { s1.power with convertersOn := true }
    sys := { s1.sys with boot := .rom, bootDue := true, booting := false, running := some kind, cause := cause, latched := none } }

/-- Every valid sensor reads below 70 °C (R684, R694). -/
def cool (s : State) : Bool := s.power.sensors.all (fun x => !x.valid || decide (x.hist.headD 0 < 700))

/-- The input lies within R658. -/
def inputGood (s : State) : Bool := decide (42000 ≤ s.power.mv.toNat ∧ s.power.mv.toNat ≤ 58000)

/-- The wider of two resets. -/
def widerReset (a : Option ResetKind) (b : ResetKind) : ResetKind :=
  match a with
  | some x => if resetWidth b ≤ resetWidth x then x else b
  | none => b

/-- A request of a PACKAGE, COLD or RECOVERY reset arrives (R692, R694); none where it is refused. -/
def packageReset (s : State) (kind : ResetKind) (cause : U8) : Option State :=
  match s.power.stop with
  | .tripped =>
    if cool s then some (runReset s kind cause)
    else some (updSys s (fun y => { y with latched := some (widerReset y.latched kind), latchedCause := cause }))
  | .inputFault => if inputGood s then some (runReset s kind cause) else none
  | .none =>
    match s.sys.running with
    | some r => if resetWidth kind ≤ resetWidth r then some s else some (runReset s kind cause)
    | none => some (runReset s kind cause)

/-- LATCHED_RESET_RUN (R694). -/
def execLatchedResetRun (s : State) : Host.Outcome State Fault Refusal :=
  match s.sys.latched with
  | some k => .next (if cool s then runReset s k s.sys.latchedCause else s)
  | none => .next s

/-! ### Resets of a die and of an island (R690 to R692, R731) -/

/-- The islands of a die (R690). -/
def dieIslands (k : Nat) : List Nat := (List.range 10).map (fun i => 10 * k + i)

/-- The die is in reset. -/
def dieInReset (s : State) (k : Nat) : Bool := (dieIslands k).all (fun i => s.sys.resetting.contains i)

/-- A DIE reset (R691). -/
def startDieReset (s : State) (k : Nat) : State :=
  if s.sys.running.isSome ∨ dieInReset s k = true then s
  else
    let s1 := resetDie (exposuresLose s (fun i => (dieIslands k).contains i)) k
    updSys s1 (fun y => { y with resetting := (y.resetting ++ dieIslands k).eraseDups })

/-- Units that a reset of an island covers. -/
def islandCovers (i uk ui : Nat) : Bool :=
  if i < 80 ∧ i % 10 = 9 then decide (uk = ukSEQ ∧ ui = i / 10) || decide (uk = ukREEL ∧ ui < 64 ∧ ui / 8 = i / 10)
  else (islandUnits i).contains (uk, ui)

/-- An ISLAND reset (R691). -/
def startIslandReset (s : State) (i : Nat) : State :=
  if s.sys.running.isSome ∨ s.sys.resetting.contains i = true then s
  else updSys (resetIsland s i) (fun y => { y with resetting := y.resetting ++ [i] })

/-- What leaves reset (R600): an island or a die. -/
def leaveIsland (s : State) (i : Nat) : State :=
  if !s.sys.resetting.contains i then s
  else
    let s1 := updSys s (fun y => { y with resetting := y.resetting.filter (fun j => decide (j ≠ i)) })
    if i = 84 then
      (if s1.sys.mgpFailed then s1
       else receiverOut (updSys s1 (fun y => { y with mgp := .up, wdAt := s1.now })) 0x01)
    else if i = 85 then receiverOut (updSys s1 (fun y => { y with sep := .up })) 0x02
    else
      let s2 :=
        if i = 80 ∨ i = 81 then updHport s1 (i - 80) (fun p => { p with trainFrom := s1.now })
        else if 88 ≤ i ∧ i < 104 ∧ (laserOf s1 (i - 88)).st = .on then
          [2 * (i - 88), 2 * (i - 88) + 1].foldl (fun t e => if (engOf t e).st = .outOfService then t else lightEngine t e) s1
        else s1
      let s3 := leaveUnits s2 (islandCovers i)
      if i < 80 then startReady s3 (i / 10) else s3

/-- LEAVE_RESET (R600, R695, R731): a unit reset alone leaves reset; what is on the fault list and it covers has left
service. -/
def execLeaveReset (u : ResetUnit) (s : State) : Host.Outcome State Fault Refusal :=
  .next (match u with
    | .island i => leaveIsland s i.val
    | .die k =>
      let was := dieInReset s k.val
      let s1 := (dieIslands k.val).foldl leaveIsland s
      if was then leaveUnits s1 (dieCovers k.val) else s1)

/-! ### RST_N and the input (R684, R766, R785) -/

/-- RST_N_ASSERT (R766): the assertion's length in ns. Between 10 µs and 1 ms it is ignored or requests the reset. The
boot waits for the deassertion, which BOOT_START brings. -/
def execRstNAssert (ns : Nat) (s : State) : Host.Outcome State Fault Refusal :=
  if ns < 10000 then .next s
  else
    let (k, s0) := drawFree s
    if ns < 1000000 ∧ Config.freeNat k % 2 = 0 then .next s0
    else .next ((packageReset (updSys s0 (fun y => { y with rstN := true })) .package 1#8).getD s0)

/-- INPUT_REMOVED (R684, R724, R785): the AON stops; its settings, the prior record and TRIPPED are lost. -/
def execInputRemoved (s : State) : Host.Outcome State Fault Refusal :=
  let s1 := loseVolatile s true
  .next { s1 with
    ev := { s1.ev with prior := [] }
    power := { s1.power with convertersOn := false, inputValid := false, stop := .none, thermtrip := false }
    sys := { s1.sys with
      boot := .rom, booting := false, bootDue := false, running := none, cause := 0#8, latched := none, afterBoot := false
      rstN := false } }

/-! ### Firmware (R700 to R704) -/

/-- A field of the 256-byte header, by its first byte and length. -/
def fwField (img : List Byte) (off len : Nat) : Nat := leNat ((img.drop off).take len)
def fwVersionOf (img : List Byte) : Nat := fwField img 4 4
def fwSecver (img : List Byte) : Nat := fwField img 8 2

/-- The image with SIG taken as zero (R700). -/
def fwSigned (img : List Byte) : List Byte := img.take 16 ++ List.replicate 96 0#8 ++ img.drop 112

/-- The checks of R702. -/
def fwChecks (img : List Byte) : Bool :=
  decide (fwField img 0 4 = 0x4F7B1E03) && decide (fwField img 10 2 = 0) && decide (fwField img 12 4 = img.length) &&
    decide (256 ≤ img.length ∧ img.length ≤ 16777216) && decide (fwField img 112 144 = 0) &&
    Config.ecdsaVerify Config.firmwareKey (sha384 (fwSigned img)) ((img.drop 16).take 96)

/-- A write of 2F20h:03 (R701). A replacement in progress goes on with its own image. -/
def stageFirmware (s : State) (img : List Byte) : State :=
  updSys s (fun y => { y with fwStaged := img, fwState := if y.fwState = .writing then .writing else .staged })

/-- A write of 1 to 2F20h:05 (R701, R703); none while an image is being written. -/
def commitFirmware (s : State) : Option State :=
  if s.sys.fwState = .writing then none
  else
    let img := s.sys.fwStaged
    let ok : Bool := !img.isEmpty && decide (s.sys.fwFloor.toNat ≤ fwSecver img) && fwChecks img
    some (updSys s (fun y => if ok then { y with fwState := .writing, fwImage := some img } else { y with fwState := .invalid }))

/-- FIRMWARE_WRITTEN (R701, R704): the replacement is complete, and the floor rises. The loader starts a PACKAGE reset. -/
def execFirmwareWritten (s : State) : Host.Outcome State Fault Refusal :=
  if s.sys.fwState = .writing then
    let img := s.sys.fwImage.getD []
    let s1 := updSys s (fun y => { y with
      fwState := .written, fwFloor := BitVec.ofNat 16 (max y.fwFloor.toNat (fwSecver img)) })
    let s2 := raise s1 0xB3 ukPACKAGE 0 0
    .next (if s.sys.boot = .loader then
        runReset (updSys s2 (fun y => { y with fwValid := true })) .package 2#8
      else s2)
  else .next s

/-- The image in flash comes into force at a boot after a PACKAGE, COLD or RECOVERY reset (R701). -/
def takeImage (y : SystemS) : SystemS :=
  if y.fromP3 then y else match y.fwImage with
  | some img =>
    { y with fwValid := true, fwVersion := BitVec.ofNat 32 (fwVersionOf img), fwDigest := sha384 img, fwImage := none }
  | none => y

/-! ### The boot sequence (R698) -/

/-- Pending map-outs boot MAPPED_OUT (R286). -/
def bootMapOuts (s : State) : State :=
  updMem s (fun m => { m with
    chans := m.chans.map (fun c => if c.st = .mapoutPending then { c with st := .mappedOut, held := [] } else c)
    regions := m.regions.map (fun r => if r.st = .mapoutPending then { r with st := .mappedOut, held := [] } else r) })

/-- Recorded retirements of a channel that is mapped out are dropped (R281). -/
def bootRetired (s : State) : State :=
  updMem s (fun m => { m with pairs := Vector.ofFn (fun k : Fin 8 =>
    let gone (u : UnitRec) : Bool := decide ((vget m.chans (64 * k.val + u.chan) ChanS.reset).st = .mappedOut)
    { m.pairs[k] with
      retired := m.pairs[k].retired.filter (fun u => !gone u), pending := m.pairs[k].pending.filter (fun u => !gone u) }) })

/-- The SEP finds no valid image (R704): 175 ms into the boot it enters LOADER, and the host ports leave reset. -/
def enterLoader (s : State) : State :=
  let s1 := advanceTo s (s.sys.bootFrom + 175000000)
  let s2 := updSys s1 (fun y => { y with boot := .loader, booting := false, running := none, sep := .up })
  raise (receiverOut (updHport (updHport s2 0 (fun p => { p with trainFrom := s1.now })) 1 (fun p => { p with trainFrom := s1.now })) 0x02)
    0xB4 ukPACKAGE 0 0

/-- BOOT_START (R698): RST_N is deasserted, the lands are functional (R772), and the boot starts. `wires`: the failing wires of the links that
have any (R27); `calOk`: the calibration set passes its checks (R354), and takes effect but at an exit from P3 (R352); `imgOk`: the image read from flash passes R702. -/
def execBootStart (wires : List WireCount) (calOk imgOk : Bool) (s : State) : Host.Outcome State Fault Refusal :=
  if !s.sys.bootDue ∨ !s.power.convertersOn then .next s
  else
    let s1 := updSys s (fun y => takeImage { y with
      bootDue := false, booting := true, bootFrom := s.now, boots := bump y.boots, rstN := false
      boot := if s.clk.refHoldover then .waitRefclk else .rom
      jtag := { y.jtag with ir := if y.jtag.ir = .idcode ∨ y.jtag.ir = .samplePreload then y.jtag.ir else .bypass } })
    let s2 := updSys s1 (fun y => { y with fwValid := y.fwValid && imgOk })
    let s3 := updCalib s2 (fun c => { c with
      inForce := if !calOk then none else if s.sys.fromP3 && c.inForce.isSome then c.inForce else some c.stored })
    let s4 := if calOk then s3 else raise s3 0x4B ukPACKAGE 0 0
    let s5 := bootRetired (bootMapOuts s4)
    let s6 := testWires s5 (fun _ => true) wires
    let s7 := { s6 with ev := { s6.ev with
      buttonFromRelease := s.sys.rstN && s6.ev.buttonFrom.isSome && !s6.ev.buttonRead
      buttonFrom := if s.sys.rstN && s6.ev.buttonFrom.isSome then some s.now else s6.ev.buttonFrom } }
    .next (if s7.sys.fwValid || s7.clk.refHoldover then s7 else enterLoader s7)

/-- REFCLK_RESTORED (R649): a boot that waited goes on from its step 3, 5 ms after its origin (R698). -/
def execRefclkRestored (s : State) : Host.Outcome State Fault Refusal :=
  if s.clk.refHoldover then
    let s1 := raise (updClk s (fun c => { c with refHoldover := false })) 0xA1 ukPACKAGE 0 0
    if s.sys.boot = .waitRefclk then
      let s2 := updSys s1 (fun y => { y with boot := .rom, bootFrom := s.now - 5000000 })
      .next (if s2.sys.fwValid then s2 else enterLoader s2)
    else .next s1
  else .next s

/-- The lasers of the record are enabled again (R681). -/
def relightLasers (s : State) : State :=
  if s.sys.fromP3 then
    (List.range 16).foldl (fun t n => if vget s.power.lasers n false then (laserEnable t n).getD t else t) s
  else s

/-- BOOT_DONE (R698): step 8, 2.75 s after the origin, and READY. Units that left service at the reset are named (R731);
assigned pairs have keys (R631); a recovery is done (R706). -/
def execBootDone (s : State) : Host.Outcome State Fault Refusal :=
  if s.sys.booting ∧ s.sys.boot = .rom ∧ s.sys.fwValid = true then
    let s1 := advanceTo s (s.sys.bootFrom + 2750000000)
    let s2 := updSys s1 (fun y => { y with
      boot := .ready, booting := false, running := none, mgp := .up, sep := .up, wdAt := s1.now, afterBoot := false })
    let s3 := receiverOut (receiverOut s2 0x01) 0x02
    let s4 := updHport (updHport s3 0 (fun p => { p with trainFrom := s1.now })) 1 (fun p => { p with trainFrom := s1.now })
    let s5 := updSec s4 (fun x => { x with hbmKeys := x.partMap.map (fun p => decide (p.toNat < 8)) })
    let s6 := updPower s5 (fun w => { w with st := .p0, target := none, pending := 0xFF#8, lasers := Vector.replicate 16 false })
    let s7 := leaveUnits (raise s6 0xB0 ukPACKAGE 0 0) (fun _ _ => true)
    let s8 := relightLasers { s7 with power := { s7.power with lasers := s.power.lasers } }
    let s9 := scrubsBegin (updSys (updPower s8 (fun w => { w with lasers := Vector.replicate 16 false })) (fun y => { y with fromP3 := false }))
    .next (if s.sys.afterBoot then raise s9 0xB5 ukPACKAGE 0 0 else s9)
  else .next s

/-! ### The watchdog (R695, R697) -/

/-- WATCHDOG_WRITE (R695). -/
def execWatchdogWrite (s : State) : Host.Outcome State Fault Refusal :=
  .next (if s.sys.mgp = .up then updSys s (fun y => { y with wdAt := s.now }) else s)

/-- MGP_RESET (R695, R697): the interval has passed without a write; the third in ten minutes leaves the MGP in reset. -/
def execMgpReset (s : State) : Host.Outcome State Fault Refusal :=
  if s.sys.mgp = .up then
    let s1 := advanceTo s (s.sys.wdAt + 1000000 * s.sys.wdInterval.toNat)
    let recent := (s1.sys.mgpResetAt.filter (fun t => decide (s1.now < t + 600000000000))) ++ [s1.now]
    let s2 := updSys (answerHeld (resetReceiver s1 0x01)) (fun y => { y with
      mgp := .resetting, mgpResets := bump y.mgpResets, mgpResetAt := recent
      resetting := if y.resetting.contains 84 then y.resetting else y.resetting ++ [84]
      mgpFailed := decide (3 ≤ recent.length) })
    let s3 := raise s2 0xB1 ukISLAND 84 0
    .next (if 3 ≤ recent.length then raise s3 0xB2 ukISLAND 84 0 else s3)
  else .next s

/-! ### Recovery (R705, R706) -/

/-- RECOVERY_ARM_LAPSE (R705): 60 s without the button. -/
def execRecoveryArmLapse (s : State) : Host.Outcome State Fault Refusal :=
  match s.sys.armedAt with
  | some t => .next (updSys (advanceTo s (t + 60000000000)) (fun y => { y with armedAt := none }))
  | none => .next s

/-- Step 4 of R706: mapped-out channels and their repair maps are cleared, store regions return to service. -/
def clearMapOuts (s : State) : State :=
  updMem s (fun m => { m with
    chans := m.chans.map (fun c => if c.st = .mappedOut then
        { c with st := .inService, spareUsed := 0#16, retirements := 0#8, maps := [], deadSpares := [], held := [] }
      else { c with st := .inService })
    regions := m.regions.map (fun r => { r with st := .inService }) })

/-- The recovery procedure (R706). -/
def runRecovery (s : State) : State :=
  let s1 := factoryTables (zeroiseAll s)
  let s2 := updMem s1 (fun m => { m with
    flash := Vector.replicate 8 Mem.empty
    bad := m.bad.filter (fun b => match b.place with
      | .flash _ => false
      | _ => true) })
  let s3 := runReset (updSys (clearMapOuts s2) (fun y => { y with armedAt := none })) .recovery 4#8
  updSys s3 (fun y => { y with boot := .recovery, afterBoot := true })

/-! ### Functions (R707 to R710) -/

def funcOf (s : State) (f : Nat) : FuncS := vget s.sys.funcs f FuncS.reset
def updFunc (s : State) (f : Nat) (g : FuncS → FuncS) : State := updSys s (fun y => { y with funcs := vmod y.funcs f g })

/-- A shutdown starts: a die's sequencer reads OUT_OF_SERVICE from now on, a port's controlled port closes (R709, R710). -/
def startDisable (s : State) (f : Nat) : State :=
  let s1 := updFunc s f (fun x => { x with st := .disabling })
  if f < 8 then updSeq s1 f (fun q => { q with st := .outOfService })
  else
    let was := (hportOf s1 (f - 8)).st
    let s2 := updHport s1 (f - 8) (fun p => { p with st := .training, locked := false })
    if was = .secured then closePort s2 (f - 8) else s2

/-- A write of 9600h:01 (R707 to R710); none where it is refused. -/
def setFunction (s : State) (f v : Nat) : Option State :=
  match (funcOf s f).st with
  | .enabling | .disabling => some (updFunc s f (fun x => { x with pending := BitVec.ofNat 8 v }))
  | .enabled =>
    if v = 1 then some s
    else if f < 8 then (if (partOfDie s f).isSome then none else some (startDisable s f))
    else if (funcOf s (17 - f)).st = .enabled then some (startDisable s f) else none
  | .disabled => if v = 0 then some s else some (updFunc s f (fun x => { x with st := .enabling }))

/-- A function's change completes (R707, R709, R710): a disabled die has lost its contents; an enabled one has passed its
wire test, or its link fails; an enabled port begins its bring-up. -/
def endFunction (s : State) (f : Nat) (wires : List WireCount) : State :=
  match (funcOf s f).st with
  | .disabling =>
    let s1 := updFunc s f (fun x => { x with st := .disabled })
    if f < 8 then updSeq (resetDie s1 f) f (fun q => { q with st := .outOfService }) else s1
  | .enabling =>
    let s1 := updFunc s f (fun x => { x with st := .enabled })
    if f < 8 then
      let s2 := keepOut (updSeq s1 f (fun q => { q with st := .idle }))
      testWires s2 (dieLink f) wires
    else updHport s1 (f - 8) (fun p => { p with st := .training, locked := false, trainFrom := s1.now })
  | _ => s

/-- FUNCTION_CHANGE_DONE (R707): the change completes, and a pending value runs as if it had just been written. -/
def execFunctionChangeDone (f : Fin 10) (wires : List WireCount) (s : State) : Host.Outcome State Fault Refusal :=
  let p := (funcOf s f).pending
  if (funcOf s f).st = .enabled ∨ (funcOf s f).st = .disabled then .next s
  else
    let s1 := updFunc (endFunction s f wires) f (fun x => { x with pending := 0xFF#8 })
    .next (if p = 0xFF#8 then s1 else (setFunction s1 f p.toNat).getD s1)

/-! ### The management bus (R711, R712, R768) -/

/-- A private transfer reaches the AON once it has a dynamic address. -/
def onBus (s : State) : Bool := s.sys.i3cAddr.isSome

/-- I3C_WAKE (R681, R711). -/
def execI3cWake (s : State) : Host.Outcome State Fault Refusal :=
  .next (if onBus s ∧ s.power.st = .p3 ∧ s.power.target = none then (requestPower s .p0).getD s else s)

/-- I3C_RESET (R691, R711). -/
def execI3cReset (s : State) : Host.Outcome State Fault Refusal :=
  .next (if onBus s then (packageReset s .package 3#8).getD s else s)

/-- I3C_ATTN (R711). -/
def execI3cAttn (s : State) : Host.Outcome State Fault Refusal :=
  .next (if onBus s then updSys s (fun y => { y with attn := true }) else s)

/-- The status byte (R712). -/
def statusByte (s : State) : Nat :=
  bootCode s % 16 + 16 * (powerCode s.power.st % 8) + (if s.power.thermtrip then 128 else 0)

/-- I3C_STATUS_READ (R712). -/
def execI3cStatusRead (s : State) : Host.Outcome State Fault Refusal :=
  .next (if onBus s then emit s (.bus [BitVec.ofNat 8 (statusByte s)]) else s)

/-- The provisioned identity (R768). -/
def provisionedId : Nat := 0x2A6B * 2 ^ 33 + Config.serial.toNat % 2 ^ 32

/-- A number on the bus, most significant byte first. -/
def busBytes (len n : Nat) : List Byte := (leBytes len n).reverse

/-- ENTDAA (R768): the AON answers with its identity and characteristics, which no rule states, and takes an address. -/
def execEntdaa (addr : BitVec 7) (s : State) : Host.Outcome State Fault Refusal :=
  if s.sys.i3cAddr.isSome then .next s
  else .next (emit (updSys s (fun y => { y with i3cAddr := some addr }))
    (.bus (busBytes 6 provisionedId ++ [BitVec.ofNat 8 Config.busCharacteristics, BitVec.ofNat 8 Config.deviceCharacteristics])))

/-- RSTDAA (R768). -/
def execRstdaa (s : State) : Host.Outcome State Fault Refusal := .next (updSys s (fun y => { y with i3cAddr := none }))

/-- GETPID (R768). -/
def execGetpid (s : State) : Host.Outcome State Fault Refusal := .next (if onBus s then emit s (.bus (busBytes 6 provisionedId)) else s)

/-- GETBCR, GETDCR and GETSTATUS (R768): the values are not stated. -/
def execGetbcr (s : State) : Host.Outcome State Fault Refusal :=
  .next (if onBus s then emit s (.bus [BitVec.ofNat 8 Config.busCharacteristics]) else s)
def execGetdcr (s : State) : Host.Outcome State Fault Refusal :=
  .next (if onBus s then emit s (.bus [BitVec.ofNat 8 Config.deviceCharacteristics]) else s)
def execGetstatus (s : State) : Host.Outcome State Fault Refusal :=
  let (k, s1) := drawFree s
  .next (if onBus s then emit s1 (.bus (busBytes 2 (Config.freeNat k))) else s)

end Sys2Proof.Machine
end

