-- ==== Sys2Proof/Machine/Mailbox.lean ====
section
/-! DEFINITION. Mailboxes and doorbells (chapter 14), the service button and state (R748 to R750), what an armed
injection point does at once (R735), and the test access port (R769 to R772). -/

namespace Sys2Proof.Machine

/-! ### Mailboxes (R587 to R603) -/

/-- A channel enters FULL: the doorbell of the MGP or the SEP rings (R596). -/
def fillChannel (s : State) (c : Nat) : State :=
  let s1 := updCh s c (fun m => { m with st := .full })
  let who := chReceiver (chOf s c)
  if who = 0x01 ∨ who = 0x02 then emit s1 (.interrupt who c) else s1

/-- The receiver's domain is powered down, or still coming up (R598). -/
def domainDown (s : State) (who : Nat) : Bool :=
  let c := if who = 0x01 then s.sys.mgp else s.sys.sep
  decide (who = 0x01 ∨ who = 0x02) && decide (c = .asleep ∨ c = .waking)

/-- A post that the checks of R593 let through (R594, R598). -/
def postMessage (s : State) (c : Nat) (data : List Byte) : State :=
  let m := chOf s c
  let s1 := updCh s c (fun x => { x with msg := data, messages := bump x.messages })
  if chWake m && domainDown s (chReceiver m) then
    wakeIsland (updCh s1 c (fun x => { x with st := .waking, wakeFrom := s.now })) (decide (chReceiver m = 0x02))
  else fillChannel s1 c

/-- A release (R594). -/
def releaseChannel (s : State) (c : Nat) : State := updCh s c (fun m => { m with st := .empty, msg := [] })

/-- A notice cleared by its sender (R603). -/
def clearNotice (s : State) (c : Nat) : State := updCh s c (fun m => { m with notice := 0#8 })

/-- A woken island reports ready (R598): its WAKING channels become FULL. -/
def islandReady (s : State) (sep : Bool) : State :=
  let who := if sep then 0x02 else 0x01
  let s1 := updSys s (fun y => if sep then { y with sep := .up } else { y with mgp := .up, wdAt := s.now })
  (List.range 64).foldl (fun t c => if chReceiver (chOf t c) = who ∧ (chOf t c).st = .waking then fillChannel t c else t) s1

/-- RECEIVER_READY (R598). -/
def execReceiverReady (sep : Bool) (s : State) : Host.Outcome State Fault Refusal :=
  .next (if (if sep then s.sys.sep else s.sys.mgp) = .waking then islandReady s sep else s)

/-- The time a receiver has to report ready: 50 ms for the MGP, 20 ms for the SEP. -/
def wakeLimit (who : Nat) : Nat := if who = 0x01 then 50000000 else 20000000

/-- WAKE_FAILED (R598). -/
def execWakeFailed (c : Fin 64) (s : State) : Host.Outcome State Fault Refusal :=
  let m := chOf s c
  if m.st = .waking then
    .next (updCh (advanceTo s (m.wakeFrom + wakeLimit (chReceiver m))) c (fun x => { x with
      st := .empty, msg := [], notice := 2#8, notices := bump x.notices }))
  else .next s

/-! ### The binding table (R588, R590) -/

/-- Entry c of a table of 256 bytes. -/
def bindEntry (t : List Byte) (c : Nat) : Nat := leNat ((t.drop (4 * c)).take 4)

def bindIdentity (b : Nat) : Bool := decide (b = 1 ∨ b = 2 ∨ (0x20 ≤ b ∧ b ≤ 0x27) ∨ b = 0x40 ∨ b = 0xFF)

/-- The check of one entry (R588); `old` is the entry in force. -/
def bindCheckEntry (m : MailboxS) (e : Nat) : Nat :=
  let snd := bits e 7 0
  let rcv := bits e 15 8
  if bits e 31 17 ≠ 0 ∨ (snd = 0xFF) ≠ (rcv = 0xFF) then 1
  else if !bindIdentity snd || !bindIdentity rcv then 2
  else if snd = rcv ∧ snd ≠ 0xFF then 3
  else if e.testBit 16 ∧ (rcv = 0xFF ∨ rcv = 0x40 ∨ (0x20 ≤ rcv ∧ rcv ≤ 0x27)) then 4
  else if e ≠ m.bind.toNat ∧ m.st ≠ .empty ∧ m.st ≠ .unbound then 5
  else 0

/-- The first failing entry's code, 0 where none fails. -/
def bindCheck (s : State) (t : List Byte) : Nat :=
  (((List.range 64).map (fun c => bindCheckEntry (chOf s c) (bindEntry t c))).find? (fun x => decide (x ≠ 0))).getD 0

/-- A binding commit (R590). -/
def commitBindings (s : State) (t : List Byte) : State :=
  (List.range 64).foldl (fun u c =>
    let e := bindEntry t c
    updCh u c (fun m =>
      if m.bind.toNat = e then m
      else { m with
        bind := BitVec.ofNat 32 e, st := if bits e 7 0 = 0xFF then .unbound else .empty, msg := [], notice := 0#8 })) s

/-! ### Service (R748 to R750) -/

def updEv (s : State) (f : EventS → EventS) : State := { s with ev := f s.ev }

/-- Enter a service state: SERVICE_ENTERED and SERVICE_EXITED (R750). -/
def enterService (s : State) (b : ServiceState) : State :=
  let a := s.ev.service
  let s1 := updEv s (fun e => { e with service := b })
  if a ≠ .inService ∧ b = .inService then raise s1 0x0C ukPACKAGE 0 0
  else if a = .inService ∧ b ≠ .inService then raise s1 0x0D ukPACKAGE 0 0
  else s1

/-- NORMAL becomes REQUESTED, by a press or a write (R748, R749). -/
def requestService (s : State) : State := raise (updEv s (fun e => { e with service := .requested })) 0x0B ukPACKAGE 0 0

/-- A write of 2D00h:01 (R749); none where it is refused. -/
def setService (s : State) (v : Nat) : Option State :=
  match v with
  | 0 => some (enterService s .normal)
  | 1 => match s.ev.service with
    | .normal => some (requestService s)
    | .requested => some s
    | .inService => none
  | _ => if allEmpty s then some (enterService s .inService) else none

/-- Recovery is armed now (R705). -/
def recoveryArmed (s : State) : Bool :=
  match s.sys.armedAt with
  | some t => decide (s.now ≤ t + 60000000000)
  | none => false

/-- SVC_BTN_ASSERT (R748): the button is asserted now and still is 20 ms later; condition 1 is read. -/
def execSvcBtnAssert (s : State) : Host.Outcome State Fault Refusal :=
  if s.ev.buttonFrom.isSome then .next s
  else
    let armed := recoveryArmed s
    let s1 := updEv s (fun e => { e with
      buttonFrom := some s.now, buttonRead := armed, buttonFromRelease := false, presses := bump e.presses })
    let s2 := if armed then runRecovery s1 else s1
    .next (advanceTo s2 (s.now + 20000000))

/-- SVC_BTN_HOLD_5S (R617, R748 condition 3). -/
def execSvcBtnHold5s (s : State) : Host.Outcome State Fault Refusal :=
  match s.ev.buttonFrom with
  | some t =>
    if s.ev.buttonRead ∨ s.sec.ownership ≠ .unowned then .next s
    else
      let s1 := advanceTo s (t + 5000000000)
      .next (updSec (updEv s1 (fun e => { e with buttonRead := true })) (fun x => { x with ownership := .claiming, claimFrom := s1.now }))
  | none => .next s

/-- SVC_BTN_HOLD_10S (R705, R748 condition 2): held from the release of RST_N. -/
def execSvcBtnHold10s (s : State) : Host.Outcome State Fault Refusal :=
  match s.ev.buttonFrom with
  | some t =>
    if s.ev.buttonRead ∨ !s.ev.buttonFromRelease then .next s
    else .next (runRecovery (updEv (advanceTo s (t + 10000000000)) (fun e => { e with buttonRead := true })))
  | none => .next s

/-- SVC_BTN_RELEASE (R748, conditions 4 and 5). -/
def execSvcBtnRelease (s : State) : Host.Outcome State Fault Refusal :=
  match s.ev.buttonFrom with
  | some t =>
    let s1 := updEv s (fun e => { e with buttonFrom := none, buttonRead := false, buttonFromRelease := false })
    if s.ev.buttonRead then .next s1
    else if t + 3000000000 ≤ s.now ∧ s.ev.service = .requested then .next (enterService s1 .normal)
    else if s.ev.service = .normal then .next (requestService s1)
    else .next s1
  | none => .next s

/-! ### Injection points (R733 to R737) -/

def pointOf (s : State) (d : Nat) : InjPoint := vget s.ev.points d InjPoint.reset
def updPoint (s : State) (d : Nat) (f : InjPoint → InjPoint) : State := updEv s (fun e => { e with points := vmod e.points d f })

/-- Detectors that watch without end meet their opportunity as soon as they are armed: REGULATOR, LASER_OK and THERMTRIP.
SLEW meets it at the next sample. -/
def fireAtOnce (s : State) (d uk ui : Nat) : State :=
  match d with
  | 0x0E => if uk = ukREGULATOR ∧ ui < 210 then regulatorFault (injFired s d) ui true else s
  | 0x0F => if uk = ukCHIPLET ∧ ui < 16 then loseLaser (injFired s d) ui true else s
  | 0x10 => if unitExists uk ui = 0 then thermalTrip (injFired s d) uk ui true else s
  | _ => s

/-- A write of 7800h + d:02 (R734, R735). -/
def armPoint (s : State) (d : Nat) (mode : U8) : State :=
  let s1 := updPoint s d (fun p => { p with mode := mode, armed := decide (mode ≠ 0#8) })
  let t := (pointOf s d).target.toNat
  if mode = 0#8 then s1 else fireAtOnce s1 d (bits t 7 0) (bits t 19 8)

/-- A unit is unlocked by D100h:05 (R736): its die's bit, or bit 8. A base die and its links count to their pair's die. -/
def unlockBit (uk ui : Nat) : Nat := (dieOfUnit uk ui).getD 8
def unlocked (en : U16) (uk ui : Nat) : Bool := en.toNat.testBit (unlockBit uk ui)

/-- A commit that clears enable bits returns the points of newly locked units to OFF (R736). -/
def lockPoints (s : State) (en : U16) : State :=
  updEv s (fun e => { e with points := e.points.map (fun p =>
    let uk := bits p.target.toNat 7 0
    let ui := bits p.target.toNat 19 8
    if unlocked s.sec.injEn uk ui && !unlocked en uk ui then { p with mode := 0#8, armed := false } else p) })

/-! ### Lamps (R751) -/

def attnCode (s : State) : Nat :=
  let pending : Bool := s.mem.chans.any (fun c => decide (c.st = .mapoutPending)) || s.mem.regions.any (fun r => decide (r.st = .mapoutPending))
  if s.sys.attn || decide (s.power.stop = .tripped) || s.ev.faults.any (fun f => !f.inj) || pending then 2
  else if s.ev.service = .requested then 1 else 0
def locateCode (s : State) : Nat := if s.ev.service = .inService then 2 else if s.ev.locate then 1 else 0

/-! ### The test access port (R769 to R772) -/

/-- The boundary cells, in this order: LSR_EN[15:0], LSR_OK[15:0], THERMTRIP_N, SHROUD_OPEN_N, SHROUD_REF, RST_N, SVC_BTN_N,
ATTN_N, LOCATE_N, SCL, SDA. Those that drive their lands: the outputs but LSR_EN and THERMTRIP_N (R771), and the bidirectional lands of the bus (R755). -/
def drivingCells : BitVec 41 := BitVec.ofNat 41 (2 ^ 34 + 2 ^ 37 + 2 ^ 38 + 2 ^ 39 + 2 ^ 40)

def selectIr (s : State) (ir : JtagIr) : State := updSys s (fun y => { y with jtag := { y.jtag with ir := ir } })

/-- BYPASS (R769). -/
def execBypass (s : State) : Host.Outcome State Fault Refusal := .next (selectIr s .bypass)

/-- IDCODE (R769). -/
def execIdcode (s : State) : Host.Outcome State Fault Refusal := .next (emit (selectIr s .idcode) (.tdo 0x11048B47))

/-- How a land stands that the T1 drives: LSR_EN[15:0] (R309), THERMTRIP_N, asserted while it is TRIPPED, SHROUD_REF (R761), and
the lamps where they show OFF or ON (R751). A land whose name ends in _N is asserted low (R8), and one that is open drain and
not asserted is pulled up (R761). None where it is another's, and for a lamp that blinks. -/
def landDriven (s : State) (i : Nat) : Option Bool :=
  let lamp (code : Nat) : Option Bool := if code = 2 then some false else if code = 0 then some true else none
  if i < 16 then some (laserOf s i).en
  else if i = 32 then some (!s.power.thermtrip)
  else if i = 34 then some true
  else if i = 37 then lamp (attnCode s)
  else if i = 38 then lamp (locateCode s)
  else none

/-- SAMPLE/PRELOAD (R769): the lands as they stand are shifted out, and the cells are preloaded. The operand gives those lands
that the T1 does not drive. -/
def execSamplePreload (lands preload : BitVec 41) (s : State) : Host.Outcome State Fault Refusal :=
  let shown := leNatBits ((List.range 41).map (fun i => (landDriven s i).getD (lands.getLsbD i)))
  .next (emit (updSys s (fun y => { y with jtag := { ir := .samplePreload, cells := preload } })) (.tdo shown))

/-- An instruction that takes effect only while RST_N is asserted, and is BYPASS otherwise (R772). -/
def drivingIr (s : State) (ir : JtagIr) (mask : BitVec 41) : State :=
  if s.sys.rstN then emit (selectIr s ir) (.lands mask (s.sys.jtag.cells &&& mask)) else selectIr s .bypass

/-- EXTEST (R771, R772). -/
def execExtest (s : State) : Host.Outcome State Fault Refusal := .next (drivingIr s .extest drivingCells)
/-- CLAMP (R772). -/
def execClamp (s : State) : Host.Outcome State Fault Refusal := .next (drivingIr s .clamp drivingCells)
/-- HIGHZ (R772): no land is driven but those the AON drives under every instruction. -/
def execHighz (s : State) : Host.Outcome State Fault Refusal := .next (drivingIr s .highz 0#41)

end Sys2Proof.Machine
end

