-- ==== Sys2Proof/Machine/ObjTable.lean ====
section
/-! DEFINITION. The object dictionary's table (R538 to R541): for each object layout, its subindices with type code,
access code, value lengths and default, as the tables of the chapters give them. The credential and binding tables D200h
and D300h are given by R614, R587 and R588; the group definitions 1300h by R558. -/

namespace Sys2Proof.Machine

/-- One subindex: its type code (R540), access code (R541), least and greatest value length, the length's unit, and its
default. -/
structure ObjRow where
  sub : Nat
  typ : Nat
  acc : Nat
  lo : Nat
  hi : Nat
  mult : Nat
  dflt : Nat
  deriving DecidableEq, Repr

def objRow (sub typ acc lo hi mult dflt : Nat) : ObjRow :=
  { sub := sub, typ := typ, acc := acc, lo := lo, hi := hi, mult := mult, dflt := dflt }

def rows1018 : List ObjRow :=
  [objRow 0x00 1 0 1 1 1 4,
   objRow 0x01 3 0 4 4 1 5591886,
   objRow 0x02 3 0 4 4 1 4168,
   objRow 0x03 2 0 2 2 1 161,
   objRow 0x04 4 0 8 8 1 0]

def rows1020 : List ObjRow :=
  [objRow 0x00 1 1 1 1 1 5,
   objRow 0x01 2 1 2 2 1 512,
   objRow 0x02 3 1 4 4 1 2031616,
   objRow 0x03 2 1 2 2 1 256,
   objRow 0x04 2 1 2 2 1 512,
   objRow 0x05 1 1 1 1 1 64]

def rows1100 : List ObjRow :=
  [objRow 0x00 1 1 1 1 1 4,
   objRow 0x01 4 1 8 8 1 0,
   objRow 0x02 4 1 8 8 1 0,
   objRow 0x03 4 1 8 8 1 0,
   objRow 0x04 1 1 1 1 1 0]

def rows2400 : List ObjRow :=
  [objRow 0x00 1 1 1 1 1 4,
   objRow 0x01 4 1 8 8 1 0,
   objRow 0x02 4 1 8 8 1 0,
   objRow 0x03 1 1 1 1 1 0,
   objRow 0x04 1 1 1 1 1 0]

def rows2800 : List ObjRow :=
  [objRow 0x00 1 1 1 1 1 9,
   objRow 0x01 1 1 1 1 1 0,
   objRow 0x02 3 1 4 4 1 145664,
   objRow 0x03 10 3 145664 145664 1 0,
   objRow 0x04 10 1 48 48 1 0,
   objRow 0x05 1 2 1 1 1 0,
   objRow 0x06 2 1 2 2 1 0,
   objRow 0x07 1 1 1 1 1 0,
   objRow 0x08 10 1 48 48 1 0,
   objRow 0x09 1 1 1 1 1 0]

def rows2810 : List ObjRow :=
  [objRow 0x00 1 1 1 1 1 4,
   objRow 0x01 1 1 1 1 1 0,
   objRow 0x02 4 1 8 8 1 0,
   objRow 0x03 3 1 4 4 1 0,
   objRow 0x04 3 1 4 4 1 0]

def rows2A00 : List ObjRow :=
  [objRow 0x00 1 1 1 1 1 10,
   objRow 0x01 2 3 2 2 1 65535,
   objRow 0x02 1 3 1 1 1 0,
   objRow 0x03 1 3 1 1 1 0,
   objRow 0x04 10 3 128 1152 1 0,
   objRow 0x05 1 1 1 1 1 0,
   objRow 0x06 3 1 4 4 1 0,
   objRow 0x07 4 2 8 8 1 0,
   objRow 0x08 1 1 1 1 1 0,
   objRow 0x09 2 3 2 2 1 65535,
   objRow 0x0A 10 3 0 1024 4 0]

def rows2B00 : List ObjRow :=
  [objRow 0x00 1 1 1 1 1 5,
   objRow 0x01 1 3 1 1 1 8,
   objRow 0x02 1 3 1 1 1 4,
   objRow 0x03 1 3 1 1 1 2,
   objRow 0x04 1 3 1 1 1 2,
   objRow 0x05 1 1 1 1 1 0]

def rows2B10 : List ObjRow :=
  [objRow 0x00 1 1 1 1 1 2,
   objRow 0x01 10 3 8192 8192 1 0,
   objRow 0x02 10 3 0 262144 4 0]

def rows2B20 : List ObjRow :=
  [objRow 0x00 1 1 1 1 1 1,
   objRow 0x01 10 3 0 2048 4 0]

def rows2C00 : List ObjRow :=
  [objRow 0x00 1 1 1 1 1 5,
   objRow 0x01 3 3 4 4 1 1048576,
   objRow 0x02 3 3 4 4 1 50,
   objRow 0x03 1 1 1 1 1 16,
   objRow 0x04 4 1 8 8 1 0,
   objRow 0x05 3 1 4 4 1 0]

def rows2D00 : List ObjRow :=
  [objRow 0x00 1 1 1 1 1 5,
   objRow 0x01 1 3 1 1 1 0,
   objRow 0x02 1 3 1 1 1 0,
   objRow 0x03 1 1 1 1 1 0,
   objRow 0x04 1 1 1 1 1 0,
   objRow 0x05 3 1 4 4 1 0]

def rows2E00 : List ObjRow :=
  [objRow 0x00 1 1 1 1 1 6,
   objRow 0x01 4 1 8 8 1 0,
   objRow 0x02 4 2 8 8 1 0,
   objRow 0x03 1 1 1 1 1 0,
   objRow 0x04 7 1 4 4 1 0,
   objRow 0x05 3 1 4 4 1 0,
   objRow 0x06 1 1 1 1 1 0]

def rows2E10 : List ObjRow :=
  [objRow 0x00 1 1 1 1 1 6,
   objRow 0x01 1 3 1 1 1 0,
   objRow 0x02 2 3 2 2 1 4200,
   objRow 0x03 2 1 2 2 1 4200,
   objRow 0x04 1 1 1 1 1 16,
   objRow 0x05 1 1 1 1 1 0,
   objRow 0x06 1 1 1 1 1 255]

def rows2F00 : List ObjRow :=
  [objRow 0x00 1 1 1 1 1 7,
   objRow 0x01 2 2 2 2 1 0,
   objRow 0x02 1 1 1 1 1 0,
   objRow 0x03 1 1 1 1 1 0,
   objRow 0x04 3 1 4 4 1 0,
   objRow 0x05 1 1 1 1 1 0,
   objRow 0x06 2 3 2 2 1 500,
   objRow 0x07 3 1 4 4 1 0]

def rows2F20 : List ObjRow :=
  [objRow 0x00 1 1 1 1 1 6,
   objRow 0x01 3 1 4 4 1 0,
   objRow 0x02 2 1 2 2 1 0,
   objRow 0x03 10 2 256 16777216 1 0,
   objRow 0x04 1 1 1 1 1 0,
   objRow 0x05 1 2 1 1 1 0,
   objRow 0x06 10 1 48 48 1 0]

def rows6100 : List ObjRow :=
  [objRow 0x00 1 1 1 1 1 5,
   objRow 0x01 2 1 2 2 1 0,
   objRow 0x02 3 1 4 4 1 0,
   objRow 0x03 3 1 4 4 1 0,
   objRow 0x04 6 1 2 2 1 0,
   objRow 0x05 2 1 2 2 1 0]

def rows6200 : List ObjRow :=
  [objRow 0x00 1 1 1 1 1 8,
   objRow 0x01 4 1 8 8 1 0,
   objRow 0x02 4 1 8 8 1 0,
   objRow 0x03 4 1 8 8 1 0,
   objRow 0x04 4 1 8 8 1 0,
   objRow 0x05 4 1 8 8 1 0,
   objRow 0x06 4 1 8 8 1 0,
   objRow 0x07 4 1 8 8 1 0,
   objRow 0x08 4 1 8 8 1 0]

def rows7000 : List ObjRow :=
  [objRow 0x00 1 1 1 1 1 6,
   objRow 0x01 10 1 0 131072 1 0,
   objRow 0x02 4 1 8 8 1 0,
   objRow 0x03 4 1 8 8 1 0,
   objRow 0x04 3 1 4 4 1 0,
   objRow 0x05 10 1 0 8192 1 0,
   objRow 0x06 10 1 1024 1024 1 0]

def rows7200 : List ObjRow :=
  [objRow 0x00 1 1 1 1 1 3,
   objRow 0x01 10 1 0 4096 1 0,
   objRow 0x02 3 2 4 4 1 0,
   objRow 0x03 2 1 2 2 1 0]

def rows7800 : List ObjRow :=
  [objRow 0x00 1 1 1 1 1 4,
   objRow 0x01 4 3 8 8 1 0,
   objRow 0x02 1 3 1 1 1 0,
   objRow 0x03 3 1 4 4 1 0,
   objRow 0x04 1 1 1 1 1 0]

def rows8400 : List ObjRow :=
  [objRow 0x00 1 1 1 1 1 7,
   objRow 0x01 3 3 4 4 1 0,
   objRow 0x02 1 1 1 1 1 0,
   objRow 0x03 4 1 8 8 1 0,
   objRow 0x04 4 1 8 8 1 0,
   objRow 0x05 3 1 4 4 1 0,
   objRow 0x06 3 1 4 4 1 0,
   objRow 0x07 3 1 4 4 1 0]

def rows8500 : List ObjRow :=
  [objRow 0x00 1 1 1 1 1 8,
   objRow 0x01 3 3 4 4 1 0,
   objRow 0x02 1 1 1 1 1 0,
   objRow 0x03 2 1 2 2 1 0,
   objRow 0x04 3 1 4 4 1 0,
   objRow 0x05 10 3 12288 12288 1 0,
   objRow 0x06 1 1 1 1 1 0,
   objRow 0x07 4 1 8 8 1 0,
   objRow 0x08 3 1 4 4 1 0]

def rows8600 : List ObjRow :=
  [objRow 0x00 1 1 1 1 1 26,
   objRow 0x01 1 1 1 1 1 0,
   objRow 0x02 4 1 8 8 1 0,
   objRow 0x03 3 1 4 4 1 0,
   objRow 0x04 1 1 1 1 1 0,
   objRow 0x05 10 3 4096 4096 1 0,
   objRow 0x10 4 1 8 8 1 0,
   objRow 0x11 4 1 8 8 1 0,
   objRow 0x12 4 1 8 8 1 0,
   objRow 0x13 4 1 8 8 1 0,
   objRow 0x14 4 1 8 8 1 0,
   objRow 0x15 4 1 8 8 1 0,
   objRow 0x16 4 1 8 8 1 0,
   objRow 0x17 4 1 8 8 1 0,
   objRow 0x18 4 1 8 8 1 0,
   objRow 0x19 4 1 8 8 1 0,
   objRow 0x1A 4 1 8 8 1 0]

def rows8700 : List ObjRow :=
  [objRow 0x00 1 1 1 1 1 9,
   objRow 0x01 4 3 8 8 1 0,
   objRow 0x02 3 3 4 4 1 0,
   objRow 0x03 1 2 1 1 1 0,
   objRow 0x04 1 1 1 1 1 0,
   objRow 0x05 1 1 1 1 1 0,
   objRow 0x06 1 1 1 1 1 255,
   objRow 0x07 1 1 1 1 1 255,
   objRow 0x08 3 1 4 4 1 0,
   objRow 0x09 4 1 8 8 1 0]

def rows8800 : List ObjRow :=
  [objRow 0x00 1 1 1 1 1 20,
   objRow 0x01 1 1 1 1 1 0,
   objRow 0x02 1 1 1 1 1 0,
   objRow 0x03 4 1 8 8 1 0,
   objRow 0x04 4 1 8 8 1 0,
   objRow 0x05 10 2 64 64 1 0,
   objRow 0x06 1 1 1 1 1 0,
   objRow 0x07 4 1 8 8 1 0,
   objRow 0x10 4 1 8 8 1 0,
   objRow 0x11 4 1 8 8 1 0,
   objRow 0x12 4 1 8 8 1 0,
   objRow 0x13 4 1 8 8 1 0,
   objRow 0x14 4 1 8 8 1 0]

def rows8900 : List ObjRow :=
  [objRow 0x00 1 1 1 1 1 5,
   objRow 0x01 3 3 4 4 1 1000,
   objRow 0x02 3 3 4 4 1 20000,
   objRow 0x03 3 3 4 4 1 5000000,
   objRow 0x04 3 3 4 4 1 1000000,
   objRow 0x05 3 3 4 4 1 0]

def rows8A00 : List ObjRow :=
  [objRow 0x00 1 1 1 1 1 7,
   objRow 0x01 1 1 1 1 1 0,
   objRow 0x02 4 1 8 8 1 0,
   objRow 0x03 3 1 4 4 1 0,
   objRow 0x04 3 1 4 4 1 0,
   objRow 0x05 2 1 2 2 1 0,
   objRow 0x06 1 1 1 1 1 0,
   objRow 0x07 3 1 4 4 1 0]

def rows8B00 : List ObjRow :=
  [objRow 0x00 1 1 1 1 1 6,
   objRow 0x01 1 1 1 1 1 0,
   objRow 0x02 4 1 8 8 1 0,
   objRow 0x03 3 1 4 4 1 0,
   objRow 0x04 2 1 2 2 1 0,
   objRow 0x05 1 1 1 1 1 0,
   objRow 0x06 3 1 4 4 1 0]

def rows8C00 : List ObjRow :=
  [objRow 0x00 1 1 1 1 1 4,
   objRow 0x01 3 2 4 4 1 0,
   objRow 0x02 2 1 2 2 1 0,
   objRow 0x03 10 1 0 16640 4 0,
   objRow 0x04 10 1 0 4194304 4 0]

def rows8D00 : List ObjRow :=
  [objRow 0x00 1 1 1 1 1 7,
   objRow 0x01 1 1 1 1 1 0,
   objRow 0x02 3 1 4 4 1 57344,
   objRow 0x03 3 1 4 4 1 0,
   objRow 0x04 3 1 4 4 1 0,
   objRow 0x05 3 1 4 4 1 0,
   objRow 0x06 4 1 8 8 1 0,
   objRow 0x07 4 1 8 8 1 0]

def rows8E00 : List ObjRow :=
  [objRow 0x00 1 1 1 1 1 9,
   objRow 0x01 1 1 1 1 1 0,
   objRow 0x02 1 1 1 1 1 255,
   objRow 0x03 2 1 2 2 1 0,
   objRow 0x04 2 1 2 2 1 0,
   objRow 0x05 3 1 4 4 1 0,
   objRow 0x06 3 1 4 4 1 0,
   objRow 0x07 3 1 4 4 1 0,
   objRow 0x08 2 1 2 2 1 0,
   objRow 0x09 2 2 2 2 1 0]

def rows8F00 : List ObjRow :=
  [objRow 0x00 1 1 1 1 1 11,
   objRow 0x01 1 1 1 1 1 0,
   objRow 0x02 1 1 1 1 1 0,
   objRow 0x03 1 1 1 1 1 0,
   objRow 0x04 1 1 1 1 1 0,
   objRow 0x05 1 1 1 1 1 0,
   objRow 0x06 1 1 1 1 1 0,
   objRow 0x07 1 1 1 1 1 200,
   objRow 0x08 6 1 2 2 1 0,
   objRow 0x09 2 1 2 2 1 0,
   objRow 0x0A 1 1 1 1 1 0,
   objRow 0x0B 3 1 4 4 1 0]

def rows9000 : List ObjRow :=
  [objRow 0x00 1 1 1 1 1 6,
   objRow 0x01 1 3 1 1 1 0,
   objRow 0x02 1 1 1 1 1 0,
   objRow 0x03 1 1 1 1 1 0,
   objRow 0x04 3 1 4 4 1 0,
   objRow 0x05 6 1 2 2 1 0,
   objRow 0x06 3 1 4 4 1 0]

def rows9100 : List ObjRow :=
  [objRow 0x00 1 1 1 1 1 8,
   objRow 0x01 1 1 1 1 1 0,
   objRow 0x02 1 1 1 1 1 0,
   objRow 0x03 2 1 2 2 1 65535,
   objRow 0x04 1 1 1 1 1 255,
   objRow 0x05 4 1 8 8 1 0,
   objRow 0x06 3 1 4 4 1 0,
   objRow 0x07 1 1 1 1 1 255,
   objRow 0x08 3 1 4 4 1 0]

def rows9200 : List ObjRow :=
  [objRow 0x00 1 1 1 1 1 13,
   objRow 0x01 1 1 1 1 1 255,
   objRow 0x02 1 1 1 1 1 0,
   objRow 0x03 3 1 4 4 1 0,
   objRow 0x04 3 1 4 4 1 0,
   objRow 0x05 1 1 1 1 1 0,
   objRow 0x06 1 1 1 1 1 0,
   objRow 0x07 1 1 1 1 1 0,
   objRow 0x08 2 1 2 2 1 0,
   objRow 0x09 2 1 2 2 1 65535,
   objRow 0x0A 1 2 1 1 1 0,
   objRow 0x0B 1 1 1 1 1 0,
   objRow 0x0C 10 3 256 256 1 0,
   objRow 0x0D 3 1 4 4 1 0]

def rows9300 : List ObjRow :=
  [objRow 0x00 1 1 1 1 1 6,
   objRow 0x01 10 3 64 64 1 0,
   objRow 0x02 1 3 1 1 1 0,
   objRow 0x03 1 1 1 1 1 0,
   objRow 0x04 1 1 1 1 1 255,
   objRow 0x05 3 1 4 4 1 100000,
   objRow 0x06 3 1 4 4 1 0]

def rows9400 : List ObjRow :=
  [objRow 0x00 1 1 1 1 1 12,
   objRow 0x01 1 1 1 1 1 0,
   objRow 0x02 10 1 6 6 1 0,
   objRow 0x03 10 3 16 16 1 0,
   objRow 0x04 2 3 2 2 1 0,
   objRow 0x05 4 1 8 8 1 0,
   objRow 0x06 4 1 8 8 1 0,
   objRow 0x07 4 1 8 8 1 0,
   objRow 0x08 4 1 8 8 1 0,
   objRow 0x09 4 1 8 8 1 0,
   objRow 0x0A 4 1 8 8 1 0,
   objRow 0x0B 4 1 8 8 1 0,
   objRow 0x0C 1 3 1 1 1 0]

def rows9500 : List ObjRow :=
  [objRow 0x00 1 1 1 1 1 22,
   objRow 0x01 1 3 1 1 1 0,
   objRow 0x02 1 1 1 1 1 0,
   objRow 0x03 1 3 1 1 1 16,
   objRow 0x04 1 1 1 1 1 16,
   objRow 0x05 1 1 1 1 1 0,
   objRow 0x06 2 1 2 2 1 0,
   objRow 0x07 2 1 2 2 1 0,
   objRow 0x08 2 1 2 2 1 0,
   objRow 0x09 6 1 2 2 1 0,
   objRow 0x0A 6 1 2 2 1 0,
   objRow 0x0B 2 1 2 2 1 0,
   objRow 0x0C 3 1 4 4 1 0,
   objRow 0x0D 1 1 1 1 1 255,
   objRow 0x10 4 1 8 8 1 0,
   objRow 0x11 4 1 8 8 1 0,
   objRow 0x12 4 1 8 8 1 0,
   objRow 0x13 4 1 8 8 1 0,
   objRow 0x14 4 1 8 8 1 0,
   objRow 0x15 4 1 8 8 1 0,
   objRow 0x16 4 1 8 8 1 0]

def rows9600 : List ObjRow :=
  [objRow 0x00 1 1 1 1 1 3,
   objRow 0x01 1 3 1 1 1 1,
   objRow 0x02 1 1 1 1 1 2,
   objRow 0x03 1 1 1 1 1 255]

def rowsC000 : List ObjRow :=
  [objRow 0x00 1 1 1 1 1 7,
   objRow 0x01 10 3 1 256 1 0,
   objRow 0x02 1 1 1 1 1 0,
   objRow 0x03 2 1 2 2 1 0,
   objRow 0x04 1 2 1 1 1 0,
   objRow 0x05 1 3 1 1 1 0,
   objRow 0x06 3 1 4 4 1 0,
   objRow 0x07 3 1 4 4 1 0]

def rowsC040 : List ObjRow :=
  [objRow 0x00 1 1 1 1 1 2,
   objRow 0x01 4 1 8 8 1 0,
   objRow 0x02 4 1 8 8 1 0]

def rowsC800 : List ObjRow :=
  [objRow 0x00 1 1 1 1 1 3,
   objRow 0x01 2 1 2 2 1 65535,
   objRow 0x02 4 1 8 8 1 0,
   objRow 0x03 4 1 8 8 1 0]

def rowsC810 : List ObjRow :=
  [objRow 0x00 1 1 1 1 1 10,
   objRow 0x01 1 2 1 1 1 0,
   objRow 0x02 4 2 8 8 1 0,
   objRow 0x03 1 1 1 1 1 0,
   objRow 0x04 3 1 4 4 1 0,
   objRow 0x05 4 1 8 8 1 0,
   objRow 0x06 1 1 1 1 1 255,
   objRow 0x07 2 1 2 2 1 0,
   objRow 0x08 4 1 8 8 1 0,
   objRow 0x09 2 1 2 2 1 65535,
   objRow 0x0A 4 1 8 8 1 0]

def rowsD000 : List ObjRow :=
  [objRow 0x00 1 1 1 1 1 6,
   objRow 0x01 1 1 1 1 1 0,
   objRow 0x02 4 1 8 8 1 0,
   objRow 0x03 10 2 224 224 1 0,
   objRow 0x04 10 1 1 8192 1 0,
   objRow 0x05 10 1 193 193 1 0,
   objRow 0x06 3 1 4 4 1 0]

def rowsD100 : List ObjRow :=
  [objRow 0x00 1 1 1 1 1 9,
   objRow 0x01 10 3 8 8 1 0,
   objRow 0x02 10 3 16 16 1 0,
   objRow 0x03 10 3 8 8 1 0,
   objRow 0x04 1 3 1 1 1 0,
   objRow 0x05 2 3 2 2 1 0,
   objRow 0x06 10 3 0 2048 32 0,
   objRow 0x07 1 1 1 1 1 0,
   objRow 0x08 10 1 48 48 1 0,
   objRow 0x09 1 1 1 1 1 0]

def rowsD200 : List ObjRow :=
  [objRow 0x01 10 3 7168 7168 1 0]

def rowsD300 : List ObjRow :=
  [objRow 0x01 10 3 256 256 1 0,
   objRow 0x02 1 1 1 1 1 0]

def rowsD400 : List ObjRow :=
  [objRow 0x00 1 1 1 1 1 4,
   objRow 0x01 10 2 190 190 1 0,
   objRow 0x02 10 2 190 190 1 0,
   objRow 0x03 2 1 2 2 1 0,
   objRow 0x04 2 2 2 2 1 0]

def rowsD510 : List ObjRow :=
  [objRow 0x00 1 1 1 1 1 9,
   objRow 0x01 10 3 80 557120 1 0,
   objRow 0x02 1 1 1 1 1 0,
   objRow 0x03 10 1 48 48 1 0,
   objRow 0x04 10 2 97 97 1 0,
   objRow 0x05 1 2 1 1 1 0,
   objRow 0x06 4 1 8 8 1 0,
   objRow 0x07 3 1 4 4 1 0,
   objRow 0x08 1 1 1 1 1 255,
   objRow 0x09 4 1 8 8 1 0]

def rowsE100 : List ObjRow :=
  [objRow 0x00 1 1 1 1 1 5,
   objRow 0x01 1 3 1 1 1 0,
   objRow 0x02 1 3 1 1 1 0,
   objRow 0x03 1 3 1 1 1 0,
   objRow 0x04 10 3 80 80 1 0,
   objRow 0x05 10 1 20480 20480 1 0]

/-- The layout that an index takes (R538, R572, R591, R624, R734): repeated objects share their first index's layout. -/
def layoutOf (index : Nat) : Nat :=
  if 0xC000 ≤ index ∧ index ≤ 0xC03F then 0xC000
  else if 0xC810 ≤ index ∧ index ≤ 0xC81F then 0xC810
  else if 0xD510 ≤ index ∧ index ≤ 0xD513 then 0xD510
  else if 0x7800 ≤ index ∧ index ≤ 0x7810 then 0x7800
  else index

/-- The subindices of a layout. -/
def objRows (layout : Nat) : List ObjRow :=
  match layout with
  | 0x1018 => rows1018
  | 0x1020 => rows1020
  | 0x1100 => rows1100
  | 0x2400 => rows2400
  | 0x2800 => rows2800
  | 0x2810 => rows2810
  | 0x2A00 => rows2A00
  | 0x2B00 => rows2B00
  | 0x2B10 => rows2B10
  | 0x2B20 => rows2B20
  | 0x2C00 => rows2C00
  | 0x2D00 => rows2D00
  | 0x2E00 => rows2E00
  | 0x2E10 => rows2E10
  | 0x2F00 => rows2F00
  | 0x2F20 => rows2F20
  | 0x6100 => rows6100
  | 0x6200 => rows6200
  | 0x7000 => rows7000
  | 0x7200 => rows7200
  | 0x7800 => rows7800
  | 0x8400 => rows8400
  | 0x8500 => rows8500
  | 0x8600 => rows8600
  | 0x8700 => rows8700
  | 0x8800 => rows8800
  | 0x8900 => rows8900
  | 0x8A00 => rows8A00
  | 0x8B00 => rows8B00
  | 0x8C00 => rows8C00
  | 0x8D00 => rows8D00
  | 0x8E00 => rows8E00
  | 0x8F00 => rows8F00
  | 0x9000 => rows9000
  | 0x9100 => rows9100
  | 0x9200 => rows9200
  | 0x9300 => rows9300
  | 0x9400 => rows9400
  | 0x9500 => rows9500
  | 0x9600 => rows9600
  | 0xC000 => rowsC000
  | 0xC040 => rowsC040
  | 0xC800 => rowsC800
  | 0xC810 => rowsC810
  | 0xD000 => rowsD000
  | 0xD100 => rowsD100
  | 0xD200 => rowsD200
  | 0xD300 => rowsD300
  | 0xD400 => rowsD400
  | 0xD510 => rowsD510
  | 0xE100 => rowsE100
  | 0x1300 => (List.range 255).map (fun g => objRow (g + 1) 10 3 68 68 1 0)
  | _ => []

def objInfo (index sub : Nat) : Option ObjRow := (objRows (layoutOf index)).find? (fun r => decide (r.sub = sub))

/-- NINST (R557): the highest instance word of an instanced family; none for any other index. -/
def ninstOf (index : Nat) : Option Nat :=
  match index with
  | 0x8400 => some 63
  | 0x8500 => some 7
  | 0x8600 => some 7
  | 0x8700 => some 7
  | 0x8800 => some 67
  | 0x8900 => some 7
  | 0x8A00 => some 511
  | 0x8B00 => some 255
  | 0x8C00 => some 7
  | 0x8D00 => some 1
  | 0x8E00 => some 31
  | 0x8F00 => some 511
  | 0x9000 => some 15
  | 0x9100 => some 47
  | 0x9200 => some 63
  | 0x9300 => some 255
  | 0x9400 => some 1
  | 0x9500 => some 7
  | 0x9600 => some 9
  | _ => none

end Sys2Proof.Machine
end

