-- ==== Sys2Proof/Machine/VxeOps.lean ====
section
/-! DEFINITION. The meanings of the vector engine's instructions (R126, R134 to R161), one a row of the table. Each is
one body over the shared run of Vxe.lean. -/

namespace Sys2Proof.Machine

/-! ### Arithmetic, selection, sign and conversion -/

/-- The final rounding of an exact value to DFMT in RMODE with the element's draw (R134, R156). -/
def finalRound (v : VxeS) (die : Nat) (f : VxeF) (r c : Nat) (x : Exact) : Nat × Byte :=
  roundExact (fmtD f.dfmt) (rmD f.rmode) (fullDraw v die (rmD f.rmode) r c) x

/-- The lanes' draws after an instruction that rounds every element in SR (R156). -/
def drawsAfter (f : VxeF) (v : VxeS) : VxeS := if rmD f.rmode = .sr then advanceAll 32 v else v

/-- A conversion that R49 marks Exact: it performs no rounding, so it takes no draw (R50). One to the source's own format
counts with them. Codes of R30: F8A, F8B, FP16, BF16, FP32. -/
def exactCvt (tag : Nat × Bool) (dfmt : Nat) : Bool :=
  !tag.2 && (decide (tag.1 = dfmt) || decide (tag.1 ≤ 1 ∧ 2 ≤ dfmt ∧ dfmt ≤ 4) || decide (2 ≤ tag.1 ∧ tag.1 ≤ 4 ∧ dfmt = 4))

/-- The draws after a conversion of source A. -/
def drawsCvt (f : VxeF) (old v : VxeS) : VxeS := if exactCvt (srcTag old f f.sa) f.dfmt then v else drawsAfter f v

/-- An instruction whose every element is one exact result rounded once. -/
def roundedBody (die : Nat) (g : VxeF → VxeS → Nat → Nat → Exact) (f : VxeF) (v : VxeS) : VxeRes :=
  noFault (drawsAfter f (elementwise v f f.dfmt f.dint (fun r c => .of (finalRound v die f r c (g f v r c)))))

def bodyAdd (die : Nat) := roundedBody die (fun f v r c => addExact (srcNum v f f.sa r c) (srcNum v f f.sb r c))
def bodySub (die : Nat) := roundedBody die (fun f v r c => subExact (srcNum v f f.sa r c) (srcNum v f f.sb r c))
def bodyMul (die : Nat) := roundedBody die (fun f v r c => mulExact (srcNum v f f.sa r c) (srcNum v f f.sb r c))
def bodyFma (die : Nat) := roundedBody die (fun f v r c =>
  fmaExact (srcNum v f f.sa r c) (srcNum v f f.sb r c) (srcNum v f f.sc r c))
def bodyDiv (die : Nat) := roundedBody die (fun f v r c => divExact (srcNum v f f.sa r c) (srcNum v f f.sb r c))
def bodySqrt (die : Nat) := roundedBody die (fun f v r c => sqrtExact (srcNum v f f.sa r c))
def bodyRsqrt (die : Nat) := roundedBody die (fun f v r c => rsqrtExact (srcNum v f f.sa r c))
/-- MAX and MIN select exactly (R54); rounding moves only what DFMT does not hold. -/
def bodyMax (die : Nat) := roundedBody die (fun f v r c => exactOf (maxNum (srcNum v f f.sa r c) (srcNum v f f.sb r c)))
def bodyMin (die : Nat) := roundedBody die (fun f v r c => exactOf (minNum (srcNum v f f.sa r c) (srcNum v f f.sb r c)))
/-- CVT (R49 to R51). -/
def bodyCvt (die : Nat) (f : VxeF) (v : VxeS) : VxeRes :=
  noFault (drawsCvt f v (elementwise v f f.dfmt f.dint (fun r c => .of (finalRound v die f r c (exactOf (srcNum v f f.sa r c))))))

/-- The sign class (R134): with DFMT equal to the tag of A, only the sign bit changes (R37) and nothing is rounded or
drawn; otherwise the sign operation and a conversion. `sgn` gives the new sign from A's and B's. The sign operation acts on
an INT-tagged element as on the number it reads as, so the zero that stands for integer 0 takes the new sign too
(DESIGN CHOICE, log entry 74). -/
def signBody (die : Nat) (sgn : Bool → Bool → Bool) (f : VxeF) (v : VxeS) : VxeRes :=
  let same := decide (srcTag v f f.sa = (f.dfmt, false))
  let ns (r c : Nat) : Bool := sgn (srcSign v f f.sa r c) (if usesB f.op then srcSign v f f.sb r c else false)
  if same then
    let sb := signBit (fmtD f.dfmt)
    noFault (elementwise v f f.dfmt f.dint (fun r c =>
      { code := srcRaw v f f.sa r c % sb + (if ns r c then sb else 0), st := 0#8, fault := false }))
  else
    noFault (drawsCvt f v (elementwise v f f.dfmt f.dint (fun r c => .of (finalRound v die f r c
      (match srcNum v f f.sa r c with
       | .nan => .nan false
       | .inf _ => .inf (ns r c)
       | .fin _ m e => .real (ns r c) m e false)))))

/-- VXE_NOP (R126): no operation. -/
def execVxeNop (die : Fin 8) (w : BitVec 64) (rd : ReadObs) (s : State) : Host.Outcome State Fault Refusal :=
  .next (vxeRun s die 0 w rd (fun _ v => noFault v))
/-- ADD (R134): the once-rounded sum. -/
def execAdd (die : Fin 8) (w : BitVec 64) (rd : ReadObs) (s : State) : Host.Outcome State Fault Refusal :=
  .next (vxeRun s die 1 w rd (bodyAdd die))
/-- SUB (R134): the once-rounded difference. -/
def execSub (die : Fin 8) (w : BitVec 64) (rd : ReadObs) (s : State) : Host.Outcome State Fault Refusal :=
  .next (vxeRun s die 2 w rd (bodySub die))
/-- MUL (R134): the once-rounded product. -/
def execMul (die : Fin 8) (w : BitVec 64) (rd : ReadObs) (s : State) : Host.Outcome State Fault Refusal :=
  .next (vxeRun s die 3 w rd (bodyMul die))
/-- FMA (R134): A B + C with one rounding. -/
def execFma (die : Fin 8) (w : BitVec 64) (rd : ReadObs) (s : State) : Host.Outcome State Fault Refusal :=
  .next (vxeRun s die 4 w rd (bodyFma die))
/-- DIV (R134): the once-rounded quotient. -/
def execDiv (die : Fin 8) (w : BitVec 64) (rd : ReadObs) (s : State) : Host.Outcome State Fault Refusal :=
  .next (vxeRun s die 5 w rd (bodyDiv die))
/-- SQRT (R134): the once-rounded square root. -/
def execSqrt (die : Fin 8) (w : BitVec 64) (rd : ReadObs) (s : State) : Host.Outcome State Fault Refusal :=
  .next (vxeRun s die 6 w rd (bodySqrt die))
/-- RSQRT (R134): the once-rounded reciprocal square root. -/
def execRsqrt (die : Fin 8) (w : BitVec 64) (rd : ReadObs) (s : State) : Host.Outcome State Fault Refusal :=
  .next (vxeRun s die 7 w rd (bodyRsqrt die))
/-- MAX (R54). -/
def execMax (die : Fin 8) (w : BitVec 64) (rd : ReadObs) (s : State) : Host.Outcome State Fault Refusal :=
  .next (vxeRun s die 8 w rd (bodyMax die))
/-- MIN (R54). -/
def execMin (die : Fin 8) (w : BitVec 64) (rd : ReadObs) (s : State) : Host.Outcome State Fault Refusal :=
  .next (vxeRun s die 9 w rd (bodyMin die))
/-- NEG (R134, R37). -/
def execNeg (die : Fin 8) (w : BitVec 64) (rd : ReadObs) (s : State) : Host.Outcome State Fault Refusal :=
  .next (vxeRun s die 0xA w rd (signBody die (fun a _ => !a)))
/-- ABS (R134, R37). -/
def execAbs (die : Fin 8) (w : BitVec 64) (rd : ReadObs) (s : State) : Host.Outcome State Fault Refusal :=
  .next (vxeRun s die 0xB w rd (signBody die (fun _ _ => false)))
/-- CPSGN (R134, R37): A with the sign of B. -/
def execCpsgn (die : Fin 8) (w : BitVec 64) (rd : ReadObs) (s : State) : Host.Outcome State Fault Refusal :=
  .next (vxeRun s die 0xC w rd (signBody die (fun _ b => b)))
/-- CVT (R49 to R51). -/
def execCvt (die : Fin 8) (w : BitVec 64) (rd : ReadObs) (s : State) : Host.Outcome State Fault Refusal :=
  .next (vxeRun s die 0xD w rd (bodyCvt die))

/-! ### Compares and masks -/

/-- A compare writes a mask plane from the order of A and B, none when unordered (R53). -/
def compareBody (p : Option Ordering → Bool) (f : VxeF) (v : VxeS) : VxeRes :=
  noFault (putPlane v f (fun r c => p (cmpNum (srcNum v f f.sa r c) (srcNum v f f.sb r c))))

/-- CMPEQ (R53). -/
def execCmpeq (die : Fin 8) (w : BitVec 64) (rd : ReadObs) (s : State) : Host.Outcome State Fault Refusal :=
  .next (vxeRun s die 0x20 w rd (compareBody (fun o => decide (o = some .eq))))
/-- CMPNE (R53): true when unordered. -/
def execCmpne (die : Fin 8) (w : BitVec 64) (rd : ReadObs) (s : State) : Host.Outcome State Fault Refusal :=
  .next (vxeRun s die 0x21 w rd (compareBody (fun o => decide (o ≠ some .eq))))
/-- CMPLT (R53). -/
def execCmplt (die : Fin 8) (w : BitVec 64) (rd : ReadObs) (s : State) : Host.Outcome State Fault Refusal :=
  .next (vxeRun s die 0x22 w rd (compareBody (fun o => decide (o = some .lt))))
/-- CMPLE (R53). -/
def execCmple (die : Fin 8) (w : BitVec 64) (rd : ReadObs) (s : State) : Host.Outcome State Fault Refusal :=
  .next (vxeRun s die 0x23 w rd (compareBody (fun o => decide (o = some .lt ∨ o = some .eq))))
/-- CMPGT (R53). -/
def execCmpgt (die : Fin 8) (w : BitVec 64) (rd : ReadObs) (s : State) : Host.Outcome State Fault Refusal :=
  .next (vxeRun s die 0x24 w rd (compareBody (fun o => decide (o = some .gt))))
/-- CMPGE (R53). -/
def execCmpge (die : Fin 8) (w : BitVec 64) (rd : ReadObs) (s : State) : Host.Outcome State Fault Refusal :=
  .next (vxeRun s die 0x25 w rd (compareBody (fun o => decide (o = some .gt ∨ o = some .eq))))

/-- A mask operation on planes SA and SB (R126). -/
def maskBody (op : Bool → Bool → Bool) (f : VxeF) (v : VxeS) : VxeRes :=
  noFault (putPlane v f (fun r c => op (maskBit v f.sa r c) (maskBit v f.sb r c)))

/-- MAND (R134). -/
def execMand (die : Fin 8) (w : BitVec 64) (rd : ReadObs) (s : State) : Host.Outcome State Fault Refusal :=
  .next (vxeRun s die 0x28 w rd (maskBody (fun a b => a && b)))
/-- MOR (R134). -/
def execMor (die : Fin 8) (w : BitVec 64) (rd : ReadObs) (s : State) : Host.Outcome State Fault Refusal :=
  .next (vxeRun s die 0x29 w rd (maskBody (fun a b => a || b)))
/-- MXOR (R134). -/
def execMxor (die : Fin 8) (w : BitVec 64) (rd : ReadObs) (s : State) : Host.Outcome State Fault Refusal :=
  .next (vxeRun s die 0x2A w rd (maskBody (fun a b => a != b)))
/-- MNOT (R134): NOT SA. -/
def execMnot (die : Fin 8) (w : BitVec 64) (rd : ReadObs) (s : State) : Host.Outcome State Fault Refusal :=
  .next (vxeRun s die 0x2B w rd (maskBody (fun a _ => !a)))

/-- MLOAD's effect (R123, R791). -/
def mloadBody (f : VxeF) (v : VxeS) : VxeRes :=
  match planeOffset v f with
  | some a =>
    let n := leNat (memLoadN v.mem a 8192)
    noFault (putPlane v f (fun r c => n.testBit (256 * r + c)))
  | none => { v := v, fault := fwADDR }

/-- The 8 KiB of a plane in the staging area's order (R123): bit 256 r + c is bit c mod 8 of byte 32 r + c / 8. -/
def planeBytes (v : VxeS) (k : Nat) : List Byte := leBytes 8192 (planeOf (maskBit v k))

/-- MSTORE's effect (R123, R128, R791): the whole plane, without regard to MSK and ZM. -/
def mstoreBody (f : VxeF) (v : VxeS) : VxeRes :=
  match planeOffset v f with
  | some a => noFault { v with mem := memStore v.mem a (planeBytes v f.sa) }
  | none => { v := v, fault := fwADDR }

/-- MLOAD (R791). -/
def execMload (die : Fin 8) (w : BitVec 64) (rd : ReadObs) (s : State) : Host.Outcome State Fault Refusal :=
  .next (vxeRun s die 0x2C w rd mloadBody)
/-- MSTORE (R791). -/
def execMstore (die : Fin 8) (w : BitVec 64) (rd : ReadObs) (s : State) : Host.Outcome State Fault Refusal :=
  .next (vxeRun s die 0x2D w rd mstoreBody)

/-! ### Integers -/

/-- An integer operation on the 32-bit slots (R120, R134). -/
def integerBody (g : Nat → Nat → Elem) (f : VxeF) (v : VxeS) : VxeRes :=
  let e (r c : Nat) := g (srcRaw v f f.sa r c) (srcRaw v f f.sb r c)
  { v := elementwise v f f.dfmt f.dint e, fault := if anyFault v f e then fwDIV0 else 0#16 }

def int32 (n : Int) : Elem := { code := (n % 2 ^ 32).toNat, st := 0#8, fault := false }

/-- IDIV (R134): truncation toward zero; a zero divisor faults with DIV0 and gives 0 (R130, R132). -/
def idivElem (a b : Nat) : Elem :=
  if signedOf 32 b = 0 then { code := 0, st := 0#8, fault := true }
  else int32 (Int.tdiv (signedOf 32 a) (signedOf 32 b))

/-- IADD (R134). -/
def execIadd (die : Fin 8) (w : BitVec 64) (rd : ReadObs) (s : State) : Host.Outcome State Fault Refusal :=
  .next (vxeRun s die 0x30 w rd (integerBody (fun a b => int32 (a + b))))
/-- ISUB (R134). -/
def execIsub (die : Fin 8) (w : BitVec 64) (rd : ReadObs) (s : State) : Host.Outcome State Fault Refusal :=
  .next (vxeRun s die 0x31 w rd (integerBody (fun a b => int32 ((a : Int) - b))))
/-- IMUL (R134): the low 32 bits. -/
def execImul (die : Fin 8) (w : BitVec 64) (rd : ReadObs) (s : State) : Host.Outcome State Fault Refusal :=
  .next (vxeRun s die 0x32 w rd (integerBody (fun a b => int32 (a * b))))
/-- IDIV (R134, R130). -/
def execIdiv (die : Fin 8) (w : BitVec 64) (rd : ReadObs) (s : State) : Host.Outcome State Fault Refusal :=
  .next (vxeRun s die 0x33 w rd (integerBody idivElem))
/-- IAND (R134). -/
def execIand (die : Fin 8) (w : BitVec 64) (rd : ReadObs) (s : State) : Host.Outcome State Fault Refusal :=
  .next (vxeRun s die 0x34 w rd (integerBody (fun a b => int32 ((a &&& b : Nat) : Int))))
/-- IOR (R134). -/
def execIor (die : Fin 8) (w : BitVec 64) (rd : ReadObs) (s : State) : Host.Outcome State Fault Refusal :=
  .next (vxeRun s die 0x35 w rd (integerBody (fun a b => int32 ((a ||| b : Nat) : Int))))

/-! ### Reductions (R136 to R138) -/

/-- Element i of line l: column l downwards with DIR = 0, row l rightwards with DIR = 1. -/
def lineAt (dir : Bool) (l i : Nat) : Nat × Nat := if dir then (l, i) else (i, l)

/-- Level by level, adjacent pairs are added and rounded to FP32 in RNE (R136); the statuses are gathered. -/
def pairLevel : List FpVal → Byte → List FpVal × Byte
  | x :: y :: rest, st =>
    let (z, st1) := num32 (addExact x y) st
    let (zs, st2) := pairLevel rest st1
    (z :: zs, st2)
  | xs, st => (xs, st)

def pairTree : Nat → List FpVal → Byte → FpVal × Byte
  | 0, xs, st => (xs.headD (.fin true 0 0), st)
  | n + 1, xs, st =>
    let (ys, st1) := pairLevel xs st
    pairTree n ys st1

/-- The elements of a line with their mask bits. -/
def lineElems (v : VxeS) (f : VxeF) (l : Nat) : List (Bool × FpVal) :=
  (List.range 256).map (fun i =>
    let (r, c) := lineAt f.dir l i
    (maskBit v f.msk r c, srcNum v f f.sa r c))

/-- RSUM's root of a line: masked elements enter as −0 (R136). -/
def lineSum (v : VxeS) (f : VxeF) (l : Nat) : Exact × Byte :=
  let (x, st) := pairTree 8 ((lineElems v f l).map (fun e => if e.1 then e.2 else .fin true 0 0)) 0#8
  (exactOf x, st)

/-- The unmasked elements' maximum or minimum, with the identity of R137 when every element is masked. -/
def lineSelect (sel : FpVal → FpVal → FpVal) (identity : FpVal) (v : VxeS) (f : VxeF) (l : Nat) : Exact × Byte :=
  let xs := (lineElems v f l).filterMap (fun e => if e.1 then some e.2 else none)
  (exactOf (match xs with
    | [] => identity
    | x :: rest => rest.foldl sel x), 0#8)

/-- The draw of a reduction's result: one for each element written (R156). -/
def lineDraw (v : VxeS) (die : Nat) (f : VxeF) (l : Nat) : Nat :=
  let (r, c) := lineAt f.dir l 0
  if rmD f.rmode = .sr then drawAt v die r c (if f.dir then r / 8 else 0) else 0

/-- A reduction writes one result a line at the line's first element and leaves the rest (R138); it ORs its status. -/
def putLines (v : VxeS) (f : VxeF) (fmt : Nat) (int : Bool) (codes : List Nat) (st : Byte) : VxeS :=
  let g (r c : Nat) : Nat :=
    if f.dir then (if c = 0 then codes.getD r 0 else slotAt v f.dst r c)
    else (if r = 0 then codes.getD c 0 else slotAt v f.dst r c)
  putSheet v f.dst g fmt int (vxeStatus f (sheetTag v f.dst).status st (srcStatuses v f))

/-- RSUM, RMAX, RMIN: the line's value rounded to DFMT in RMODE. -/
def reduceBody (die : Nat) (line : VxeS → VxeF → Nat → Exact × Byte) (f : VxeF) (v : VxeS) : VxeRes :=
  let outs := (List.range 256).map (fun l =>
    let (x, st) := line v f l
    let (c, st2) := roundExact (fmtD f.dfmt) (rmD f.rmode) (lineDraw v die f l) x
    (c, st ||| st2))
  let v1 := putLines v f f.dfmt f.dint (outs.map (fun o => o.1)) (outs.foldl (fun a o => a ||| o.2) 0#8)
  noFault (if rmD f.rmode = .sr then advanceLines f.dir v1 else v1)

/-- A number beats another for RARGMAX or RARGMIN: a NaN ranks above every number, and a tie does not beat (R55). -/
def beats (max : Bool) (x y : FpVal) : Bool :=
  match numIsNan x, numIsNan y with
  | true, true => false
  | true, false => max
  | false, true => !max
  | false, false => decide (cmpNum x y = some (if max then .gt else .lt))

/-- The lowest index of the selected rank among unmasked elements, −1 when there is none (R137). -/
def argLine (max : Bool) (v : VxeS) (f : VxeF) (l : Nat) : Int :=
  (((List.range 256).foldl (fun (best : Option (Nat × FpVal)) i =>
    let (r, c) := lineAt f.dir l i
    if maskBit v f.msk r c then
      let x := srcNum v f f.sa r c
      match best with
      | none => some (i, x)
      | some (_, y) => if beats max x y then some (i, x) else best
    else best) none).map (fun p => (p.1 : Int))).getD (-1)

/-- RARGMAX and RARGMIN write INT32 indices and set the tag to INT (R137). -/
def argBody (max : Bool) (f : VxeF) (v : VxeS) : VxeRes :=
  noFault (putLines v f 4 true ((List.range 256).map (fun l => (int32 (argLine max v f l)).code)) 0#8)

/-- RSUM (R136). -/
def execRsum (die : Fin 8) (w : BitVec 64) (rd : ReadObs) (s : State) : Host.Outcome State Fault Refusal :=
  .next (vxeRun s die 0x40 w rd (reduceBody die lineSum))
/-- RMAX (R137). -/
def execRmax (die : Fin 8) (w : BitVec 64) (rd : ReadObs) (s : State) : Host.Outcome State Fault Refusal :=
  .next (vxeRun s die 0x41 w rd (reduceBody die (lineSelect maxNum (.inf true))))
/-- RMIN (R137). -/
def execRmin (die : Fin 8) (w : BitVec 64) (rd : ReadObs) (s : State) : Host.Outcome State Fault Refusal :=
  .next (vxeRun s die 0x42 w rd (reduceBody die (lineSelect minNum (.inf false))))
/-- RARGMAX (R137). -/
def execRargmax (die : Fin 8) (w : BitVec 64) (rd : ReadObs) (s : State) : Host.Outcome State Fault Refusal :=
  .next (vxeRun s die 0x43 w rd (argBody true))
/-- RARGMIN (R137). -/
def execRargmin (die : Fin 8) (w : BitVec 64) (rd : ReadObs) (s : State) : Host.Outcome State Fault Refusal :=
  .next (vxeRun s die 0x44 w rd (argBody false))

/-! ### Scans (R139) -/

/-- One element of a scan: its mask bit, its segment flag, its value, and its place in the line. -/
structure ScanIn where
  on : Bool
  seg : Bool
  x : FpVal
  deriving DecidableEq, Repr

/-- The pair (prev, s) at each element of a line, with the statuses of the running adds (R139). `add` is the rounded
sum of SCAN or the maximum of SCANMAX. -/
def scanLine (add : FpVal → FpVal → FpVal × Byte) (identity : FpVal) : FpVal → Bool → List ScanIn → List (FpVal × FpVal × Byte)
  | _, _, [] => []
  | s, start, e :: rest =>
    let here : FpVal × FpVal × Byte :=
      if start || e.seg then (identity, if e.on then e.x else identity, 0#8)
      else if e.on then (s, (add s e.x).1, (add s e.x).2)
      else (s, s, 0#8)
    here :: scanLine add identity here.2.1 false rest

/-- The inputs of line l. -/
def scanIns (v : VxeS) (f : VxeF) (l : Nat) : List ScanIn :=
  (List.range 256).map (fun i =>
    let (r, c) := lineAt f.dir l i
    { on := maskBit v f.msk r c, seg := decide (f.seg ≠ 0) && maskBit v f.seg r c, x := srcNum v f f.sa r c })

/-- SCAN and SCANMAX write each unmasked element's running value, or the one before it with EXCL (R139). -/
def scanBody (die : Nat) (add : FpVal → FpVal → FpVal × Byte) (identity : FpVal) (f : VxeF) (v : VxeS) : VxeRes :=
  let lines := (List.range 256).map (fun l => scanLine add identity identity true (scanIns v f l))
  let at_ (r c : Nat) : FpVal × FpVal × Byte :=
    let (l, i) := if f.dir then (r, c) else (c, r)
    (lines.getD l []).getD i (identity, identity, 0#8)
  noFault (drawsAfter f (elementwise v f f.dfmt f.dint (fun r c =>
    let (prev, s, st) := at_ r c
    let (code, st2) := finalRound v die f r c (exactOf (if f.excl then prev else s))
    { code := code, st := st ||| st2, fault := false })))

/-- SCAN (R139). -/
def execScan (die : Fin 8) (w : BitVec 64) (rd : ReadObs) (s : State) : Host.Outcome State Fault Refusal :=
  .next (vxeRun s die 0x48 w rd (scanBody die (fun a b => num32 (addExact a b) 0#8) (.fin false 0 0)))
/-- SCANMAX (R139). -/
def execScanmax (die : Fin 8) (w : BitVec 64) (rd : ReadObs) (s : State) : Host.Outcome State Fault Refusal :=
  .next (vxeRun s die 0x49 w rd (scanBody die (fun a b => (maxNum a b, 0#8)) (.inf true)))

/-! ### Tables (R144, R145) -/

/-- An element on a table whose header is not valid: TBL, and the canonical NaN of DFMT (R130, R132). -/
def tableFault (f : VxeF) : Elem := { code := nanCode (fmtD f.dfmt), st := 0#8, fault := true }

def tableBody (die slotOff : Nat) (g : FpVal → VxeF → VxeS → Nat → Nat → Exact) (f : VxeF) (v : VxeS) : VxeRes :=
  let q := 2 * f.tpair + slotOff
  let ok := (tableAt v q).valid
  let e (r c : Nat) : Elem :=
    if ok then
      let (y, st) := tableEval v q (tableInput v f r c)
      let (code, st2) := finalRound v die f r c (g y f v r c)
      { code := code, st := st ||| st2, fault := false }
    else tableFault f
  { v := drawsAfter f (elementwise v f f.dfmt f.dint e), fault := if anyFault v f e then fwTBL else 0#16 }

/-- ACT (R144). -/
def execAct (die : Fin 8) (w : BitVec 64) (rd : ReadObs) (s : State) : Host.Outcome State Fault Refusal :=
  .next (vxeRun s die 0x50 w rd (tableBody die 0 (fun y _ _ _ _ => exactOf y)))
/-- DACT (R145): the exact product of B and the derivative table at A. -/
def execDact (die : Fin 8) (w : BitVec 64) (rd : ReadObs) (s : State) : Host.Outcome State Fault Refusal :=
  .next (vxeRun s die 0x51 w rd (tableBody die 1 (fun y f v r c => mulExact (srcNum v f f.sb r c) y)))

/-! ### Moves -/

/-- The bits of an element of a tag: a slot's other bits are not the element's (R117). -/
def tagBits (t : Nat × Bool) : Nat := if t.2 then 32 else fmtBits (fmtD t.1)

/-- COPY and TRANS keep every bit of the elements and copy A's tag (R134, R37). -/
def moveBody (at_ : Nat → Nat → Nat × Nat) (f : VxeF) (v : VxeS) : VxeRes :=
  let t := srcTag v f f.sa
  noFault (elementwise v f t.1 t.2 (fun r c =>
    { code := srcRaw v f f.sa (at_ r c).1 (at_ r c).2 % 2 ^ tagBits t, st := 0#8, fault := false }))

/-- VXE_COPY (R134). -/
def execVxeCopy (die : Fin 8) (w : BitVec 64) (rd : ReadObs) (s : State) : Host.Outcome State Fault Refusal :=
  .next (vxeRun s die 0x58 w rd (moveBody (fun r c => (r, c))))
/-- TRANS (R126): element (r, c) of DST is element (c, r) of A. -/
def execTrans (die : Fin 8) (w : BitVec 64) (rd : ReadObs) (s : State) : Host.Outcome State Fault Refusal :=
  .next (vxeRun s die 0x59 w rd (moveBody (fun r c => (c, r))))

/-! ### The optimizers (R147 to R153) -/

/-- What an optimizer computes for one element: W, m and v codes, and the statuses of its roundings. -/
structure OptElem where
  w : Nat
  m : Nat
  v : Nat
  st : Byte
  deriving DecidableEq, Repr

/-- A scalar in FP32 (R149). -/
def scalar (v : VxeS) (k : Nat) : FpVal := readNum .fp32 (vget v.xs k 0#32).toNat

/-- A number rounded to the format of a tag in RNE (R150, R153). -/
def toTag (tag : Nat × Bool) (x : FpVal) : Nat × Byte := roundExact (fmtD tag.1) .rne 0 (exactOf x)

/-- The weight of an element, from DST's own tag (R147, R152). -/
def weightAt (v : VxeS) (f : VxeF) (r c : Nat) : FpVal :=
  readTagged ((sheetTag v f.dst).fmt.toNat, (sheetTag v f.dst).int) (slotAt v f.dst r c)

/-- W − lr d with one rounding to DFMT in RMODE (R150). -/
def newWeight (v : VxeS) (die : Nat) (f : VxeF) (r c : Nat) (d : FpVal) : Nat × Byte :=
  finalRound v die f r c (fmaExact (negNum (scalar v 0)) d (weightAt v f r c))

/-- OPTAM at one element (R150). -/
def optamElem (die : Nat) (f : VxeF) (v : VxeS) (r c : Nat) : OptElem :=
  let (g, st) := num32 (mulExact (srcNum v f f.sa r c) (scalar v 7)) 0#8
  let m := srcNum v f f.sb r c
  let vv := srcNum v f f.sc r c
  let (a, st) := num32 (subExact m g) st
  let (m1, st) := fma32 (scalar v 1) a g st
  let (g2, st) := num32 (mulExact g g) st
  let (b, st) := num32 (subExact vv g2) st
  let (v1, st) := fma32 (scalar v 2) b g2 st
  let (x, st) := num32 (mulExact v1 (scalar v 6)) st
  let (y, st) := num32 (sqrtExact x) st
  let (den, st) := num32 (addExact y (scalar v 3)) st
  let (mc, st) := num32 (mulExact m1 (scalar v 5)) st
  let (u, st) := num32 (divExact mc den) st
  let (d, st) := fma32 (scalar v 4) (weightAt v f r c) u st
  let (w, st1) := newWeight v die f r c d
  let (mo, st2) := toTag (srcTag v f f.sb) m1
  let (vo, st3) := toTag (srcTag v f f.sc) v1
  { w := w, m := mo, v := vo, st := st ||| st1 ||| st2 ||| st3 }

/-- OPTMOM at one element (R151). -/
def optmomElem (die : Nat) (f : VxeF) (v : VxeS) (r c : Nat) : OptElem :=
  let (g, st) := num32 (mulExact (srcNum v f f.sa r c) (scalar v 7)) 0#8
  let (a, st) := num32 (subExact (srcNum v f f.sb r c) g) st
  let (m1, st) := fma32 (scalar v 1) a g st
  let (d, st) := fma32 (scalar v 4) (weightAt v f r c) m1 st
  let (w, st1) := newWeight v die f r c d
  let (mo, st2) := toTag (srcTag v f f.sb) m1
  { w := w, m := mo, v := 0, st := st ||| st1 ||| st2 }

/-- OPTSGD at one element (R151). -/
def optsgdElem (die : Nat) (f : VxeF) (v : VxeS) (r c : Nat) : OptElem :=
  let (g, st) := num32 (mulExact (srcNum v f f.sa r c) (scalar v 7)) 0#8
  let (d, st) := fma32 (scalar v 4) (weightAt v f r c) g st
  let (w, st1) := newWeight v die f r c d
  { w := w, m := 0, v := 0, st := st ||| st1 }

/-- Write a moment back to its sheet in its own tag (R153); masked elements and the sheet's status stay. A moment whose
source field names the scalar register (110b) is read from it, and has no sheet to go back to (DESIGN CHOICE, log entry 74). -/
def putMoment (v : VxeS) (f : VxeF) (code : Nat) (old : VxeS) (g : Nat → Nat → Nat) : VxeS :=
  if code < 6 then
    let t := sheetTag old code
    putSheet v code (fun r c => if maskBit old f.msk r c then g r c else slotAt v code r c) t.fmt.toNat t.int t.status
  else v

/-- An optimizer instruction (R147, R152): W under its mask whatever ZM says, then the moments it keeps. -/
def optBody (moments : Nat) (g : VxeF → VxeS → Nat → Nat → OptElem) (f : VxeF) (v : VxeS) : VxeRes :=
  let st := unmaskedStatus v f (fun r c => { code := 0, st := (g f v r c).st, fault := false })
  let v1 := putSheet v f.dst (fun r c => if maskBit v f.msk r c then (g f v r c).w else slotAt v f.dst r c) f.dfmt f.dint
    (vxeStatus f (sheetTag v f.dst).status st (srcStatuses v f))
  let v2 := if 1 ≤ moments then putMoment v1 f f.sb v (fun r c => (g f v r c).m) else v1
  let v3 := if 2 ≤ moments then putMoment v2 f f.sc v (fun r c => (g f v r c).v) else v2
  noFault (drawsAfter f v3)

/-- OPTAM (R150). -/
def execOptam (die : Fin 8) (w : BitVec 64) (rd : ReadObs) (s : State) : Host.Outcome State Fault Refusal :=
  .next (vxeRun s die 0x60 w rd (optBody 2 (optamElem die)))
/-- OPTMOM (R151). -/
def execOptmom (die : Fin 8) (w : BitVec 64) (rd : ReadObs) (s : State) : Host.Outcome State Fault Refusal :=
  .next (vxeRun s die 0x61 w rd (optBody 1 (optmomElem die)))
/-- OPTSGD (R151). -/
def execOptsgd (die : Fin 8) (w : BitVec 64) (rd : ReadObs) (s : State) : Host.Outcome State Fault Refusal :=
  .next (vxeRun s die 0x62 w rd (optBody 0 (optsgdElem die)))

/-! ### Vilcon (R158 to R161) -/

/-- The window sheet after a Vilcon kernel: the 32 rows of the window are free values, the rest as before. -/
def vilconSlots (k : Nat) (v : VxeS) (f : VilconF) (r c : Nat) : Nat :=
  if r / 32 = f.wb then Config.freeAt k (1000 + 256 * r + c) % 2 ^ 32 else slotAt v f.ws r c

/-- What a Vilcon kernel leaves (R159 to R161): the Vilcon instruction set is not the spec's, so its window rows, the
window's rows of M7, the staging bytes it may store, the draws of pipe 0's lanes it may take and its control bit are
free values. The sheet's tag becomes WTAG and WTINT; its status ORs the free status of the kernel's roundings. -/
def vilconEffect (k n : Nat) (f : VilconF) (v : VxeS) : VxeS :=
  let v1 := putSheet v f.ws (vilconSlots k v f) f.wtag f.wtint
    ((sheetTag v f.ws).status ||| numericBits (BitVec.ofNat 8 (Config.freeAt k 0)))
  let m7 : BitVec 65536 := BitVec.ofNat 65536 (planeOf (fun r c =>
    if 32 * f.wb ≤ r ∧ r < 32 * f.wb + 8 then (Config.freeAt k 1).testBit (256 * r + c) else maskBit v 7 r c))
  { v1 with
    mem := memStore v1.mem 0x200000 (freeBytes k 0x200000 0x600000)
    masks := vset v1.masks 7 m7
    draws := (List.range 256).foldl (fun d c => vmod d c (fun _ => BitVec.ofNat 48 (Config.freeAt k (2 + c)))) v1.draws
    retired := bumpBy v1.retired n
    vilconFtz := decide (Config.freeAt k 258 % 2 = 1) }

/-- A fault of a Vilcon instruction (R160): DIV0, ADDR or ILL. -/
def vilconFault (k : Fin 3) : U16 := if k = 0 then fwDIV0 else if k = 1 then fwADDR else fwILL

/-- VILCON (R158 to R161): the kernel runs on pipe 0 and ends after n of its instructions. `fault`: the last of them raised
DIV0, ADDR or ILL, at an offset within the Vilcon kernel (R132, R160); the VXE stops there, and the VILCON itself does not
complete. -/
def execVilcon (die : Fin 8) (w : BitVec 64) (n : Nat) (fault : Option (Fin 3 × U32)) (rd : ReadObs) (s : State) :
    Host.Outcome State Fault Refusal :=
  if vxeAt s die 0x70 w then
    let (s1, bad) := vxeReadCheck s die w rd
    if bad then .next (faultVxe (updVxe ((vxeWrites die w).foldl scrambleAny s1) die retire) die)
    else
      let s2 := updVxe { s1 with free := s1.free + 1 } die (vilconEffect s1.free n (vilconF w))
      match fault with
      | none => .next (updVxe s2 die retire)
      | some (k, off) => .next (faultVxe (updVxe s2 die (fun x =>
          { x with faultWord := x.faultWord ||| vilconFault k, faultOff := off })) die)
  else .next s

/-! ### Seeds and counters -/

/-- A write of 8500h:01 (R157): the seed is set and every draw counter is zero. -/
def setVxeSeed (v : VxeS) (seed : U32) : VxeS := { v with seed := seed, draws := Vector.replicate 2048 0#48 }

/-- A write of 8500h:05 (R162, R165): nL for L = 0 to 2,047, 6 bytes each. -/
def setDraws (v : VxeS) (img : List Byte) : VxeS :=
  { v with draws := Vector.ofFn (fun (l : Fin 2048) => BitVec.ofNat 48 (leNat ((img.drop (6 * l)).take 6))) }

end Sys2Proof.Machine
end

