-- ==== Sys2Proof/Machine/ObjRead.lean ====
section
/-! DEFINITION. What every object reads (the object tables of chapters 1 to 18), and who may read it (R638 to R641). -/

namespace Sys2Proof.Machine

/-! ### State codes -/

def arrCode : ArrState → Nat
  | .idle => 0
  | .running => 1
  | .halted => 2
  | .faulted => 3
  | .outOfService => 4
def haltCode : HaltCtl → Nat
  | .running => 0
  | .halting => 1
  | .halted => 2
def vxeCode : VxeState → Nat
  | .idle => 0
  | .running => 1
  | .vilcon => 2
  | .faulted => 3
  | .outOfService => 4
def seqCode : SeqState → Nat
  | .idle => 0
  | .running => 1
  | .stalled => 2
  | .suspended => 3
  | .failed => 4
  | .outOfService => 5
def loadCode : LoadState → Nat
  | .empty => 0
  | .checking => 1
  | .admitted => 2
  | .running => 3
  | .stopping => 4
  | .suspending => 5
  | .suspended => 6
  | .failed => 7
def reelCode : ReelState → Nat
  | .idle => 0
  | .moving => 1
  | .waiting => 2
  | .outOfService => 3
def mapCode : MapState → Nat
  | .inService => 0
  | .mapoutPending => 1
  | .mappedOut => 2
def laserCode : LaserState → Nat
  | .off => 0
  | .enabling => 1
  | .on => 2
  | .disabling => 3
  | .fault => 4
  | .held => 5
def loopCode : LoopState → Nat
  | .off => 0
  | .parked => 1
  | .sweep => 2
  | .acquire => 3
  | .verify => 4
  | .locked => 5
  | .relock => 6
  | .failed => 7
  | .hold => 8
def engCode : EngState → Nat
  | .off => 0
  | .dark => 1
  | .safe => 2
  | .training => 3
  | .inService => 4
  | .laserLost => 5
  | .outOfService => 6
def laneCode : LaneState → Nat
  | .dark => 0
  | .training => 1
  | .inService => 2
  | .relocking => 3
  | .failed => 4
  | .requalifying => 5
  | .safe => 6
def stagedCode : StagedState → Nat
  | .none => 0
  | .staged => 1
  | .invalid => 2
  | .committing => 3
def hostCode : HostState → Nat
  | .training => 0
  | .enrollment => 1
  | .linkUp => 2
  | .secured => 3
  | .fault => 4
def windowCode : WindowState → Nat
  | .closed => 0
  | .open_ => 1
  | .closing => 2
  | .error => 3
def groupCode : GroupState → Nat
  | .free => 0
  | .idle => 1
  | .agreeing => 2
  | .running => 3
  | .suspended => 4
  | .ending => 5
def expCode : ExpState → Nat
  | .free => 0
  | .open_ => 1
  | .preparing => 2
  | .committing => 3
  | .committed => 4
  | .aborted => 5
def channelCode : ChannelState → Nat
  | .empty => 0
  | .full => 1
  | .waking => 2
  | .resetting => 3
  | .unbound => 4
def propCode : PropState → Nat
  | .empty => 0
  | .proposed => 1
  | .committing => 2
  | .committed => 3
  | .rejected => 4
  | .expired => 5
  | .aborted => 6
def ownerCode : Ownership → Nat
  | .unowned => 0
  | .claiming => 1
  | .owned => 2
def syncCode : SyncState → Nat
  | .unset => 0
  | .locked => 1
  | .aligning => 2
  | .holdover => 3
def funcCode : FuncState → Nat
  | .disabled => 0
  | .enabling => 1
  | .enabled => 2
  | .disabling => 3
def fwCode : FwState → Nat
  | .none => 0
  | .staged => 1
  | .invalid => 2
  | .writing => 3
  | .written => 4
def serviceCode : ServiceState → Nat
  | .normal => 0
  | .requested => 1
  | .inService => 2

/-- A signed value of w bits as the number that its bytes spell. -/
def asBits (w : Nat) (i : Int) : Nat := (BitVec.ofInt w i).toNat

def maskOf (n : Nat) (p : Nat → Bool) : Nat := leNatBits ((List.range n).map p)

/-- Insert into a rising list. -/
def insertNat (x : Nat) : List Nat → List Nat
  | [] => [x]
  | y :: ys => if x ≤ y then x :: y :: ys else y :: insertNat x ys
def sortNat (xs : List Nat) : List Nat := xs.foldr insertNat []

/-! ### Owners (R605) -/

/-- The partition that holds an instance of the OWN class. -/
def ownerOf (s : State) (index inst : Nat) : Option Nat :=
  let owned (o : U8) : Option Nat := if o.toNat < 8 then some o.toNat else none
  match index with
  | 0x8400 => partOfDie s (inst / 8)
  | 0x8500 => partOfDie s inst
  | 0x8600 => partOfDie s inst
  | 0x8700 => some inst
  | 0x8800 => if inst < 64 then partOfDie s (inst / 8) else none
  | 0x8900 => some inst
  | 0x8A00 => partOfDie s (inst / 64)
  | 0x8B00 => partOfDie s (inst / 32)
  | 0x8C00 => partOfDie s inst
  | 0x9200 => owned (slotOf s inst).owner
  | 0x9300 => owned (winOf s inst).owner
  | 0x9500 => partOfDie s inst
  | _ => none

/-! ### The views of the record and of the fault list (R641, R723) -/

/-- What an identity may see of a PART: its own partition and shared units; the Operator sees all. -/
def seesPart (who : Nat) (part : U8) : Bool :=
  match driverPart who with
  | some p => decide (part.toNat = p ∨ part = 0xFF#8)
  | none => true

/-- An entry of the event record (R720). -/
def eventBytes (e : Event) (seq : Nat) : List Byte :=
  leBytes 32 (seq % 2 ^ 64 + e.time.toNat * 2 ^ 64 + e.code.toNat * 2 ^ 128 + eventClass e.code.toNat * 2 ^ 136 +
    e.tunset.toNat * 2 ^ 139 + e.inj.toNat * 2 ^ 140 + e.ukind.toNat * 2 ^ 144 + e.uinst.toNat * 2 ^ 152 +
    e.part.toNat * 2 ^ 168 + e.repeats % 65536 * 2 ^ 176 + e.detail.toNat * 2 ^ 192)

/-- How many entries of a view have been made. -/
def madeOf (who : Nat) (made : Vector Nat 9) : Nat :=
  match driverPart who with
  | some p => vget made p 0 + vget made 8 0
  | none => made.toList.sum

/-- The entries of a list that an identity sees, with the sequence numbers of its view: the newest carries the number of
entries made. -/
def viewOf (who : Nat) (made : Vector Nat 9) (es : List Event) : List (Nat × Event) :=
  let vis := es.filter (fun e => seesPart who e.part)
  let n := madeOf who made
  (List.range vis.length).zip vis |>.map (fun p => (n + 1 + p.1 - vis.length, p.2))

def viewBytes (v : List (Nat × Event)) : List Byte := (v.map (fun p => eventBytes p.2 p.1)).flatten

/-- Event counts of a view (7000h:06). -/
def countOf (s : State) (who c : Nat) : Nat :=
  match driverPart who with
  | some p => (vget (vget s.ev.countsBy p (Vector.replicate 256 0#32)) c 0#32).toNat +
      (vget (vget s.ev.countsBy 8 (Vector.replicate 256 0#32)) c 0#32).toNat
  | none => (vget s.ev.counts c 0#32).toNat

/-- The fault-list entries that an identity sees. -/
def faultsOf (s : State) (who : Nat) : List FaultEntry :=
  s.ev.faults.filter (fun f => seesPart who (partByte (partOfUnit s f.ukind.toNat f.uinst.toNat)))

def faultBytes (f : FaultEntry) : List Byte :=
  leBytes 16 (f.ukind.toNat + f.uinst.toNat * 2 ^ 8 + f.code.toNat * 2 ^ 24 + f.time.toNat * 2 ^ 32 + f.inj.toNat * 2 ^ 96)

/-! ### Inventory (R19) -/

def chansIn (s : State) : Nat := s.mem.chans.toList.countP (fun c => decide (c.st ≠ .mappedOut))
/-- A unit that a reset has taken out of service leaves the inventory at the reset's end (R731). -/
def stillCounted (s : State) (uk ui : Nat) : Bool :=
  s.ev.faults.any (fun f => f.leaves && decide (f.ukind.toNat = uk ∧ f.uinst.toNat = ui))

def regionsIn (s : State) : Nat :=
  (List.range 256).countP (fun r => decide ((regOf s r).st ≠ .mappedOut) &&
    (!(vget s.mem.storeOut (r / 32) false) || stillCounted s ukISLAND (10 * (r / 32) + 9)))
def lanesIn (s : State) : Nat := s.optics.lanes.toList.countP (fun l => l.counted)
def arraysIn (s : State) : Nat := (List.range 64).countP (fun a => decide ((arrOf s a).st ≠ .outOfService) || stillCounted s ukARRAY a)

/-! ### Readings (R639, R640) -/

def meanNat (xs : List Nat) : Nat := xs.sum / max xs.length 1

/-- A driver's view of a reading of its die (R640): 100 ms means in steps of 1 W, temperatures in steps of 0.5 °C. -/
def driverReading (d : DiePowerS) (sub : Nat) : Nat :=
  let watts (x : Nat) : Nat := x - x % 10
  let half (t : Int) : Nat := asBits 16 (t - t % 5)
  match sub with
  | 0x06 => watts (meanNat (d.ms.map (fun r => r.1)))
  | 0x07 => watts (meanNat (d.ms.map (fun r => r.2.1)))
  | 0x08 => watts (meanNat (d.ms.map (fun r => r.2.2)))
  | 0x09 => half d.tc
  | 0x0A => half d.ts
  | _ => watts d.idle.toNat

/-! ### Numbers -/

/-- Numeric values of a die's power control (9500h) as they stand. -/
def powerValue (d : DiePowerS) (sub : Nat) : Nat :=
  match sub with
  | 0x01 => d.point.toNat
  | 0x02 => d.changing.toNat
  | 0x03 => d.limit.toNat
  | 0x04 => d.frac.toNat
  | 0x05 => d.cause.toNat
  | 0x06 => d.diePower.toNat
  | 0x07 => d.storePower.toNat
  | 0x08 => d.hbmPower.toNat
  | 0x09 => asBits 16 d.tc
  | 0x0A => asBits 16 d.ts
  | 0x0B => d.idle.toNat
  | 0x0C => d.trips.toNat
  | 0x0D => d.pendingPoint.toNat
  | k => (vget d.throttled (k - 0x10) 0#64).toNat

/-- Numeric values of a lane (8F00h). -/
def laneValue (s : State) (l sub : Nat) : Nat :=
  let x := laneOf s l
  let e := l / 16
  let k := l % 16
  let ring (i : Nat) : Nat := loopCode (loopAt s e i)
  match sub with
  | 0x01 => laneCode x.st
  | 0x02 => ring k
  | 0x03 => ring (16 + k)
  | 0x04 => (match (engOf s e).port with
    | some q => ring (txRing q k)
    | none => 0)
  | 0x05 => (match (engOf s e).port with
    | some q => ring (rxRing q k)
    | none => 0)
  | 0x06 => ring (32 + k)
  | 0x07 => x.trim.toNat
  | 0x08 => asBits 16 (ringOf s e k).detuning
  | 0x09 => (ringOf s e k).heater.toNat / 100000
  | 0x0A => x.fail.toNat
  | _ => x.transient.toNat

/-- Numeric values of the dies' families and of the memory tiers (8400h to 8D00h). -/
def unitValue (s : State) (index sub i : Nat) : Nat :=
  match index with
  | 0x8400 =>
    let a := arrOf s i
    (match sub with
     | 1 => a.seed.toNat
     | 2 => arrCode (arrShown s i)
     | 3 => a.dIndex.toNat
     | 4 => a.rowsDrained.toNat
     | 5 => a.reruns.toNat
     | 6 => a.satRuns.toNat
     | _ => a.longRuns.toNat)
  | 0x8500 =>
    let v := vxeOf s i
    (match sub with
     | 1 => v.seed.toNat
     | 2 => vxeCode (vxeShown s i)
     | 3 => v.faultWord.toNat
     | 4 => v.faultOff.toNat
     | 6 => maskOf 8 (fun q => (tableAt v q).valid)
     | 7 => v.retired.toNat
     | _ => v.faults.toNat)
  | 0x8600 =>
    let q := seqOf s i
    (match sub with
     | 1 => seqCode q.st
     | 2 => q.steps.toNat
     | 3 => (nextPc q).toNat
     | 4 => q.fail.toNat
     | k => (vget q.stall (k - 0x10) 0#64).toNat)
  | 0x8700 =>
    let n := negOf s i
    (match sub with
     | 1 => n.imgAddr.toNat
     | 2 => n.imgLen.toNat
     | 4 => loadCode n.state
     | 5 => n.refCode.toNat
     | 6 => n.refDie.toNat
     | 7 => n.refSect.toNat
     | 8 => n.refOff.toNat
     | _ => n.negId.toNat)
  | 0x8800 =>
    let r := reelOf s i
    (match sub with
     | 1 => reelCode r.st
     | 2 => r.lastStatus.toNat
     | 3 => r.failAddr.toNat
     | 4 => r.completed.toNat
     | 6 => r.queue.length
     | 7 => r.bytes.toNat
     | k => (vget r.wait (k - 0x10) 0#64).toNat)
  | 0x8900 => (vget (vget s.watchdogs i watchdogReset) (sub - 1) 0#32).toNat
  | 0x8A00 =>
    let c := chanOf s i
    (match sub with
     | 1 => mapCode c.st
     | 2 => c.corrected.toNat
     | 3 => c.uncorr.toNat
     | 4 => c.integ.toNat
     | 5 => c.spareUsed.toNat
     | 6 => c.retirements.toNat
     | _ => c.transient.toNat)
  | 0x8B00 =>
    let r := regOf s i
    (match sub with
     | 1 => mapCode r.st
     | 2 => r.corrected.toNat
     | 3 => r.uncorr.toNat
     | 4 => r.spareUsed.toNat
     | 5 => r.spareBank.isSome.toNat
     | _ => r.transient.toNat)
  | 0x8C00 => (retiredPages s i).length
  | _ =>
    let f := flashOf s i
    (match sub with
     | 1 => flashState s
     | 2 => f.spare.toNat
     | 3 => f.retired.toNat
     | 4 => f.meanErase.toNat
     | 5 => f.maxErase.toNat
     | 6 => f.userBytes.toNat
     | _ => f.wearBytes.toNat)

/-- Numeric values of the optics, the fabric, the CLE and the host side (8E00h to 9600h). -/
def linkValue (s : State) (index sub i : Nat) : Nat :=
  match index with
  | 0x8E00 =>
    let e := engOf s i
    (match sub with
     | 1 => engCode e.st
     | 2 => e.port.getD 0xFF
     | 3 => maskOf 16 (fun k => decide ((laneOf s (16 * i + k)).st = .inService))
     | 4 => maskOf 16 (fun k => decide ((laneOf s (16 * i + k)).st = .failed))
     | 5 => e.mislocks.toNat
     | 6 => e.lockLosses.toNat
     | 7 => e.attempts.toNat
     | _ => e.launch.toNat)
  | 0x8F00 => laneValue s i sub
  | 0x9000 =>
    let l := laserOf s i
    (match sub with
     | 1 => l.reqEnable.toNat
     | 2 => laserCode l.st
     | 3 => l.ok.toNat
     | 4 => (((engOf s (2 * i)).rings.toList ++ (engOf s (2 * i + 1)).rings.toList).map (fun (r : RingS) => r.heater)).sum.toNat / 100000000
     | 5 => asBits 16 l.temp
     | _ => l.faults.toNat)
  | 0x9100 =>
    let p := portOf s i
    (match sub with
     | 1 => portRole s i
     | 2 => p.outcome.toNat
     | 3 => p.member.toNat
     | 4 => p.port.toNat
     | 5 => p.serial.toNat
     | 6 => p.csid.toNat
     | 7 => if portLit s i && !p.dark then (engineOfPort s i).getD 0xFF else 0xFF
     | _ => p.records.toNat)
  | 0x9200 =>
    let g := slotOf s i
    (match sub with
     | 1 => g.owner.toNat
     | 2 => g.num.toNat
     | 3 => g.gid.toNat
     | 4 => g.call.toNat
     | 5 => groupCode g.st
     | 6 => g.last.toNat
     | 7 => g.detail.toNat
     | 8 => g.step.toNat
     | 9 => g.awaited.toNat
     | 11 => g.numeric.toNat
     | _ => g.stragglers.toNat)
  | 0x9300 =>
    let w := winOf s i
    (match sub with
     | 2 => (decide (w.st = .open_ ∨ w.st = .error)).toNat
     | 3 => windowCode w.st
     | 4 => w.owner.toNat
     | 5 => w.rate.toNat
     | _ => w.retrans.toNat)
  | 0x9400 =>
    let p := hportOf s i
    (match sub with
     | 1 => hostCode p.st
     | 4 => p.polarity.toNat
     | 5 => p.frames.toNat
     | 6 => p.corrected.toNat
     | 7 => p.uncorr.toNat
     | 8 => p.refused.toNat
     | 9 => p.cnps.toNat
     | 10 => p.sent.toNat
     | 11 => p.received.toNat
     | _ => p.vlanClear.toNat)
  | 0x9500 => powerValue (dieP s i) sub
  | _ =>
    let f := funcOf s i
    (match sub with
     | 1 => (decide (f.st = .enabled ∨ f.st = .enabling)).toNat
     | 2 => funcCode f.st
     | _ => f.pending.toNat)

/-- Numeric values of the package's configuration objects (1000h to 6FFFh). -/
def packageValue (s : State) (index sub : Nat) : Nat :=
  match index with
  | 0x1018 => (match sub with
    | 1 => 0x0055534E
    | 2 => 0x00001048
    | 3 => 0x00A1
    | _ => Config.serial.toNat)
  | 0x1020 => (match sub with
    | 1 => chansIn s
    | 2 => 3968 * chansIn s
    | 3 => regionsIn s
    | 4 => lanesIn s
    | _ => arraysIn s)
  | 0x1100 => (match sub with
    | 1 => s.eumon.served.toNat
    | 2 => s.eumon.dropped.toNat
    | 3 => s.eumon.envDropped.toNat
    | _ => s.eumon.sessions.countP (fun x => x.confirmed))
  | 0x2400 => (match sub with
    | 1 => s.mem.storePasses.toNat
    | 2 => s.mem.hbmPasses.toNat
    | 3 => ((s.mem.scrubs.toList.take 8).map (fun c => c.progress.toNat)).foldl min 100
    | _ => ((s.mem.scrubs.toList.drop 8).map (fun c => c.progress.toNat)).foldl min 100)
  | 0x2800 =>
    let c := s.optics.calib
    (match sub with
     | 1 => (match c.stored with
       | .factory => 0
       | .user _ => 1)
     | 2 => calLength
     | 6 => c.commits.toNat
     | 7 => stagedCode c.state
     | _ => (match c.inForce with
       | none => 2
       | some .factory => 0
       | some (.user _) => 1))
  | 0x2810 => (match sub with
    | 1 => s.optics.shroudOpen.toNat
    | 2 => maskOf 48 (fun q => (optPortOf s q).safelight)
    | 3 => s.optics.entries.toNat
    | _ => s.optics.backstops.toNat)
  | 0x2A00 => (match sub with
    | 1 => s.fabric.member.toNat
    | 2 => s.fabric.variant.toNat
    | 3 => s.fabric.dw.toNat
    | 5 => s.fabric.check.toNat
    | 6 => csidNow s
    | 8 => s.fabric.discState.toNat
    | _ => s.fabric.assumed.toNat)
  | 0x2B00 => if sub = 5 then s.fabric.tableCheck.toNat else (vget s.fabric.weights (sub - 1) 0#8).toNat
  | 0x2C00 => (match sub with
    | 1 => s.cle.threshold.toNat
    | 2 => s.cle.interval.toNat
    | 3 => s.cle.lanes.toList.countP (fun b => b)
    | 4 => s.cle.completed.toNat
    | _ => s.cle.replays.toNat)
  | 0x2D00 => (match sub with
    | 1 => serviceCode s.ev.service
    | 2 => s.ev.locate.toNat
    | 3 => attnCode s
    | 4 => locateCode s
    | _ => s.ev.presses.toNat)
  | 0x2E00 => (match sub with
    | 1 => s.clk.stepTime.toNat
    | 3 => syncCode s.clk.sync
    | 4 => asBits 32 s.clk.pulseErr
    | 5 => s.clk.slips.toNat
    | _ => s.clk.refHoldover.toNat)
  | 0x2E10 => (match sub with
    | 1 => powerCode s.power.st
    | 2 => s.power.setCap.toNat
    | 3 => effCap s / 10
    | 4 => s.power.convs.toList.countP (fun b => b)
    | 5 => (match s.power.stop with
      | .tripped => 2
      | .inputFault => 3
      | .none => s.power.target.isSome.toNat)
    | _ => s.power.pending.toNat)
  | 0x2F00 => (match sub with
    | 2 => bootCode s
    | 3 => s.sys.cause.toNat
    | 4 => s.sys.boots.toNat
    | 5 => (recoveryArmed s).toNat
    | 6 => s.sys.wdInterval.toNat
    | _ => s.sys.mgpResets.toNat)
  | 0x2F20 => (match sub with
    | 1 => if s.sys.fwValid then s.sys.fwVersion.toNat else 0
    | 2 => s.sys.fwFloor.toNat
    | _ => fwCode s.sys.fwState)
  | 0x6100 => (match sub with
    | 1 => s.power.mv.toNat
    | 2 => s.power.ma.toNat
    | 3 => s.power.power.toNat
    | 4 => asBits 16 s.power.hottest
    | _ => s.power.hottestSensor.toNat)
  | _ => (match sub with
    | 1 => s.fabric.forwarded.toNat
    | 2 => s.fabric.corrected.toNat
    | 3 => s.fabric.uncorr.toNat
    | 4 => s.fabric.dropCheck.toNat
    | 5 => s.fabric.dropRoute.toNat
    | 6 => s.fabric.resent.toNat
    | 7 => s.fabric.dups.toNat
    | _ => s.fabric.marked.toNat)

/-- Numeric values of the record, injection points, mailboxes, exposures, security and debug objects (7000h, 7800h and
C000h to EFFFh), as an identity reads them. -/
def controlValue (s : State) (who index sub : Nat) : Nat :=
  match layoutOf index with
  | 0x7000 => (match sub with
    | 2 => (((viewOf who s.ev.made s.ev.record).getLast?).map (fun p => p.1)).getD 0
    | 3 => (((viewOf who s.ev.made s.ev.record).head?).map (fun p => p.1)).getD 0
    | _ => s.ev.lost.toNat)
  | 0x7200 => (faultsOf s who).length
  | 0x7800 =>
    let p := pointOf s (index - 0x7800)
    (match sub with
     | 1 => p.target.toNat
     | 2 => p.mode.toNat
     | 3 => p.fired.toNat
     | _ => p.armed.toNat)
  | 0xC000 =>
    let m := chOf s (index - 0xC000)
    (match sub with
     | 2 => channelCode m.st
     | 3 => m.msg.length
     | 5 => m.notice.toNat
     | 6 => m.messages.toNat
     | _ => m.notices.toNat)
  | 0xC040 =>
    if sub = 1 then maskOf 64 (fun c => decide ((chOf s c).st = .full ∧ chReceiver (chOf s c) = who))
    else maskOf 64 (fun c => decide ((chOf s c).notice ≠ 0#8 ∧ chSender (chOf s c) = who))
  | 0xC800 => (match sub with
    | 1 => maskOf 16 (fun e => decide ((expOf s e).st = .free ∨ (expOf s e).st = .committed ∨ (expOf s e).st = .aborted))
    | 2 => s.exps.commits.toNat
    | _ => s.exps.aborts.toNat)
  | 0xC810 =>
    let x := expOf s (index - 0xC810)
    (match sub with
     | 3 => expCode x.st
     | 4 => x.abort.toNat
     | 5 => x.openTime.toNat
     | 6 => x.owner.toNat
     | 7 => x.writes.length
     | 8 => x.commitTime.toNat
     | 9 => x.failWrite.toNat
     | _ => x.failObj.toNat)
  | 0xD000 => (match sub with
    | 1 => ownerCode s.sec.ownership
    | 2 => s.sec.generation.toNat
    | _ => s.sec.zeroisations.toNat)
  | 0xD100 => (match sub with
    | 4 => s.sec.debugEn.toNat
    | 5 => s.sec.injEn.toNat
    | 7 => s.sec.check.toNat
    | _ => s.sec.clearing.toNat)
  | 0xD300 => s.mail.check.toNat
  | 0xD400 => maskOf 2 (fun n => vget s.sec.hostKeys n false) + 256 * maskOf 8 (fun p => vget s.sec.flashKeys p false)
  | 0xD510 =>
    let p := propOf s (index - 0xD510)
    (match sub with
     | 2 => propCode p.st
     | 6 => p.proposedAt.toNat
     | 7 => p.abort.toNat
     | 8 => p.proposer.toNat
     | _ => p.commitTime.toNat)
  | _ => (match sub with
    | 1 => s.dbg.arraySel.toNat
    | 2 => s.dbg.traySel.toNat
    | _ => haltCode (arrOf s s.dbg.arraySel.toNat).halt)

/-- A numeric object as it stands; :00 reads the highest subindex, its default. -/
def numValue (s : State) (who : Nat) (x : ObjRef) : Nat :=
  if x.sub = 0 then ((objInfo x.index 0).map (fun r => r.dflt)).getD 0
  else if x.index < 0x7000 then packageValue s x.index x.sub
  else if 0x8000 ≤ x.index ∧ x.index ≤ 0x8D00 then unitValue s x.index x.sub x.inst
  else if 0x8E00 ≤ x.index ∧ x.index < 0xC000 then linkValue s x.index x.sub x.inst
  else controlValue s who x.index x.sub

/-! ### Byte strings -/

/-- A 112-byte entry of the credential table (R614). -/
def credBytes (s : State) (c : Nat) : List Byte :=
  let e := vget s.sec.creds c []
  if e.isEmpty then List.replicate 112 0#8 else e

def credTable (s : State) : List Byte := ((List.range 64).map (credBytes s)).flatten
def bindTable (s : State) : List Byte := ((List.range 64).map (fun c => leBytes 4 (chOf s c).bind.toNat)).flatten

/-- A dual-control object of D100h as bytes (R619). -/
def guardBytes (s : State) (sub : Nat) : List Byte :=
  match sub with
  | 1 => s.sec.partMap.toList
  | 2 => (s.sec.flashQuota.toList.map (fun q => leBytes 2 q.toNat)).flatten
  | 3 => s.sec.rights.toList
  | 4 => [s.sec.debugEn]
  | 5 => leBytes 2 s.sec.injEn.toNat
  | _ => (s.sec.grants.map (fun g => leBytes 32 g.toNat)).flatten

/-- D100h:08: SHA-384 over :01 to :06 in subindex order. -/
def guardDigest (s : State) : List Byte := sha384 (((List.range 6).map (fun i => guardBytes s (i + 1))).flatten)

/-- The image of tray j of an array (R108). -/
def trayBytes (a : ArrayS) (j : Nat) : List Byte := leBytes 80 (debugImage a (vget a.trays j Tray.fresh))

/-- Serial and version: the factory's wrapping key object (R642). -/
def wrapKey : List Byte := (List.range 193).map Config.wrapKeyByte

/-- A DOMAIN as it stands. `cred` is the credential slot of a session, by which a driver sees its own entry of D200h:01
(R638). -/
def domValue (s : State) (who : Nat) (cred : Option Nat) (x : ObjRef) : List Byte :=
  let words (n : Nat) (ws : List Nat) : List Byte := (ws.map (leBytes n)).flatten
  match layoutOf x.index, x.sub with
  | 0x1300, k =>
    let g := vget s.eumon.groups (k - 1) GroupDef.reset
    leBytes 68 (g.family.toNat + g.members.toNat * 2 ^ 32)
  | 0x2800, 3 => calBytes s.optics.calib.stored 0 calLength
  | 0x2800, 4 => calBytes s.optics.calib.stored 16 48
  | 0x2800, 8 => (match s.optics.calib.inForce with
    | none => List.replicate 48 0#8
    | some c => calBytes c 16 48)
  | 0x2A00, 4 => s.fabric.sheet
  | 0x2A00, 10 => words 4 (s.fabric.detours.map (fun w => w.toNat))
  | 0x2B10, 1 => words 8 (s.fabric.mcast.toList.map (fun e => e.toNat))
  | 0x2B10, 2 => words 4 (s.fabric.dests.map (fun w => w.toNat))
  | 0x2B20, 1 => words 4 (s.fabric.fences.map (fun w => w.toNat))
  | 0x2F20, 6 => s.sys.fwDigest
  | 0x7000, 1 => viewBytes (viewOf who s.ev.made s.ev.record)
  | 0x7000, 5 => viewBytes (viewOf who s.ev.priorMade s.ev.prior)
  | 0x7000, 6 => words 4 ((List.range 256).map (countOf s who))
  | 0x7200, 1 => ((faultsOf s who).map faultBytes).flatten
  | 0x8500, 5 => words 6 ((vxeOf s x.inst).draws.toList.map (fun n => n.toNat))
  | 0x8600, 5 => readCtx (seqOf s x.inst)
  | 0x8C00, 3 => words 4 (sortNat (retiredPages s x.inst))
  | 0x8C00, 4 => words 4 (sortNat (((pairOf s x.inst).pending.filterMap (pageOf s x.inst)).eraseDups.filter
      (fun g => !(retiredPages s x.inst).contains g)))
  | 0x9200, 12 => callContext s x.inst
  | 0x9300, 1 => leBytes 64 (winOf s x.inst).desc.toNat
  | 0x9400, 2 => (List.range 6).map (Config.macByte x.inst)
  | 0x9400, 3 => (hportOf s x.inst).ip
  | 0xC000, 1 => (chOf s (x.index - 0xC000)).msg
  | 0xD000, 4 => Config.certChain
  | 0xD000, 5 => wrapKey
  | 0xD100, 8 => guardDigest s
  | 0xD100, k => guardBytes s k
  | 0xD200, 1 =>
    if (driverPart who).isSome then
      ((List.range 64).map (fun c => if cred = some c then credBytes s c else List.replicate 112 0#8)).flatten
    else credTable s
  | 0xD300, 1 => bindTable s
  | 0xD510, 1 => (propOf s (x.index - 0xD510)).body
  | 0xD510, 3 => (propOf s (x.index - 0xD510)).digest
  | 0xE100, 4 => trayBytes (arrOf s s.dbg.arraySel.toNat) s.dbg.traySel.toNat
  | 0xE100, 5 => ((List.range 256).map (trayBytes (arrOf s s.dbg.arraySel.toNat))).flatten
  | _, _ => []

/-! ### Visibility (R638) -/

/-- The class of an object (R638). -/
def visClass (x : ObjRef) : Nat :=
  let ix := x.index
  if 0x1000 ≤ ix ∧ ix < 0x2000 then 0
  else if ix = 0x9500 then (if 6 ≤ x.sub ∧ x.sub ≤ 0x0B then 3 else 1)
  else if ix = 0x6100 then 3
  else if ix = 0x8800 then (if x.inst < 64 then 1 else 2)
  else if (0x8400 ≤ ix ∧ ix < 0x8D00) ∨ ix = 0x9200 ∨ ix = 0x9300 ∨ (0xC000 ≤ ix ∧ ix < 0xC040) then 1
  else if ix ∈ [0x2400, 0x2C00, 0x6200, 0x8D00, 0x8E00, 0x8F00, 0x9000, 0x9100, 0x9400] then 2
  else if 0xD000 ≤ ix ∧ ix < 0xE000 then 4
  else if ix ∈ [0x2800, 0x2810, 0x2A00, 0x2B00, 0x2B20, 0x2D00, 0x2E00, 0x2E10, 0x2F00, 0x2F20, 0x9600, 0xC040, 0xC800] ∨
      (0xC810 ≤ ix ∧ ix < 0xC820) then 5
  else if ix = 0x7000 ∨ ix = 0x7200 then 6
  else if ix = 0x2B10 ∨ (0x7800 ≤ ix ∧ ix ≤ 0x7810) ∨ 0xE000 ≤ ix then 7
  else 8

/-- A right of the rights table held by an identity; the Operator holds all three (R615, R620). -/
def hasRight (s : State) (who bit : Nat) : Bool :=
  decide (who = idOPERATOR) || (match driverPart who with
    | some p => (vget s.sec.rights p 0#8).toNat.testBit bit
    | none => false)
def rFABRIC : Nat := 0
def rPORT : Nat := 1
def rCALIB : Nat := 2

/-- The debug objects of an array are reached for a die with debug enabled, by the debug identity and by the driver that
holds the die (R107, R615). -/
def debugReach (s : State) (who die : Nat) : Bool :=
  s.sec.debugEn.toNat.testBit die &&
    (decide (who = idDEBUG) || (decide (partOfDie s die = driverPart who) && (driverPart who).isSome))

/-- Who may write an injection point whose target is a unit (R736). -/
def injReach (s : State) (who uk ui : Nat) : Bool :=
  unlocked s.sec.injEn uk ui &&
    (decide (who = idOPERATOR ∨ who = idDEBUG) || (match driverPart who, dieOfUnit uk ui with
      | some p, some k => decide (partOfDie s k = some p)
      | _, _ => false))

def targetReach (s : State) (who target : Nat) : Bool := injReach s who (bits target 7 0) (bits target 19 8)

/-- An identity may read an object (R638); in LOADER every session reads what R704 names. -/
def mayRead (s : State) (who : Nat) (x : ObjRef) : Bool :=
  if s.sys.boot = .loader ∧ x.index = 0x2F20 ∧ x.sub ∈ [1, 2, 4] ∧ who ≠ idNone then true else
  let drv := (driverPart who).isSome
  let op := decide (who = idOPERATOR)
  match visClass x with
  | 0 => true
  | 1 =>
    if 0xC000 ≤ x.index then
      let m := chOf s (x.index - 0xC000)
      if x.sub = 1 then decide (who = chReceiver m)
      else if x.sub = 5 then decide (who = chSender m)
      else op || decide (who = chReceiver m) || decide (who = chSender m)
    else op || (drv && decide (ownerOf s x.index x.inst = driverPart who))
  | 2 => op || drv
  | 3 =>
    op || (drv && (if x.index = 0x6100 then decide (x.sub = 3 ∨ x.sub = 0) else decide (partOfDie s x.inst = driverPart who)))
  | 4 =>
    op || decide (who = idSECURITY) ||
      (drv && decide ((x.index = 0xD100 ∧ x.sub = 8) ∨ (x.index = 0xD200 ∧ x.sub = 1) ∨ (x.index = 0xD400 ∧ x.sub = 3)))
  | 5 => op || drv || (decide (x.index = 0xC040) && decide (who = idDEBUG ∨ who = idMGP)) ||
      (decide (x.index = 0x2800 ∧ x.sub = 3) && decide (who = idMGP))
  | 6 => op || drv
  | 7 =>
    if x.index = 0x2B10 then hasRight s who rFABRIC
    else if x.index < 0x8000 then op || targetReach s who (pointOf s (x.index - 0x7800)).target.toNat
    else if x.index = 0xE100 then s.sec.debugEn.toNat.testBit (s.dbg.arraySel.toNat / 8) && (op || debugReach s who (s.dbg.arraySel.toNat / 8))
    else op || (List.range 8).any (debugReach s who)
  | _ => op

/-- The state of an object forbids a read now (R110, R205, R500, R593). -/
def readRefused (s : State) (x : ObjRef) : Bool :=
  match layoutOf x.index, x.sub with
  | 0x8600, 5 => decide ((seqOf s x.inst).st ≠ .suspended)
  | 0x9200, 12 =>
    let o := (slotOf s x.inst).owner.toNat
    decide (8 ≤ o) || decide ((negOf s o).state ≠ .suspended)
  | 0xC000, 1 => decide ((chOf s (x.index - 0xC000)).st ≠ .full)
  | 0xE100, 4 => decide (arrShown s s.dbg.arraySel.toNat ≠ .halted)
  | 0xE100, 5 => decide (arrShown s s.dbg.arraySel.toNat ≠ .halted)
  | _, _ => false

/-! ### Snapshots of SHARED counters (R639) -/

/-- A SHARED object that counts; the others hold state codes and settings. -/
def sharedCounter (index sub : Nat) : Bool :=
  match index with
  | 0x2400 => decide (sub = 1 ∨ sub = 2)
  | 0x2C00 => decide (sub = 4 ∨ sub = 5)
  | 0x6200 => decide (1 ≤ sub)
  | 0x8800 => decide (sub = 4 ∨ sub = 7 ∨ 0x10 ≤ sub)
  | 0x8D00 => decide (3 ≤ sub)
  | 0x8E00 => decide (5 ≤ sub ∧ sub ≤ 7)
  | 0x8F00 => decide (sub = 0x0B)
  | 0x9000 => decide (sub = 6)
  | 0x9100 => decide (sub = 8)
  | 0x9400 => decide (5 ≤ sub ∧ sub ≤ 0x0B)
  | _ => false

def snapKey (x : ObjRef) : Nat := x.index * 2 ^ 20 + x.sub * 2 ^ 12 + x.inst

/-- Every SHARED counter there is. -/
def sharedObjs : List ObjRef :=
  [0x2400, 0x2C00, 0x6200, 0x8800, 0x8D00, 0x8E00, 0x8F00, 0x9000, 0x9100, 0x9400].flatMap (fun ix =>
    (objRows ix).flatMap (fun r =>
      if sharedCounter ix r.sub then
        (match ninstOf ix with
         | none => [0]
         | some n => (List.range (n + 1)).filter (fun i => decide (ix ≠ 0x8800 ∨ 64 ≤ i))).map (fun i =>
           { index := ix, sub := r.sub, inst := i })
      else []))

/-- SHARED_COUNTER_SNAPSHOT (R639): the values that drivers read for the next 100 ms, rounded down to a multiple of
1,024. -/
def execSharedCounterSnapshot (s : State) : Host.Outcome State Fault Refusal :=
  .next (updSys s (fun y => { y with
    snapshot := sharedObjs.map (fun x => let v := numValue s idOPERATOR x; (snapKey x, v - v % 1024)) }))

/-! ### Reading -/

/-- The value that an identity reads (R547, R638 to R641). -/
def readValue (s : State) (who : Nat) (cred : Option Nat) (x : ObjRef) (r : ObjRow) : List Byte :=
  if r.typ = 10 then domValue s who cred x
  else
    let drv := (driverPart who).isSome
    let v :=
      if drv && decide (visClass x = 2) && sharedCounter x.index x.sub then (lookupNat (snapKey x) s.sys.snapshot).getD 0
      else if drv && decide (x.index = 0x8800 ∧ 64 ≤ x.inst ∧ x.sub = 3) && decide (some (reelOf s x.inst).failPart ≠ driverPart who) then 0
      else if drv && decide (x.index = 0x9500) && decide (visClass x = 3) then driverReading (dieP s x.inst) x.sub
      else if drv && decide (x.index = 0x6100 ∧ x.sub = 3) then (let w := meanNat s.power.ms; w - w % 500)
      else numValue s who x
    leBytes r.lo v

/-- What a read changes: the record's entries it shows are read (R723), and 2F00h:03 puts out the management bus's lamp
(R711). -/
def readEffect (s : State) (who : Nat) (x : ObjRef) : State :=
  if x.index = 0x7000 ∧ x.sub = 1 then
    updEv s (fun e => { e with record := e.record.map (fun v => if seesPart who v.part then { v with read := true } else v) })
  else if x.index = 0x2F00 ∧ x.sub = 3 then updSys s (fun y => { y with attn := false })
  else s

end Sys2Proof.Machine
end

