-- ==== Sys2Proof/Machine/ObjWrite.lean ====
section
/-! DEFINITION. What a write of each dictionary object is checked for (R541, R542, R573, R784 and the objects' own rules)
and what it does once its checks have passed. -/

namespace Sys2Proof.Machine

/-! ### Step 1: existence (R538, R539) -/

/-- The abort code of a request that names nothing there is; 0 where the object exists. -/
def existence (x : ObjRef) : Nat :=
  if (objRows (layoutOf x.index)).isEmpty then abNO_OBJECT
  else if (objInfo x.index x.sub).isNone then abNO_SUBINDEX
  else match ninstOf x.index with
    | some n => if n < x.inst then abNO_INSTANCE else 0
    | none => if x.inst ≠ 0 then abNO_INSTANCE else 0

/-- The row of an object that exists. -/
def rowOf (x : ObjRef) : ObjRow := (objInfo x.index x.sub).getD (objRow 0 0 0 0 0 1 0)

/-! ### Which objects can be staged, and which only within an exposure (R573, R557) -/

/-- The IMMEDIATE objects of R573. -/
def immediate (x : ObjRef) : Bool :=
  match layoutOf x.index with
  | 0x2800 => decide (x.sub = 3 ∨ x.sub = 5)
  | 0x2A00 => decide (x.sub = 7)
  | 0x2E00 => decide (x.sub = 2)
  | 0x2E10 => decide (x.sub = 1)
  | 0x2F00 => decide (x.sub = 1)
  | 0x2F20 => decide (x.sub = 3 ∨ x.sub = 5)
  | 0x8500 => decide (x.sub = 5)
  | 0x8600 => decide (x.sub = 5)
  | 0x8700 => decide (x.sub = 3)
  | 0x8800 => decide (x.sub = 5)
  | 0x8E00 => decide (x.sub = 9)
  | 0x9000 => decide (x.sub = 1)
  | 0x9200 => decide (x.sub = 0x0A ∨ x.sub = 0x0C)
  | 0x9300 => decide (x.sub = 2)
  | 0x9600 => decide (x.sub = 1)
  | 0xD000 => decide (x.sub = 3)
  | 0xD400 => decide (x.sub = 4)
  | 0xD510 => decide (x.sub = 1 ∨ x.sub = 4 ∨ x.sub = 5)
  | _ => false

def stageable (x : ObjRef) : Bool :=
  decide ((0x2000 ≤ x.index ∧ x.index < 0x6000) ∨ (0x8000 ≤ x.index ∧ x.index < 0xC000) ∨
    (0xD000 ≤ x.index ∧ x.index < 0xE000)) && !immediate x

/-- Objects written only within an exposure (R279, R367, R386, R394, R395, R446, R449, R454, R505). -/
def xonly (x : ObjRef) : Bool :=
  match x.index with
  | 0x2A00 => decide ((1 ≤ x.sub ∧ x.sub ≤ 4) ∨ x.sub = 9 ∨ x.sub = 0x0A)
  | 0x2B00 => decide (1 ≤ x.sub ∧ x.sub ≤ 4)
  | 0x2B10 => decide (x.sub = 1 ∨ x.sub = 2)
  | 0x2B20 => decide (x.sub = 1)
  | 0x2C00 => decide (x.sub = 1 ∨ x.sub = 2)
  | 0x8C00 => decide (x.sub = 1)
  | _ => false

/-- The dual-control objects (R622). -/
def dualControl (x : ObjRef) : Bool :=
  match x.index with
  | 0xD100 => decide (1 ≤ x.sub ∧ x.sub ≤ 6)
  | 0xD200 => decide (x.sub = 1)
  | 0xD300 => decide (x.sub = 1)
  | 0xD400 => decide (x.sub = 1 ∨ x.sub = 2)
  | _ => false

/-- Objects that the AON serves while the MGP does not answer (R557, R570 and the objects' own rules). -/
def aonObject (x : ObjRef) : Bool :=
  decide (x.index = 0x1018 ∨ (0x7000 ≤ x.index ∧ x.index < 0x7800) ∨ x.index = 0x2F00 ∨ x.index = 0x2810 ∨
    (0xC000 ≤ x.index ∧ x.index ≤ 0xC040) ∨ x.index = 0x6100 ∨ x.index = 0x2D00) ||
  decide (x.index = 0xD000 ∧ (x.sub = 1 ∨ x.sub = 2 ∨ x.sub = 4)) || decide (x.index = 0xD400 ∧ x.sub = 4) ||
  decide (x.index = 0x2E00 ∧ x.sub = 1) || decide (x.index = 0x2E10 ∧ (x.sub = 1 ∨ x.sub = 3 ∨ x.sub = 5)) ||
  decide (x.index = 0x9000 ∧ 1 ≤ x.sub ∧ x.sub ≤ 3)

/-! ### Exposures and the objects they hold (R577) -/

/-- A slot that holds the objects of its writes. -/
def expHolds (e : ExpSlot) : Bool := decide (e.st = .open_ ∨ e.st = .preparing ∨ e.st = .committing)
def stagedIn (e : ExpSlot) (x : ObjRef) : Bool := e.writes.any (fun w => decide (w.obj = x))

/-- Some exposure holds the object. -/
def objHeld (s : State) (x : ObjRef) : Bool := s.exps.slots.any (fun e => expHolds e && stagedIn e x)

/-! ### Step 3: who may write (R541, R784) -/

def isDriver (who : Nat) : Bool := (driverPart who).isSome
def isOperator (who : Nat) : Bool := decide (who = idOPERATOR)

/-- The driver of the partition that holds an instance. -/
def ownDriver (s : State) (who : Nat) (x : ObjRef) : Bool :=
  isDriver who && decide (ownerOf s x.index x.inst = driverPart who)

/-- Who may request a reset (R691, R705). -/
def mayReset (s : State) (who n : Nat) : Bool :=
  match n % 256 with
  | 2 => isOperator who || (isDriver who && decide (partOfDie s (bits n 10 8) = driverPart who))
  | 5 => decide (who = idSECURITY)
  | _ => isOperator who

/-- Who may zeroise (R633). -/
def mayZeroise (who n : Nat) : Bool :=
  decide (who = idSECURITY) ||
    (if 0x100 ≤ n ∧ n ≤ 0x107 then decide (who = idDRIVER (n - 0x100))
     else isDriver who && !decide (n = 0x200 ∨ n = 0x201 ∨ n = 0x3FF))

/-- Who may write a debug object (R107, R615): for the array select, of the array that it names. -/
def mayDebug (s : State) (who sub n : Nat) : Bool :=
  if sub = 1 then (if n < 64 then debugReach s who (n / 8) else (List.range 8).any (debugReach s who))
  else debugReach s who (s.dbg.arraySel.toNat / 8)

/-- Who may write an object of 2000h to 7FFFh. -/
def mayWriteLow (s : State) (who : Nat) (x : ObjRef) (n : Nat) : Bool :=
  match layoutOf x.index with
  | 0x1300 =>
    let g := vget s.eumon.groups (x.sub - 1) GroupDef.reset
    decide (who ≠ idNone) && decide (g.owner = 0xFF#8 ∨ g.owner.toNat = who)
  | 0x2800 => hasRight s who rCALIB
  | 0x2A00 => hasRight s who rFABRIC
  | 0x2B00 => hasRight s who rFABRIC
  | 0x2B10 => hasRight s who rFABRIC
  | 0x2B20 => hasRight s who rFABRIC
  | 0x2C00 => hasRight s who rFABRIC
  | 0x2F00 => if x.sub = 1 then mayReset s who n else isOperator who
  | 0x7800 => targetReach s who (if x.sub = 1 then n else (pointOf s (x.index - 0x7800)).target.toNat)
  | _ => isOperator who

/-- Who may write an object of the instanced families. -/
def mayWriteUnit (s : State) (who : Nat) (x : ObjRef) (n : Nat) : Bool :=
  match x.index with
  | 0x8700 => decide (driverPart who = some x.inst)
  | 0x8900 => decide (driverPart who = some x.inst)
  | 0x8800 => decide (64 ≤ x.inst) && (isDriver who || decide (who = idMGP))
  | 0x8C00 => ownDriver s who x
  | 0x9200 => ownDriver s who x
  | 0x8E00 => hasRight s who rFABRIC || decide (who = idMGP)
  | 0x9000 => hasRight s who rFABRIC || decide (who = idMGP)
  | 0x9300 =>
    let w := winOf s x.inst
    isDriver who && (decide (x.sub = 2 ∧ n = 1) || decide (w.st ≠ .open_ ∧ w.st ≠ .error) || ownDriver s who x)
  | 0x9400 => hasRight s who rPORT
  | 0x9600 => isOperator who
  | _ => isOperator who || ownDriver s who x

/-- Who may write an object of C000h to EFFFh. -/
def mayWriteHigh (s : State) (who : Nat) (x : ObjRef) (n : Nat) : Bool :=
  match layoutOf x.index with
  | 0xC000 =>
    let m := chOf s (x.index - 0xC000)
    decide (who ≠ 0xFF) && (if x.sub = 4 then decide (who = chReceiver m) else decide (who = chSender m))
  | 0xC810 =>
    let e := expOf s (x.index - 0xC810)
    if x.sub = 1 ∧ n ≠ 2 then decide (who ≠ idNone) else decide (e.st = .free ∨ e.owner.toNat = who)
  | 0xD000 => decide (who = idCLAIM)
  | 0xD100 => false
  | 0xD200 => false
  | 0xD300 => false
  | 0xD400 => decide (x.sub = 4) && mayZeroise who n
  | 0xD510 =>
    if x.sub = 1 then isOperator who
    else if x.sub = 4 then decide (who = idSECURITY)
    else decide (who = idSECURITY) || decide ((propOf s (x.index - 0xD510)).proposer.toNat = who)
  | 0xE100 => mayDebug s who x.sub n
  | _ => isOperator who

/-- An identity may write an object (R541, R617, R784). The value counts where the right depends on it. -/
def mayWrite (s : State) (who : Nat) (x : ObjRef) (data : List Byte) : Bool :=
  let n := leNat (data.take 8)
  if who = idCLAIM then decide (x.index = 0xD000 ∧ x.sub = 3)
  else if x.index < 0x8000 then mayWriteLow s who x n
  else if x.index < 0xC000 then mayWriteUnit s who x n
  else mayWriteHigh s who x n

/-! ### Step 6: range -/

/-- A credential entry of 112 bytes taken apart (R614). -/
def credRole (e : List Byte) : Nat := leNat (e.take 1)
def credPart (e : List Byte) : Nat := leNat ((e.drop 1).take 1) % 8
def credKey (e : List Byte) : List Byte := (e.drop 4).take 97
/-- Its reserved bits, and PART where the role is none of a driver, are zero and its role is no reserved code. -/
def credReserved (e : List Byte) : Bool :=
  let n := leNat e
  decide (bits n 31 11 ≠ 0 ∨ bits n 895 808 ≠ 0) || decide (4 < credRole e) || decide (credRole e ≠ 1 ∧ credPart e ≠ 0)

/-- The pages of a pair as committing exposures leave it (R279). -/
def pageEnd (s : State) (k : Nat) : Nat := pairBytes s k / 65536

/-- The watchdog limits that 8900h takes (R256). -/
def limitBad (sub n : Nat) : Bool :=
  decide (n ≠ 0) && (match sub with
    | 1 => decide (n < 100 ∨ 1000000 < n)
    | 2 => decide (n < 100 ∨ 1000000 < n)
    | 3 => decide (n < 10000 ∨ 60000000 < n)
    | _ => decide (n < 1000 ∨ 60000000 < n))

/-- A value outside its Unit/Range (R542, step 6). `after` is the state that every committing exposure will leave. -/
def rangeBad (s after : State) (who : Nat) (x : ObjRef) (data : List Byte) : Bool :=
  let n := leNat (data.take 8)
  match layoutOf x.index, x.sub with
  | 0x1300, _ =>
    let fam := leNat (data.take 2)
    let mem := leNat (data.drop 4)
    decide (fam ≠ 0) && (match ninstOf fam with
      | none => true
      | some k => decide (2 ^ (k + 1) ≤ mem))
  | 0x2800, 5 => decide (n ≠ 1)
  | 0x2A00, 2 => decide (1 < n)
  | 0x2A00, 3 => decide (13 < n)
  | 0x2A00, 9 => decide (0x1FFF < n ∧ n ≠ 0xFFFF)
  | 0x2B00, _ => decide (n < 1 ∨ 64 < n)
  | 0x2B10, 2 => false
  | 0x2C00, 2 => decide (n < 1 ∨ 60000 < n)
  | 0x2D00, 1 => decide (2 < n)
  | 0x2D00, 2 => decide (1 < n)
  | 0x2E00, 2 => decide (n % 1048576 ≠ 0)
  | 0x2E10, 2 => decide (n < 1000 ∨ 4200 < n)
  | 0x2F00, 1 => decide (n % 256 = 1) && decide (n / 256 = 87 ∨ 120 ≤ n / 256)
  | 0x2F00, 6 => decide (n < 100 ∨ 5000 < n)
  | 0x2F20, 5 => decide (n ≠ 1)
  | 0x7200, 2 => decide (unitExists (bits n 7 0) (bits n 19 8) = 2)
  | 0x7800, 1 => decide (unitExists (bits n 7 0) (bits n 19 8) = 2)
  | 0x7800, 2 => decide (3 < n) || decide (n = 3 ∧ x.index ≤ 0x7804)
  | 0x8700, 2 => decide (n < 1280 ∨ 268435456 < n)
  | 0x8800, 5 =>
    let d := BitVec.ofNat 512 (leNat data)
    descLayoutBad d || iodOutside s ((driverPart who).getD 8) d
  | 0x8900, k => limitBad k n
  | 0x8C00, 1 => decide (pageEnd after x.inst ≤ n)
  | 0x9000, 1 => decide (1 < n)
  | 0x9200, 0x0A => decide (n ≠ 1)
  | 0x9200, 0x0C => !contextGood (slotOf s x.inst) data
  | 0x9300, 2 => decide (1 < n)
  | 0x9400, 0x0C => decide (1 < n)
  | 0x9500, 3 => decide (n < 8 ∨ 16 < n)
  | 0x9600, 1 => decide (1 < n)
  | 0xC000, 4 => decide (n ≠ 1)
  | 0xC000, 5 => decide (n ≠ 0)
  | 0xC810, 1 => decide (n < 1 ∨ 2 < n)
  | 0xC810, 2 => decide (n % 1024 ≠ 0)
  | 0xD000, 3 =>
    let a := data.take 112
    let b := data.drop 112
    decide (credRole a ≠ 3 ∨ credRole b ≠ 2 ∨ credKey a = credKey b)
  | 0xD510, 5 => decide (n ≠ 1)
  | 0xE100, 1 => decide (63 < n)
  | 0xE100, 3 => decide (1 < n)
  | _, _ => false

/-! ### Step 7: reserved codes and bits (R9, R10) -/

/-- The 4-byte items of a list, with the bits of each that are reserved. -/
def itemsBad (data : List Byte) (hi lo : Nat) : Bool :=
  (List.range (data.length / 4)).any (fun i => decide (bits (leNat ((data.drop (4 * i)).take 4)) hi lo ≠ 0))

/-- A reserved code, or a reserved bit set to one, where the object's rule names no code of its own for it. -/
def reservedBad (x : ObjRef) (data : List Byte) : Bool :=
  let n := leNat (data.take 8)
  match layoutOf x.index, x.sub with
  | 0x1300, _ => decide (bits n 31 16 ≠ 0)
  | 0x2A00, 1 => decide (0x2100 ≤ n ∧ n ≤ 0xFFFE)
  | 0x2A00, 0x0A => itemsBad data 31 13
  | 0x2B10, 2 => itemsBad data 15 10
  | 0x2E10, 1 => decide (3 < n)
  | 0x2F00, 1 => decide (n % 256 = 0 ∨ 5 < n % 256) || decide (n % 256 = 2 ∧ bits n 15 11 ≠ 0)
  | 0x7200, 2 => decide (unitExists (bits n 7 0) 0 = 1) || decide (bits n 31 20 ≠ 0)
  | 0x7800, 1 => decide (unitExists (bits n 7 0) 0 = 1) || decide (bits n 63 52 ≠ 0)
  | 0x8700, 3 => decide (n = 0 ∨ 6 < n)
  | 0x8800, 5 => descReserved (BitVec.ofNat 512 (leNat data))
  | 0x9200, 0x0C => decide (6 < bits (leNat data) 62 55 ∨ bits (leNat data) 63 63 ≠ 0 ∨ bits (leNat data) 2015 1952 ≠ 0) ||
      (List.range 29).any (fun i => decide (bits (leNat data) (64 * i + 159) (64 * i + 149) ≠ 0))
  | 0x9300, 1 => (winF (BitVec.ofNat 512 (leNat data))).reserved
  | 0x9500, 1 => decide (7 < n)
  | 0xD000, 3 => credReserved (data.take 112) || credReserved (data.drop 112)
  | 0xD400, 4 => !decide ((0x100 ≤ n ∧ n ≤ 0x107) ∨ n = 0x200 ∨ n = 0x201 ∨ n = 0x3FF)
  | 0xE100, 4 => decide (bits (leNat data) 639 617 ≠ 0 ∨ bits (leNat data) 575 573 ≠ 0)
  | _, _ => false

/-! ### Step 8: the object's state -/

/-- A negative is held: 8700h:04 reads other than EMPTY and CHECKING (R176, R185). -/
def negHeld (n : NegS) : Bool := decide (n.state ≠ .empty ∧ n.state ≠ .checking)
def anyHeld (s : State) : Bool := s.negs.any negHeld

/-- The package is in P0 and no change runs (R679). -/
def steadyP0 (s : State) : Bool := decide (s.power.st = .p0 ∧ s.power.target = none ∧ s.power.stop = .none)

/-- A command of 8700h:03 is refused in this state (R177, R679, R749). -/
def commandRefused (s : State) (p n : Nat) : Bool :=
  let g := negOf s p
  match n with
  | 1 => decide (g.state ≠ .empty) || decide (s.power.st = .p2 ∨ s.power.st = .p3) || decide (s.ev.service = .inService)
  | 2 => decide (g.state ≠ .admitted ∧ g.state ≠ .failed)
  | 3 => !(decide (g.state = .admitted) || (decide (g.state = .failed) && !g.unitLost)) || !steadyP0 s
  | 4 => decide (g.state ≠ .running)
  | 5 => decide (g.state ≠ .running)
  | _ => decide (g.state ≠ .suspended) || !steadyP0 s

/-- A spare may not assume an address (R394): it is no active member of the spare's block, another has been assumed, or a
partition of the spare holds a negative. -/
def assumeRefused (s : State) (n : Nat) : Bool :=
  let own := s.fabric.member.toNat
  !(isSpare own && isActive n && decide (n / 32 = own - 0x2000)) ||
    decide (s.fabric.assumed ≠ 0xFFFF#16 ∧ s.fabric.assumed.toNat ≠ n) || anyHeld s

/-- A reset is refused in this state (R691, R692, R694). -/
def resetRefused (s : State) (n : Nat) : Bool :=
  let i := n / 256
  match n % 256 with
  | 1 => !(allEmpty s || decide (80 ≤ i ∧ i ≤ 81) || decide (i = 84 ∨ i = 85)) && s.sys.running.isNone && !s.sys.resetting.contains i
  | 2 => (match partOfDie s (bits n 10 8) with
    | some p => decide ((negOf s p).state ≠ .empty) && s.sys.running.isNone && !dieInReset s (bits n 10 8)
    | none => false)
  | 3 => (packageReset s .package 2#8).isNone
  | 4 => (packageReset s .cold 2#8).isNone
  | _ => false

/-- The state of an object forbids a write now (R542, step 8). -/
def stateBad (s : State) (who : Nat) (x : ObjRef) (data : List Byte) : Bool :=
  let n := leNat (data.take 8)
  let i := x.inst
  match layoutOf x.index, x.sub with
  | 0x2800, 3 => decide (s.optics.calib.state = .committing)
  | 0x2800, 5 => decide (s.optics.calib.state = .committing)
  | 0x2A00, 1 => anyHeld s
  | 0x2A00, 2 => anyHeld s
  | 0x2A00, 3 => anyHeld s
  | 0x2A00, 7 => anyHeld s
  | 0x2A00, 9 => assumeRefused s n
  | 0x2D00, 1 => (setService s n).isNone
  | 0x2E10, 1 => (requestPower s ([PowerSt.p0, .p1, .p2, .p3].getD n .p0)).isNone
  | 0x2F00, 1 => resetRefused s n
  | 0x2F20, 5 => (commitFirmware s).isNone
  | 0x7200, 2 => !onFaultList s (bits n 7 0) (bits n 19 8)
  | 0x8400, 1 => decide (arrShown s i = .running)
  | 0x8500, 1 => decide (vxeShown s i = .running ∨ vxeShown s i = .vilcon)
  | 0x8500, 5 => decide (vxeShown s i ≠ .idle)
  | 0x8600, 5 => decide ((seqOf s i).st ≠ .suspended)
  | 0x8700, 3 => commandRefused s i n
  | 0x9000, 1 => decide (n = 1) && (laserEnable s i).isNone
  | 0x9200, 0x0C => decide ((negOf s (slotOf s i).owner.toNat).state ≠ .suspended)
  | 0x9300, 1 => !descWritable (winOf s i)
  | 0x9300, 2 => (writeWindowOpen s i ((driverPart who).getD 8) n).isNone
  | 0x9600, 1 => (setFunction s i n).isNone
  | 0xC000, 1 => decide ((chOf s (x.index - 0xC000)).st ≠ .empty ∨ (chOf s (x.index - 0xC000)).notice ≠ 0#8)
  | 0xC000, 4 => decide ((chOf s (x.index - 0xC000)).st ≠ .full)
  | 0xC810, 1 =>
    let e := expOf s (x.index - 0xC810)
    if n = 1 then expHolds e else decide (e.st ≠ .open_ ∧ e.st ≠ .preparing)
  | 0xC810, 2 => decide ((expOf s (x.index - 0xC810)).st ≠ .open_)
  | 0xD000, 3 => decide (s.sec.ownership ≠ .claiming)
  | 0xD510, 1 => decide ((propOf s (x.index - 0xD510)).st = .proposed ∨ (propOf s (x.index - 0xD510)).st = .committing)
  | 0xD510, 4 => decide ((propOf s (x.index - 0xD510)).st ≠ .proposed)
  | 0xD510, 5 => decide ((propOf s (x.index - 0xD510)).st ≠ .proposed)
  | 0xE100, 4 => decide (arrShown s s.dbg.arraySel.toNat ≠ .halted)
  | _, _ => false

/-- Slots in OPEN or PREPARING that an identity holds (R574); a proposal's exposure does not count (R630). -/
def slotsHeld (s : State) (who : Nat) : Nat :=
  (List.range 16).countP (fun e => decide ((expOf s e).st = .open_ ∨ (expOf s e).st = .preparing) &&
    decide ((expOf s e).owner.toNat = who) && !s.sec.proposals.any (fun p => decide (p.st = .committing ∧ p.expSlot = some e)))

/-- A limit of the object is reached (R247, R574). -/
def resourceBad (s : State) (who : Nat) (x : ObjRef) (data : List Byte) : Bool :=
  match layoutOf x.index, x.sub with
  | 0x8800, 5 => iodFull s x.inst ((driverPart who).getD 8)
  | 0xC810, 1 => decide (leNat data = 1) &&
decide (4 ≤ slotsHeld s who)
  | _, _ => false

/-- The unit that a write acts on is out of service, or its island is in reset (R548); what the AON serves it serves
whatever their state. -/
def unitDown (s : State) (x : ObjRef) : Bool :=
  let down (i : Nat) : Bool := s.sys.resetting.contains i
  if aonObject x then false
  else if x.index = 0xE100 then
    decide (3 ≤ x.sub) && down (objIsland { index := 0x8400, sub := 1, inst := s.dbg.arraySel.toNat })
  else if 0xC000 ≤ x.index then false
  else
    down (objIsland x) || (match x.index with
      | 0x8400 => decide ((arrOf s x.inst).st = .outOfService)
      | 0x8500 => decide ((vxeOf s x.inst).st = .outOfService)
      | 0x8800 => decide ((reelOf s x.inst).st = .outOfService)
      | _ => false)

/-! ### The checks in order (R542) -/

/-- Steps 5 to 8, the value and the object's state, then the unit and the limits that R548 names. -/
def checkValue (s after : State) (who : Nat) (x : ObjRef) (data : List Byte) : Nat :=
  let r := rowOf x
  let n := data.length
  if n < r.lo ∨ r.hi < n ∨ n % r.mult ≠ 0 then abLENGTH
  else if rangeBad s after who x data then abRANGE
  else if reservedBad x data then abRESERVED
  else if stateBad s who x data then abSTATE
  else if unitDown s x then abDEVICE
  else if resourceBad s who x data then abRESOURCE
  else 0

/-- A write without EXP: the abort code of the first check that fails, 0 where all pass. -/
def checkDirect (s after : State) (who : Nat) (x : ObjRef) (data : List Byte) : Nat :=
  let e := existence x
  if e ≠ 0 then e
  else if (rowOf x).acc < 2 then abREAD_ONLY
  else if !mayWrite s who x data then abRIGHTS
  else if xonly x then abEXPOSURE_REQUIRED
  else if objHeld s x then abCONFLICT
  else checkValue s after who x data

/-- A write with EXP (R575): `slot` is the exposure slot. -/
def checkStaged (s after : State) (who : Nat) (slot : Nat) (x : ObjRef) (data : List Byte) : Nat :=
  let e := existence x
  if e ≠ 0 then e
  else if (rowOf x).acc < 2 then abREAD_ONLY
  else if !mayWrite s who x data then abRIGHTS
  else if !stageable x then abNOT_STAGEABLE
  else if 16 ≤ slot ∨ (expOf s slot).st ≠ .open_ ∨ (expOf s slot).owner.toNat ≠ who then abEXPOSURE_STATE
  else checkValue s after who x data

/-! ### What a write does -/

def words32 (data : List Byte) : List U32 :=
  (List.range (data.length / 4)).map (fun i => BitVec.ofNat 32 (leNat ((data.drop (4 * i)).take 4)))
def words64 (data : List Byte) : List U64 :=
  (List.range (data.length / 8)).map (fun i => BitVec.ofNat 64 (leNat ((data.drop (8 * i)).take 8)))
def bytes8 (data : List Byte) : Vector U8 8 := Vector.ofFn (fun (k : Fin 8) => data.getD k 0#8)

/-- A command of 8700h:03 (R177). -/
def applyCommand (s : State) (p n : Nat) : State :=
  match n with
  | 1 => loadNeg s p
  | 2 => unloadNeg s p
  | 3 => runNeg s p
  | 4 => stopNeg s p
  | 5 => suspendNeg s p
  | _ => resumePartition s p

/-- A reset request (R690, R705). -/
def applyReset (s : State) (n : Nat) : State :=
  match n % 256 with
  | 1 => startIslandReset s (n / 256)
  | 2 => startDieReset s (bits n 10 8)
  | 3 => (packageReset s .package 2#8).getD s
  | 4 => (packageReset s .cold 2#8).getD s
  | _ => updSys s (fun y => { y with armedAt := some s.now })

/-- A zeroisation (R633). -/
def applyZeroise (s : State) (n : Nat) : State :=
  if n < 0x200 then zeroisePart s (n - 0x100) else if n < 0x300 then zeroiseHost s (n - 0x200) else zeroiseAll s

/-- A group definition (R558, R559). -/
def applyGroup (s : State) (who g : Nat) (data : List Byte) : State :=
  let fam := leNat (data.take 2)
  let d : GroupDef :=
    if fam = 0 then GroupDef.reset
    else { family := BitVec.ofNat 16 fam, members := BitVec.ofNat 512 (leNat (data.drop 4)), owner := BitVec.ofNat 8 who }
  { s with eumon := { s.eumon with groups := vset s.eumon.groups g d } }

/-- Writes of configuration objects of 1000h to 7FFFh. -/
def applyLow (s : State) (who : Nat) (x : ObjRef) (data : List Byte) (obs : WriteObs) : State :=
  let n := leNat (data.take 8)
  match layoutOf x.index, x.sub with
  | 0x1300, k => applyGroup s who (k - 1) data
  | 0x2800, 3 => stageCalibration s data
  | 0x2800, 5 => commitCalibration s
  | 0x2A00, 1 => setMember s (fun f => { f with member := BitVec.ofNat 16 n })
  | 0x2A00, 2 => setMember s (fun f => { f with variant := BitVec.ofNat 8 n })
  | 0x2A00, 3 => setMember s (fun f => { f with dw := BitVec.ofNat 8 n })
  | 0x2A00, 4 => commitSheet s data
  | 0x2A00, 7 => startDiscovery s n
  | 0x2A00, 9 => if s.fabric.assumed.toNat = n then s else assume_ s n
  | 0x2A00, 0x0A => installDetours s ((words32 data).map (fun w => w.toNat % 8192))
  | 0x2B00, k => updFabric s (fun f => { f with weights := vset f.weights (k - 1) (BitVec.ofNat 8 n) })
  | 0x2B10, 1 => commitMcast s (Vector.ofFn (fun (i : Fin 1024) => (words64 data).getD i 0#64))
  | 0x2B10, 2 => updFabric s (fun f => { f with dests := words32 data })
  | 0x2B20, 1 => fenceCalls (commitFences s (words32 data))
  | 0x2C00, 1 => { s with cle := { s.cle with threshold := BitVec.ofNat 32 n } }
  | 0x2C00, 2 => { s with cle := { s.cle with interval := BitVec.ofNat 32 n } }
  | 0x2D00, 1 => (setService s n).getD s
  | 0x2D00, 2 => updEv s (fun e => { e with locate := decide (n = 1) })
  | 0x2E00, 2 => setEpoch s n
  | 0x2E10, 1 => (requestPower s ([PowerSt.p0, .p1, .p2, .p3].getD n .p0)).getD s
  | 0x2E10, 2 => updPower s (fun p => { p with setCap := BitVec.ofNat 16 n })
  | 0x2F00, 1 => applyReset s n
  | 0x2F00, 6 => updSys s (fun y => { y with wdInterval := BitVec.ofNat 16 n })
  | 0x2F20, 3 => stageFirmware s data
  | 0x2F20, 5 => (commitFirmware s).getD s
  | 0x7200, 2 => requalify s (bits n 7 0) (bits n 19 8) obs.passed
  | 0x7800, 1 => updPoint s (x.index - 0x7800) (fun p => { p with target := BitVec.ofNat 64 n })
  | 0x7800, 2 => armPoint s (x.index - 0x7800) (BitVec.ofNat 8 n)
  | _, _ => s

/-- Writes of the instanced families. -/
def applyUnit (s : State) (who : Nat) (x : ObjRef) (data : List Byte) : State :=
  let n := leNat (data.take 8)
  let i := x.inst
  match x.index, x.sub with
  | 0x8400, 1 => updArr s i (fun a => setArraySeed a (BitVec.ofNat 32 n))
  | 0x8500, 1 => updVxe s i (fun v => setVxeSeed v (BitVec.ofNat 32 n))
  | 0x8500, 5 => updVxe s i (fun v => setDraws v data)
  | 0x8600, 5 => updSeq s i (fun q => writeCtx q data)
  | 0x8700, 1 => updNeg s i (fun g => { g with imgAddr := BitVec.ofNat 64 n })
  | 0x8700, 2 => updNeg s i (fun g => { g with imgLen := BitVec.ofNat 32 n })
  | 0x8700, 3 => applyCommand s i n
  | 0x8800, 5 => queueIod s i who ((driverPart who).getD 8) (BitVec.ofNat 512 (leNat data))
  | 0x8900, k => { s with watchdogs := vmod s.watchdogs i (fun w => vset w (k - 1) (BitVec.ofNat 32 n)) }
  | 0x8C00, 1 => retirePage s i n
  | 0x8E00, 9 => requalifyLanes s i n
  | 0x9000, 1 => if n = 1 then (laserEnable s i).getD s else laserDisable s i
  | 0x9200, 0x0A => abortCall s i
  | 0x9200, 0x0C => updSlot s i (fun g => writeContext g data)
  | 0x9300, 1 => updWin s i (fun w => { w with desc := BitVec.ofNat 512 (leNat data) })
  | 0x9300, 2 => (writeWindowOpen s i ((driverPart who).getD 8) n).getD s
  | 0x9400, 3 => updHport s i (fun p => { p with ip := data })
  | 0x9400, 4 => updHport s i (fun p => { p with polarity := BitVec.ofNat 16 n })
  | 0x9400, 0x0C => updHport s i (fun p => { p with vlanClear := BitVec.ofNat 8 n })
  | 0x9500, 1 => setPoint s i (BitVec.ofNat 8 n)
  | 0x9500, 3 => settle (updDieP s i (fun d => { d with limit := BitVec.ofNat 8 n })) i
  | 0x9600, 1 => (setFunction s i n).getD s
  | _, _ => s

/-- The host-link key slot n is filled (R517, R632): a port that waited in ENROLLMENT runs MKA. -/
def fillKey (s : State) (n : Nat) (data : List Byte) : State :=
  let s1 := updSec s (fun y => { y with hostKeys := vset y.hostKeys n true, hostWrapped := vset y.hostWrapped n data })
  updHport s1 n (fun p => { p with st := if p.st = .enrollment then .linkUp else p.st })

/-- The credentials of a claim (R618). -/
def applyClaim (s : State) (data : List Byte) : State :=
  let s1 := updSec s (fun y => { y with
    creds := vset (vset y.creds 0 (data.take 112)) 1 (data.drop 112), ownership := .owned, generation := 1#64 })
  raiseSec { s1 with
    eumon := { s1.eumon with sessions := s1.eumon.sessions.filter (fun y => decide (y.ident ≠ idCLAIM)) } } 0x96 0

/-- Writes of mailboxes, security and debug objects. Shutters, closes and proposals are taken by their own operations. -/
def applyHigh (s : State) (x : ObjRef) (data : List Byte) (obs : WriteObs) : State :=
  let n := leNat (data.take 8)
  match layoutOf x.index, x.sub with
  | 0xC000, 1 => postMessage s (x.index - 0xC000) data
  | 0xC000, 4 => releaseChannel s (x.index - 0xC000)
  | 0xC000, 5 => clearNotice s (x.index - 0xC000)
  | 0xD000, 3 => applyClaim s data
  | 0xD100, 1 => commitPartMap s (bytes8 data)
  | 0xD100, 2 => commitQuotas s (Vector.ofFn (fun (p : Fin 8) => BitVec.ofNat 16 (leNat ((data.drop (2 * p)).take 2))))
  | 0xD100, 3 => updSec s (fun y => { y with rights := bytes8 data })
  | 0xD100, 4 => updSec s (fun y => { y with debugEn := BitVec.ofNat 8 n })
  | 0xD100, 5 =>
    let en := BitVec.ofNat 16 n
    updSec (lockPoints s en) (fun y => { y with injEn := en })
  | 0xD100, 6 => updSec s (fun y => { y with
      grants := (List.range (data.length / 32)).map (fun i => BitVec.ofNat 256 (leNat ((data.drop (32 * i)).take 32))) })
  | 0xD200, 1 => updSec s (fun y => { y with
      creds := Vector.ofFn (fun (c : Fin 64) =>
        let e := (data.drop (112 * c)).take 112
        if e.all (fun b => decide (b = 0#8)) then [] else e) })
  | 0xD300, 1 => commitBindings s data
  | 0xD400, 1 => fillKey s 0 data
  | 0xD400, 2 => fillKey s 1 data
  | 0xD400, 4 => applyZeroise s n
  | 0xE100, 1 => { s with dbg := { s.dbg with arraySel := BitVec.ofNat 8 n } }
  | 0xE100, 2 => { s with dbg := { s.dbg with traySel := BitVec.ofNat 8 n } }
  | 0xE100, 3 =>
    if n = 1 then haltArray s s.dbg.arraySel.toNat obs.chunks obs.rd else resumeArray s s.dbg.arraySel.toNat
  | 0xE100, 4 => updArr s s.dbg.arraySel.toNat (fun a => writeTrayImage a s.dbg.traySel.toNat (leNat data))
  | _, _ => s

/-- The effect of a write whose checks have passed. -/
def applyObj (s : State) (who : Nat) (x : ObjRef) (data : List Byte) (obs : WriteObs) : State :=
  if x.index < 0x8000 then applyLow s who x data obs
  else if x.index < 0xC000 then applyUnit s who x data
  else applyHigh s x data obs

end Sys2Proof.Machine
end

