-- ==== Sys2Proof/Machine/Exposure.lean ====
section
/-! DEFINITION. Exposures (R572 to R586): staging, closing, preparing, committing, aborting and expiring. -/

namespace Sys2Proof.Machine

/-! ### The state that committing exposures will leave (R581) -/

/-- Slots in COMMITTING, in the order of their T_c. -/
def insertSlot (s : State) (e : Nat) : List Nat → List Nat
  | [] => [e]
  | f :: fs => if (expOf s e).commitTime ≤ (expOf s f).commitTime then e :: f :: fs else f :: insertSlot s e fs
def committing (s : State) : List Nat :=
  ((List.range 16).filter (fun e => decide ((expOf s e).st = .committing))).foldr (insertSlot s) []

/-- The writes of a slot, applied in staging order; a fence list comes first, so that a detour of the same exposure
lifts the fence that it names (R396). -/
def applyWrites (s : State) (e : Nat) : State :=
  let x := expOf s e
  let fence (w : Staged) : Bool := decide (layoutOf w.obj.index = 0x2B20)
  (x.writes.filter fence ++ x.writes.filter (fun w => !fence w)).foldl (fun (t : State) (w : Staged) => applyObj t x.owner.toNat w.obj w.data w.obs) s

/-- What rides with an exposure (R585): lanes, the map-outs of its driver's partition, units that leave and return. -/
def ridersOf (s : State) (who tc : Nat) : State :=
  let s1 := commitLanes s
  let s2 := match driverPart who with
    | some p => commitMapOuts s1 p tc
    | none => s1
  returnUnits (leaveUnits s2 (fun _ _ => true))

/-- The state that every exposure in COMMITTING will leave, with what rides with each (R279), against which later ones are
checked. -/
def afterCommits (s : State) : State :=
  (committing s).foldl (fun t e => ridersOf (applyWrites t e) (expOf s e).owner.toNat (expOf s e).commitTime.toNat) s

/-! ### Staging (R575, R578) -/

/-- What comes of a write: done, done with its answer still owed (R581, R630), refused with a code, or waiting until an
exposure has committed (R578). -/
inductive WriteRes where
  | done (s : State)
  | owes (s : State)
  | refused (s : State) (code : Nat)
  | waits
  deriving DecidableEq, Repr

/-- The exposure that gives way when two in OPEN or PREPARING stage one object: the one opened later, or with equal open
times the one of the higher master identity (R578). True where `a` gives way to `b`. -/
def givesWay (a b : ExpSlot) : Bool :=
  decide (b.openTime < a.openTime) || (decide (a.openTime = b.openTime) && decide (b.owner < a.owner))

/-- Other slots in OPEN or PREPARING that hold the object. -/
def rivals (s : State) (e : Nat) (x : ObjRef) : List Nat :=
  (List.range 16).filter (fun f => decide (f ≠ e) && decide ((expOf s f).st = .open_ ∨ (expOf s f).st = .preparing) && stagedIn (expOf s f) x)

/-- Some other exposure in COMMITTING holds the object. -/
def commitHolds (s : State) (e : Nat) (x : ObjRef) : Bool :=
  (List.range 16).any (fun f => decide (f ≠ e) && decide ((expOf s f).st = .committing) && stagedIn (expOf s f) x)

/-- Put a write into a slot: it replaces an earlier one of the same object, where it stands. -/
def putStaged (ws : List Staged) (w : Staged) : List Staged :=
  if ws.any (fun v => decide (v.obj = w.obj)) then ws.map (fun v => if v.obj = w.obj then w else v) else ws ++ [w]

def stagedBytes (ws : List Staged) : Nat := (ws.map (fun w => w.data.length)).sum

/-- A write whose checks have passed is staged in a slot (R575, R578). -/
def stageWrite (s : State) (e : Nat) (w : Staged) : WriteRes :=
  if commitHolds s e w.obj then .waits
  else
    let x := expOf s e
    let ws := putStaged x.writes w
    if 1024 < ws.length ∨ 524288 < stagedBytes ws then .refused s abRESOURCE
    else
      let rs := rivals s e w.obj
      if rs.any (fun f => givesWay x (expOf s f)) then .refused (abortExposure s e abCONFLICT) abCONFLICT
      else .done (updExp (rs.foldl (fun t f => abortExposure t f abCONFLICT) s) e (fun y => { y with writes := ws }))

/-! ### Shutter and close (R574, R579, R581) -/

/-- Open a slot for an identity: counters of its last use are cleared. -/
def openSlot (s : State) (e who : Nat) : State :=
  updExp s e (fun _ => { ExpSlot.reset with st := .open_, openTime := BitVec.ofNat 64 (stepNow s), owner := BitVec.ofNat 8 who })

/-- A shutter write whose checks have passed. -/
def writeShutter (s : State) (e who n : Nat) : State :=
  if n = 1 then openSlot s e who else abortExposure s e abABORTED

/-- A Close whose checks have passed: PREPARING; its answer is deferred (R581). -/
def closeSlot (s : State) (e t : Nat) (o : Option Owed) : State :=
  let s1 := updExp s e (fun y => { y with
    st := .preparing, request := BitVec.ofNat 64 t, closedSeq := s.exps.closes, closer := o })
  { s1 with exps := { s1.exps with closes := s1.exps.closes + 1 } }

/-! ### Preparation (R581, R582, R588, R610, R657) -/

/-- Every write of an exposure but one's own sheet, tables and bindings is seen by the checks of those. -/
def ownMember (s : State) (ws : List Staged) (who : Nat) : State :=
  ws.foldl (fun (t : State) (w : Staged) =>
    if w.obj.index = 0x2A00 ∧ w.obj.sub ≤ 3 then applyObj t who w.obj w.data w.obs else t) s

/-- The value of an object that an exposure will leave: staged, or as it stands. -/
def stagedOr (ws : List Staged) (index sub : Nat) (old : List Byte) : List Byte :=
  match ws.find? (fun w => decide (w.obj.index = index ∧ w.obj.sub = sub)) with
  | some w => w.data
  | none => old

/-- The check codes that a preparation leaves at 2A00h:05, 2B00h:05 and D300h:02; none where its exposure writes no such
object. -/
structure Checks where
  sheet : Option Nat
  table : Option Nat
  binds : Option Nat
  deriving DecidableEq, Repr

def writesTables (w : Staged) : Bool := decide (w.obj.index = 0x2B10 ∨ w.obj.index = 0x2B20)

def checksOf (after : State) (who : Nat) (ws : List Staged) : Checks :=
  let has (p : Staged → Bool) : Bool := ws.any p
  let mine := ownMember after ws who
  let words (n : Nat) (l : List Nat) : List Byte := (l.map (leBytes n)).flatten
  { sheet := (ws.find? (fun w => decide (w.obj.index = 0x2A00 ∧ w.obj.sub = 4))).map (fun w => sheetCheck mine w.data)
    table := if has writesTables then
        some (tableCheck mine
          (words64 (stagedOr ws 0x2B10 1 (words 8 (after.fabric.mcast.toList.map (fun m => m.toNat)))))
          (words32 (stagedOr ws 0x2B20 1 (words 4 (after.fabric.fences.map (fun m => m.toNat))))))
      else none
    binds := (ws.find? (fun w => decide (w.obj.index = 0xD300))).map (fun w => bindCheck after w.data) }

/-- A partition map that moves a die whose partition holds a negative in any state but EMPTY (R610). -/
def mapBusy (s : State) (new : Vector U8 8) : Bool :=
  (List.range 8).any (fun k =>
    let a := vget s.sec.partMap k 0xFF#8
    decide (a ≠ vget new k 0xFF#8) && decide (a ≠ 0xFF#8) && decide ((negOf s a.toNat).state ≠ .empty))

/-- One write's check at its island (R582): 0, BUSY or REFUSED. -/
def prepCheck (after : State) (who : Nat) (c : Checks) (w : Staged) : Nat :=
  let bad (o : Option Nat) : Bool := decide (o.getD 0 ≠ 0)
  match w.obj.index, w.obj.sub with
  | 0x2A00, 1 => if anyHeld after then abBUSY else 0
  | 0x2A00, 2 => if anyHeld after then abBUSY else 0
  | 0x2A00, 3 => if anyHeld after then abBUSY else 0
  | 0x2A00, 4 => if anyHeld after then abBUSY else if bad c.sheet then abREFUSED else 0
  | 0x2A00, 9 => if anyHeld after then abBUSY else if assumeRefused after (leNat w.data) then abREFUSED else 0
  | 0x2B10, _ => if bad c.table then abREFUSED else 0
  | 0x2B20, _ => if bad c.table then abREFUSED else 0
  | 0xD100, 1 => if mapBusy after (bytes8 w.data) then abBUSY else 0
  | 0xD300, 1 => if bad c.binds then abREFUSED else 0
  | _, _ => if rangeBad after after who w.obj w.data || stateBad after who w.obj w.data then abREFUSED else 0

/-- Leave the check codes of a preparation. -/
def leaveChecks (s : State) (c : Checks) : State :=
  let s1 := match c.sheet with
    | some n => updFabric s (fun f => { f with check := BitVec.ofNat 8 n })
    | none => s
  let s2 := match c.table with
    | some n => updFabric s1 (fun f => { f with tableCheck := BitVec.ofNat 8 n })
    | none => s1
  match c.binds with
  | some n => { s2 with mail := { s2.mail with check := BitVec.ofNat 8 n } }
  | none => s2

/-- An object as C810h:0A shows it (R572). -/
def objNat (x : ObjRef) : Nat := x.index + x.sub * 2 ^ 16 + x.inst * 2 ^ 24

/-- The latest T_c in COMMITTING. -/
def lastCommit (s : State) : Nat := ((committing s).map (fun e => (expOf s e).commitTime.toNat)).foldl max 0

/-- T_c of an exposure that is ready at step time tr (R582). -/
def commitAt (s : State) (tr t : Nat) : Nat :=
  let own := alignUp (max t (tr + 20000)) 1024
  if (committing s).isEmpty then own else max own (lastCommit s + 1024)

/-- The slot in PREPARING whose close came first: exposures are prepared one at a time (R581). -/
def nextPreparing (s : State) (e : Nat) : Bool :=
  decide ((expOf s e).st = .preparing) &&
    (List.range 16).all (fun f => decide (f = e) || decide ((expOf s f).st ≠ .preparing) || decide ((expOf s e).closedSeq < (expOf s f).closedSeq))

/-- T_c is fixed (R581, R582): COMMITTING, and the close, or the countersignature of the proposal it carries, is
answered. -/
def fixCommit (s : State) (e tc : Nat) : State :=
  let o := (expOf s e).closer
  let s1 := settleOwed (updExp s e (fun y => { y with
    st := .committing, commitTime := BitVec.ofNat 64 tc, closer := none })) o 0
  (List.range 4).foldl (fun t k =>
    if (propOf t k).st = .committing ∧ (propOf t k).expSlot = some e then
      settleOwed (updProp t k (fun p => { p with signer := none })) (propOf t k).signer 0
    else t) s1

/-- Preparation ends with an abort. -/
def failPrep (s : State) (e code : Nat) (w : Option (Nat × Staged)) : State :=
  let s1 := match w with
    | some (i, x) => updExp s e (fun y => { y with
        failWrite := BitVec.ofNat 16 i, failObj := BitVec.ofNat 64 (objNat x.obj) })
    | none => s
  abortExposure s1 e code

/-- The preparation of an exposure at step time tr. -/
def prepare (s : State) (e : Nat) : State :=
  let x := expOf s e
  let after := afterCommits s
  let who := x.owner.toNat
  let c := checksOf after who x.writes
  let s1 := leaveChecks s c
  match findIdxFrom (fun w => decide (prepCheck after who c w ≠ 0)) 0 x.writes with
  | some (i, w) => failPrep s1 e (prepCheck after who c w) (some (i, w))
  | none =>
    let tr := stepNow s
    let t := x.request.toNat
    let tc := commitAt s tr t
    if t ≠ 0 ∧ s.clk.sync ≠ .locked then failPrep s1 e abDEVICE none
    else if t ≠ 0 ∧ t < tr + 20000 then failPrep s1 e abLATE none
    else if x.openTime.toNat + 500000000 < tc then failPrep s1 e abEXPIRED none
    else fixCommit s1 e tc

/-- EXPOSURE_PREPARED (R582): every island has reported; the moment is t_r. -/
def execExposurePrepared (e : Fin 16) (s : State) : Host.Outcome State Fault Refusal :=
  .next (if nextPreparing s e then prepare s e else s)

/-- EXPOSURE_EXPIRED (R580): 500 ms of step time since its open without a close. -/
def execExposureExpired (e : Fin 16) (s : State) : Host.Outcome State Fault Refusal :=
  if (expOf s e).st = .open_ then
    .next (abortExposure (advanceToStep s ((expOf s e).openTime.toNat + 500000000)) e abEXPIRED)
  else .next s

/-! ### Commit (R583, R585, R183, R630) -/

/-- What admission reads of a partition's inventory, of the package's lanes, contact sheet and multicast table, and of the
group slots that are reserved (R183). -/
structure Inventory where
  arrays : List Bool
  engines : List Bool
  reels : List Bool
  chans : List MapState
  regions : List MapState
  pages : List (List Nat)
  dies : List (Option Nat)
  lanes : List Nat
  sheet : List Byte
  missing : Bool
  mcast : Vector U64 1024
  groups : List Nat
  deriving DecidableEq, Repr

def inventoryOf (s : State) (p : Nat) : Inventory :=
  let mine (k : Nat) : Bool := decide (partOfDie s k = some p)
  let dies := (List.range 8).filter mine
  { arrays := (dies.flatMap (fun k => (List.range 8).map (fun a => decide ((arrOf s (8 * k + a)).st = .outOfService)))),
    engines := dies.flatMap (fun k => [decide ((vxeOf s k).st = .outOfService), decide ((seqOf s k).st = .outOfService)]),
    reels := dies.flatMap (fun k => (dieReels k).map (fun r => decide ((reelOf s r).st = .outOfService))),
    chans := dies.flatMap (fun k => (List.range 64).map (fun c => (chanOf s (64 * k + c)).st)),
    regions := dies.flatMap (fun k => (List.range 32).map (fun r => (regOf s (32 * k + r)).st)),
    pages := dies.map (retiredPages s), dies := dies.map some,
    lanes := (List.range 13).map (lanesOnDim s), sheet := s.fabric.sheet, missing := neighbourMissing s,
    mcast := s.fabric.mcast, groups := freeGroups s }

/-- Partitions in CHECKING whose inventory an exposure has changed (R183). -/
def noteInventory (old s : State) : State :=
  (List.range 8).foldl (fun t p =>
    if (negOf t p).state = .checking ∧ inventoryOf old p ≠ inventoryOf s p then
      updNeg t p (fun n => { n with invChanged := true })
    else t) s

/-- The proposal that an exposure carries has committed (R630). -/
def commitProposals (s : State) (e tc : Nat) : State :=
  (List.range 4).foldl (fun t k =>
    if (propOf t k).st = .committing ∧ (propOf t k).expSlot = some e then
      raiseSec (updSec (updProp t k (fun p => { p with
        st := .committed, commitTime := BitVec.ofNat 64 tc, expSlot := none }))
        (fun y => { y with generation := y.generation + 1 })) 0x91 k
    else t) s

/-- Everything of an exposure takes effect at its T_c. -/
def commitSlot (s : State) (e : Nat) : State :=
  let x := expOf s e
  let tc := x.commitTime.toNat
  let s1 := ridersOf (applyWrites s e) x.owner.toNat tc
  let s2 := noteInventory s s1
  let s3 := updExp s2 e (fun y => { y with st := .committed, writes := [] })
  commitProposals { s3 with exps := { s3.exps with commits := bump s3.exps.commits } } e tc

/-- No exposure in COMMITTING has an earlier T_c. -/
def nextCommit (s : State) (e : Nat) : Bool :=
  decide ((expOf s e).st = .committing) &&
    (List.range 16).all (fun f => decide (f = e) || decide ((expOf s f).st ≠ .committing) || decide ((expOf s e).commitTime < (expOf s f).commitTime))

/-- Step time reaches T_c; after a reset of the step-time unit it is not awaited. -/
def reachCommit (s : State) (tc : Nat) : State := if tc ≤ stepNow s + 500000000 then advanceToStep s tc else s

end Sys2Proof.Machine
end

