-- ==== Sys2Proof/Machine/Proposal.lean ====
section
/-! DEFINITION. Proposals (R622 to R630): bodies, digests, checks of dual-control writes, countersignatures. -/

namespace Sys2Proof.Machine

/-! ### Bodies (R625, R626) -/

/-- One write item of a body. -/
structure Item where
  obj : ObjRef
  data : List Byte
  deriving DecidableEq, Repr

/-- An item as it may stand in a body: it names a dual-control object or one that an exposure can stage (R625). -/
def itemAllowed (x : ObjRef) : Bool :=
  decide (existence x = 0) && decide (2 ≤ (rowOf x).acc) && (dualControl x || stageable x)

/-- Take n items from the bytes of a body; none where they break R625. -/
def parseItems : Nat → List Byte → Option (List Item)
  | 0, bs => if bs.isEmpty then some [] else none
  | n + 1, bs =>
    let h := leNat (bs.take 8)
    let len := bits h 55 40
    let pad := alignUp len 8
    let x : ObjRef := { index := bits h 15 0, sub := bits h 23 16, inst := bits h 35 24 }
    let body := (bs.drop 8).take pad
    if bs.length < 8 + pad ∨ len = 0 ∨ bits h 39 36 ≠ 0 ∨ bits h 63 56 ≠ 0 ∨ (body.drop len).any (fun b => decide (b ≠ 0#8)) ∨
        itemAllowed x = false then none
    else (parseItems n (bs.drop (8 + pad))).map (fun is => { obj := x, data := body.take len } :: is)

def bodyWrites_ (body : List Byte) : Nat := leNat ((body.drop 4).take 2)
def bodyTime (body : List Byte) : Nat := leNat ((body.drop 8).take 8)

/-- The items of a body; none where its header or items break R625. -/
def bodyItems (body : List Byte) : Option (List Item) :=
  let n := bodyWrites_ body
  if leNat (body.take 4) ≠ 0x5D2C8A01 ∨ n < 1 ∨ 1024 < n ∨ leNat ((body.drop 6).take 2) ≠ 0 ∨ leNat ((body.drop 16).take 48) ≠ 0 ∨
      bodyTime body % 1024 ≠ 0 then none
  else parseItems n (body.drop 64)

/-- The digest of a proposal (R626). -/
def proposalDigest (generation slot expiry : Nat) (body : List Byte) : List Byte :=
  sha384 (leBytes 8 Config.serial.toNat ++ leBytes 8 generation ++ leBytes 8 slot ++ leBytes 8 expiry ++ body)

/-- The public key that an identity acts under: of its session's credential slot, or else of the first slot that gives
the identity. -/
def keyOf (s : State) (who : Nat) (cred : Option Nat) : List Byte :=
  let role (e : List Byte) : Nat :=
    if e.isEmpty then idNone
    else match credRole e with
      | 1 => idDRIVER (credPart e)
      | 2 => idOPERATOR
      | 3 => idSECURITY
      | 4 => idDEBUG
      | _ => idNone
  match cred with
  | some c => credKey (vget s.sec.creds c [])
  | none => match s.sec.creds.toList.find? (fun e => decide (role e = who)) with
    | some e => credKey e
    | none => []

/-- A body whose checks have passed is accepted (R626). -/
def acceptBody (s : State) (k who : Nat) (cred : Option Nat) (body : List Byte) : State :=
  let t := stepNow s
  let expiry := t + 600000000000
  let g := s.sec.generation.toNat
  raiseSec (updProp s k (fun _ => {
    body := body, st := .proposed, digest := proposalDigest g k expiry body, proposedAt := BitVec.ofNat 64 t, abort := 0#32
    proposer := BitVec.ofNat 8 who, commitTime := 0#64, generation := BitVec.ofNat 64 g, expiry := BitVec.ofNat 64 expiry
    key := keyOf s who cred, expSlot := none, signer := none })) 0x90 k

/-- A proposal enters REJECTED (R629). -/
def rejectProposal (s : State) (k : Nat) : State := raiseSec (updProp s k (fun p => { p with st := .rejected })) 0x92 k

/-- A proposal enters EXPIRED (R628). -/
def expireProposal (s : State) (k : Nat) : State := raiseSec (updProp s k (fun p => { p with st := .expired })) 0x93 k

/-- PROPOSAL_EXPIRY (R628): an unsigned proposal reaches its expiry. -/
def execProposalExpiry (k : Fin 4) (s : State) : Host.Outcome State Fault Refusal :=
  if (propOf s k).st = .proposed then .next (expireProposal (advanceToStep s (propOf s k).expiry.toNat) k) else .next s

/-! ### Checks of dual-control writes (R623) -/

def gtFORMAT : Nat := 1
def gtQUOTA : Nat := 2
def gtGRANT : Nat := 3
def gtCREDENTIAL : Nat := 4
def gtKEY : Nat := 5

/-- Flash space that a partition's negative uses: FLASHB of its declaration (R171). -/
def flashUsed (s : State) (p : Nat) : Nat := (declG (negOf s p).decl).flashb

def quotaOf (data : List Byte) (p : Nat) : Nat := leNat ((data.drop (2 * p)).take 2)

/-- The check of the flash quotas. -/
def quotaCheck (s : State) (data : List Byte) : Nat :=
  if 6144 < ((List.range 8).map (quotaOf data)).sum then gtQUOTA
  else if (List.range 8).any (fun p => negHeld (negOf s p) && decide (quotaOf data p * 1073741824 < flashUsed s p)) then gtQUOTA
  else 0

/-- One board grant of 32 bytes (R621) under a partition map. -/
def grantCheck (s : State) (map : Vector U8 8) (g : Nat) : Nat :=
  let k := bits g 22 20
  let tier := bits g 19 16
  let len := bits g 191 128
  if g.testBit 15 ∨ bits g 63 23 ≠ 0 ∨ bits g 255 192 ≠ 0 ∨ len = 0 then gtFORMAT
  else if (vget map k 0xFF#8).toNat ≠ bits g 12 10 ∨ 1 < tier ∨
      (if tier = 0 then pairBytes s k else storeBytes s k) < bits g 127 64 + len then gtGRANT
  else 0

/-- The first code of a list that is not OK. -/
def firstCode (cs : List Nat) : Nat := (cs.find? (fun c => decide (c ≠ 0))).getD 0

/-- The credential table a write would leave. -/
def credCheck (data : List Byte) : Nat :=
  let es := (List.range 64).map (fun c => (data.drop (112 * c)).take 112)
  let used := es.filter (fun e => decide (credRole e ≠ 0))
  let keys := used.map credKey
  if es.any credReserved then gtFORMAT
  else if !used.any (fun e => decide (credRole e = 3)) || !used.any (fun e => decide (credRole e = 2)) || decide (keys ≠ keys.eraseDups) then gtCREDENTIAL
  else 0

/-- A wrapped CAK unwraps (R632): the key-encryption key is HKDF-SHA-384 over the shared x-coordinate, with the slot's
index and subindex in its info. -/
def keyUnwraps (sub : Nat) (data : List Byte) : Bool :=
  let info : List Byte := ("usn-t1 keywrap".toList.map (fun c => BitVec.ofNat 8 c.toNat)) ++ leBytes 2 0xD400 ++ leBytes 1 sub
  let kek := hkdf384 [] (Config.wrapEcdh (data.take 97)) info 32
  match Config.gcmOpen kek ((data.drop 97).take 12) ((data.drop 109).take 65) (data.drop 174) with
  | none => false
  | some pt =>
    let n := leNat ((pt.drop 32).take 1)
    decide (pt.length = 65 ∧ 1 ≤ n ∧ n ≤ 32) && (pt.drop (33 + n)).all (fun b => decide (b = 0#8))

/-- The check of one dual-control write (R623); `map` is the partition map that the proposal leaves. -/
def guardCheck (s : State) (map : Vector U8 8) (w : Item) : Nat :=
  let r := rowOf w.obj
  let n := w.data.length
  if !dualControl w.obj || decide (w.obj.index = 0xD300) then 0
  else if n < r.lo ∨ r.hi < n ∨ n % r.mult ≠ 0 then gtFORMAT
  else match w.obj.index, w.obj.sub with
    | 0xD100, 1 => if w.data.any (fun b => decide (8 ≤ b.toNat ∧ b ≠ 0xFF#8)) then gtFORMAT else 0
    | 0xD100, 2 => quotaCheck s w.data
    | 0xD100, 3 => if w.data.any (fun b => decide (8 ≤ b.toNat)) then gtFORMAT else 0
    | 0xD100, 5 => if 512 ≤ leNat w.data then gtFORMAT else 0
    | 0xD100, 6 => firstCode ((List.range (n / 32)).map (fun i => grantCheck s map (leNat ((w.data.drop (32 * i)).take 32))))
    | 0xD200, 1 => credCheck w.data
    | 0xD400, k => if keyUnwraps k w.data then 0 else gtKEY
    | _, _ => 0

/-- The partition map that a proposal leaves. -/
def proposalMap (s : State) (is : List Item) : Vector U8 8 :=
  match is.find? (fun w => decide (w.obj.index = 0xD100 ∧ w.obj.sub = 1)) with
  | some w => bytes8 w.data
  | none => s.sec.partMap

/-- The checks of R623 and R588 over a proposal: the code for D100h:07, and that for D300h:02 where it writes bindings. -/
def proposalChecks (s : State) (is : List Item) : Nat × Option Nat :=
  (firstCode (is.map (guardCheck s (proposalMap s is))),
   (is.find? (fun w => decide (w.obj.index = 0xD300))).map (fun w => if w.data.length = 256 then bindCheck s w.data else 1))

/-! ### The countersignature (R628, R630) -/

/-- A free exposure slot. -/
def freeExposure (s : State) : Option Nat := (List.range 16).find? (fun e => !expHolds (expOf s e))

/-- Stage the items of a proposal in body order: the state, and the code of the first that is refused. The slot's own
exposure is the latest opened, so it is the one that gives way (R578). -/
def stageItems (e who : Nat) : List Item → State → State × Nat
  | [], s => (s, 0)
  | w :: ws, s =>
    let c := if dualControl w.obj then 0 else checkStaged s (afterCommits s) who e w.obj w.data
    if c ≠ 0 then (s, c)
    else match stageWrite s e { obj := w.obj, data := w.data, obs := { passed := false, chunks := 0, rd := .clean } } with
      | .done t => stageItems e who ws t
      | .owes t => stageItems e who ws t
      | .refused t c => (t, c)
      | .waits => (s, abCONFLICT)

/-- A valid countersignature commits its proposal through an exposure (R630). -/
def runProposal (s : State) (k : Nat) (o : Owed) : State :=
  let p := propOf s k
  let is := (bodyItems p.body).getD []
  let s1 := updProp s k (fun y => { y with signer := some o })
  if s.sec.generation ≠ p.generation then abortProposal s1 k abCONFLICT
  else
    let (g, b) := proposalChecks s is
    let s2 := updSec s1 (fun y => { y with check := BitVec.ofNat 8 g })
    let s3 := match b with
      | some c => { s2 with mail := { s2.mail with check := BitVec.ofNat 8 c } }
      | none => s2
    if g ≠ 0 ∨ b.getD 0 ≠ 0 then abortProposal s3 k abREFUSED
    else match freeExposure s3 with
      | none => abortProposal s3 k abRESOURCE
      | some e =>
        let who := p.proposer.toNat
        let s4 := updProp (openSlot s3 e who) k (fun y => { y with st := .committing, expSlot := some e })
        let (s5, c) := stageItems e who is s4
        if c ≠ 0 then abortExposure s5 e c else closeSlot s5 e (bodyTime p.body) none

/-- A proposal whose items an exposure in COMMITTING holds waits for it (R578). -/
def proposalWaits (s : State) (k : Nat) : Bool :=
  ((bodyItems (propOf s k).body).getD []).any (fun w => commitHolds s 16 w.obj)

/-- The signature, the signer's role and its key (R628). -/
def countersigned (s : State) (k : Nat) (data : List Byte) : Bool :=
  let p := propOf s k
  let e := vget s.sec.creds (leNat (data.take 1)) []
  decide (credRole e = 3) && Config.ecdsaVerify (credKey e) p.digest (data.drop 1) && decide (credKey e ≠ p.key)

/-- A countersignature whose checks of R542 have passed (R628). -/
def countersign (s : State) (k : Nat) (data : List Byte) (o : Owed) : WriteRes :=
  if (propOf s k).expiry.toNat ≤ stepNow s then .refused (expireProposal s k) abEXPIRED
  else if !countersigned s k data then .refused s abRIGHTS
  else if proposalWaits s k then .waits
  else .owes (runProposal s k o)

end Sys2Proof.Machine
end

