-- ==== Sys2Proof/Machine/Server.lean ====
section
/-! DEFINITION. The Eumon server (R542 to R563): how a request is checked, held, executed and answered. -/

namespace Sys2Proof.Machine

/-! ### Who asks (R550, R567) -/

/-- The master identity and the credential slot of a requester. -/
def whoOf (s : State) (a : Asker) : Nat × Option Nat :=
  match a with
  | .direct w => (identNat w, none)
  | .plain _ => (idNone, none)
  | .session id => match findSession s id with
    | some x => if x.confirmed then (x.ident, some x.cred) else (idNone, none)
    | none => (idNone, none)

def objOf (m : EMsg) : ObjRef := { index := m.index, sub := m.sub, inst := m.inst }

/-- A request for a group or for every instance (R539). -/
def isGroup (x : ObjRef) : Bool := (ninstOf x.index).isSome && decide (0xF00 ≤ x.inst)

/-- Existence of what a request names, a group's members apart. -/
def existsMaybe (x : ObjRef) : Nat := existence (if isGroup x then { x with inst := 0 } else x)

/-- The instance words that a group request names (R559, R560); none where the group is undefined, empty, of another
family or another identity's. -/
def membersOf (s : State) (who : Nat) (x : ObjRef) : Option (List Nat) :=
  match ninstOf x.index with
  | none => none
  | some n =>
    if x.inst = 0xFFF then some (List.range (n + 1))
    else
      let g := vget s.eumon.groups (x.inst - 0xF00) GroupDef.reset
      if g.family.toNat ≠ x.index ∨ g.owner.toNat ≠ who ∨ g.members = 0 then none else some (setBits (n + 1) g.members.toNat)

/-! ### Reading -/

/-- Why an identity may not read an object now; 0 where it may. -/
def checkRead (s : State) (who : Nat) (x : ObjRef) : Nat :=
  let e := existence x
  if e ≠ 0 then e
  else if (rowOf x).acc = 2 then abWRITE_ONLY
  else if !mayRead s who x then abRIGHTS
  else if readRefused s x then abSTATE
  else 0

/-- The value that a READ shows: the staged one where EXP names a slot that holds one (R575). -/
def shownValue (s : State) (who : Nat) (cred : Option Nat) (exp : Nat) (x : ObjRef) : List Byte :=
  let e := expOf s (exp - 1)
  match (if 1 ≤ exp ∧ exp ≤ 16 ∧ expHolds e = true then e.writes.find? (fun w => decide (w.obj = x)) else none) with
  | some w => w.data
  | none => readValue s who cred x (rowOf x)

/-- A read of one object or of a group: the state after it, an abort code, and the value (R562). -/
def readObject (s : State) (who : Nat) (cred : Option Nat) (exp : Nat) (x : ObjRef) : State × Nat × List Byte :=
  if isGroup x then
    if existsMaybe x ≠ 0 then (s, existsMaybe x, [])
    else if 10 ≤ (rowOf x).typ then (s, abLENGTH, [])
    else match membersOf s who x with
      | none => (s, abNO_INSTANCE, [])
      | some is =>
        (s, 0, (is.map (fun i =>
          let y : ObjRef := { x with inst := i }
          let c := checkRead s who y
          leBytes 16 (i + c * 2 ^ 32 + (if c = 0 then leNat (shownValue s who cred exp y) else 0) * 2 ^ 64))).flatten)
  else
    let c := checkRead s who x
    if c ≠ 0 then (s, c, []) else (readEffect s who x, 0, shownValue s who cred exp x)

/-- The longest value a request of an object may carry (R551, R562). -/
def maxLength (s : State) (who : Nat) (read : Bool) (x : ObjRef) : Nat :=
  if isGroup x then
    (if read then 16 * ((membersOf s who x).getD []).length else (rowOf x).hi)
  else (rowOf x).hi

/-! ### DESCRIBE (R557) -/

/-- The DEFAULT that DESCRIBE shows; the serial number is the factory's. -/
def describeDefault (x : ObjRef) (r : ObjRow) : Nat :=
  if 10 ≤ r.typ then 0 else if x.index = 0x1018 ∧ x.sub = 4 then Config.serial.toNat else r.dflt

def describe (x : ObjRef) : List Byte :=
  let r := rowOf x
  leBytes 24 (r.typ + r.acc * 2 ^ 8 + (ninstOf x.index).isSome.toNat * 2 ^ 16 + (xonly x).toNat * 2 ^ 17 +
    (immediate x).toNat * 2 ^ 18 + (aonObject x).toNat * 2 ^ 19 + (ninstOf x.index).getD 0 * 2 ^ 32 + r.hi * 2 ^ 64 +
    describeDefault x r * 2 ^ 128)

/-! ### Writing (R542, R561, R563) -/

/-- Objects whose write is answered before it takes effect: it ends the session, or resets what would answer. -/
def answersFirst (x : ObjRef) : Bool := decide ((x.index = 0x2F00 ∨ x.index = 0xD000))

/-- The check of a direct write, with that of a proposal's body (R626) at its place. -/
def checkWrite (s : State) (who : Nat) (x : ObjRef) (data : List Byte) : Nat :=
  let c := checkDirect s (afterCommits s) who x data
  if layoutOf x.index = 0xD510 ∧ x.sub = 1 ∧ (c = 0 ∨ c = abSTATE) ∧ (bodyItems data).isNone = true then abRANGE else c

/-- A write without EXP of one object. -/
def writeDirect (s : State) (who : Nat) (cred : Option Nat) (x : ObjRef) (data : List Byte) (obs : WriteObs) (o : Owed) :
    WriteRes :=
  let c := checkWrite s who x data
  let n := leNat (data.take 8)
  if c ≠ 0 then .refused s c
  else match layoutOf x.index, x.sub with
    | 0xC810, 1 => .done (writeShutter s (x.index - 0xC810) who n)
    | 0xC810, 2 => .owes (closeSlot s (x.index - 0xC810) n (some o))
    | 0xD510, 1 => .done (acceptBody s (x.index - 0xD510) who cred data)
    | 0xD510, 4 => countersign s (x.index - 0xD510) data o
    | 0xD510, 5 => .done (rejectProposal s (x.index - 0xD510))
    | _, _ => .done (applyObj s who x data obs)

/-- Write each member of a group (R561): the state, how many failed, and the lowest of them with its code. -/
def writeMembers (who : Nat) (x : ObjRef) (data : List Byte) (obs : WriteObs) :
    List Nat → State → Nat → Option (Nat × Nat) → State × Nat × Option (Nat × Nat)
  | [], s, n, f => (s, n, f)
  | i :: is, s, n, f =>
    let y : ObjRef := { x with inst := i }
    let c := checkWrite s who y data
    if c ≠ 0 then writeMembers who x data obs is s (n + 1) (some (f.getD (i, c)))
    else writeMembers who x data obs is (applyObj s who y data obs) n f

/-- Stage a write for each of several instances in order; where one is refused none stays (R563). -/
def stageMembers (e : Nat) (x : ObjRef) (data : List Byte) (obs : WriteObs) : List Nat → State → WriteRes
  | [], s => .done s
  | i :: is, s => match stageWrite s e { obj := { x with inst := i }, data := data, obs := obs } with
    | .done t => stageMembers e x data obs is t
    | r => r

/-- A write with EXP (R575, R563): every member's checks come before the first is staged. -/
def writeStaged (s : State) (who exp : Nat) (x : ObjRef) (is : List Nat) (data : List Byte) (obs : WriteObs) : WriteRes :=
  let e := exp - 1
  let after := afterCommits s
  match (is.map (fun i => checkStaged s after who e { x with inst := i } data)).find? (fun c => decide (c ≠ 0)) with
  | some c => .refused s c
  | none =>
    if is.any (fun i => commitHolds s e { x with inst := i }) then .waits
    else match stageMembers e x data obs is s with
      | .refused t c => .refused (if c = abCONFLICT then t else s) c
      | r => r

/-- A write of an object or of a group: its result, and the data of its answer. -/
def writeObject (s : State) (who : Nat) (cred : Option Nat) (exp : Nat) (x : ObjRef) (data : List Byte) (obs : WriteObs)
    (o : Owed) : WriteRes × List Byte :=
  if isGroup x then
    if existsMaybe x ≠ 0 then (.refused s (existsMaybe x), [])
    else match membersOf s who x with
      | none => (.refused s abNO_INSTANCE, [])
      | some is =>
        if exp ≠ 0 then (writeStaged s who exp x is data obs, [])
        else
          let (t, n, f) := writeMembers who x data obs is s 0 none
          let info := leBytes 4 (n + (f.getD (0, 0)).1 * 65536)
          match f with
          | none => (.done t, info)
          | some (_, c) => (.refused t c, info)
  else if exp ≠ 0 then (writeStaged s who exp x [x.inst] data obs, [])
  else (writeDirect s who cred x data obs o, [])

/-! ### What the AON and the loader serve (R570, R704) -/

/-- The MGP answers. -/
def mgpUp (s : State) : Bool := decide (s.sys.mgp ≠ .resetting) && !s.sys.mgpFailed && decide (s.sys.boot = .ready)

/-- The recovery loader serves an object (R704). -/
def loaderServes (x : ObjRef) : Bool :=
  aonObject x || decide (x.index = 0x2F20 ∧ 1 ≤ x.sub ∧ x.sub ≤ 5) || decide (x.index = 0xD000 ∧ x.sub = 3)

/-- Requests whose INDEX names an object. -/
def namesObject (mtype : Nat) : Bool := decide (mtype ∈ [0x01, 0x02, 0x03, 0x11, 0x12])

/-- Whether a request is served now, waits at the AON, or is refused with DEVICE. -/
inductive Gate where
  | serve
  | hold
  | device
  deriving DecidableEq, Repr

/-- The object that a request waits on: a completed block write names it through its transfer. -/
def waitObject (s : State) (o : Owed) : ObjRef :=
  if o.rtype = 0x16 then
    match s.eumon.transfers.find? (fun t => decide (t.id = o.msg.index)) with
    | some t => t.obj
    | none => objOf o.msg
  else objOf o.msg

/-- Requests that the SEP serves: openings of sessions, SPDM, countersignatures and claims. -/
def needsSep (o : Owed) (x : ObjRef) : Bool :=
  decide (o.msg.mtype = 0x21 ∨ o.msg.mtype = 0x22 ∨ o.msg.mtype = 0x30) ||
    (decide (o.msg.mtype = 0x02 ∨ o.rtype = 0x16) && (decide (layoutOf x.index = 0xD510 ∧ x.sub = 4) || decide (x.index = 0xD000 ∧ x.sub = 3)))

def gateOf (s : State) (o : Owed) : Gate :=
  let x := waitObject s o
  let obj := namesObject o.msg.mtype || decide (o.rtype = 0x16)
  if needsSep o x ∧ s.sys.sep = .resetting then .device
  else if s.sys.boot = .loader then (if !obj || loaderServes x then .serve else .device)
  else if mgpUp s then .serve
  else if obj && aonObject x then .serve
  else .hold

/-- The islands that a served request needs are woken (R682). -/
def wakeFor (s : State) (o : Owed) : State :=
  let x := waitObject s o
  let obj := namesObject o.msg.mtype || decide (o.rtype = 0x16)
  let s1 := if !(obj && aonObject x) && decide (s.sys.mgp = .asleep ∨ s.sys.mgp = .waking) then islandReady s false else s
  if needsSep o x ∧ (s1.sys.sep = .asleep ∨ s1.sys.sep = .waking) then islandReady s1 true else s1

/-! ### Sessions (R564 to R569) -/

/-- A number that the T1 chooses, other than those in use: at most n of them are. -/
def unusedNat (used : Nat → Bool) (lim : Nat) : Nat → Nat → Nat
  | 0, x => x % lim
  | n + 1, x => if used (x % lim) then unusedNat used lim n (x + 1) else x % lim

/-- SESS_OPEN (R564). -/
def sessOpen (s : State) (o : Owed) : State :=
  let d := o.msg.data
  let cred := leNat (d.take 1)
  if d.length ≠ 131 then respond s o abLENGTH []
  else if 63 < cred then respond s o abRANGE []
  else if leNat ((d.drop 1).take 1) ≠ 0 then respond s o abRESERVED []
  else if 16 ≤ s.eumon.sessions.length then respond s o abRESOURCE []
  else
    let (k, s1) := drawFree s
    let hpub := (d.drop 2).take 97
    match Config.ecdh k hpub with
    | none => respond s1 o abRANGE []
    | some z =>
      let id := unusedNat (fun i => s.eumon.sessions.any (fun x => decide (x.id.toNat = i))) (2 ^ 32) 16 (Config.freeNat k)
      let nonce := (List.range 32).map (Config.freeByte k)
      let head := leBytes 4 id ++ Config.ephemeralKey k ++ nonce
      let th1 := sha384 (d ++ head)
      let sig := Config.identitySign th1 k
      let th2 := sha384 (th1 ++ sig)
      let key (info : String) : List Byte :=
        hkdf384 (d.drop 99 ++ nonce) z (info.toList.map (fun c => BitVec.ofNat 8 c.toNat) ++ th2) 48
      let x : Session := {
        id := BitVec.ofNat 32 id, cred := cred, ident := idNone, confirmed := false, openedAt := s.now, lastAt := s.now
        th1 := th1, th2 := th2, kh := key "eumon3 host", kd := key "eumon3 device", hpub := hpub, ctrHigh := 0, ctrSeen := []
        ctrOut := 0, kept := [] }
      respond { s1 with eumon := { s1.eumon with sessions := s1.eumon.sessions ++ [x] } } o 0 (head ++ sig)

def dropSession (s : State) (id : U32) : State :=
  { s with
    eumon := { s.eumon with sessions := s.eumon.sessions.filter (fun x => decide (x.id ≠ id)) }
    sec := { s.sec with spdmNegotiated := s.sec.spdmNegotiated.filter (fun i => decide (i ≠ id)) } }

/-- The identity that a credential entry gives (R613). -/
def credIdent (e : List Byte) : Option Nat :=
  match credRole e with
  | 1 => some (idDRIVER (credPart e))
  | 2 => some idOPERATOR
  | 3 => some idSECURITY
  | 4 => some idDEBUG
  | _ => none

/-- The key and the identity with which an opening session is confirmed (R565, R617). -/
def confirmBy (s : State) (x : Session) : Option (List Byte × Nat) :=
  if s.sec.ownership = .claiming ∧ x.cred = 0 then some (x.hpub, idCLAIM)
  else
    let e := vget s.sec.creds x.cred []
    (credIdent e).map (fun i => (credKey e, i))

/-- SESS_CONFIRM (R565, R568): a second driver session of a partition closes the first. -/
def sessConfirm (s : State) (o : Owed) : State :=
  let d := o.msg.data
  let id := BitVec.ofNat 32 (leNat (d.take 4))
  if d.length ≠ 100 then respond s o abLENGTH []
  else match s.eumon.sessions.find? (fun x => decide (x.id = id) && !x.confirmed) with
    | none => respond s o abRIGHTS []
    | some x =>
      match confirmBy s x with
      | none => respond (dropSession s id) o abRIGHTS []
      | some (key, who) =>
        if !Config.ecdsaVerify key x.th2 (d.drop 4) then respond (dropSession s id) o abRIGHTS []
        else
          let rest := s.eumon.sessions.filter (fun y => !(isDriver who && y.confirmed && decide (y.ident = who)))
          let all := rest.map (fun y => if y.id = id then { y with confirmed := true, ident := who, lastAt := s.now } else y)
          respond { s with eumon := { s.eumon with sessions := all } } o 0 []

/-- SESS_CLOSE (R569): answered in its session, which then closes. -/
def sessClose (s : State) (o : Owed) : State :=
  let s1 := respond s o 0 []
  match o.asker with
  | .session id => dropSession s1 id
  | _ => s1

/-! ### SPDM (R636, R637) -/

/-- The response codes and the layout are those of SPDM 1.3, which R636 names. -/
def spdmHead (ver code p1 p2 : Nat) : List Byte := leBytes 4 (ver + code * 2 ^ 8 + p1 % 256 * 2 ^ 16 + p2 % 256 * 2 ^ 24)
def spdmError (code data : Nat) : List Byte := spdmHead 0x13 0x7F code data
def spdmUnsupported (req : Nat) : List Byte := spdmError 0x07 req
def spdmInvalid : List Byte := spdmError 0x01 0
def spdmUnexpected : List Byte := spdmError 0x04 0

def chainDigest : List Byte := sha384 Config.certChain

/-- DIGEST of the negative admitted in a partition (R637); zero where none is. -/
def negDigest (s : State) (p : Nat) : List Byte :=
  let n := negOf s p
  if n.digest.isEmpty then List.replicate 48 0#8 else n.digest

/-- Measurement blocks (R637): index and value. -/
def measurement (s : State) (i : Nat) : Option (List Byte) :=
  match i with
  | 1 => some Config.romDigest
  | 2 => some s.sys.fwDigest
  | 3 =>
    let c := s.optics.calib.inForce
    let origin : Nat := match c with
      | none => 2
      | some .factory => 0
      | some (.user _) => 1
    some (leBytes 1 origin ++ domValue s idOPERATOR none { index := 0x2800, sub := 8, inst := 0 })
  | 4 => some (guardDigest s)
  | 5 => some (sha384 (credTable s))
  | 6 => some (sha384 (bindTable s))
  | 7 => some (sha384 (wrapKey.take 97))
  | k => if 0x10 ≤ k ∧ k ≤ 0x17 then some (negDigest s (k - 0x10)) else none

def measureIndices : List Nat := [1, 2, 3, 4, 5, 6, 7, 0x10, 0x11, 0x12, 0x13, 0x14, 0x15, 0x16, 0x17]

/-- A measurement block in DMTF form: index, specification, size, value type, value size, value. -/
def measureBlock (i : Nat) (v : List Byte) : List Byte :=
  leBytes 4 (i + 1 * 2 ^ 8 + (v.length + 3) * 2 ^ 16) ++ leBytes 3 (i % 128 + v.length * 2 ^ 8) ++ v

/-- A signature with the device identity key over the digest of what was asked and answered. -/
def spdmSign (k : Nat) (req resp : List Byte) : List Byte := Config.identitySign (sha384 (req ++ resp)) k
def spdmNonce (k : Nat) : List Byte := (List.range 32).map (Config.freeByte k)

def spdmByte (m : List Byte) (i : Nat) : Nat := (m.getD i 0#8).toNat

/-- CERTIFICATE: a portion of the chain. -/
def spdmCertificate (m : List Byte) : List Byte :=
  let off := leNat ((m.drop 4).take 2)
  let len := min (leNat ((m.drop 6).take 2)) 1000
  let chain := Config.certChain
  let part := (chain.drop off).take len
  if spdmByte m 2 % 16 ≠ 0 ∨ chain.length < off then spdmInvalid
  else spdmHead 0x13 0x02 0 0 ++ leBytes 2 part.length ++ leBytes 2 (chain.length - off - part.length) ++ part

/-- CHALLENGE_AUTH: the chain's digest, a nonce, the measurement summary that is asked for, the requester's context. -/
def spdmChallenge (s : State) (k : Nat) (m : List Byte) : List Byte :=
  let all := (measureIndices.map (fun i => ((measurement s i).map (measureBlock i)).getD [])).flatten
  let body := spdmHead 0x13 0x03 0 1 ++ chainDigest ++ spdmNonce k ++ (if spdmByte m 3 = 0 then [] else sha384 all) ++
    leBytes 2 0 ++ (m.drop 36).take 8
  if spdmByte m 2 % 16 ≠ 0 then spdmInvalid else body ++ spdmSign k m body

/-- MEASUREMENTS: their number, one of them, or all, signed where the request asks for a signature. -/
def spdmMeasurements (s : State) (k : Nat) (m : List Byte) : List Byte :=
  let op := spdmByte m 3
  let signed : Bool := (spdmByte m 2).testBit 0
  let is := if op = 0 then [] else if op = 0xFF then measureIndices else [op]
  if is.any (fun i => (measurement s i).isNone) then spdmInvalid
  else
    let rec_ := (is.map (fun i => ((measurement s i).map (measureBlock i)).getD [])).flatten
    let body := spdmHead 0x13 0x60 (if op = 0 then measureIndices.length else 0) 0 ++ leBytes 1 is.length ++
      leBytes 3 rec_.length ++ rec_ ++ spdmNonce k ++ leBytes 2 0 ++ (if signed then (m.drop 37).take 8 else (m.drop 4).take 8)
    if signed then body ++ spdmSign k m body else body

/-- The answer to an SPDM message (R636), with the number of a free draw. -/
def spdmAnswer (s : State) (id : U32) (k : Nat) (m : List Byte) : List Byte :=
  let ready : Bool := s.sec.spdmNegotiated.contains id
  match spdmByte m 1 with
  | 0x84 => spdmHead 0x10 0x04 0 0 ++ leBytes 1 0 ++ leBytes 1 1 ++ leBytes 2 0x1300
  | 0xE1 => spdmHead 0x13 0x61 0 0 ++ leBytes 4 (Config.spdmField 0 % 256 * 2 ^ 8) ++ leBytes 4 0x16 ++
      leBytes 4 (Config.spdmField 1) ++ leBytes 4 (Config.spdmField 2)
  | 0xE3 => spdmHead 0x13 0x63 0 0 ++ leBytes 2 36 ++ leBytes 2 1 ++ leBytes 4 4 ++ leBytes 4 0x80 ++ leBytes 4 2 ++ leBytes 16 0
  | 0x81 => if ready then spdmHead 0x13 0x01 0 1 ++ chainDigest else spdmUnexpected
  | 0x82 => if ready then spdmCertificate m else spdmUnexpected
  | 0x83 => if ready then spdmChallenge s k m else spdmUnexpected
  | 0xE0 => if ready then spdmMeasurements s k m else spdmUnexpected
  | c => spdmUnsupported c

/-- An SPDM message inside a session (R569, R636). -/
def serveSpdm (s : State) (o : Owed) : State :=
  match o.asker with
  | .session id =>
    let (k, s1) := drawFree s
    let m := o.msg.data
    let s2 := if spdmByte m 1 = 0xE3 ∧ s.sec.spdmNegotiated.contains id = false then
        { s1 with sec := { s1.sec with spdmNegotiated := s1.sec.spdmNegotiated ++ [id] } } else s1
    respond s2 o 0 (spdmAnswer s id k m)
  | _ => respond s o abNO_SESSION []

/-! ### Block transfers (R551 to R555) -/

def findTransfer (s : State) (id : Nat) : Option Transfer := s.eumon.transfers.find? (fun t => decide (t.id = id))
def updTransfer (s : State) (id : Nat) (f : Transfer → Transfer) : State :=
  { s with eumon := { s.eumon with transfers := s.eumon.transfers.map (fun t => if t.id = id then f t else t) } }

def openTransfers (s : State) : List Transfer := s.eumon.transfers.filter (fun t => t.ended.isNone)

/-- Transfers that are neither open nor within the 5 s in which their end is told again. -/
def staleTransfer (s : State) (t : Transfer) : Bool :=
  match t.ended with
  | some (_, at_) => decide (at_ + 5000000000 ≤ s.now)
  | none => false

def segCount (n : Nat) : Nat := (n + 1023) / 1024

/-- A block message of the T1 (R545): transfer identity in INDEX, the segment or block number in SUB and INST. -/
def blockMsg (t : Transfer) (mtype n status : Nat) (data : List Byte) : List Byte :=
  msgBytes t.gen mtype t.seq t.id (n % 256) (n / 256) t.exp status data

/-- The bytes of a segment. -/
def segBytes (t : Transfer) (n : Nat) : List Byte := (t.copy.drop (1024 * n)).take 1024

/-- Send segments of a read (R552, R553). -/
def sendSegs (s : State) (t : Transfer) (ns : List Nat) : State :=
  ns.foldl (fun u n => sendTo u t.asker (blockMsg t 0x13 n 0 (segBytes t n))) s

/-- The segments of a block. -/
def blockSegs (total b : Nat) : List Nat := (List.range 64).map (fun i => 64 * b + i) |>.filter (fun n => decide (n < segCount total))

/-- A transfer of an asker fits the limits (R551): 32 of the package, and 8 of a session. -/
def transferRoom (s : State) (a : Asker) : Bool :=
  decide ((openTransfers s).length < 32) && (match a with
    | .session _ => decide ((openTransfers s).countP (fun t => decide (t.asker = a)) < 8)
    | _ => true)

/-- Open a transfer; its answer carries its identity and its length (R552). -/
def openTransfer (s : State) (o : Owed) (write : Bool) (total : Nat) (copy : List Byte) : State × Transfer :=
  let live := s.eumon.transfers.filter (fun t => !staleTransfer s t)
  let (k, s1) := drawFree { s with eumon := { s.eumon with transfers := live } }
  let id := unusedNat (fun i => live.any (fun t => decide (t.id = i))) 65536 live.length (Config.freeNat k)
  let t : Transfer := {
    id := id, asker := o.asker, write := write, obj := objOf o.msg, exp := o.msg.exp, gen := o.msg.gen, seq := o.msg.seq
    total := total, segs := [], copy := copy, block := 0, blockFrom := none, lastAt := s.now, ended := none }
  (respond { s1 with eumon := { s1.eumon with transfers := live ++ [t] } } o 0 (leBytes 2 id ++ leBytes 4 total), t)

/-- BLKRD (R552): every segment is served from a copy taken now (R554). -/
def serveBlkrd (s : State) (who : Nat) (cred : Option Nat) (o : Owed) : State :=
  let (s1, c, v) := readObject s who cred o.msg.exp (objOf o.msg)
  if c ≠ 0 then respond s o c []
  else if !transferRoom s o.asker then respond s o abRESOURCE []
  else
    let (s2, t) := openTransfer s1 o false v.length v
    if v.isEmpty then { s2 with eumon := { s2.eumon with transfers := s2.eumon.transfers.filter (fun u => decide (u.id ≠ t.id)) } }
    else sendSegs s2 t (blockSegs v.length 0)

/-- The bytes of a finished block write. -/
def transferBytes (t : Transfer) : List Byte :=
  ((List.range (segCount t.total)).map (fun n => (lookupNat n t.segs).getD [])).flatten

/-- The request that a finished block write makes: its answer is a BLKEND of the transfer. -/
def blkendOwed (t : Transfer) : Owed :=
  { asker := t.asker, rtype := 0x16
    msg := { gen := t.gen, mtype := 0x12, seq := t.seq, index := t.id, sub := 0, inst := 0, exp := t.exp, data := [] } }

/-! ### Executing a request -/

/-- A write is executed; `wait` puts it among those that wait. -/
def runWrite (s : State) (w : Waiting) (exp : Nat) (x : ObjRef) (data : List Byte) : State :=
  let o := w.owed
  if answersFirst x ∧ exp = 0 ∧ checkWrite s w.who x data = 0 then applyObj (respond s o 0 []) w.who x data w.obs
  else match writeObject s w.who w.cred exp x data w.obs o with
    | (.done t, info) => respond t o 0 info
    | (.owes t, _) => t
    | (.refused t c, info) => respond t o c info
    | (.waits, _) => { s with eumon := { s.eumon with waiting := s.eumon.waiting ++ [{ w with aon := false }] } }

/-- BLKWR (R552): the total length as 4 bytes; a value of no bytes is written at once. -/
def serveBlkwr (s : State) (w : Waiting) : State :=
  let o := w.owed
  let n := leNat o.msg.data
  if o.msg.data.length ≠ 4 ∨ 16777216 < n then respond s o abLENGTH []
  else if !transferRoom s o.asker then respond s o abRESOURCE []
  else
    let (s1, t) := openTransfer s o true n []
    if n = 0 then runWrite s1 { w with owed := blkendOwed t } t.exp t.obj [] else s1

/-- Execute a request that its gate lets through. -/
def execRequest (s0 : State) (w : Waiting) : State :=
  let o := w.owed
  let m := o.msg
  let s := wakeFor s0 o
  if o.rtype = 0x16 then
    match findTransfer s m.index with
    | some t => runWrite s w t.exp t.obj (transferBytes t)
    | none => s
  else match m.mtype with
    | 0x01 =>
      let (t, c, v) := readObject s w.who w.cred m.exp (objOf m)
      respond t o c v
    | 0x02 => runWrite s w m.exp (objOf m) m.data
    | 0x03 =>
      let e := existsMaybe (objOf m)
      if e ≠ 0 then respond s o e [] else respond s o 0 (describe (objOf m))
    | 0x11 => serveBlkrd s w.who w.cred o
    | 0x12 => serveBlkwr s w
    | 0x21 => sessOpen s o
    | 0x22 => sessConfirm s o
    | 0x23 => sessClose s o
    | _ => serveSpdm s o

/-- A request is served, waits its turn, or is refused with DEVICE; a command sent without a message does not wait for
the AON (R549, R570). -/
def attempt (s : State) (w : Waiting) : State :=
  if s.eumon.waiting.any (fun v => decide (v.owed.asker = w.owed.asker)) then
    { s with eumon := { s.eumon with waiting := s.eumon.waiting ++ [w] } }
  else match gateOf s w.owed, w.owed.asker with
    | .serve, _ => execRequest s w
    | .device, _ => respond s w.owed abDEVICE []
    | .hold, .direct _ => respond s w.owed abDEVICE []
    | .hold, _ => { s with eumon := { s.eumon with waiting := s.eumon.waiting ++ [{ w with aon := true, since := s.now }] } }

/-- Requests that waited are tried again in order. -/
def drainWaiting (s : State) : State :=
  s.eumon.waiting.foldl attempt { s with eumon := { s.eumon with waiting := [] } }

/-! ### Refusals of the message itself (R544, R546, R549 to R551) -/

/-- The generation that a message type needs (R546, R560); a group is addressed in generation 2. -/
def genRefused (m : EMsg) : Bool :=
  if m.mtype ∈ [0x21, 0x22, 0x23, 0x24, 0x30] then decide (m.gen < 3)
  else if m.mtype ∈ [0x03, 0x11, 0x12, 0x13, 0x14, 0x15] then decide (m.gen < 2) || (isGroup (objOf m) && namesObject m.mtype && decide (m.gen ≠ 2))
  else isGroup (objOf m) && decide (m.gen ≠ 2)

/-- Requests of one source that are not answered yet (R549). -/
def outstanding (s : State) (a : Asker) : Nat :=
  s.eumon.waiting.countP (fun w => decide (w.owed.asker = a)) +
    s.exps.slots.toList.countP (fun e => match e.closer with
      | some o => decide (o.asker = a)
      | none => false) +
    s.sec.proposals.toList.countP (fun p => match p.signer with
      | some o => decide (o.asker = a)
      | none => false)

/-- What is served outside a session (R550). -/
def plainServed (m : EMsg) : Bool :=
  decide (m.mtype = 0x21 ∨ m.mtype = 0x22) ||
    (decide (m.mtype = 0x01 ∨ m.mtype = 0x03 ∨ m.mtype = 0x11) && decide (0x1000 ≤ m.index ∧ m.index < 0x2000))

/-- A READ or WRITE whose value may need more than one message (R551). -/
def blockRequired (s : State) (who : Nat) (m : EMsg) : Bool :=
  decide (m.mtype = 0x01 ∨ m.mtype = 0x02) && decide (existsMaybe (objOf m) = 0) &&
    decide (1024 < maxLength s who (decide (m.mtype = 0x01)) (objOf m))

/-- The refusal of a request by its message alone; 0 for none. -/
def messageRefused (s : State) (a : Asker) (who : Nat) (m : EMsg) : Nat :=
  let plain : Bool := match a with
    | .plain _ => true
    | _ => false
  if genRefused m then abGENERATION
  else if 16 ≤ outstanding s a then abRESOURCE
  else if plain && !plainServed m then abNO_SESSION
  else if blockRequired s who m then abBLOCK_REQUIRED
  else 0

/-- A response kept for a request that comes again (R549). -/
def keptFor (s : State) (a : Asker) (m : EMsg) : Option (List Byte) :=
  match a with
  | .session id => (findSession s id).bind (fun x => (x.kept.find? (fun k => decide (k.hdr = reqHeader m))).map (fun k => k.resp))
  | _ => none

/-- A request arrives. -/
def request (s : State) (a : Asker) (m : EMsg) (obs : WriteObs) : State :=
  match keptFor s a m with
  | some r => sendTo s a r
  | none =>
    let (who, cred) := whoOf s a
    let o : Owed := { asker := a, msg := m, rtype := m.mtype + 0x80 }
    let c := messageRefused s a who m
    if c ≠ 0 then respond s o c []
    else attempt s { owed := o, who := who, cred := cred, obs := obs, aon := false, since := s.now }

/-! ### Block messages -/

/-- A transfer ends with TRANSFER (R555): the host of a write is told at once, that of a read in answer to its next
message. -/
def failTransfer (s : State) (t : Transfer) : State :=
  if t.write then respond s (blkendOwed t) abTRANSFER [] else endTransfer s t.id abTRANSFER

/-- A message that names no open transfer: the end of a finished one is told again for 5 s, and TRANSFER for any other
(R554, R555). -/
def tellEnd (s : State) (a : Asker) (m : EMsg) : State :=
  match findTransfer s m.index with
  | some t =>
    if t.asker ≠ a ∨ staleTransfer s t then sendTo s a (msgBytes m.gen 0x16 m.seq m.index 0 0 m.exp abTRANSFER [])
    else
      let st := (t.ended.getD (0, 0)).1
      let s1 := if t.write then s else { s with eumon := { s.eumon with transfers := s.eumon.transfers.filter (fun u => decide (u.id ≠ t.id)) } }
      sendTo s1 a (blockMsg t 0x16 0 st [])
  | none => sendTo s a (msgBytes m.gen 0x16 m.seq m.index 0 0 m.exp abTRANSFER [])

/-- The open transfer that a block message of a source names. -/
def liveTransfer (s : State) (a : Asker) (m : EMsg) : Option Transfer :=
  (openTransfers s).find? (fun t => decide (t.id = m.index) && decide (t.asker = a))

/-- The segment or block number of a block message. -/
def blockNo (m : EMsg) : Nat := m.sub + 256 * m.inst

/-- The bitmap of the segments held of a block (R553). -/
def heldMap (t : Transfer) (b : Nat) : Nat := maskOf 64 (fun i => (lookupNat (64 * b + i) t.segs).isSome)

/-- The bitmap of a block held in full. -/
def fullMap (total b : Nat) : Nat := 2 ^ (blockSegs total b).length - 1

def sendBlkack (s : State) (t : Transfer) (b : Nat) : State := sendTo s t.asker (blockMsg t 0x14 b 0 (leBytes 8 (heldMap t b)))

/-- A segment of the block in progress (R553, R554): a full block is acknowledged, and the last segment applies the
write. -/
def takeSegment (s : State) (t : Transfer) (n : Nat) (data : List Byte) (obs : WriteObs) : State :=
  let first : Bool := decide (heldMap t t.block = 0)
  let u : Transfer := { t with
    segs := assignNat n data t.segs, lastAt := s.now, blockFrom := if first then some s.now else t.blockFrom }
  let s1 := updTransfer s t.id (fun _ => u)
  if heldMap u t.block ≠ fullMap t.total t.block then s1
  else
    let s2 := updTransfer (sendBlkack s1 u t.block) t.id (fun y => { y with block := y.block + 1, blockFrom := none })
    if 64 * (t.block + 1) < segCount t.total then s2
    else
      let (who, cred) := whoOf s2 t.asker
      attempt s2 { owed := blkendOwed u, who := who, cred := cred, obs := obs, aon := false, since := s.now }

/-- BLKDATA (R552 to R555). -/
def takeData (s : State) (a : Asker) (m : EMsg) (obs : WriteObs) : State :=
  match liveTransfer s a m with
  | none => tellEnd s a m
  | some t =>
    let n := blockNo m
    let len := if n + 1 = segCount t.total then t.total - 1024 * n else 1024
    if t.write = false ∨ segCount t.total ≤ n ∨ m.data.length ≠ len then failTransfer s t
    else if n / 64 = t.block then takeSegment s t n m.data obs
    else s

/-- BLKACK (R553): missing segments are sent again; a block held in full lets the next one go. -/
def takeAck (s : State) (a : Asker) (m : EMsg) : State :=
  match liveTransfer s a m with
  | none => tellEnd s a m
  | some t =>
    let b := blockNo m
    let map := leNat (m.data.take 8)
    if t.write ∨ segCount t.total ≤ 64 * b then failTransfer s t
    else if b ≠ t.block then s
    else
      let missing := (blockSegs t.total b).filter (fun n => !map.testBit (n - 64 * b))
      if missing.isEmpty then
        let next := blockSegs t.total (b + 1)
        if next.isEmpty then { s with eumon := { s.eumon with transfers := s.eumon.transfers.filter (fun u => decide (u.id ≠ t.id)) } }
        else sendSegs (updTransfer s t.id (fun y => { y with block := b + 1, lastAt := s.now })) t next
      else sendSegs (updTransfer s t.id (fun y => { y with lastAt := s.now })) t missing

/-- BLKABORT (R547, R555): one that names no open transfer has no answer. -/
def takeAbort (s : State) (a : Asker) (m : EMsg) : State :=
  match liveTransfer s a m with
  | none => s
  | some t => failTransfer s t

/-! ### Messages -/

/-- Codes of R546 that a requester sends. -/
def knownType (t : Nat) : Bool := decide (t ∈ [0x01, 0x02, 0x03, 0x11, 0x12, 0x13, 0x14, 0x15, 0x16, 0x21, 0x22, 0x23, 0x30])

/-- A message inside an ENVELOPE is of generation 1 or 2, or SPDM or SESS_CLOSE of generation 3 (R566); one outside is
never either of those (R546). -/
def carriedRight (a : Asker) (m : EMsg) : Bool :=
  match a with
  | .session _ => if m.mtype = 0x23 ∨ m.mtype = 0x30 then true else decide (m.gen ≤ 2) && !decide (m.mtype = 0x21 ∨ m.mtype = 0x22)
  | _ => true

/-- Nothing answers: the package is in P3 (R681), or the AON has no input power yet. While it is TRIPPED or in INPUT_FAULT
the AON goes on serving its own objects (R660, R694). -/
def silent (s : State) : Bool := !s.power.convertersOn && decide (s.power.stop = .none)

/-- A message arrives (R544): malformed ones are dropped and counted. A block message of generation 1 is refused, and has no
answer (R546, R547). -/
def message (s : State) (a : Asker) (m : EMsg) (obs : WriteObs) : State :=
  if silent s then s
  else if m.gen < 1 ∨ 3 < m.gen ∨ knownType m.mtype = false ∨ 1024 < m.data.length ∨ carriedRight a m = false then
    { s with eumon := { s.eumon with dropped := bump s.eumon.dropped } }
  else
    let s1 := match a with
      | .session id => updSession s id (fun x => { x with lastAt := s.now })
      | _ => s
    if m.mtype ∈ [0x13, 0x14, 0x15] ∧ genRefused m = true then s1
    else match m.mtype with
    | 0x13 => takeData s1 a m obs
    | 0x14 => takeAck s1 a m
    | 0x15 => takeAbort s1 a m
    | 0x16 => s1
    | _ => request s1 a m obs

end Sys2Proof.Machine
end

