-- ==== Sys2Proof/Machine/Eumon.lean ====
section
/-! DEFINITION. The Eumon messages, envelopes, sessions, SPDM messages and timers (chapter 13, R636), and the commit of an
exposure. -/

namespace Sys2Proof.Machine

/-- A message of a type with the fields that its requester chose (R545). -/
def msgOf (r : Req) (mtype exp : Nat) (data : List Byte) : EMsg :=
  { gen := r.gen.val, mtype := mtype, seq := r.seq.toNat, index := r.index.toNat, sub := r.sub.toNat, inst := r.inst.toNat
    exp := exp, data := data }

def noObs : WriteObs := { passed := false, chunks := 0, rd := .clean }

/-! ### Requests -/

/-- READ (R547). -/
def execRead (a : Asker) (r : Req) (s : State) : Host.Outcome State Fault Refusal :=
  .next (message s a (msgOf r 0x01 r.exp.toNat []) noObs)

/-- WRITE (R542): without EXP. -/
def execWrite (a : Asker) (r : Req) (data : List Byte) (obs : WriteObs) (s : State) : Host.Outcome State Fault Refusal :=
  .next (message s a (msgOf r 0x02 0 data) obs)

/-- A WRITE with EXP, of slot e (R575). -/
def execStageWrite (a : Asker) (e : Fin 16) (r : Req) (data : List Byte) (obs : WriteObs) (s : State) :
    Host.Outcome State Fault Refusal :=
  .next (message s a (msgOf r 0x02 (e.val + 1) data) obs)

/-- DESCRIBE (R557). -/
def execDescribe (a : Asker) (r : Req) (s : State) : Host.Outcome State Fault Refusal :=
  .next (message s a (msgOf r 0x03 r.exp.toNat []) noObs)

/-- BLKRD (R552). -/
def execBlkrd (a : Asker) (r : Req) (s : State) : Host.Outcome State Fault Refusal :=
  .next (message s a (msgOf r 0x11 r.exp.toNat []) noObs)

/-- BLKWR (R552). -/
def execBlkwr (a : Asker) (r : Req) (total : U32) (obs : WriteObs) (s : State) : Host.Outcome State Fault Refusal :=
  .next (message s a (msgOf r 0x12 r.exp.toNat (leBytes 4 total.toNat)) obs)

/-- BLKDATA (R552): INDEX names the transfer, SUB and INST the segment. -/
def execBlkdata (a : Asker) (r : Req) (data : List Byte) (obs : WriteObs) (s : State) : Host.Outcome State Fault Refusal :=
  .next (message s a (msgOf r 0x13 r.exp.toNat data) obs)

/-- BLKACK (R553): INDEX names the transfer, SUB and INST the block. -/
def execBlkack (a : Asker) (r : Req) (map : U64) (s : State) : Host.Outcome State Fault Refusal :=
  .next (message s a (msgOf r 0x14 r.exp.toNat (leBytes 8 map.toNat)) noObs)

/-- BLKACK_TIMER (R553): 2 ms after the first segment of a block that is not held in full. -/
def execBlkackTimer (id : U16) (s : State) : Host.Outcome State Fault Refusal :=
  match (openTransfers s).find? (fun t => decide (t.id = id.toNat) && t.write) with
  | none => .next s
  | some t => match t.blockFrom with
    | none => .next s
    | some t0 => .next (updTransfer (sendBlkack (advanceTo s (t0 + 2000000)) t t.block) t.id (fun u => { u with blockFrom := none }))

/-- BLKABORT (R555). -/
def execBlkabort (a : Asker) (r : Req) (s : State) : Host.Outcome State Fault Refusal :=
  .next (message s a (msgOf r 0x15 r.exp.toNat []) noObs)

/-- TRANSFER_STALLED (R555): no progress for 5 s. -/
def execTransferStalled (id : U16) (s : State) : Host.Outcome State Fault Refusal :=
  match (openTransfers s).find? (fun t => decide (t.id = id.toNat)) with
  | none => .next s
  | some t => .next (failTransfer (advanceTo s (t.lastAt + 5000000000)) t)

/-! ### Sessions -/

/-- SESS_OPEN (R564): from an address and port. -/
def execSessOpen (addr : Nat) (r : Req) (data : List Byte) (s : State) : Host.Outcome State Fault Refusal :=
  .next (message s (.plain addr) (msgOf r 0x21 r.exp.toNat data) noObs)

/-- SESS_CONFIRM (R565). -/
def execSessConfirm (addr : Nat) (r : Req) (data : List Byte) (s : State) : Host.Outcome State Fault Refusal :=
  .next (message s (.plain addr) (msgOf r 0x22 r.exp.toNat data) noObs)

/-- SESSION_CONFIRM_TIMEOUT (R565): 5 s without a confirmation. -/
def execSessionConfirmTimeout (id : U32) (s : State) : Host.Outcome State Fault Refusal :=
  match findSession s id with
  | none => .next s
  | some x => .next (if x.confirmed then s else dropSession (advanceTo s (x.openedAt + 5000000000)) id)

/-- SESS_CLOSE (R569). -/
def execSessClose (id : U32) (r : Req) (s : State) : Host.Outcome State Fault Refusal :=
  .next (message s (.session id) (msgOf r 0x23 r.exp.toNat []) noObs)

/-- SESSION_IDLE_TIMEOUT (R569): 30 s without an accepted message. -/
def execSessionIdleTimeout (id : U32) (s : State) : Host.Outcome State Fault Refusal :=
  match findSession s id with
  | none => .next s
  | some x => .next (if x.confirmed then dropSession (advanceTo s (x.lastAt + 30000000000)) id else s)

/-! ### Envelopes (R566, R567) -/

/-- A counter that the session accepts: above the highest, or within the 64 below it and new. -/
def counterFresh (x : Session) (c : Nat) : Bool :=
  decide (x.ctrHigh < c) || (decide (c < x.ctrHigh ∧ x.ctrHigh ≤ c + 64) && !x.ctrSeen.contains c)

/-- The session whose envelope this is: open, with a matching HMAC and a fresh counter. -/
def envelopeSession (s : State) (id : U32) (ctr : Nat) (signed mac : List Byte) : Option Session :=
  match findSession s id with
  | none => none
  | some x => if x.confirmed && decide (mac = hmac384 x.kh signed) && counterFresh x ctr then some x else none

/-- A counter is accepted. -/
def acceptCounter (s : State) (x : Session) (c : Nat) : State :=
  updSession s x.id (fun y => { y with
    ctrHigh := max y.ctrHigh c, ctrSeen := (y.ctrSeen ++ [c]).filter (fun d => decide (max y.ctrHigh c ≤ d + 64)), lastAt := s.now })

/-- ENVELOPE (R566, R567): accepted, its body executes with the session's identity; any other is dropped and counted. -/
def envelope (s : State) (bs : List Byte) (obs : WriteObs) : State :=
  let n := leNat (bs.take 24)
  let blen := bits n 143 128
  if silent s then s
  else if bs.length ≠ 72 + blen ∨ bits n 3 0 ≠ 3 ∨ bits n 15 8 ≠ 0x24 then { s with eumon := { s.eumon with dropped := bump s.eumon.dropped } }
  else match envelopeSession s (BitVec.ofNat 32 (bits n 63 32)) (bits n 127 64) (bs.take (24 + blen)) (bs.drop (24 + blen)) with
    | none => { s with eumon := { s.eumon with envDropped := bump s.eumon.envDropped } }
    | some x =>
      let s1 := acceptCounter s x (bits n 127 64)
      match parseMsg ((bs.drop 24).take blen) with
      | none => { s1 with eumon := { s1.eumon with dropped := bump s1.eumon.dropped } }
      | some m => message s1 (.session x.id) m obs

def execEnvelope (bs : List Byte) (obs : WriteObs) (s : State) : Host.Outcome State Fault Refusal := .next (envelope s bs obs)

/-! ### SPDM (R636, R637) -/

/-- An SPDM message in a session. -/
def spdmIn (s : State) (id : U32) (r : Req) (m : List Byte) : State := message s (.session id) (msgOf r 0x30 r.exp.toNat m) noObs

/-- SPDM (R636): any SPDM message. -/
def execSpdm (id : U32) (r : Req) (m : List Byte) (s : State) : Host.Outcome State Fault Refusal := .next (spdmIn s id r m)

/-- The seven requests that the responder supports: the version byte, the request's code, its parameters and the rest. -/
def spdmReq (ver code : Nat) (p1 p2 : U8) (rest : List Byte) : List Byte := leBytes 2 (ver + 256 * code) ++ [p1, p2] ++ rest

def execGetVersion (id : U32) (r : Req) (p1 p2 : U8) (s : State) : Host.Outcome State Fault Refusal :=
  .next (spdmIn s id r (spdmReq 0x10 0x84 p1 p2 []))
def execGetCapabilities (id : U32) (r : Req) (p1 p2 : U8) (rest : List Byte) (s : State) : Host.Outcome State Fault Refusal :=
  .next (spdmIn s id r (spdmReq 0x13 0xE1 p1 p2 rest))
def execNegotiateAlgorithms (id : U32) (r : Req) (p1 p2 : U8) (rest : List Byte) (s : State) :
    Host.Outcome State Fault Refusal := .next (spdmIn s id r (spdmReq 0x13 0xE3 p1 p2 rest))
def execGetDigests (id : U32) (r : Req) (p1 p2 : U8) (s : State) : Host.Outcome State Fault Refusal :=
  .next (spdmIn s id r (spdmReq 0x13 0x81 p1 p2 []))
def execGetCertificate (id : U32) (r : Req) (p1 p2 : U8) (rest : List Byte) (s : State) : Host.Outcome State Fault Refusal :=
  .next (spdmIn s id r (spdmReq 0x13 0x82 p1 p2 rest))
def execChallenge (id : U32) (r : Req) (p1 p2 : U8) (rest : List Byte) (s : State) : Host.Outcome State Fault Refusal :=
  .next (spdmIn s id r (spdmReq 0x13 0x83 p1 p2 rest))
def execGetMeasurements (id : U32) (r : Req) (p1 p2 : U8) (rest : List Byte) (s : State) : Host.Outcome State Fault Refusal :=
  .next (spdmIn s id r (spdmReq 0x13 0xE0 p1 p2 rest))

/-! ### The AON's 50 ms (R570) -/

/-- The oldest request that waits at the AON. -/
def heldByAon (s : State) : Option Waiting := s.eumon.waiting.find? (fun w => w.aon)

/-- AON_DEVICE_TIMEOUT (R570): 50 ms without an answer of the MGP; where it answers again, what waited is served. -/
def execAonDeviceTimeout (s : State) : Host.Outcome State Fault Refusal :=
  match heldByAon s with
  | none => .next s
  | some w =>
    if mgpUp s then .next (drainWaiting s)
    else
      let s1 := advanceTo s (w.since + 50000000)
      .next (respond { s1 with eumon := { s1.eumon with waiting := s1.eumon.waiting.erase w } } w.owed abDEVICE [])

/-! ### Commit -/

/-- EXPOSURE_COMMIT (R583): T_c comes; requests that waited for it follow (R578). -/
def execExposureCommit (e : Fin 16) (s : State) : Host.Outcome State Fault Refusal :=
  .next (if nextCommit s e then drainWaiting (commitSlot (reachCommit s (expOf s e).commitTime.toNat) e) else s)

end Sys2Proof.Machine
end

