-- ==== Sys2Proof/Machine/Writes.lean ====
section
/-! DEFINITION. The commands that write one object of the dictionary: each is the write of that object by whoever asks,
with the checks of R542. -/

namespace Sys2Proof.Machine

/-- A write of an object, with EXP or without, by whoever asks: R542's checks and their answer. -/
def writeAs (s : State) (a : Asker) (exp : Nat) (x : ObjRef) (data : List Byte) (obs : WriteObs) : State :=
  let m : EMsg := { gen := 2, mtype := 0x02, seq := 0, index := x.index, sub := x.sub, inst := x.inst, exp := exp, data := data }
  let o : Owed := { asker := a, msg := m, rtype := 0x82 }
  let (who, cred) := whoOf s a
  if silent s then s
  else match a with
    | .plain _ => respond s o abNO_SESSION []
    | _ => attempt s { owed := o, who := who, cred := cred, obs := obs, aon := false, since := s.now }

def objAt (index sub inst : Nat) : ObjRef := { index := index, sub := sub, inst := inst }

/-- A direct write of a number. -/
def writeNum (s : State) (a : Asker) (x : ObjRef) (len n : Nat) : State := writeAs s a 0 x (leBytes len n) noObs

/-- REGISTER_WRITE (R542). -/
def execRegisterWrite (a : Asker) (index : U16) (sub : U8) (inst : BitVec 12) (data : List Byte) (s : State) :
    Host.Outcome State Fault Refusal := .next (writeAs s a 0 (objAt index.toNat sub.toNat inst.toNat) data noObs)

/-! ### Arrays, vector engines and sequencers -/

/-- ARRAY_HALT_REQUEST (R109): E100h:03 := 1; `n` row chunks run before the array stops issuing them. -/
def execArrayHaltRequest (a : Asker) (n : Nat) (rd : ReadObs) (s : State) : Host.Outcome State Fault Refusal :=
  .next (writeAs s a 0 (objAt 0xE100 3 0) [1#8] { passed := false, chunks := n, rd := rd })
/-- ARRAY_RESUME (R112): E100h:03 := 0. -/
def execArrayResume (a : Asker) (s : State) : Host.Outcome State Fault Refusal := .next (writeNum s a (objAt 0xE100 3 0) 1 0)
/-- TRAY_IMAGE_WRITE (R111): E100h:04. -/
def execTrayImageWrite (a : Asker) (img : BitVec 640) (s : State) : Host.Outcome State Fault Refusal :=
  .next (writeNum s a (objAt 0xE100 4 0) 80 img.toNat)
/-- ARRAY_SEED_WRITE (R97): 8400h:01. -/
def execArraySeedWrite (a : Asker) (arr : Fin 64) (seed : U32) (s : State) : Host.Outcome State Fault Refusal :=
  .next (writeNum s a (objAt 0x8400 1 arr) 4 seed.toNat)
/-- VXE_SEED_WRITE (R157): 8500h:01. -/
def execVxeSeedWrite (a : Asker) (die : Fin 8) (seed : U32) (s : State) : Host.Outcome State Fault Refusal :=
  .next (writeNum s a (objAt 0x8500 1 die) 4 seed.toNat)
/-- DRAW_COUNTER_IMAGE_WRITE (R162, R165): 8500h:05. -/
def execDrawCounterImageWrite (a : Asker) (die : Fin 8) (img : List Byte) (s : State) : Host.Outcome State Fault Refusal :=
  .next (writeAs s a 0 (objAt 0x8500 5 die) img noObs)

/-- Commands of 8700h:03 (R177). -/
def execLoad (a : Asker) (p : Fin 8) (s : State) : Host.Outcome State Fault Refusal := .next (writeNum s a (objAt 0x8700 3 p) 1 1)
def execUnload (a : Asker) (p : Fin 8) (s : State) : Host.Outcome State Fault Refusal := .next (writeNum s a (objAt 0x8700 3 p) 1 2)
def execRun (a : Asker) (p : Fin 8) (s : State) : Host.Outcome State Fault Refusal := .next (writeNum s a (objAt 0x8700 3 p) 1 3)
def execStop (a : Asker) (p : Fin 8) (s : State) : Host.Outcome State Fault Refusal := .next (writeNum s a (objAt 0x8700 3 p) 1 4)
def execSuspend (a : Asker) (p : Fin 8) (s : State) : Host.Outcome State Fault Refusal := .next (writeNum s a (objAt 0x8700 3 p) 1 5)
def execResume (a : Asker) (p : Fin 8) (s : State) : Host.Outcome State Fault Refusal := .next (writeNum s a (objAt 0x8700 3 p) 1 6)

/-- IOD_REEL_DESCRIPTOR (R246): 8800h:05 of IOD reel r. -/
def execIodReelDescriptor (a : Asker) (r : Fin 4) (d : BitVec 512) (s : State) : Host.Outcome State Fault Refusal :=
  .next (writeNum s a (objAt 0x8800 5 (64 + r.val)) 64 d.toNat)
/-- PAGE_RETIRE_WRITE (R279): 8C00h:01 within exposure slot e. -/
def execPageRetireWrite (a : Asker) (e : Fin 16) (k : Fin 8) (page : U32) (s : State) : Host.Outcome State Fault Refusal :=
  .next (writeAs s a (e.val + 1) (objAt 0x8C00 1 k) (leBytes 4 page.toNat) noObs)

/-! ### Optics and fabric -/

/-- LASER_ENABLE and LASER_DISABLE (R309): 9000h:01. -/
def execLaserEnable (a : Asker) (n : Fin 16) (s : State) : Host.Outcome State Fault Refusal := .next (writeNum s a (objAt 0x9000 1 n) 1 1)
def execLaserDisable (a : Asker) (n : Fin 16) (s : State) : Host.Outcome State Fault Refusal := .next (writeNum s a (objAt 0x9000 1 n) 1 0)
/-- REQUALIFY_LANE (R333): 8E00h:09. -/
def execRequalifyLane (a : Asker) (e : Fin 32) (mask : U16) (s : State) : Host.Outcome State Fault Refusal :=
  .next (writeNum s a (objAt 0x8E00 9 e) 2 mask.toNat)
/-- CALIBRATION_STAGE and CALIBRATION_COMMIT (R351): 2800h:03 and :05. -/
def execCalibrationStage (a : Asker) (img : List Byte) (s : State) : Host.Outcome State Fault Refusal :=
  .next (writeAs s a 0 (objAt 0x2800 3 0) img noObs)
def execCalibrationCommit (a : Asker) (s : State) : Host.Outcome State Fault Refusal := .next (writeNum s a (objAt 0x2800 5 0) 1 1)
/-- DISCOVERY_START (R378): 2A00h:07. -/
def execDiscoveryStart (a : Asker) (t : U64) (s : State) : Host.Outcome State Fault Refusal := .next (writeNum s a (objAt 0x2A00 7 0) 8 t.toNat)

/-! ### Collectives and windows -/

/-- COLL_ABORT_WRITE (R504): 9200h:0A. -/
def execCollAbortWrite (a : Asker) (i : Fin 64) (s : State) : Host.Outcome State Fault Refusal := .next (writeNum s a (objAt 0x9200 0x0A i) 1 1)
/-- CALL_CONTEXT_WRITE (R500): 9200h:0C. -/
def execCallContextWrite (a : Asker) (i : Fin 64) (img : BitVec 2048) (s : State) : Host.Outcome State Fault Refusal :=
  .next (writeNum s a (objAt 0x9200 0x0C i) 256 img.toNat)
/-- WINDOW_DESCRIPTOR_WRITE (R522, R525): 9300h:01. -/
def execWindowDescriptorWrite (a : Asker) (w : Fin 256) (d : BitVec 512) (s : State) : Host.Outcome State Fault Refusal :=
  .next (writeNum s a (objAt 0x9300 1 w) 64 d.toNat)
/-- WINDOW_OPEN and WINDOW_CLOSE (R524, R525): 9300h:02. -/
def execWindowOpen (a : Asker) (w : Fin 256) (s : State) : Host.Outcome State Fault Refusal := .next (writeNum s a (objAt 0x9300 2 w) 1 1)
def execWindowClose (a : Asker) (w : Fin 256) (s : State) : Host.Outcome State Fault Refusal := .next (writeNum s a (objAt 0x9300 2 w) 1 0)

/-! ### Exposures -/

/-- SHUTTER_OPEN and SHUTTER_ABORT (R574, R579): C810h + e:01. -/
def execShutterOpen (a : Asker) (e : Fin 16) (s : State) : Host.Outcome State Fault Refusal :=
  .next (writeNum s a (objAt (0xC810 + e.val) 1 0) 1 1)
def execShutterAbort (a : Asker) (e : Fin 16) (s : State) : Host.Outcome State Fault Refusal :=
  .next (writeNum s a (objAt (0xC810 + e.val) 1 0) 1 2)
/-- EXPOSURE_CLOSE (R581): C810h + e:02. -/
def execExposureClose (a : Asker) (e : Fin 16) (t : U64) (s : State) : Host.Outcome State Fault Refusal :=
  .next (writeNum s a (objAt (0xC810 + e.val) 2 0) 8 t.toNat)

/-! ### Mailboxes -/

/-- MAILBOX_POST (R593, R594): C000h + c:01. -/
def execMailboxPost (a : Asker) (c : Fin 64) (data : List Byte) (s : State) : Host.Outcome State Fault Refusal :=
  .next (writeAs s a 0 (objAt (0xC000 + c.val) 1 0) data noObs)
/-- MAILBOX_RELEASE (R594): C000h + c:04. -/
def execMailboxRelease (a : Asker) (c : Fin 64) (s : State) : Host.Outcome State Fault Refusal :=
  .next (writeNum s a (objAt (0xC000 + c.val) 4 0) 1 1)
/-- NOTICE_CLEAR (R603): C000h + c:05. -/
def execNoticeClear (a : Asker) (c : Fin 64) (s : State) : Host.Outcome State Fault Refusal :=
  .next (writeNum s a (objAt (0xC000 + c.val) 5 0) 1 0)

/-! ### Security -/

/-- PROPOSAL_BODY (R626): D510h + k:01. -/
def execProposalBody (a : Asker) (k : Fin 4) (body : List Byte) (s : State) : Host.Outcome State Fault Refusal :=
  .next (writeAs s a 0 (objAt (0xD510 + k.val) 1 0) body noObs)
/-- COUNTERSIGN (R628): D510h + k:04, a credential slot and a signature. -/
def execCountersign (a : Asker) (k : Fin 4) (cred : U8) (sig : BitVec 768) (s : State) : Host.Outcome State Fault Refusal :=
  .next (writeAs s a 0 (objAt (0xD510 + k.val) 4 0) (cred :: leBytes 96 sig.toNat) noObs)
/-- PROPOSAL_REJECT (R629): D510h + k:05. -/
def execProposalReject (a : Asker) (k : Fin 4) (s : State) : Host.Outcome State Fault Refusal :=
  .next (writeNum s a (objAt (0xD510 + k.val) 5 0) 1 1)
/-- CLAIM (R618): D000h:03. -/
def execClaim (a : Asker) (entries : BitVec 1792) (s : State) : Host.Outcome State Fault Refusal :=
  .next (writeNum s a (objAt 0xD000 3 0) 224 entries.toNat)
/-- Zeroisations (R633): D400h:04. -/
def execZeroisePartition (a : Asker) (p : Fin 8) (s : State) : Host.Outcome State Fault Refusal :=
  .next (writeNum s a (objAt 0xD400 4 0) 2 (0x100 + p.val))
def execZeroiseHostLink (a : Asker) (n : Fin 2) (s : State) : Host.Outcome State Fault Refusal :=
  .next (writeNum s a (objAt 0xD400 4 0) 2 (0x200 + n.val))
def execZeroiseAll (a : Asker) (s : State) : Host.Outcome State Fault Refusal := .next (writeNum s a (objAt 0xD400 4 0) 2 0x3FF)

/-! ### Clocks, power, resets, firmware and functions -/

/-- EPOCH_WRITE (R652): 2E00h:02. -/
def execEpochWrite (a : Asker) (e : U64) (s : State) : Host.Outcome State Fault Refusal := .next (writeNum s a (objAt 0x2E00 2 0) 8 e.toNat)
/-- PERFORMANCE_POINT_WRITE (R666, R667): 9500h:01. -/
def execPerformancePointWrite (a : Asker) (k : Fin 8) (point : U8) (s : State) : Host.Outcome State Fault Refusal :=
  .next (writeNum s a (objAt 0x9500 1 k) 1 point.toNat)
/-- Requests for a power state (R678): 2E10h:01. -/
def execPowerStateP0 (a : Asker) (s : State) : Host.Outcome State Fault Refusal := .next (writeNum s a (objAt 0x2E10 1 0) 1 0)
def execPowerStateP1 (a : Asker) (s : State) : Host.Outcome State Fault Refusal := .next (writeNum s a (objAt 0x2E10 1 0) 1 1)
def execPowerStateP2 (a : Asker) (s : State) : Host.Outcome State Fault Refusal := .next (writeNum s a (objAt 0x2E10 1 0) 1 2)
def execPowerStateP3 (a : Asker) (s : State) : Host.Outcome State Fault Refusal := .next (writeNum s a (objAt 0x2E10 1 0) 1 3)
/-- Reset requests (R690): 2F00h:01. -/
def execResetIsland (a : Asker) (i : U8) (s : State) : Host.Outcome State Fault Refusal :=
  .next (writeNum s a (objAt 0x2F00 1 0) 2 (1 + 256 * i.toNat))
def execResetDie (a : Asker) (k : Fin 8) (s : State) : Host.Outcome State Fault Refusal :=
  .next (writeNum s a (objAt 0x2F00 1 0) 2 (2 + 256 * k.val))
def execResetPackage (a : Asker) (s : State) : Host.Outcome State Fault Refusal := .next (writeNum s a (objAt 0x2F00 1 0) 2 3)
def execResetCold (a : Asker) (s : State) : Host.Outcome State Fault Refusal := .next (writeNum s a (objAt 0x2F00 1 0) 2 4)
def execResetRecovery (a : Asker) (s : State) : Host.Outcome State Fault Refusal := .next (writeNum s a (objAt 0x2F00 1 0) 2 5)
/-- FIRMWARE_STAGE and FIRMWARE_COMMIT (R701): 2F20h:03 and :05. -/
def execFirmwareStage (a : Asker) (img : List Byte) (s : State) : Host.Outcome State Fault Refusal :=
  .next (writeAs s a 0 (objAt 0x2F20 3 0) img noObs)
def execFirmwareCommit (a : Asker) (s : State) : Host.Outcome State Fault Refusal := .next (writeNum s a (objAt 0x2F20 5 0) 1 1)
/-- FUNCTION_ENABLE and FUNCTION_DISABLE (R707): 9600h:01. -/
def execFunctionEnable (a : Asker) (f : Fin 10) (s : State) : Host.Outcome State Fault Refusal := .next (writeNum s a (objAt 0x9600 1 f) 1 1)
def execFunctionDisable (a : Asker) (f : Fin 10) (s : State) : Host.Outcome State Fault Refusal := .next (writeNum s a (objAt 0x9600 1 f) 1 0)

/-! ### Service -/

/-- REQUALIFY_UNIT (R732): 7200h:02; whether the unit's proof run passes is observed. -/
def execRequalifyUnit (a : Asker) (uk : U8) (ui : BitVec 12) (passed : Bool) (s : State) : Host.Outcome State Fault Refusal :=
  .next (writeAs s a 0 (objAt 0x7200 2 0) (leBytes 4 (uk.toNat + 256 * ui.toNat)) { passed := passed, chunks := 0, rd := .clean })
/-- INJECTION_ARM (R735): 7800h + d:02. -/
def execInjectionArm (a : Asker) (d : Fin 17) (mode : Fin 4) (s : State) : Host.Outcome State Fault Refusal :=
  .next (writeNum s a (objAt (0x7800 + d.val) 2 0) 1 mode.val)
/-- Writes of 2D00h:01 (R749). -/
def execServiceNormal (a : Asker) (s : State) : Host.Outcome State Fault Refusal := .next (writeNum s a (objAt 0x2D00 1 0) 1 0)
def execServiceRequested (a : Asker) (s : State) : Host.Outcome State Fault Refusal := .next (writeNum s a (objAt 0x2D00 1 0) 1 1)
def execServiceInService (a : Asker) (s : State) : Host.Outcome State Fault Refusal := .next (writeNum s a (objAt 0x2D00 1 0) 1 2)

end Sys2Proof.Machine
end

