-- ==== Sys2Proof/Machine/Dispatch.lean ====
section
/-! DEFINITION. Which meaning each command has: one arm per row of the opcode table. -/

namespace Sys2Proof.Machine

def exec (i : Instr) (s : State) : Host.Outcome State Fault Refusal :=
  match i with
  | .registerWrite a index sub inst data => Sys2Proof.Machine.execRegisterWrite a index sub inst data s
  | .linkTransfer l crcOk => Sys2Proof.Machine.execLinkTransfer l crcOk s
  | .pass die a w slots sigc sige n mism rd fd => Sys2Proof.Machine.execPass die a w slots sigc sige n mism rd s fd
  | .rowRerun arr mism rd => Sys2Proof.Machine.execRowRerun arr mism rd s
  | .passComplete arr mism rd => Sys2Proof.Machine.execPassComplete arr mism rd s
  | .requestedDrain arr n rd => Sys2Proof.Machine.execRequestedDrain arr n rd s
  | .requestedDrainCapture arr aborted => Sys2Proof.Machine.execRequestedDrainCapture arr aborted s
  | .arrayHaltRequest a n rd => Sys2Proof.Machine.execArrayHaltRequest a n rd s
  | .arrayHalted arr => Sys2Proof.Machine.execArrayHalted arr s
  | .arrayResume a => Sys2Proof.Machine.execArrayResume a s
  | .trayImageWrite a img => Sys2Proof.Machine.execTrayImageWrite a img s
  | .arraySeedWrite a arr seed => Sys2Proof.Machine.execArraySeedWrite a arr seed s
  | .arrayProofRunDone arr passed => Sys2Proof.Machine.execArrayProofRunDone arr passed s
  | .vxeNop die w rd => Sys2Proof.Machine.execVxeNop die w rd s
  | .add die w rd => Sys2Proof.Machine.execAdd die w rd s
  | .sub die w rd => Sys2Proof.Machine.execSub die w rd s
  | .mul die w rd => Sys2Proof.Machine.execMul die w rd s
  | .fma die w rd => Sys2Proof.Machine.execFma die w rd s
  | .div die w rd => Sys2Proof.Machine.execDiv die w rd s
  | .sqrt die w rd => Sys2Proof.Machine.execSqrt die w rd s
  | .rsqrt die w rd => Sys2Proof.Machine.execRsqrt die w rd s
  | .max die w rd => Sys2Proof.Machine.execMax die w rd s
  | .min die w rd => Sys2Proof.Machine.execMin die w rd s
  | .neg die w rd => Sys2Proof.Machine.execNeg die w rd s
  | .abs die w rd => Sys2Proof.Machine.execAbs die w rd s
  | .cpsgn die w rd => Sys2Proof.Machine.execCpsgn die w rd s
  | .cvt die w rd => Sys2Proof.Machine.execCvt die w rd s
  | .cmpeq die w rd => Sys2Proof.Machine.execCmpeq die w rd s
  | .cmpne die w rd => Sys2Proof.Machine.execCmpne die w rd s
  | .cmplt die w rd => Sys2Proof.Machine.execCmplt die w rd s
  | .cmple die w rd => Sys2Proof.Machine.execCmple die w rd s
  | .cmpgt die w rd => Sys2Proof.Machine.execCmpgt die w rd s
  | .cmpge die w rd => Sys2Proof.Machine.execCmpge die w rd s
  | .mand die w rd => Sys2Proof.Machine.execMand die w rd s
  | .mor die w rd => Sys2Proof.Machine.execMor die w rd s
  | .mxor die w rd => Sys2Proof.Machine.execMxor die w rd s
  | .mnot die w rd => Sys2Proof.Machine.execMnot die w rd s
  | .mload die w rd => Sys2Proof.Machine.execMload die w rd s
  | .mstore die w rd => Sys2Proof.Machine.execMstore die w rd s
  | .iadd die w rd => Sys2Proof.Machine.execIadd die w rd s
  | .isub die w rd => Sys2Proof.Machine.execIsub die w rd s
  | .imul die w rd => Sys2Proof.Machine.execImul die w rd s
  | .idiv die w rd => Sys2Proof.Machine.execIdiv die w rd s
  | .iand die w rd => Sys2Proof.Machine.execIand die w rd s
  | .ior die w rd => Sys2Proof.Machine.execIor die w rd s
  | .rsum die w rd => Sys2Proof.Machine.execRsum die w rd s
  | .rmax die w rd => Sys2Proof.Machine.execRmax die w rd s
  | .rmin die w rd => Sys2Proof.Machine.execRmin die w rd s
  | .rargmax die w rd => Sys2Proof.Machine.execRargmax die w rd s
  | .rargmin die w rd => Sys2Proof.Machine.execRargmin die w rd s
  | .scan die w rd => Sys2Proof.Machine.execScan die w rd s
  | .scanmax die w rd => Sys2Proof.Machine.execScanmax die w rd s
  | .act die w rd => Sys2Proof.Machine.execAct die w rd s
  | .dact die w rd => Sys2Proof.Machine.execDact die w rd s
  | .vxeCopy die w rd => Sys2Proof.Machine.execVxeCopy die w rd s
  | .trans die w rd => Sys2Proof.Machine.execTrans die w rd s
  | .optam die w rd => Sys2Proof.Machine.execOptam die w rd s
  | .optmom die w rd => Sys2Proof.Machine.execOptmom die w rd s
  | .optsgd die w rd => Sys2Proof.Machine.execOptsgd die w rd s
  | .vilcon die w n fault rd => Sys2Proof.Machine.execVilcon die w n fault rd s
  | .vxeSeedWrite a die seed => Sys2Proof.Machine.execVxeSeedWrite a die seed s
  | .drawCounterImageWrite a die img => Sys2Proof.Machine.execDrawCounterImageWrite a die img s
  | .seqNop die rd => Sys2Proof.Machine.execSeqNop die s rd
  | .jump die off rd => Sys2Proof.Machine.execJump die off s rd
  | .loop die n rd => Sys2Proof.Machine.execLoop die n s rd
  | .endloop die rd => Sys2Proof.Machine.execEndloop die s rd
  | .call die off rd => Sys2Proof.Machine.execCall die off s rd
  | .ret die rd => Sys2Proof.Machine.execRet die s rd
  | .stepend die rd => Sys2Proof.Machine.execStepend die s rd
  | .halt die rd => Sys2Proof.Machine.execHalt die s rd
  | .wait die c least rd => Sys2Proof.Machine.execWait die c least s rd
  | .waitSatisfied die => Sys2Proof.Machine.execWaitSatisfied die s
  | .signal die c peer rd => Sys2Proof.Machine.execSignal die c peer s rd
  | .clear die c rd => Sys2Proof.Machine.execClear die c s rd
  | .setx die x v rd => Sys2Proof.Machine.execSetx die x v s rd
  | .setmb die v rd => Sys2Proof.Machine.execSetmb die v s rd
  | .kernel die off count sigc sige rd => Sys2Proof.Machine.execKernel die off count sigc sige s rd
  | .move die reel desc stride src dst sigc sige pf rd => Sys2Proof.Machine.execMove die reel desc stride src dst sigc sige pf s rd
  | .coll die group desc sigc sige rd => Sys2Proof.Machine.execColl die group desc sigc sige s rd
  | .sched die st sn mb fwd bwd rd => Sys2Proof.Machine.execSched die st sn mb fwd bwd s rd
  | .operationComplete die op => Sys2Proof.Machine.execOperationComplete die op s
  | .load a p => Sys2Proof.Machine.execLoad a p s
  | .admissionEnd p => Sys2Proof.Machine.execAdmissionEnd p s
  | .unload a p => Sys2Proof.Machine.execUnload a p s
  | .run a p => Sys2Proof.Machine.execRun a p s
  | .stop a p => Sys2Proof.Machine.execStop a p s
  | .suspend a p => Sys2Proof.Machine.execSuspend a p s
  | .suspendDone p => Sys2Proof.Machine.execSuspendDone p s
  | .resume a p => Sys2Proof.Machine.execResume a p s
  | .reelCopy r rd peer => Sys2Proof.Machine.execReelCopy r rd peer s
  | .send r rd peer => Sys2Proof.Machine.execSend r rd s peer
  | .recv r peer => Sys2Proof.Machine.execRecv r s peer
  | .fill r peer => Sys2Proof.Machine.execFill r s peer
  | .iodReelDescriptor a r d => Sys2Proof.Machine.execIodReelDescriptor a r d s
  | .reelWatchdogTimeout r => Sys2Proof.Machine.execReelWatchdogTimeout r s
  | .proofRunStart sl => Sys2Proof.Machine.execProofRunStart sl s
  | .proofRunDone sl passed path => Sys2Proof.Machine.execProofRunDone sl passed path s
  | .pageRetireWrite a e k page => Sys2Proof.Machine.execPageRetireWrite a e k page s
  | .scrubRead u at_ rd progress held => Sys2Proof.Machine.execScrubRead u at_ rd progress s held
  | .scrubBehind u => Sys2Proof.Machine.execScrubBehind u s
  | .flashRelocate st b why len fin target => Sys2Proof.Machine.execFlashRelocate st b why len fin s target
  | .flashBlockAged st b => Sys2Proof.Machine.execFlashBlockAged st b s
  | .laserEnable a n => Sys2Proof.Machine.execLaserEnable a n s
  | .laserDisable a n => Sys2Proof.Machine.execLaserDisable a n s
  | .lsrOkAssert n => Sys2Proof.Machine.execLsrOkAssert n s
  | .lsrOkDeassert n => Sys2Proof.Machine.execLsrOkDeassert n s
  | .laserEnableTimeout n => Sys2Proof.Machine.execLaserEnableTimeout n s
  | .laserDisableEnd n => Sys2Proof.Machine.execLaserDisableEnd n s
  | .laserGraceExpiry n => Sys2Proof.Machine.execLaserGraceExpiry n s
  | .lsrOkWhileOff n => Sys2Proof.Machine.execLsrOkWhileOff n s
  | .laneTrained l trim => Sys2Proof.Machine.execLaneTrained l trim s
  | .laneTrainingTimeout l => Sys2Proof.Machine.execLaneTrainingTimeout l s
  | .focusLoopUpdate e idx feedback detuning => Sys2Proof.Machine.execFocusLoopUpdate e idx feedback detuning s
  | .lockLost e idx => Sys2Proof.Machine.execLockLost e idx s
  | .heaterLimit e idx => Sys2Proof.Machine.execHeaterLimit e idx s
  | .pilotWindow e idx line => Sys2Proof.Machine.execPilotWindow e idx line s
  | .laneIdMarker l m => Sys2Proof.Machine.execLaneIdMarker l m s
  | .markerMissing l => Sys2Proof.Machine.execMarkerMissing l s
  | .relockAttemptDone l seen before => Sys2Proof.Machine.execRelockAttemptDone l seen s before
  | .laneProofRunDone l ok => Sys2Proof.Machine.execLaneProofRunDone l ok s
  | .laneCodewords l => Sys2Proof.Machine.execLaneCodewords l s
  | .requalifyLane a e mask => Sys2Proof.Machine.execRequalifyLane a e mask s
  | .resweep e fm fr fd => Sys2Proof.Machine.execResweep e fm fr fd s
  | .powerSample die mw => Sys2Proof.Machine.execPowerSample die mw s
  | .tripNotice die mw => Sys2Proof.Machine.execTripNotice die mw s
  | .shroudOpen => Sys2Proof.Machine.execShroudOpen s
  | .shroudClose => Sys2Proof.Machine.execShroudClose s
  | .rxPowerLoss q => Sys2Proof.Machine.execRxPowerLoss q s
  | .beaconWord q w => Sys2Proof.Machine.execBeaconWord q w s
  | .safelightBackstop q launch => Sys2Proof.Machine.execSafelightBackstop q launch s
  | .safelightExit q => Sys2Proof.Machine.execSafelightExit q s
  | .heldRelease n bad0 bad1 => Sys2Proof.Machine.execHeldRelease n bad0 bad1 s
  | .calibrationStage a img => Sys2Proof.Machine.execCalibrationStage a img s
  | .calibrationCommit a => Sys2Proof.Machine.execCalibrationCommit a s
  | .calibrationWritten => Sys2Proof.Machine.execCalibrationWritten s
  | .discoveryRecord q rec_ => Sys2Proof.Machine.execDiscoveryRecord q rec_ s
  | .discoveryRecordTimeout q => Sys2Proof.Machine.execDiscoveryRecordTimeout q s
  | .discoveryStart a t => Sys2Proof.Machine.execDiscoveryStart a t s
  | .discoveryRoundA => Sys2Proof.Machine.execDiscoveryRoundA s
  | .discoveryRoundB => Sys2Proof.Machine.execDiscoveryRoundB s
  | .discoveryFinish => Sys2Proof.Machine.execDiscoveryFinish s
  | .discoveryDone => Sys2Proof.Machine.execDiscoveryDone s
  | .memberLost q => Sys2Proof.Machine.execMemberLost q s
  | .codewordReceived l d => Sys2Proof.Machine.execCodewordReceived l d s
  | .controlPair q c => Sys2Proof.Machine.execControlPair q c s
  | .cellRoute q c => Sys2Proof.Machine.execCellRoute q c s
  | .cellReceive c => Sys2Proof.Machine.execCellReceive c s
  | .ackTimer ep slot => Sys2Proof.Machine.execAckTimer ep slot s
  | .ackReceived c => Sys2Proof.Machine.execAckReceived c s
  | .nakTimer ep slot => Sys2Proof.Machine.execNakTimer ep slot s
  | .nakReceived c => Sys2Proof.Machine.execNakReceived c s
  | .resendTimer ep peer peerEp slot => Sys2Proof.Machine.execResendTimer ep peer peerEp slot s
  | .rtsReceived ep peer peerEp tag nt efmt eint sig => Sys2Proof.Machine.execRtsReceived ep peer peerEp tag nt efmt eint s sig
  | .rtsRepeat who => Sys2Proof.Machine.execRtsRepeat who s
  | .grantReceived ep peer peerEp tag slot first size => Sys2Proof.Machine.execGrantReceived ep peer peerEp tag slot first size s
  | .breadReceived peer peerEp slot first addr lay efmt pitch rd => Sys2Proof.Machine.execBreadReceived peer peerEp slot first addr lay efmt pitch rd s
  | .rateIncrease member vc => Sys2Proof.Machine.execRateIncrease member vc s
  | .barrier idx => Sys2Proof.Machine.execBarrier idx s
  | .allreduce idx peers rd => Sys2Proof.Machine.execAllreduce idx peers rd s
  | .reducescatter idx peers rd => Sys2Proof.Machine.execReducescatter idx peers rd s
  | .allgather idx peers rd => Sys2Proof.Machine.execAllgather idx peers rd s
  | .broadcast idx data rd => Sys2Proof.Machine.execBroadcast idx data rd s
  | .norm idx peers rd => Sys2Proof.Machine.execNorm idx peers rd s
  | .permute idx blocks rd => Sys2Proof.Machine.execPermute idx blocks rd s
  | .kvring idx recv rd => Sys2Proof.Machine.execKvring idx recv rd s
  | .callBegin idx => Sys2Proof.Machine.execCallBegin idx s
  | .agreeReceived idx peer call sig ok => Sys2Proof.Machine.execAgreeReceived idx peer call sig ok s
  | .agreeRepeat idx => Sys2Proof.Machine.execAgreeRepeat idx s
  | .cleStepDone idx residue replayOk => Sys2Proof.Machine.execCleStepDone idx residue replayOk s
  | .cleLaneSelfcheckDone l passed => Sys2Proof.Machine.execCleLaneSelfcheckDone l passed s
  | .permuteFetchRequest idx peer slot first rank blk rd => Sys2Proof.Machine.execPermuteFetchRequest idx peer slot first rank blk rd s
  | .completionRoundEnd idx rd => Sys2Proof.Machine.execCompletionRoundEnd idx rd s
  | .callEnd idx => Sys2Proof.Machine.execCallEnd idx s
  | .straggler idx peer => Sys2Proof.Machine.execStraggler idx peer s
  | .abortReceived idx peer call status => Sys2Proof.Machine.execAbortReceived idx peer call status s
  | .abortRepeat idx peer => Sys2Proof.Machine.execAbortRepeat idx peer s
  | .abortAckReceived idx peer call => Sys2Proof.Machine.execAbortAckReceived idx peer call s
  | .collAbortWrite a idx => Sys2Proof.Machine.execCollAbortWrite a idx s
  | .callContextWrite a idx img => Sys2Proof.Machine.execCallContextWrite a idx img s
  | .hostLaneLock n => Sys2Proof.Machine.execHostLaneLock n s
  | .hostLinkUp n => Sys2Proof.Machine.execHostLinkUp n s
  | .hostLinkDown n => Sys2Proof.Machine.execHostLinkDown n s
  | .hostTrainingFault n => Sys2Proof.Machine.execHostTrainingFault n s
  | .hostTrainingRetry n => Sys2Proof.Machine.execHostTrainingRetry n s
  | .mkpduReceived n sak => Sys2Proof.Machine.execMkpduReceived n sak s
  | .macsecLost n => Sys2Proof.Machine.execMacsecLost n s
  | .frameReceived n kind macsecOk fixed lost => Sys2Proof.Machine.execFrameReceived n kind macsecOk s fixed lost
  | .hostRequestNak w => Sys2Proof.Machine.execHostRequestNak w s
  | .windowDescriptorWrite a w d => Sys2Proof.Machine.execWindowDescriptorWrite a w d s
  | .windowOpen a w => Sys2Proof.Machine.execWindowOpen a w s
  | .windowClose a w => Sys2Proof.Machine.execWindowClose a w s
  | .windowCloseDone w => Sys2Proof.Machine.execWindowCloseDone w s
  | .rdmaAckReceived w psn => Sys2Proof.Machine.execRdmaAckReceived w psn s
  | .readResponseReceived w psn bytes ce => Sys2Proof.Machine.execReadResponseReceived w psn bytes ce s
  | .rdmaNakReceived w => Sys2Proof.Machine.execRdmaNakReceived w s
  | .rdmaAckTimeout w => Sys2Proof.Machine.execRdmaAckTimeout w s
  | .cnpReceived w => Sys2Proof.Machine.execCnpReceived w s
  | .windowRateIncrease w => Sys2Proof.Machine.execWindowRateIncrease w s
  | .pfcFrame n prio quanta => Sys2Proof.Machine.execPfcFrame n prio quanta s
  | .read a r => Sys2Proof.Machine.execRead a r s
  | .write a r data obs => Sys2Proof.Machine.execWrite a r data obs s
  | .stageWrite a e r data obs => Sys2Proof.Machine.execStageWrite a e r data obs s
  | .describe a r => Sys2Proof.Machine.execDescribe a r s
  | .blkrd a r => Sys2Proof.Machine.execBlkrd a r s
  | .blkwr a r total obs => Sys2Proof.Machine.execBlkwr a r total obs s
  | .blkdata a r data obs => Sys2Proof.Machine.execBlkdata a r data obs s
  | .blkack a r map => Sys2Proof.Machine.execBlkack a r map s
  | .blkackTimer id => Sys2Proof.Machine.execBlkackTimer id s
  | .blkabort a r => Sys2Proof.Machine.execBlkabort a r s
  | .transferStalled id => Sys2Proof.Machine.execTransferStalled id s
  | .sessOpen addr r data => Sys2Proof.Machine.execSessOpen addr r data s
  | .sessConfirm addr r data => Sys2Proof.Machine.execSessConfirm addr r data s
  | .sessionConfirmTimeout id => Sys2Proof.Machine.execSessionConfirmTimeout id s
  | .sessClose id r => Sys2Proof.Machine.execSessClose id r s
  | .sessionIdleTimeout id => Sys2Proof.Machine.execSessionIdleTimeout id s
  | .envelope bs obs => Sys2Proof.Machine.execEnvelope bs obs s
  | .spdm id r m => Sys2Proof.Machine.execSpdm id r m s
  | .getVersion id r p1 p2 => Sys2Proof.Machine.execGetVersion id r p1 p2 s
  | .getCapabilities id r p1 p2 rest => Sys2Proof.Machine.execGetCapabilities id r p1 p2 rest s
  | .negotiateAlgorithms id r p1 p2 rest => Sys2Proof.Machine.execNegotiateAlgorithms id r p1 p2 rest s
  | .getDigests id r p1 p2 => Sys2Proof.Machine.execGetDigests id r p1 p2 s
  | .getCertificate id r p1 p2 rest => Sys2Proof.Machine.execGetCertificate id r p1 p2 rest s
  | .challenge id r p1 p2 rest => Sys2Proof.Machine.execChallenge id r p1 p2 rest s
  | .getMeasurements id r p1 p2 rest => Sys2Proof.Machine.execGetMeasurements id r p1 p2 rest s
  | .aonDeviceTimeout => Sys2Proof.Machine.execAonDeviceTimeout s
  | .shutterOpen a e => Sys2Proof.Machine.execShutterOpen a e s
  | .shutterAbort a e => Sys2Proof.Machine.execShutterAbort a e s
  | .exposureClose a e t => Sys2Proof.Machine.execExposureClose a e t s
  | .exposurePrepared e => Sys2Proof.Machine.execExposurePrepared e s
  | .exposureCommit e => Sys2Proof.Machine.execExposureCommit e s
  | .exposureExpired e => Sys2Proof.Machine.execExposureExpired e s
  | .mailboxPost a c data => Sys2Proof.Machine.execMailboxPost a c data s
  | .mailboxRelease a c => Sys2Proof.Machine.execMailboxRelease a c s
  | .noticeClear a c => Sys2Proof.Machine.execNoticeClear a c s
  | .receiverReady sep => Sys2Proof.Machine.execReceiverReady sep s
  | .wakeFailed c => Sys2Proof.Machine.execWakeFailed c s
  | .proposalBody a k body => Sys2Proof.Machine.execProposalBody a k body s
  | .countersign a k cred sig => Sys2Proof.Machine.execCountersign a k cred sig s
  | .proposalReject a k => Sys2Proof.Machine.execProposalReject a k s
  | .proposalExpiry k => Sys2Proof.Machine.execProposalExpiry k s
  | .claim a entries => Sys2Proof.Machine.execClaim a entries s
  | .claimingExpiry => Sys2Proof.Machine.execClaimingExpiry s
  | .zeroisePartition a p => Sys2Proof.Machine.execZeroisePartition a p s
  | .zeroiseHostLink a n => Sys2Proof.Machine.execZeroiseHostLink a n s
  | .zeroiseAll a => Sys2Proof.Machine.execZeroiseAll a s
  | .zeroiseRewriteDone p => Sys2Proof.Machine.execZeroiseRewriteDone p s
  | .dieClearDone k => Sys2Proof.Machine.execDieClearDone k s
  | .refclkLost => Sys2Proof.Machine.execRefclkLost s
  | .refclkRestored => Sys2Proof.Machine.execRefclkRestored s
  | .stepPulse => Sys2Proof.Machine.execStepPulse s
  | .stepLost => Sys2Proof.Machine.execStepLost s
  | .epochWrite a e => Sys2Proof.Machine.execEpochWrite a e s
  | .alignmentComplete => Sys2Proof.Machine.execAlignmentComplete s
  | .inputValid mv => Sys2Proof.Machine.execInputValid mv s
  | .inputUndervoltage mv => Sys2Proof.Machine.execInputUndervoltage mv s
  | .inputOvervoltage mv => Sys2Proof.Machine.execInputOvervoltage mv s
  | .regulatorFault r => Sys2Proof.Machine.execRegulatorFault r s
  | .powerBudgetUpdate mv ma power projected dies => Sys2Proof.Machine.execPowerBudgetUpdate mv ma power projected dies s
  | .sensorSample temps => Sys2Proof.Machine.execSensorSample temps s
  | .slewHoldEnd k => Sys2Proof.Machine.execSlewHoldEnd k s
  | .throttleRise k => Sys2Proof.Machine.execThrottleRise k s
  | .thermalHold k => Sys2Proof.Machine.execThermalHold k s
  | .thermtrip uk ui => Sys2Proof.Machine.execThermtrip uk ui s
  | .performancePointWrite a k point => Sys2Proof.Machine.execPerformancePointWrite a k point s
  | .performancePointDone k => Sys2Proof.Machine.execPerformancePointDone k s
  | .powerStateP0 a => Sys2Proof.Machine.execPowerStateP0 a s
  | .powerStateP1 a => Sys2Proof.Machine.execPowerStateP1 a s
  | .powerStateP2 a => Sys2Proof.Machine.execPowerStateP2 a s
  | .powerStateP3 a => Sys2Proof.Machine.execPowerStateP3 a s
  | .powerStateChangeDone idle wires => Sys2Proof.Machine.execPowerStateChangeDone idle wires s
  | .islandSleep sep => Sys2Proof.Machine.execIslandSleep sep s
  | .islandWake sep => Sys2Proof.Machine.execIslandWake sep s
  | .resetIsland a idx => Sys2Proof.Machine.execResetIsland a idx s
  | .resetDie a k => Sys2Proof.Machine.execResetDie a k s
  | .resetPackage a => Sys2Proof.Machine.execResetPackage a s
  | .resetCold a => Sys2Proof.Machine.execResetCold a s
  | .resetRecovery a => Sys2Proof.Machine.execResetRecovery a s
  | .recoveryArmLapse => Sys2Proof.Machine.execRecoveryArmLapse s
  | .latchedResetRun => Sys2Proof.Machine.execLatchedResetRun s
  | .rstNAssert ns => Sys2Proof.Machine.execRstNAssert ns s
  | .bootStart wires calOk imgOk => Sys2Proof.Machine.execBootStart wires calOk imgOk s
  | .bootDone => Sys2Proof.Machine.execBootDone s
  | .watchdogWrite => Sys2Proof.Machine.execWatchdogWrite s
  | .mgpReset => Sys2Proof.Machine.execMgpReset s
  | .firmwareStage a img => Sys2Proof.Machine.execFirmwareStage a img s
  | .firmwareCommit a => Sys2Proof.Machine.execFirmwareCommit a s
  | .firmwareWritten => Sys2Proof.Machine.execFirmwareWritten s
  | .functionEnable a f => Sys2Proof.Machine.execFunctionEnable a f s
  | .functionDisable a f => Sys2Proof.Machine.execFunctionDisable a f s
  | .functionChangeDone f wires => Sys2Proof.Machine.execFunctionChangeDone f wires s
  | .i3cWake => Sys2Proof.Machine.execI3cWake s
  | .i3cReset => Sys2Proof.Machine.execI3cReset s
  | .i3cAttn => Sys2Proof.Machine.execI3cAttn s
  | .i3cStatusRead => Sys2Proof.Machine.execI3cStatusRead s
  | .entdaa addr => Sys2Proof.Machine.execEntdaa addr s
  | .rstdaa => Sys2Proof.Machine.execRstdaa s
  | .getpid => Sys2Proof.Machine.execGetpid s
  | .getbcr => Sys2Proof.Machine.execGetbcr s
  | .getdcr => Sys2Proof.Machine.execGetdcr s
  | .getstatus => Sys2Proof.Machine.execGetstatus s
  | .bypass => Sys2Proof.Machine.execBypass s
  | .idcode => Sys2Proof.Machine.execIdcode s
  | .samplePreload lands preload => Sys2Proof.Machine.execSamplePreload lands preload s
  | .extest => Sys2Proof.Machine.execExtest s
  | .clamp => Sys2Proof.Machine.execClamp s
  | .highz => Sys2Proof.Machine.execHighz s
  | .requalifyUnit a uk ui passed => Sys2Proof.Machine.execRequalifyUnit a uk ui passed s
  | .injectionArm a d mode => Sys2Proof.Machine.execInjectionArm a d mode s
  | .serviceNormal a => Sys2Proof.Machine.execServiceNormal a s
  | .serviceRequested a => Sys2Proof.Machine.execServiceRequested a s
  | .serviceInService a => Sys2Proof.Machine.execServiceInService a s
  | .svcBtnAssert => Sys2Proof.Machine.execSvcBtnAssert s
  | .svcBtnHold5s => Sys2Proof.Machine.execSvcBtnHold5s s
  | .svcBtnHold10s => Sys2Proof.Machine.execSvcBtnHold10s s
  | .svcBtnRelease => Sys2Proof.Machine.execSvcBtnRelease s
  | .leaveReset u => Sys2Proof.Machine.execLeaveReset u s
  | .inputRemoved => Sys2Proof.Machine.execInputRemoved s
  | .sharedCounterSnapshot => Sys2Proof.Machine.execSharedCounterSnapshot s
  | .breadRepeat r => Sys2Proof.Machine.execBreadRepeat r s

end Sys2Proof.Machine
end

