-- ==== Sys2Proof/Safety.lean ====
section
/-! DEFINITION. The words in which statements speak of a run: when the management processor serves requests at once, what
an answered write is, and what one step keeps. -/

namespace Sys2Proof.Machine

/-- The T1 serves a request at once (R549, R570, R698): it is not silent, its boot is done, the MGP and the SEP are up, and
no earlier request waits. -/
def Serving (s : State) : Prop :=
  silent s = false ∧ s.eumon.waiting = [] ∧ s.sys.boot = .ready ∧ s.sys.mgp = .up ∧ s.sys.mgpFailed = false ∧
    s.sys.sep = .up ∧ s.sys.resetting = []

/-- The state with the answer to a command sent as its own row: the code of R548, 0 for success. -/
def answered (s : State) (who : Ident) (code : Nat) : State := emit s (.status (identNat who) code)

/-- The state in which a session has just been heard (R569). -/
def heard (s : State) (id : U32) : State := updSession s id (fun x => { x with lastAt := s.now })

/-- A confirmed session asks something that the T1 serves at once: the message is well-formed, new, and none that R546 or R549
to R551 refuse. -/
def Asks (s : State) (id : U32) (x : Session) (m : EMsg) : Prop :=
  Serving s ∧ findSession s id = some x ∧ x.confirmed = true ∧ 1 ≤ m.gen ∧ m.gen ≤ 3 ∧ m.data.length ≤ 1024 ∧
    carriedRight (.session id) m = true ∧ keptFor (heard s id) (.session id) m = none ∧
    messageRefused (heard s id) (.session id) x.ident m = 0

/-- The answer that a session's request is owed. -/
def owedTo (id : U32) (m : EMsg) : Owed := { asker := .session id, msg := m, rtype := m.mtype + 0x80 }

/-- Nothing known is wrong with what is read: no injection point is armed (R735), and no location is known bad (R261). -/
def Quiet (s : State) : Prop := (∀ d : Fin 17, s.ev.points[d].armed = false) ∧ s.mem.bad = []

/-- A die issues an instruction of a kind: its program has come to one, nothing holds issue, and nothing that the sequencer
reads is bad (R186, R190, R258). -/
def Issues (s : State) (die : Nat) (is_ : SeqF → Bool) : Prop :=
  canIssue s die = true ∧ spells (seqOf s die) (seqOf s die).pc.toNat is_ = true ∧ Quiet s

/-- Only one die's VXE differs. -/
def OnlyVxe (s t : State) (die : Nat) : Prop := t = updVxe s die (fun _ => vxeOf t die)

/-- What an instruction writes to a place of a sheet under its mask (R128): the new value, zero with ZM, else what stood
there; a slot holds 32 bits. -/
def underMask (v : VxeS) (f : VxeF) (r c new : Nat) : Nat :=
  if maskBit v f.msk r c then new % 2 ^ 32 else if f.zm then 0 else slotAt v f.dst r c

/-- Only the numbered sheet is written: its slots are a function of their place, and its tag is the one given. -/
def SheetWritten (v v' : VxeS) (k fmt : Nat) (int : Bool) (g : Nat → Nat → Nat) : Prop :=
  (∀ r c : Nat, r < 256 → c < 256 → slotAt v' k r c = g r c) ∧
  (sheetTag v' k).fmt = BitVec.ofNat 3 fmt ∧ (sheetTag v' k).int = int ∧
  (∀ j : Nat, j < 6 → j ≠ k → sheetTag v' j = sheetTag v j ∧ ∀ r c : Nat, r < 256 → c < 256 → slotAt v' j r c = slotAt v j r c) ∧
  v'.masks = v.masks ∧ v'.xs = v.xs ∧ v'.seed = v.seed

/-- Every addressed storage is in the one canonical form. -/
def StorageCanonical (s : State) : Prop :=
  (∀ a : Fin 64, memWf s.arrays[a].bufs = true) ∧
    ∀ k : Fin 8, memWf s.vxes[k].mem = true ∧ memWf s.seqs[k].mem = true ∧ memWf s.mem.store[k] = true ∧
      memWf s.mem.hbm[k] = true ∧ memWf s.mem.flash[k] = true

end Sys2Proof.Machine
end

