-- ==== Sys2Proof/Certificates/Slice0/Obligations.lean ====
section
/-! DEFINITION. The statements about the block, for the provers. They come from the spec's numbered rules, family by
family; each says in its docstring which rule it formalises or which choice of the model it states. -/

open Sys2Proof Sys2Proof.Machine

/-! ### The block: its queue, time, and writes of dictionary objects -/

/-- A step takes the command at the front of the queue and runs it on the state with the rest of the queue. -/
def Obligations.StepRunsFrontCommand : Prop :=
  ∀ (c : Instr) (rest : List Instr) (s : State),
    s.pending = c :: rest → step s = exec c { s with pending := rest }

/-- On an empty queue 1 ns of the AON's time passes, whatever the block holds (DESIGN CHOICE, log entry 1). -/
def Obligations.IdleStepPassesOneNanosecond : Prop :=
  ∀ s : State, s.pending = [] → ∃ t : State, step s = .next t ∧ t = elapse s 1 ∧ t.now = s.now + 1 ∧ t.pending = []

/-- REGISTER_WRITE (R542): while the T1 serves requests, a write of an object that no operation of its own takes (no shutter
or close, no proposal, no reset or claim, no group of instances) is answered with the first check that fails and changes
nothing else; where every check passes the object's effect happens and the answer is 0. -/
def Obligations.RegisterWriteChecksThenApplies : Prop :=
  ∀ (s : State) (who : Ident) (index : U16) (sub : U8) (inst : BitVec 12) (data : List Byte),
    Serving s → isGroup (objAt index.toNat sub.toNat inst.toNat) = false →
    layoutOf index.toNat ≠ 0xC810 → layoutOf index.toNat ≠ 0xD510 → index.toNat ≠ 0x2F00 → index.toNat ≠ 0xD000 →
    (checkDirect s (afterCommits s) (identNat who) (objAt index.toNat sub.toNat inst.toNat) data = 0 →
      exec (.registerWrite (.direct who) index sub inst data) s =
        .next (answered (applyObj s (identNat who) (objAt index.toNat sub.toNat inst.toNat) data noObs) who 0)) ∧
    (∀ c : Nat, c ≠ 0 → checkDirect s (afterCommits s) (identNat who) (objAt index.toNat sub.toNat inst.toNat) data = c →
      exec (.registerWrite (.direct who) index sub inst data) s = .next (answered s who c))

/-! ### Matrix arrays -/

/-- A tray add (R74, R75, R77, R79, R80): while SAT is clear the finite part of the tree sum is added exactly, held at the
bounds of R79 with SAT set when it passes one; while SAT is set VALUE stays; specials set their side bits in either case,
and infinities of both signs set NAN and INVR. The residue check (R99) never fails on a tray whose RES is the fold of its
VALUE, unless a mismatch is put there; and the tray it leaves has that property again. -/
def Obligations.TrayAddAndItsResidue : Prop :=
  (∀ (t : Tray) (x : TreeSum) (hit : Bool),
    (t.sat = false → -(2 : Int) ^ 559 ≤ t.value.toInt + x.v → t.value.toInt + x.v < 2 ^ 559 →
      (trayAdd t x hit).1.value.toInt = t.value.toInt + x.v ∧ (trayAdd t x hit).1.sat = false) ∧
    (t.sat = false → (2 : Int) ^ 559 ≤ t.value.toInt + x.v →
      (trayAdd t x hit).1.value.toInt = 2 ^ 559 - 1 ∧ (trayAdd t x hit).1.sat = true) ∧
    (t.sat = false → t.value.toInt + x.v < -(2 : Int) ^ 559 →
      (trayAdd t x hit).1.value.toInt = -(2 : Int) ^ 559 ∧ (trayAdd t x hit).1.sat = true) ∧
    (t.sat = true → (trayAdd t x hit).1.value = t.value ∧ (trayAdd t x hit).1.sat = true) ∧
    (trayAdd t x hit).1.pinf = (t.pinf || x.pinf) ∧ (trayAdd t x hit).1.ninf = (t.ninf || x.ninf) ∧
    (trayAdd t x hit).1.nan = (t.nan || x.nan || ((t.pinf || x.pinf) && (t.ninf || x.ninf))) ∧
    (trayAdd t x hit).1.invr = (t.invr || x.invr || ((t.pinf || x.pinf) && (t.ninf || x.ninf))) ∧
    (trayAdd t x hit).1.neg0 = (t.neg0 && !x.notNeg0)) ∧
  (∀ (t : Tray) (x : TreeSum), t.res.toNat = fold127 t.value.toInt →
    (trayAdd t x false).2 = false ∧
    ∀ hit : Bool, (trayAdd t x hit).1.res.toNat = fold127 (trayAdd t x hit).1.value.toInt)

/-- The drain of a tray in the order of R86: NaN, infinities, saturation, zero with the sign of NEG0, and else the rounding of
VALUE in units of 2^-266. -/
def Obligations.DrainOrder : Prop :=
  ∀ (f : Fmt) (rm : Rm) (rnd : Nat) (t : Tray),
    (t.nan = true → drainTray f rm rnd t = (nanCode f, if t.invr then stINV else 0#8)) ∧
    (t.nan = false → t.pinf = true → drainTray f rm rnd t = (infCode f, 0#8)) ∧
    (t.nan = false → t.pinf = false → t.ninf = true → drainTray f rm rnd t = (infCode f + signBit f, 0#8)) ∧
    (t.nan = false → t.pinf = false → t.ninf = false → t.sat = true →
      drainTray f rm rnd t = (if t.value.toInt < 0 then infCode f + signBit f else infCode f, stOVF ||| stINX)) ∧
    (t.nan = false → t.pinf = false → t.ninf = false → t.sat = false → t.value = 0#560 →
      drainTray f rm rnd t = (if t.neg0 then signBit f else 0, 0#8)) ∧
    (t.nan = false → t.pinf = false → t.ninf = false → t.sat = false → t.value ≠ 0#560 →
      drainTray f rm rnd t =
        roundExact f rm rnd (.real (decide (t.value.toInt < 0)) t.value.toInt.natAbs (-266) false))

/-- One clock of a row chunk in row mode (R74, R76, R77): every tray takes the tree sum of its own column and no other, and the
run counter advances by the chunk width, held at its top. -/
def Obligations.RowChunkAddsEachColumn : Prop :=
  ∀ (a : ArrayS) (p : PassRun) (f : PassF) (r c clock : Nat) (hit : Nat → Bool), f.dot = false →
    (∀ j : Fin 256, (clockStep p f r c clock hit a).1.trays[j] = (trayAdd a.trays[j] (columnSum a p f r c clock j) (hit j)).1) ∧
    (clockStep p f r c clock hit a).1.run.toNat = min (a.run.toNat + chunkWidth f) (2 ^ 40 - 1) ∧
    (clockStep p f r c clock hit a).1.bufs = a.bufs ∧ (clockStep p f r c clock hit a).1.seed = a.seed ∧
    (clockStep p f r c clock hit a).1.dIndex = a.dIndex

/-- PASS and PASS_COMPLETE (R62, R187, R189, R190): a PASS for a free array, on an empty scoreboard, starts there with the
slots that ARG0 names; once every row is captured it completes, the array is idle, and its counter advances. -/
def Obligations.PassStartsAndCompletes : Prop :=
  ∀ (s : State) (die a : Fin 8), Quiet s → islandRuns s (arrIsland (8 * die.val + a.val)) = true →
    (∀ (w : BitVec 64) (slots : BitVec 18) (sigc : Fin 32) (sige : Bool),
      Issues s die (fun f => isPass a w slots f && hasSig sigc sige f) → (seqOf s die).ops = [] →
      (arrOf s (8 * die.val + a.val)).st = .idle → (arrOf s (8 * die.val + a.val)).pass = none →
      (arrOf s (8 * die.val + a.val)).halt = .running → (arrOf s (8 * die.val + a.val)).proofRun = false →
      ∃ t : State, exec (.pass die a w slots sigc sige 0 [] .clean .clean) s = .next t ∧
        (arrOf t (8 * die.val + a.val)).st = .running ∧
        (arrOf t (8 * die.val + a.val)).pass =
          some { newPass w (slots.toNat % 64) (slots.toNat / 64 % 64) (slots.toNat / 4096 % 64) (seqOf s die).nextOp with
            loads := (passF w).dot } ∧
        (arrOf t (8 * die.val + a.val)).trays = (arrOf s (8 * die.val + a.val)).trays ∧
        (arrOf t (8 * die.val + a.val)).bufs = (arrOf s (8 * die.val + a.val)).bufs ∧
        (seqOf t die).pc = (seqOf s die).pc + 16#32 ∧ (seqOf t die).ops.map (fun o => (o.id, o.sigc, o.sige, o.started)) =
          [((seqOf s die).nextOp, sigc.val, sige, true)] ∧ t.vxes = s.vxes ∧ t.mem = s.mem ∧ t.reels = s.reels) ∧
    (∀ (p : PassRun) (o : OpRec), (arrOf s (8 * die.val + a.val)).pass = some p → (arrOf s (8 * die.val + a.val)).halt = .running →
      (arrOf s (8 * die.val + a.val)).st = .running → chunksLeft p = 0 → p.reruns = [] → p.open_ = false → s.ev.proofs = [] →
      (seqOf s die).ops = [o] → o.id = p.op → (seqOf s die).st = .running → (seqOf s die).hold = .none → o.sigc < 32 →
      (∀ q : Nat, partOfDie s die = some q → (negOf s q).dieMask.toNat.testBit die = true) →
      exec (.passComplete ⟨8 * die.val + a.val, by omega⟩ [] .clean) s = .next
        (updSeq (updArr s (8 * die.val + a.val) (fun x => { x with pass := none, drainReq := false, st := .idle, proofRun := false }))
          die (fun q => { q with
            ops := []
            ctrs := if o.sige then vmod q.ctrs o.sigc (fun x => if x = 0xFFFF#16 then x else x + 1#16) else q.ctrs })))

/-- REQUESTED_DRAIN and its capture (R89 to R91): the request stops row chunks; its capture leaves every tray that it takes fresh and
the run counter zero, and where the counter was zero it writes nothing. ROW_RERUN (R100, R101): where no mismatch comes
again, the earliest poisoned run is captured with its own D and a transient is reported; where one does, the array is
FAULTED and holds no pass. -/
def Obligations.RequestedDrainAndRowRerun : Prop :=
  (∀ (s : State) (arr : Fin 64) (p : PassRun), (arrOf s arr).pass = some p → (arrOf s arr).halt = .running →
    islandRuns s (arrIsland arr) = true →
    (Quiet s → exec (.requestedDrain arr 0 .clean) s = .next (updArr s arr (fun a =>
      { a with drainReq := true, pass := some { p with loads := (passF p.word).dot } }))) ∧
    ((arrOf s arr).drainReq = true → (arrOf s arr).run = 0#40 →
      exec (.requestedDrainCapture arr false) s = .next (updArr s arr (fun a => { a with drainReq := false }))) ∧
    (Quiet s → (arrOf s arr).drainReq = true → (arrOf s arr).run ≠ 0#40 → p.open_ = true → p.poisoned = none →
      drainAborts s arr (passF p.word) = false →
      ∃ t : State, exec (.requestedDrainCapture arr false) s = .next t ∧
        (arrOf t arr).trays = (if (passF p.word).dot then vset (arrOf s arr).trays 0 Tray.fresh
          else Vector.replicate 256 Tray.fresh) ∧ (arrOf t arr).run = 0#40 ∧ (arrOf t arr).long = false ∧
        (arrOf t arr).drainReq = false ∧ t.mem = s.mem ∧ t.seqs = s.seqs ∧ t.reels = s.reels)) ∧
  (∀ (s : State) (arr : Fin 64) (p : PassRun) (x : Poisoned) (rest : List Poisoned) (mism : List Nat), Quiet s →
    (arrOf s arr).pass = some p → (arrOf s arr).halt = .running → islandRuns s (arrIsland arr) = true →
    (arrOf s arr).drainReq = false → p.open_ = false → p.reruns = x :: rest →
    ∀ q : PassRun,
      (arrOf (rerunChunks arr (passF p.word) x mism (updArr s arr (beginRerun p (passF p.word) x rest))) arr).pass = some q →
      (q.poisoned = none → exec (.rowRerun arr mism .clean) s = .next
        (captureRun (raise (rerunChunks arr (passF p.word) x mism (updArr s arr (beginRerun p (passF p.word) x rest)))
          0x05 ukARRAY arr (x.tray + 256 * x.d.toNat) x.inj)
          arr q { passF p.word with park := (passF p.word).park && !x.toDest } (runRow (passF p.word) q) x.d false)) ∧
      (q.poisoned ≠ none → ∃ t : State, exec (.rowRerun arr mism .clean) s = .next t ∧ (arrOf t arr).st = .faulted ∧
        (arrOf t arr).pass = none))

/-- The array commands of the dictionary and of the proof run, sent by an identity that may write their object while it is not
held by an exposure (R97, R109, R111, R112, R730): a new seed resets D; a halt is accepted after the chunks that still issue
and then reached; a halted array resumes its pass; a tray image replaces all of its tray but RES, which is recomputed, with the
run counter and LONG; a failed proof run faults the array and a passed one frees it. -/
def Obligations.ArrayControl : Prop :=
  ∀ (s : State) (arr : Fin 64) (who : Ident),
    (∀ seed : U32, Serving s → mayWrite s (identNat who) (objAt 0x8400 1 arr) (leBytes 4 seed.toNat) = true →
      objHeld s (objAt 0x8400 1 arr) = false → arrShown s arr ≠ .running → (arrOf s arr).st ≠ .outOfService →
      exec (.arraySeedWrite (.direct who) arr seed) s = .next (answered
        (updArr s arr (fun a => { a with seed := seed, dIndex := 0#48 })) who 0)) ∧
    (∀ (n : Nat) (rd : ReadObs), Serving s → s.dbg.arraySel.toNat = arr.val →
      mayWrite s (identNat who) (objAt 0xE100 3 0) [1#8] = true → objHeld s (objAt 0xE100 3 0) = false →
      (arrOf s arr).halt = .running →
      exec (.arrayHaltRequest (.direct who) n rd) s = .next (answered
        (updArr (runPass s arr n [] rd) arr (fun a => { a with halt := .halting })) who 0)) ∧
    (Serving s → s.dbg.arraySel.toNat = arr.val → mayWrite s (identNat who) (objAt 0xE100 3 0) [0#8] = true →
      objHeld s (objAt 0xE100 3 0) = false → (arrOf s arr).st = .halted → (seqOf s (arr.val / 8)).ops = [] →
      exec (.arrayResume (.direct who)) s = .next (answered (updArr s arr (fun a =>
        { a with halt := .running, st := if a.pass.isSome then .running else .idle })) who 0)) ∧
    (∀ img : BitVec 640, Serving s → s.dbg.arraySel.toNat = arr.val →
      mayWrite s (identNat who) (objAt 0xE100 4 0) (leBytes 80 img.toNat) = true → objHeld s (objAt 0xE100 4 0) = false →
      (arrOf s arr).st = .halted → img.toNat / 2 ^ 617 = 0 → img.toNat / 2 ^ 573 % 8 = 0 →
      exec (.trayImageWrite (.direct who) img) s = .next (answered (updArr s arr (fun a => { a with
        run := BitVec.ofNat 40 (img.toNat / 2 ^ 576), long := img.toNat.testBit 616
        trays := vset a.trays s.dbg.traySel.toNat {
          value := BitVec.ofNat 560 img.toNat, nan := img.toNat.testBit 560, pinf := img.toNat.testBit 561
          ninf := img.toNat.testBit 562, neg0 := img.toNat.testBit 563, sat := img.toNat.testBit 564
          invr := img.toNat.testBit 565, res := BitVec.ofNat 7 (fold127 (BitVec.ofNat 560 img.toNat).toInt) } })) who 0)) ∧
    ((arrOf s arr).halt = .halting → (arrOf s arr).drainReq = false → exec (.arrayHalted arr) s = .next (updArr s arr (fun a =>
      { a with halt := .halted, st := if a.st = .idle ∨ a.st = .running then .halted else a.st }))) ∧
    (∀ q : ProofReq, s.ev.proofs.find? (fun x => decide (x.slice = .array arr)) = some q → (arrOf s arr).pass = none →
      (∃ t : State, exec (.arrayProofRunDone arr false) s = .next t ∧ (arrOf t arr).st = .faulted) ∧
      (q.persist = false → (seqOf s (arr.val / 8)).ops = [] → exec (.arrayProofRunDone arr true) s = .next (raise (updArr
        (updEv s (fun e => { e with proofs := e.proofs.filter (fun x => decide (x.slice ≠ .array arr)) })) arr
        (fun a => { a with proofRun := false })) 0x01 ukARRAY arr 5 q.inj)))

/-! ### The vector engine -/

/-- ADD, SUB, MUL, FMA, DIV, SQRT, RSQRT, MAX, MIN and CVT (R134, R49, R50, R54, R128, R156): where nothing read is bad, the word
whose turn it is makes each element of DST under the mask the exact result of its sources, rounded once to DFMT in RMODE; the
tag becomes DFMT and DINT; in SR each lane takes its 32 draws, but for a CVT that rounds nothing; the kernel is one word on;
no other sheet, plane or scalar and no other unit changes. -/
def Obligations.VxeArithmeticRoundsOnce : Prop :=
  ∀ (s : State) (die : Fin 8) (w : BitVec 64), Quiet s → (vxeF w).dst < 6 →
    let v := vxeOf s die
    let f := vxeF w
    let a := srcNum v f f.sa
    let b := srcNum v f f.sb
    let table : List (Nat × Instr × Bool × (Nat → Nat → Exact)) := [
      (1, .add die w .clean, true, fun r c => addExact (a r c) (b r c)),
      (2, .sub die w .clean, true, fun r c => subExact (a r c) (b r c)),
      (3, .mul die w .clean, true, fun r c => mulExact (a r c) (b r c)),
      (4, .fma die w .clean, true, fun r c => fmaExact (a r c) (b r c) (srcNum v f f.sc r c)),
      (5, .div die w .clean, true, fun r c => divExact (a r c) (b r c)), (6, .sqrt die w .clean, true, fun r c => sqrtExact (a r c)),
      (7, .rsqrt die w .clean, true, fun r c => rsqrtExact (a r c)),
      (8, .max die w .clean, true, fun r c => exactOf (maxNum (a r c) (b r c))),
      (9, .min die w .clean, true, fun r c => exactOf (minNum (a r c) (b r c))),
      (0xD, .cvt die w .clean, !exactCvt (srcTag v f f.sa) f.dfmt, fun r c => exactOf (a r c))]
    ∀ p ∈ table, vxeAt s die p.1 w = true → ∃ t : State, exec p.2.1 s = .next t ∧ OnlyVxe s t die ∧
      SheetWritten v (vxeOf t die) f.dst f.dfmt f.dint (fun r c => underMask v f r c
        (roundExact (fmtD f.dfmt) (rmD f.rmode) (fullDraw v die (rmD f.rmode) r c) (p.2.2.2 r c)).1) ∧
      (vxeOf t die).retired = bump v.retired ∧ (vxeOf t die).st = v.st ∧
      (vxeOf t die).kernel = v.kernel.map (fun k => { k with done := k.done + 1 }) ∧
      (vxeOf t die).draws = (if rmD f.rmode = .sr ∧ p.2.2.1 = true then v.draws.map (fun x => x + 32#48) else v.draws)

/-- NEG, ABS and CPSGN (R37, R134): where DFMT is the tag of A only the sign bit changes and nothing is rounded or drawn; else
the value with its new sign is rounded once. VXE_COPY, TRANS, MLOAD, MSTORE and VXE_NOP (R117, R126, R132, R134, R791): COPY and
TRANS keep every bit of A and its tag; MLOAD and MSTORE move a plane between DST or SA and the staging area at the scalar's
offset when its 8 KiB lies there, and else fault with ADDR; NOP only completes. -/
def Obligations.VxeSignsAndMoves : Prop :=
  (∀ (s : State) (die : Fin 8) (w : BitVec 64), Quiet s → (vxeF w).dst < 6 →
    let v := vxeOf s die
    let f := vxeF w
    let sb := signBit (fmtD f.dfmt)
    let bitwise (neg : Bool) (r c : Nat) : Nat := srcRaw v f f.sa r c % sb + (if neg then sb else 0)
    let rounded (neg : Bool) (r c : Nat) : Nat :=
      (roundExact (fmtD f.dfmt) (rmD f.rmode) (fullDraw v die (rmD f.rmode) r c) (match srcNum v f f.sa r c with
        | .nan => .nan false
        | .inf _ => .inf neg
        | .fin _ m e => .real neg m e false)).1
    let table : List (Nat × Instr × (Nat → Nat → Bool)) := [
      (0xA, .neg die w .clean, fun r c => !srcSign v f f.sa r c), (0xB, .abs die w .clean, fun _ _ => false),
      (0xC, .cpsgn die w .clean, srcSign v f f.sb)]
    ∀ p ∈ table, vxeAt s die p.1 w = true → ∃ t : State, exec p.2.1 s = .next t ∧ OnlyVxe s t die ∧
      SheetWritten v (vxeOf t die) f.dst f.dfmt f.dint (fun r c => underMask v f r c
        (if srcTag v f f.sa = (f.dfmt, false) then bitwise (p.2.2 r c) r c else rounded (p.2.2 r c) r c)) ∧
      (srcTag v f f.sa = (f.dfmt, false) → (vxeOf t die).draws = v.draws)) ∧
  (∀ (s : State) (die : Fin 8) (w : BitVec 64), Quiet s →
    let v := vxeOf s die
    let f := vxeF w
    let off := (vget v.xs f.scal 0#32).toNat
    let bitsOf := tagBits (srcTag v f f.sa)
    (vxeAt s die 0 w = true → exec (.vxeNop die w .clean) s = .next (updVxe s die retire)) ∧
    (vxeAt s die 0x58 w = true → f.dst < 6 → ∃ t : State, exec (.vxeCopy die w .clean) s = .next t ∧ OnlyVxe s t die ∧
      SheetWritten v (vxeOf t die) f.dst (srcTag v f f.sa).1 (srcTag v f f.sa).2
        (fun r c => underMask v f r c (srcRaw v f f.sa r c % 2 ^ bitsOf))) ∧
    (vxeAt s die 0x59 w = true → f.dst < 6 → ∃ t : State, exec (.trans die w .clean) s = .next t ∧ OnlyVxe s t die ∧
      SheetWritten v (vxeOf t die) f.dst (srcTag v f f.sa).1 (srcTag v f f.sa).2
        (fun r c => underMask v f r c (srcRaw v f f.sa c r % 2 ^ bitsOf))) ∧
    (off + 8192 ≤ 6291456 →
      (vxeAt s die 0x2C w = true → ∃ t : State, exec (.mload die w .clean) s = .next t ∧ OnlyVxe s t die ∧ (vxeOf t die).mem = v.mem ∧
        (∀ k r c : Nat, r < 256 → c < 256 → k < 8 → maskBit (vxeOf t die) k r c =
          if k = f.dst ∧ k ≠ 0 then (if maskBit v f.msk r c then (memLoad v.mem (0x200000 + off + 32 * r + c / 8)).getLsbD (c % 8)
            else if f.zm then false else maskBit v k r c)
          else maskBit v k r c)) ∧
      (vxeAt s die 0x2D w = true → ∃ t : State, exec (.mstore die w .clean) s = .next t ∧ OnlyVxe s t die ∧
        (vxeOf t die).masks = v.masks ∧ (vxeOf t die).sheets = v.sheets ∧
        (∀ r c : Nat, r < 256 → c < 256 →
          (memLoad (vxeOf t die).mem (0x200000 + off + 32 * r + c / 8)).getLsbD (c % 8) = maskBit v f.sa r c) ∧
        ∀ a : Nat, a < 0x200000 + off ∨ 0x200000 + off + 8192 ≤ a → memLoad (vxeOf t die).mem a = memLoad v.mem a)) ∧
    (6291456 < off + 8192 → ∀ p ∈ [((0x2C : Nat), Instr.mload die w .clean), (0x2D, .mstore die w .clean)],
      vxeAt s die p.1 w = true → ∃ u : State, exec p.2 s = .next (faultVxe u die) ∧ OnlyVxe s u die ∧
        (vxeOf u die).faultWord = v.faultWord ||| fwADDR ∧ (vxeOf u die).faultOff = BitVec.ofNat 32 (kernelOffset v) ∧
        (vxeOf u die).mem = v.mem ∧ (vxeOf u die).masks = v.masks))

/-- The compares and the mask operations (R53, R123, R128, R134): each unmasked bit of the plane DST becomes the compare of A
with B, where an unordered pair makes only CMPNE true, or the operation of the planes SA and SB; a write of M0 is ignored. -/
def Obligations.VxeComparesAndMasksWritePlanes : Prop :=
  ∀ (s : State) (die : Fin 8) (w : BitVec 64), Quiet s →
    let v := vxeOf s die
    let f := vxeF w
    let o := fun r c => cmpNum (srcNum v f f.sa r c) (srcNum v f f.sb r c)
    let a := maskBit v f.sa
    let b := maskBit v f.sb
    let table : List (Nat × Instr × (Nat → Nat → Bool)) := [
      (0x20, .cmpeq die w .clean, fun r c => o r c == some .eq), (0x21, .cmpne die w .clean, fun r c => !(o r c == some .eq)),
      (0x22, .cmplt die w .clean, fun r c => o r c == some .lt),
      (0x23, .cmple die w .clean, fun r c => o r c == some .lt || o r c == some .eq),
      (0x24, .cmpgt die w .clean, fun r c => o r c == some .gt),
      (0x25, .cmpge die w .clean, fun r c => o r c == some .gt || o r c == some .eq),
      (0x28, .mand die w .clean, fun r c => a r c && b r c), (0x29, .mor die w .clean, fun r c => a r c || b r c),
      (0x2A, .mxor die w .clean, fun r c => a r c != b r c), (0x2B, .mnot die w .clean, fun r c => !a r c)]
    ∀ p ∈ table, vxeAt s die p.1 w = true → ∃ t : State, exec p.2.1 s = .next t ∧ OnlyVxe s t die ∧ (vxeOf t die).mem = v.mem ∧
      (vxeOf t die).sheets = v.sheets ∧ (vxeOf t die).xs = v.xs ∧ (vxeOf t die).draws = v.draws ∧
      (vxeOf t die).retired = bump v.retired ∧
      (∀ k r c : Nat, r < 256 → c < 256 → k < 8 → maskBit (vxeOf t die) k r c =
        if k = f.dst ∧ k ≠ 0 then (if maskBit v f.msk r c then p.2.2 r c else if f.zm then false else maskBit v k r c)
        else maskBit v k r c)

/-- IADD, ISUB, IMUL, IAND, IOR and IDIV by divisors that are not zero (R134): the 32-bit result of each unmasked pair of
slots, modulo 2^32; IDIV truncates toward zero. IDIV with an unmasked zero divisor (R130 to R132): the instruction completes
with zero where the divisor was zero, DIV0 and the offset in the kernel are recorded, and the VXE stops in FAULTED, which fails
the step of a running negative with VXE_FAULT (R202). -/
def Obligations.VxeIntegersAndZeroDivisors : Prop :=
  (∀ (s : State) (die : Fin 8) (w : BitVec 64), Quiet s → (vxeF w).dst < 6 →
    let v := vxeOf s die
    let f := vxeF w
    let a := srcRaw v f f.sa
    let b := srcRaw v f f.sb
    let table : List (Nat × Instr × (Nat → Nat → Int)) := [
      (0x30, .iadd die w .clean, fun r c => (a r c : Int) + b r c), (0x31, .isub die w .clean, fun r c => (a r c : Int) - b r c),
      (0x32, .imul die w .clean, fun r c => (a r c : Int) * b r c), (0x34, .iand die w .clean, fun r c => ((a r c &&& b r c : Nat) : Int)),
      (0x35, .ior die w .clean, fun r c => ((a r c ||| b r c : Nat) : Int)),
      (0x33, .idiv die w .clean, fun r c => Int.tdiv (signedOf 32 (a r c)) (signedOf 32 (b r c)))]
    ∀ p ∈ table, vxeAt s die p.1 w = true →
      (p.1 = 0x33 → ∀ r c : Nat, r < 256 → c < 256 → maskBit v f.msk r c = true → signedOf 32 (b r c) ≠ 0) →
      ∃ t : State, exec p.2.1 s = .next t ∧ OnlyVxe s t die ∧
        SheetWritten v (vxeOf t die) f.dst f.dfmt f.dint (fun r c => underMask v f r c (p.2.2 r c % 2 ^ 32).toNat) ∧
        (vxeOf t die).st = v.st ∧ (vxeOf t die).retired = bump v.retired) ∧
  (∀ (s : State) (die : Fin 8) (w : BitVec 64), Quiet s → vxeAt s die 0x33 w = true → (vxeF w).dst < 6 →
    (∃ r c : Nat, r < 256 ∧ c < 256 ∧ maskBit (vxeOf s die) (vxeF w).msk r c = true ∧
      signedOf 32 (srcRaw (vxeOf s die) (vxeF w) (vxeF w).sb r c) = 0) →
    ∃ u : State, exec (.idiv die w .clean) s = .next (faultVxe u die) ∧ OnlyVxe s u die ∧
      (vxeOf u die).faultWord = (vxeOf s die).faultWord ||| fwDIV0 ∧
      (vxeOf u die).faultOff = BitVec.ofNat 32 (kernelOffset (vxeOf s die)) ∧ (vxeOf u die).retired = bump (vxeOf s die).retired ∧
      ∀ r c : Nat, r < 256 → c < 256 → maskBit (vxeOf s die) (vxeF w).msk r c = true →
        signedOf 32 (srcRaw (vxeOf s die) (vxeF w) (vxeF w).sb r c) = 0 → slotAt (vxeOf u die) (vxeF w).dst r c = 0) ∧
  (∀ (u : State) (die : Fin 8) (p : Nat), runningNeg u die = some p → dieStopped (seqOf u die) = false →
    (vxeOf (faultVxe u die) die).st = .faulted ∧ (vxeOf (faultVxe u die) die).kernel = none ∧
    (vxeOf (faultVxe u die) die).faultWord = (vxeOf u die).faultWord ∧
    (seqOf (faultVxe u die) die).st = .failed ∧ (seqOf (faultVxe u die) die).fail = 1#8)

/-- RSUM, RMAX, RMIN, RARGMAX and RARGMIN (R136 to R138): each line's first element of DST becomes the line's value; every
other slot of DST stays. RARGMAX and RARGMIN write INT32 indices. SCAN and SCANMAX (R139): each unmasked element becomes
the running value of its line at it, or with EXCL the one before it, rounded to DFMT in RMODE. -/
def Obligations.VxeReductionsAndScans : Prop :=
  (∀ (s : State) (die : Fin 8) (w : BitVec 64), Quiet s → (vxeF w).dst < 6 →
    let v := vxeOf s die
    let f := vxeF w
    let rounded := fun (x : Exact) (l : Nat) => (roundExact (fmtD f.dfmt) (rmD f.rmode) (lineDraw v die f l) x).1
    let table : List (Nat × Instr × Nat × Bool × (Nat → Nat)) := [
      (0x40, .rsum die w .clean, f.dfmt, f.dint, fun l => rounded (lineSum v f l).1 l),
      (0x41, .rmax die w .clean, f.dfmt, f.dint, fun l => rounded (lineSelect maxNum (.inf true) v f l).1 l),
      (0x42, .rmin die w .clean, f.dfmt, f.dint, fun l => rounded (lineSelect minNum (.inf false) v f l).1 l),
      (0x43, .rargmax die w .clean, 4, true, fun l => (argLine true v f l % 2 ^ 32).toNat),
      (0x44, .rargmin die w .clean, 4, true, fun l => (argLine false v f l % 2 ^ 32).toNat)]
    ∀ p ∈ table, vxeAt s die p.1 w = true → ∃ t : State, exec p.2.1 s = .next t ∧ OnlyVxe s t die ∧
      SheetWritten v (vxeOf t die) f.dst p.2.2.1 p.2.2.2.1 (fun r c =>
        if f.dir then (if c = 0 then p.2.2.2.2 r % 2 ^ 32 else slotAt v f.dst r c)
        else (if r = 0 then p.2.2.2.2 c % 2 ^ 32 else slotAt v f.dst r c)) ∧ (vxeOf t die).retired = bump v.retired) ∧
  (∀ (s : State) (die : Fin 8) (w : BitVec 64), Quiet s → (vxeF w).dst < 6 →
    let v := vxeOf s die
    let f := vxeF w
    let run := fun (add : FpVal → FpVal → FpVal × Byte) (e : FpVal) (r c : Nat) =>
      let (l, i) := if f.dir then (r, c) else (c, r)
      (scanLine add e e true (scanIns v f l)).getD i (e, e, 0#8)
    let table : List (Nat × Instr × (Nat → Nat → FpVal × FpVal × Byte)) := [
      (0x48, .scan die w .clean, run (fun a b => num32 (addExact a b) 0#8) (.fin false 0 0)),
      (0x49, .scanmax die w .clean, run (fun a b => (maxNum a b, 0#8)) (.inf true))]
    ∀ p ∈ table, vxeAt s die p.1 w = true → ∃ t : State, exec p.2.1 s = .next t ∧ OnlyVxe s t die ∧
      SheetWritten v (vxeOf t die) f.dst f.dfmt f.dint (fun r c => underMask v f r c
        (roundExact (fmtD f.dfmt) (rmD f.rmode) (fullDraw v die (rmD f.rmode) r c)
          (exactOf (if f.excl then (p.2.2 r c).1 else (p.2.2 r c).2.1))).1) ∧ (vxeOf t die).retired = bump v.retired)

/-- ACT and DACT (R130, R132, R143 to R145): on a valid table ACT writes the value table at A, DACT the exact product of B and the
derivative table at A, each rounded once; on a table that is not valid, an unmasked element faults the VXE with TBL. -/
def Obligations.VxeTablesEvaluate : Prop :=
  ∀ (s : State) (die : Fin 8) (w : BitVec 64), Quiet s → (vxeF w).dst < 6 →
    let v := vxeOf s die
    let f := vxeF w
    let table : List (Nat × Instr × Nat × (Nat → Nat → Exact)) := [
      (0x50, .act die w .clean, 2 * f.tpair, fun r c => exactOf (tableEval v (2 * f.tpair) (tableInput v f r c)).1),
      (0x51, .dact die w .clean, 2 * f.tpair + 1, fun r c =>
        mulExact (srcNum v f f.sb r c) (tableEval v (2 * f.tpair + 1) (tableInput v f r c)).1)]
    ∀ p ∈ table, vxeAt s die p.1 w = true →
      ((tableAt v p.2.2.1).valid = true → ∃ t : State, exec p.2.1 s = .next t ∧ OnlyVxe s t die ∧
        SheetWritten v (vxeOf t die) f.dst f.dfmt f.dint (fun r c => underMask v f r c
          (roundExact (fmtD f.dfmt) (rmD f.rmode) (fullDraw v die (rmD f.rmode) r c) (p.2.2.2 r c)).1) ∧
        (vxeOf t die).st = v.st ∧ (vxeOf t die).retired = bump v.retired) ∧
      ((tableAt v p.2.2.1).valid = false → (∃ r c : Nat, r < 256 ∧ c < 256 ∧ maskBit v f.msk r c = true) →
        ∃ u : State, exec p.2.1 s = .next (faultVxe u die) ∧ OnlyVxe s u die ∧
          (vxeOf u die).faultWord = v.faultWord ||| fwTBL ∧ (vxeOf u die).faultOff = BitVec.ofNat 32 (kernelOffset v))

/-- OPTSGD, OPTMOM and OPTAM (R147 to R153): the weight sheet DST takes, under the mask and whatever ZM says, the new weight of
each element with the tag DFMT and DINT; OPTMOM and OPTAM also write the moment m to its sheet in its own tag, OPTAM the moment v
to its own. -/
def Obligations.VxeOptimizersUpdate : Prop :=
  ∀ (s : State) (die : Fin 8) (w : BitVec 64), Quiet s → (vxeF w).dst < 6 →
    (vxeF w).sb < 6 → (vxeF w).sc < 6 → (vxeF w).sb ≠ (vxeF w).dst → (vxeF w).sc ≠ (vxeF w).dst → (vxeF w).sb ≠ (vxeF w).sc →
    let v := vxeOf s die
    let f := vxeF w
    let table : List (Nat × Instr × Nat × (Nat → Nat → OptElem)) := [
      (0x62, .optsgd die w .clean, 0, optsgdElem die f v), (0x61, .optmom die w .clean, 1, optmomElem die f v),
      (0x60, .optam die w .clean, 2, optamElem die f v)]
    ∀ p ∈ table, vxeAt s die p.1 w = true → ∃ t : State, exec p.2.1 s = .next t ∧ OnlyVxe s t die ∧
      (∀ r c : Nat, r < 256 → c < 256 →
        slotAt (vxeOf t die) f.dst r c = (if maskBit v f.msk r c then (p.2.2.2 r c).w % 2 ^ 32 else slotAt v f.dst r c) ∧
        slotAt (vxeOf t die) f.sb r c =
          (if maskBit v f.msk r c ∧ 1 ≤ p.2.2.1 then (p.2.2.2 r c).m % 2 ^ 32 else slotAt v f.sb r c) ∧
        slotAt (vxeOf t die) f.sc r c =
          (if maskBit v f.msk r c ∧ 2 ≤ p.2.2.1 then (p.2.2.2 r c).v % 2 ^ 32 else slotAt v f.sc r c)) ∧
      (sheetTag (vxeOf t die) f.dst).fmt = BitVec.ofNat 3 f.dfmt ∧ (sheetTag (vxeOf t die) f.dst).int = f.dint ∧
      sheetTag (vxeOf t die) f.sb = sheetTag v f.sb ∧ sheetTag (vxeOf t die) f.sc = sheetTag v f.sc ∧
      (vxeOf t die).retired = bump v.retired

/-- VILCON, VXE_SEED_WRITE and DRAW_COUNTER_IMAGE_WRITE (R157, R159 to R162, R165): a Vilcon kernel that ends well changes its
window's rows of sheet WS and sets the sheet's tag to WTAG and WTINT, and its instructions and the VILCON itself are counted;
one whose last instruction faults stops the VXE with that fault at its own offset; a new seed zeroes every draw counter; an image
replaces them. What the kernel computes is a free value (the Vilcon instruction set is not in the manual; log entry 20). -/
def Obligations.VilconAndDrawState : Prop :=
  ∀ (s : State) (die : Fin 8),
    (∀ (w : BitVec 64) (n : Nat), Quiet s → vxeAt s die 0x70 w = true → (vilconF w).ws < 6 →
      (∃ t : State, exec (.vilcon die w n none .clean) s = .next t ∧ t.arrays = s.arrays ∧ t.seqs = s.seqs ∧ t.mem = s.mem ∧
        (sheetTag (vxeOf t die) (vilconF w).ws).fmt = BitVec.ofNat 3 (vilconF w).wtag ∧
        (sheetTag (vxeOf t die) (vilconF w).ws).int = (vilconF w).wtint ∧
        (∀ r c : Nat, r < 256 → c < 256 → r / 32 ≠ (vilconF w).wb →
          slotAt (vxeOf t die) (vilconF w).ws r c = slotAt (vxeOf s die) (vilconF w).ws r c) ∧
        (vxeOf t die).retired = bump (bumpBy (vxeOf s die).retired n)) ∧
      (∀ (k : Fin 3) (off : U32), ∃ u : State, exec (.vilcon die w n (some (k, off)) .clean) s = .next (faultVxe u die) ∧
        (vxeOf u die).faultWord = (vxeOf s die).faultWord ||| vilconFault k ∧ (vxeOf u die).faultOff = off ∧
        (vxeOf u die).retired = bumpBy (vxeOf s die).retired n)) ∧
    (∀ (who : Ident) (seed : U32), Serving s → mayWrite s (identNat who) (objAt 0x8500 1 die) (leBytes 4 seed.toNat) = true →
      objHeld s (objAt 0x8500 1 die) = false → vxeShown s die ≠ .running → vxeShown s die ≠ .vilcon →
      (vxeOf s die).st ≠ .outOfService →
      exec (.vxeSeedWrite (.direct who) die seed) s = .next (answered
        (updVxe s die (fun v => { v with seed := seed, draws := Vector.replicate 2048 0#48 })) who 0)) ∧
    (∀ (who : Ident) (img : List Byte), img.length = 12288 → Serving s →
      mayWrite s (identNat who) (objAt 0x8500 5 die) img = true → objHeld s (objAt 0x8500 5 die) = false →
      vxeShown s die = .idle →
      exec (.drawCounterImageWrite (.direct who) die img) s = .next (answered
        (updVxe s die (fun v => { v with
          draws := Vector.ofFn (fun (l : Fin 2048) => BitVec.ofNat 48 (leNat ((img.drop (6 * l)).take 6))) })) who 0))

/-! ### Sequencers and negatives -/

/-- SEQ_NOP, JUMP, LOOP, ENDLOOP, CALL and RET (R186, R187): where the program has come to the instruction and issue is free,
they change the program counter, the loop stack and the call stack of their die and nothing else; an ENDLOOP or RET that ends
nothing leaves a free program counter (log entry 29). WAIT, WAIT_SATISFIED, SIGNAL, CLEAR and SETMB (R187, R188): a WAIT
holds issue while its counter is below its value and no longer; SIGNAL adds one to a counter of a die of its negative, which
stays at FFFFh once there; CLEAR zeroes it; SETMB loads MB. Where a word that an issue reads cannot be read (R261), the
sequencer leaves service and no instruction issues. -/
def Obligations.SequencerProgramControl : Prop :=
  (∀ (s : State) (die : Fin 8),
    (Issues s die isNop → exec (.seqNop die .clean) s = .next (updSeq s die (fun q => { q with pc := q.pc + 16#32 }))) ∧
    (∀ off : U32, Issues s die (isJump off) →
      exec (.jump die off .clean) s = .next (updSeq s die (fun q => { q with pc := off }))) ∧
    (∀ n : U32, Issues s die (isLoop n) → exec (.loop die n .clean) s = .next (updSeq s die (fun q =>
      if n = 0#32 then { q with
        pc := BitVec.ofNat 32 (afterEndloop q.mem q.progLen (q.progLen / 16) (q.pc.toNat + 16) 0) }
      else { q with pc := q.pc + 16#32, loops := { start := q.pc.toNat + 16, left := n.toNat } :: q.loops }))) ∧
    (Issues s die isEndloop →
      (∀ (f : LoopFrame) (fs : List LoopFrame), (seqOf s die).loops = f :: fs → 1 < f.left →
        exec (.endloop die .clean) s = .next (updSeq s die (fun q =>
          { q with pc := BitVec.ofNat 32 f.start, loops := { f with left := f.left - 1 } :: fs }))) ∧
      (∀ (f : LoopFrame) (fs : List LoopFrame), (seqOf s die).loops = f :: fs → f.left ≤ 1 →
        exec (.endloop die .clean) s = .next (updSeq s die (fun q => { q with pc := q.pc + 16#32, loops := fs }))) ∧
      ((seqOf s die).loops = [] → exec (.endloop die .clean) s = .next (freePc s die))) ∧
    (∀ off : U32, Issues s die (isCall off) → exec (.call die off .clean) s = .next (updSeq s die (fun q =>
      { q with pc := off, calls := CallFrame.call (q.pc.toNat + 16) :: q.calls }))) ∧
    (Issues s die isRet →
      (∀ (r : Nat) (cs : List CallFrame), (seqOf s die).calls = CallFrame.call r :: cs →
        exec (.ret die .clean) s = .next (updSeq s die (fun q => { q with pc := BitVec.ofNat 32 r, calls := cs }))) ∧
      ((seqOf s die).calls = [] → exec (.ret die .clean) s = .next (freePc s die)))) ∧
  (∀ (s : State) (die : Fin 8) (c : Fin 32),
    (∀ least : U16, Issues s die (isWait c least) → least.toNat ≤ ((seqOf s die).ctrs[c]).toNat →
      exec (.wait die c least .clean) s = .next (updSeq s die (fun q =>
        { q with pc := q.pc + BitVec.ofNat 32 (16 * (1 + q.prefetch)), prefetch := 0 }))) ∧
    (∀ least : U16, Issues s die (isWait c least) → ((seqOf s die).ctrs[c]).toNat < least.toNat →
      exec (.wait die c least .clean) s = .next (updSeq s die (fun q => { q with hold := .wait c least.toNat, st := .stalled }))) ∧
    (∀ least : Nat, (seqOf s die).hold = .wait c.val least → (seqOf s die).st = .stalled → issueStopped s die = false →
      least ≤ ((seqOf s die).ctrs[c]).toNat →
      exec (.waitSatisfied die) s = .next (updSeq s die (fun q =>
        { q with hold := .none, st := .running, pc := q.pc + BitVec.ofNat 32 (16 * (1 + q.prefetch)), prefetch := 0 }))) ∧
    (∀ peer : Fin 8, Issues s die (isSignal c peer) → sameNeg s die peer = true →
      exec (.signal die c peer .clean) s = .next (updSeq (updSeq s die (fun q => { q with pc := q.pc + 16#32 })) peer (fun q =>
        { q with ctrs := q.ctrs.set c (if q.ctrs[c] = 0xFFFF#16 then 0xFFFF#16 else q.ctrs[c] + 1#16) }))) ∧
    (Issues s die (isClear c) →
      exec (.clear die c .clean) s = .next (updSeq s die (fun q => { q with pc := q.pc + 16#32, ctrs := q.ctrs.set c 0#16 }))) ∧
    (∀ v : U16, Issues s die (isSetmb v) →
      exec (.setmb die v .clean) s = .next (updSeq s die (fun q => { q with pc := q.pc + 16#32, mb := v })))) ∧
  (∀ (s s1 : State) (die : Fin 8) (rd : ReadObs) (o : Nat) (k : ErrKind), canIssue s die = true →
    fetchCheck s die (seqOf s die).pc.toNat rd = (s1, some (o, k)) →
    ∀ p ∈ [(isNop, Instr.seqNop die rd), (isEndloop, .endloop die rd), (isRet, .ret die rd), (isStepend, .stepend die rd),
        (isHalt, .halt die rd)],
      spells (seqOf s die) (seqOf s die).pc.toNat p.1 = true →
      exec p.2 s = .next (loseSequencer s1 die (some (macroOf (.seqMem die) o))))

/-- SETX and KERNEL on an empty scoreboard (R187, R190, R133): SETX loads its register at once; a KERNEL whose VXE is free
starts, and its VXE runs from word 0 with its fault word cleared. MOVE and COLL on an empty scoreboard (R187, R191, R467):
a MOVE enters its reel's queue with MB times its stride added to the addresses it chose, and starts; a COLL is registered
with the CLE on its group. -/
def Obligations.OperationsIssue : Prop :=
  (∀ (s : State) (die : Fin 8), (seqOf s die).ops = [] →
    (∀ (x : Fin 16) (v : U32), Issues s die (isSetx x v) → exec (.setx die x v .clean) s = .next
      (updVxe (updSeq s die (fun q => { q with pc := q.pc + 16#32 })) die (fun y => { y with xs := y.xs.set x v }))) ∧
    (∀ (off count : U32) (sigc : Fin 32) (sige : Bool),
      Issues s die (fun f => isKernel off count f && hasSig sigc sige f) → islandRuns s (10 * die.val + 8) = true →
      (vxeOf s die).st = .idle ∨ (vxeOf s die).st = .faulted → (vxeOf s die).kernel = none →
      ∃ t : State, exec (.kernel die off count sigc sige .clean) s = .next t ∧
        vxeOf t die = { vxeOf s die with
          st := .running, faultWord := 0#16, faultOff := 0#32
          kernel := some { op := (seqOf s die).nextOp, offset := off.toNat, count := count.toNat, done := 0 } } ∧
        (seqOf t die).pc = (seqOf s die).pc + 16#32 ∧
        (seqOf t die).ops.map (fun o => (o.id, o.body, o.sigc, o.sige, o.started)) =
          [((seqOf s die).nextOp, OpBody.kernel off.toNat count.toNat, sigc.val, sige, true)] ∧
        t.arrays = s.arrays ∧ t.mem = s.mem ∧ t.reels = s.reels ∧ t.cle = s.cle)) ∧
  (∀ (s : State) (die : Fin 8) (sigc : Fin 32) (sige : Bool), (seqOf s die).ops = [] →
    (∀ (reel : Fin 8) (desc stride : U32) (src dst pf : Bool),
      Issues s die (fun f => isMove reel desc stride src dst pf f && hasSig sigc sige f) →
      (reelOf s (8 * die.val + reel.val)).st = .idle → (reelOf s (8 * die.val + reel.val)).queue = [] →
      ∃ (t : State) (m : Move), exec (.move die reel desc stride src dst sigc sige pf .clean) s = .next t ∧
        (reelOf t (8 * die.val + reel.val)).st = .moving ∧ (reelOf t (8 * die.val + reel.val)).queue = [m] ∧
        m.desc = descAt s die desc.toNat ∧ m.die = die.val ∧ m.op = (seqOf s die).nextOp ∧ m.started = true ∧
        m.srcAdd = (if src then (seqOf s die).mb.toNat * stride.toNat else 0) ∧
        m.dstAdd = (if dst then (seqOf s die).mb.toNat * stride.toNat else 0) ∧
        (seqOf t die).pc = (seqOf s die).pc + 16#32 ∧ (seqOf t die).ops.map (fun o => (o.id, o.sigc, o.sige, o.started)) =
          [((seqOf s die).nextOp, sigc.val, sige, true)] ∧ t.arrays = s.arrays ∧ t.vxes = s.vxes ∧ t.cle = s.cle) ∧
    (∀ (group : U8) (desc : U32) (i : Nat), Issues s die (fun f => isColl group desc f && hasSig sigc sige f) →
      groupSlotOf s die group.toNat = some i → i < 64 →
      ∃ t : State, exec (.coll die group desc sigc sige .clean) s = .next t ∧
        (slotOf t i).regs = (slotOf s i).regs ++ [{ die := die.val, desc := desc.toNat, op := (seqOf s die).nextOp }] ∧
        (seqOf t die).pc = (seqOf s die).pc + 16#32 ∧ (seqOf t die).ops.map (fun o => (o.id, o.sigc, o.sige, o.started)) =
          [((seqOf s die).nextOp, sigc.val, sige, true)] ∧
        t.arrays = s.arrays ∧ t.vxes = s.vxes ∧ t.reels = s.reels ∧ t.mem = s.mem))

/-- SCHED (R194): with 0 < M and s < S, the calls that a SCHED makes are the warm-up, the steady state and the cool-down of
R194 in that order, w = min(S − 1 − s, M) deep, and none after them; the first of them is made by the SCHED itself, and each
RET of a block that a SCHED called makes the next, or returns past the SCHED after the last. -/
def Obligations.ScheduleFollowsTheOrder : Prop :=
  (∀ p : SchedPos, p.s < p.stages → 0 < p.m →
    let w := min (p.stages - 1 - p.s) p.m
    (List.range (2 * p.m)).map (fun j => schedCall { p with calls := j }) =
      (List.range w).map (fun i => some (i, false)) ++
      (List.range (p.m - w)).flatMap (fun i => [some (w + i, false), some (i, true)]) ++
      (List.range w).map (fun i => some (p.m - w + i, true)) ∧
    ∀ j : Nat, 2 * p.m ≤ j → schedCall { p with calls := j } = none) ∧
  (∀ (s : State) (die : Fin 8) (st sn : U8) (mb : U16) (fwd bwd : U32), Issues s die (isSched st sn mb fwd bwd) →
    st.toNat < sn.toNat → mb ≠ 0#16 →
    exec (.sched die st sn mb fwd bwd .clean) s = .next (updSeq s die (fun q =>
      { q with
        mb := 0#16, pc := fwd
        calls := CallFrame.sched { s := st.toNat, stages := sn.toNat, m := mb.toNat, fwd := fwd.toNat, bwd := bwd.toNat,
                                   calls := 1, ret := q.pc.toNat + 16 } :: q.calls }))) ∧
  (∀ (s : State) (die : Fin 8) (p : SchedPos) (rest : List CallFrame), Issues s die isRet →
    (seqOf s die).calls = CallFrame.sched p :: rest →
    (∀ (i : Nat) (b : Bool), schedCall p = some (i, b) → exec (.ret die .clean) s = .next (updSeq s die (fun q =>
      { q with
        mb := BitVec.ofNat 16 i, pc := BitVec.ofNat 32 (if b then p.bwd else p.fwd)
        calls := CallFrame.sched { p with calls := p.calls + 1 } :: rest }))) ∧
    (schedCall p = none → exec (.ret die .clean) s = .next (updSeq s die (fun q =>
      { q with pc := BitVec.ofNat 32 p.ret, calls := rest }))))

/-- OPERATION_COMPLETE of a kernel that is alone on its die's scoreboard (R189, R188): the operation leaves it, the VXE is
idle, and the counter SIGC advances by one where SIGE is 1, never past FFFFh. STEPEND and HALT of a running negative that
no STOP waits on (R201, R177): a STEPEND with nothing outstanding counts the step; one with operations outstanding holds
issue; a HALT ends the die's program, and the negative is ADMITTED once every die of it has halted. -/
def Obligations.OperationAndStepEnd : Prop :=
  (∀ (s : State) (die : Fin 8) (o : OpRec) (off n : Nat) (k : KernelRun), (seqOf s die).ops = [o] → o.started = true →
    o.body = .kernel off n → (seqOf s die).hold = .none → (seqOf s die).st = .running → (vxeOf s die).st = .running →
    (vxeOf s die).kernel = some k → k.op = o.id → k.count ≤ k.done → o.sigc < 32 →
    (∀ p : Nat, partOfDie s die = some p → (negOf s p).dieMask.toNat.testBit die = true) →
    exec (.operationComplete die o.id) s = .next
      (updSeq (updVxe s die (fun v => { v with kernel := none, st := .idle })) die (fun q =>
        { q with
          ops := []
          ctrs := if o.sige then vmod q.ctrs o.sigc (fun x => if x = 0xFFFF#16 then x else x + 1#16) else q.ctrs }))) ∧
  (∀ (s : State) (die : Fin 8) (p : Nat), partOfDie s die = some p → p < 8 →
    (negOf s p).state = .running → (negOf s p).dieMask.toNat.testBit die = true →
    (Issues s die isStepend →
      ((seqOf s die).ops = [] → (seqOf s die).withdrawn = [] →
        exec (.stepend die .clean) s = .next (updSeq s die (fun q =>
          { q with pc := q.pc + 16#32, steps := bump q.steps, hold := .none, stepWrites := [], stopped := false }))) ∧
      ((seqOf s die).ops ≠ [] ∨ (seqOf s die).withdrawn ≠ [] → exec (.stepend die .clean) s = .next (updSeq s die (fun q =>
        { q with hold := .stepEnd, st := .stalled })))) ∧
    (Issues s die isHalt →
      ((∃ d ∈ negDies s p, d ≠ die.val ∧ (seqOf s d).halted = false) →
        exec (.halt die .clean) s = .next (updSeq s die (fun q => { q with halted := true, st := .idle }))) ∧
      ((∀ d ∈ negDies s p, d ≠ die.val → (seqOf s d).halted = true) →
        exec (.halt die .clean) s = .next (updNeg (updSeq s die (fun q => { q with halted := true, st := .idle })) p
          (fun n => { n with state := .admitted })))))

/-- LOAD, UNLOAD, RUN, STOP, SUSPEND and RESUME by the driver of their partition (R175, R177), from a state that R177 lists
and in steady P0 with service NORMAL: the answer is 0 and 8700h:04 reads as R177 says; STOP and LOAD change that alone; a
SUSPEND of dies with nothing outstanding ends their issue. -/
def Obligations.NegativeCommands : Prop :=
  ∀ (s : State) (p : Fin 8), Serving s → objHeld s (objAt 0x8700 3 p) = false → steadyP0 s = true →
    s.ev.service = .normal →
    ((negOf s p).state = .empty → exec (.load (.direct (.driver p)) p) s = .next (answered
      (updNeg s p (fun n => { n with state := .checking, invChanged := false })) (.driver p) 0)) ∧
    ((negOf s p).state = .running → exec (.stop (.direct (.driver p)) p) s = .next (answered
      (updNeg s p (fun n => { n with state := .stopping })) (.driver p) 0)) ∧
    ((negOf s p).state = .admitted ∨ (negOf s p).state = .failed →
      ∃ t : State, exec (.unload (.direct (.driver p)) p) s = .next (answered t (.driver p) 0) ∧
        (negOf t p).state = .empty ∧ (negOf t p).negId = 0#64 ∧ (negOf t p).groups = [] ∧ (negOf t p).mcast = 0 ∧
        t.mem = s.mem ∧ t.arrays = s.arrays ∧ t.vxes = s.vxes ∧ t.reels = s.reels) ∧
    ((negOf s p).state = .admitted ∨ ((negOf s p).state = .failed ∧ (negOf s p).unitLost = false) →
      ∃ t : State, exec (.run (.direct (.driver p)) p) s = .next (answered t (.driver p) 0) ∧
        (negOf t p).state = .running ∧ t.mem = s.mem ∧ t.vxes = s.vxes ∧ t.reels = s.reels ∧
        ∀ d ∈ negDies s p, (seqOf s d).st ≠ .outOfService → (seqOf t d).st = .running ∧ (seqOf t d).pc = 0#32 ∧
          (seqOf t d).ctrs = Vector.replicate 32 0#16 ∧ (seqOf t d).loops = [] ∧ (seqOf t d).calls = []) ∧
    ((negOf s p).state = .running → ∃ t : State, exec (.suspend (.direct (.driver p)) p) s = .next (answered t (.driver p) 0) ∧
      ((∀ d ∈ negDies s p, partOfDie s d = some p.val ∧ (seqOf s d).ops = [] ∧ (seqOf s d).hold = .none ∧
          (seqOf s d).st = .running) →
        (negOf t p).state = .suspending ∧ t.mem = s.mem ∧ t.arrays = s.arrays ∧ t.vxes = s.vxes ∧
        ∀ d ∈ negDies s p, (seqOf t d).pc = (seqOf s d).pc ∧ (seqOf t d).ops = [] ∧ canIssue t d = false))

/-- RESUME and SUSPEND_DONE of a negative with no collective group and nothing issued (R177, R205): a suspended negative is
saved die by die and goes on, die by die, from what was saved, or from what its driver has written over it. -/
def Obligations.SuspendSavesAndResumeRestores : Prop :=
  ∀ (s : State) (p : Fin 8), (negOf s p).groups = [] →
    (∀ d ∈ negDies s p, (seqOf s d).ops = [] ∧ (seqOf s d).withdrawn = []) →
    ((negOf s p).state = .suspending → (∀ d ∈ negDies s p, (seqOf s d).st ≠ .outOfService) →
      ∃ t : State, exec (.suspendDone p) s = .next t ∧ (negOf t p).state = .suspended ∧ t.mem = s.mem ∧ t.vxes = s.vxes ∧
        ∀ d ∈ negDies s p, (seqOf t d).st = .suspended ∧ (seqOf t d).ctx = some {
          pc := (seqOf s d).pc, loops := (seqOf s d).loops, calls := (seqOf s d).calls, mb := (seqOf s d).mb
          ctrs := (seqOf s d).ctrs, steps := (seqOf s d).steps, prefetch := (seqOf s d).prefetch }) ∧
    ((negOf s p).state = .suspended → Serving s → objHeld s (objAt 0x8700 3 p) = false → steadyP0 s = true →
      s.ev.service = .normal →
      (∀ d ∈ negDies s p, (seqOf s d).st = .suspended ∧ partOfDie s d = some p.val) →
      ∃ t : State, exec (.resume (.direct (.driver p)) p) s = .next (answered t (.driver p) 0) ∧
        (negOf t p).state = .running ∧ t.mem = s.mem ∧ t.vxes = s.vxes ∧
        ∀ d ∈ negDies s p, ∀ c : SeqCtx, savedCtx (seqOf s d) = some c →
          (seqOf t d).st = .running ∧ (seqOf t d).hold = .none ∧ (seqOf t d).halted = false ∧ (seqOf t d).pc = c.pc ∧
          (seqOf t d).loops = c.loops ∧ (seqOf t d).calls = c.calls ∧ (seqOf t d).mb = c.mb ∧ (seqOf t d).ctrs = c.ctrs ∧
          (seqOf t d).steps = c.steps ∧ (seqOf t d).prefetch = c.prefetch)

/-- ADMISSION_END (R178, R180, R181, R183, R280): where no injection is armed and no location is known bad, it ends a
CHECKING partition in ADMITTED with code 00h, or in EMPTY with a code, and then it has changed nothing but 8700h:04 to 8700h:08
of the partition; an image that reaches a retired page is refused with the code of one that is not there, a choice of the
model (log entry 42). -/
def Obligations.AdmissionEndsAdmittedOrRefused : Prop :=
  ∀ (s : State) (p : Fin 8), (negOf s p).state = .checking →
    ((negOf s p).invChanged = true → exec (.admissionEnd p) s = .next (updNeg s p (fun n => { n with
      state := .empty, refCode := 0x1F#8, refDie := 0xFF#8, refSect := 0xFF#8, refOff := 0#32, invChanged := false }))) ∧
    ((negOf s p).invChanged = false → Quiet s → ∀ m : Img, imageOf s p = some m →
      let k := ((addrF (negOf s p).imgAddr.toNat).map (fun a => a.unit)).getD 0
      (retiredIn s k m.base m.size = none → admitImage s p m = none →
        ∃ t : State, exec (.admissionEnd p) s = .next t ∧ (negOf t p).state = .admitted ∧
        (negOf t p).refCode = 0#8 ∧ (negOf t p).dieMask = BitVec.ofNat 8 m.dieMask ∧ t.arrays = s.arrays ∧ t.reels = s.reels ∧
        t.mem = s.mem) ∧
      (∀ (c : Nat) (f : FailAt), retiredIn s k m.base m.size = none → admitImage s p m = some (c, f) →
        exec (.admissionEnd p) s = .next (updNeg s p (fun n =>
        { n with
          state := .empty, refCode := BitVec.ofNat 8 c, refDie := BitVec.ofNat 8 f.die, refSect := BitVec.ofNat 8 f.sect
          refOff := BitVec.ofNat 32 f.off, invChanged := false }))) ∧
      (∀ page : Nat, retiredIn s k m.base m.size = some page → exec (.admissionEnd p) s = .next
        (updNeg (raiseRetiredIn s k m.base m.size) p (fun n =>
        { n with
          state := .empty, refCode := 1#8, refDie := 0xFF#8, refSect := 0xFF#8, refOff := 0#32, invChanged := false }))))

/-! ### Reels, tiers and base links -/

/-- LINK_TRANSFER (R26 to R29): a transfer with a good CRC ends the count of successive replays; one that fails its CRC is
counted and replayed; the eighth replay of one transfer in succession fails the link. -/
def Obligations.LinkTransfersReplayUpToEight : Prop :=
  ∀ (s : State) (l : Fin 56), Quiet s → (linkOf s l).failed = false →
    exec (.linkTransfer l true) s = .next (updLink s l (fun x => { x with successive := 0 })) ∧
    ((linkOf s l).successive < 7 → exec (.linkTransfer l false) s = .next (updLink s l (fun x =>
      { x with replays := bump x.replays, successive := x.successive + 1 }))) ∧
    (7 ≤ (linkOf s l).successive → ∃ t : State, exec (.linkTransfer l false) s = .next t ∧ (linkOf t l).failed = true ∧
      (linkOf t l).replays = bump (linkOf s l).replays ∧ (linkOf t l).successive = 0)

/-- REEL_COPY and FILL (R234, R236 to R239): one tile of a move whose source and destination lie tiled in this package's
tiers, within its declared regions, on a path in service whose clocks run: its bytes land at DST + i × DSTRIDE and nowhere
else, the reel counts them, and the next tile is due. -/
def Obligations.ReelTilesLandWhereTheDescriptorSays : Prop :=
  ∀ (s : State) (r : Fin 68) (m : Move) (b : Addr), Quiet s → runningMove s r = some m → reelServes s r = true →
    m.part < 8 → m.tile + 1 < (descF m.desc).nt → (descF m.desc).dlay = 0 → (descF m.desc).statw = false →
    addrF (dstAddr m m.tile) = some b → addrOwn s b = true → b.tier ≠ .host →
    accessCheck s r m.part (dstAddr m m.tile) (tileBytes (descF m.desc).efmt) true = none →
    accessRuns s r (dstAddr m m.tile) (tileBytes (descF m.desc).efmt) = true →
    let landed (t : State) (bytes : List Byte) : Prop :=
      placeLoadN t (addrPlace s m.part b) b.off (tileBytes (descF m.desc).efmt) = bytes ∧
      (∀ (pl : Place) (x : Nat), pl ≠ addrPlace s m.part b ∨ x < b.off ∨ b.off + tileBytes (descF m.desc).efmt ≤ x →
        memLoad (placeMem t pl) x = memLoad (placeMem s pl) x) ∧
      (reelOf t r).bytes = bumpBy (reelOf s r).bytes (tileBytes (descF m.desc).efmt) ∧
      runningMove t r = some { m with tile := m.tile + 1, since := s.now, parts := [], access := none }
    (moveKind m = 3 → ∃ t : State, exec (.fill r 0) s = .next t ∧
      landed t (List.replicate (tileBytes (descF m.desc).efmt) 0#8)) ∧
    (∀ a : Addr, moveKind m = 0 → (descF m.desc).slay = 0 → (descF m.desc).statr = false →
      addrF (srcAddr m m.tile) = some a → addrOwn s a = true → a.tier ≠ .host → m.parts = [] →
      tileAsked s r m m.tile = false →
      accessCheck s r m.part (srcAddr m m.tile) (tileBytes (descF m.desc).efmt) false = none →
      accessRuns s r (srcAddr m m.tile) (tileBytes (descF m.desc).efmt) = true →
      ∃ t : State, exec (.reelCopy r .clean 0) s = .next t ∧
        landed t (placeLoadN s (addrPlace s m.part a) a.off (tileBytes (descF m.desc).efmt)))

/-- SEND, RECV, IOD_REEL_DESCRIPTOR and REEL_WATCHDOG_TIMEOUT (R240, R246, R250, R251): a RECV posts itself; a SEND to
another member offers itself and, once granted, passes tile by tile; a descriptor that its checks let through joins its
queue; an access past its tier's limit ends the move with TIMEOUT and the address of the access. -/
def Obligations.FabricMovesAndWatchdogs : Prop :=
  ∀ (s : State) (r : Fin 68) (m : Move), runningMove s r = some m → reelServes s r = true →
    (moveKind m = 2 → fenced s (descF m.desc).peer = false → m.phase = .waiting → (reelOf s r).st = .moving →
      ∃ (t : State) (x : Access), exec (.recv r 0) s = .next t ∧
        runningMove t r = some { m with phase := .offered, seqno := s.mem.moves, access := some x } ∧ x.cause = 4 ∧
        x.addr = dstAddr m 0 ∧
        (reelOf t r).st = .waiting ∧ t.mem.moves = s.mem.moves + 1 ∧ t.arrays = s.arrays ∧ t.vxes = s.vxes ∧ t.seqs = s.seqs) ∧
    (moveKind m = 1 → isOwn s (descF m.desc).peer = false → fenced s (descF m.desc).peer = false →
      (m.phase = .waiting → ∃ (t : State) (x : Access), exec (.send r .clean 0) s = .next t ∧
        runningMove t r = some { m with phase := .offered, rtsAt := s.now, access := some x } ∧ x.cause = 4 ∧
        x.addr = srcAddr m 0 ∧ t.mem = s.mem ∧ t.arrays = s.arrays) ∧
      (∀ (a : Addr) (o : FlowOut), Quiet s → m.phase = .matched → m.tile + 1 < (descF m.desc).nt → (descF m.desc).slay = 0 →
        (descF m.desc).statr = false → (descF m.desc).statw = false → addrF (srcAddr m m.tile) = some a →
        addrOwn s a = true → a.tier ≠ .host → m.parts = [] → tileAsked s r m m.tile = false →
        accessCheck s r m.part (srcAddr m m.tile) (tileBytes (descF m.desc).efmt) false = none →
        accessRuns s r (srcAddr m m.tile) (tileBytes (descF m.desc).efmt) = true →
        s.fabric.flowsOut.find? (fun o => decide (o.use = .reel r m.seqno)) = some o →
        fitsWindow o (cellsFor (tileBytes (descF m.desc).efmt)) = true →
        ∃ t : State, exec (.send r .clean 0) s = .next t ∧
          runningMove t r = some { m with tile := m.tile + 1, since := s.now, parts := [], access := none } ∧ t.mem = s.mem ∧
          t.arrays = s.arrays)) ∧
    ((vget m.limits (accessCause s m) 0#32).toNat ≠ 0 → ∃ t : State, exec (.reelWatchdogTimeout r) s = .next t ∧
      (reelOf t r).lastStatus = 5#8 ∧ (reelOf t r).failAddr = BitVec.ofNat 64 (accessAddr s m)) ∧
    (∀ (k : Fin 4) (p : Fin 8) (d : BitVec 512), Serving s → objHeld s (objAt 0x8800 5 (64 + k.val)) = false →
      descReserved d = false → descLayoutBad d = false → iodOutside s p d = false → iodFull s (64 + k.val) p = false →
      (reelOf s (64 + k.val)).st ≠ .outOfService →
      ∃ t : State, exec (.iodReelDescriptor (.direct (.driver p)) k d) s = .next (answered t (.driver p) 0) ∧
        (reelOf t (64 + k.val)).queue.map (fun x => (x.desc, x.part)) =
          (reelOf s (64 + k.val)).queue.map (fun x => (x.desc, x.part)) ++ [(d, p.val)] ∧
        t.seqs = s.seqs ∧ t.arrays = s.arrays ∧ t.vxes = s.vxes)

/-- The commands of proof runs, scrubbers and the flash controller (R263, R266, R270 to R274, R291, R293, R294, R302, R727): a
queued run starts and ends; a spare row replaces a row of data that failed; a pass is counted and the next begins; a line whose
row a proof run holds is left for the next pass; a scrubber behind its limit says so; a relocated block is erased once more,
the erase counts stay level, and a block that fails or is soft for the third time is retired. -/
def Obligations.RepairAndPatrol : Prop :=
  ∀ s : State,
    (∀ (sl : Slice) (p : ProofReq), s.ev.proofs.find? (fun p => sameSlice p.slice sl) = some p → proofNext s sl = true →
      ∃ t : State, exec (.proofRunStart sl) s = .next t ∧ t.now = max s.now (p.at_ + proofDelay sl) ∧
        t.ev.proofs = s.ev.proofs.map (fun q => if sameSlice q.slice sl then { q with running := true } else q)) ∧
    (∀ (c : Fin 512) (bank row k : Nat) (p : ProofReq), s.ev.proofs.find? (fun p => sameSlice p.slice (.hbmRow c bank row)) = some p →
      p.running = true → p.inj = false → row < hbmDataRows → rowMapped (chanOf s c).maps bank row = none →
      freeSpare 32 (chanOf s c).maps (chanOf s c).deadSpares bank = some k →
      ∃ t : State, exec (.proofRunDone (.hbmRow c bank row) false false) s = .next t ∧
        chanOf t c = { chanOf s c with
          maps := (chanOf s c).maps ++ [{ bank := bank, row := row, spare := k }], spareUsed := bump (chanOf s c).spareUsed } ∧
        t.ev.proofs = s.ev.proofs.filter (fun q => !sameSlice q.slice (.hbmRow c bank row)) ∧ t.mem.hbm = s.mem.hbm) ∧
    (∀ u : Fin 24, scrubsPause s = false →
      let rec_ := vget s.mem.scrubs u ScrubS.reset
      (∀ (off : Nat) (held : Bool), Quiet s →
        let heldHere := (sliceAt s (scrubPlace u) off).any (fun sl => rowHeld s sl held)
        (∀ g : Fin 101, g.val < 100 → ∃ t : State, exec (.scrubRead u (.line off) .clean g held) s = .next t ∧
          (vget t.mem.scrubs u ScrubS.reset).progress = BitVec.ofNat 8 g.val ∧
          (vget t.mem.scrubs u ScrubS.reset).start = rec_.start ∧
          (scrubReads s u off = true → heldHere = true →
            (vget t.mem.scrubs u ScrubS.reset).skipped = rec_.skipped ++ [off / 64 * 64]) ∧
          t.mem.storePasses = s.mem.storePasses ∧ t.mem.hbmPasses = s.mem.hbmPasses ∧ t.mem.hbm = s.mem.hbm ∧ t.mem.store = s.mem.store) ∧
        (heldHere = false → ∃ t : State, exec (.scrubRead u (.line off) .clean 100 held) s = .next t ∧
          (vget t.mem.scrubs u ScrubS.reset) =
            { start := s.now, progress := 0#8, behind := false, skipped := [], owed := rec_.skipped } ∧
          t.mem.storePasses = (if u.val < 8 then bump s.mem.storePasses else s.mem.storePasses) ∧
          t.mem.hbmPasses = (if u.val < 8 then s.mem.hbmPasses else bump s.mem.hbmPasses))) ∧
      (∃ t : State, exec (.scrubBehind u) s = .next t ∧ (vget t.mem.scrubs u ScrubS.reset).behind = true ∧
        t.now = max s.now (rec_.start + scrubLimit u) ∧ t.ev.counts[0x39] = bump s.ev.counts[0x39])) ∧
    (∀ (st : Fin 2) (b target : Fin 262144) (len : Fin 16777217), (blockRec (flashOf s st) b).retired = false →
      exec (.flashBlockAged st b) s = .next (updFlash (advanceTo s ((blockRec (flashOf s st) b).written + 30 * dayNs)) st
        (fun f => setBlock f b { blockRec f b with due := true })) ∧
      ((blockRec (flashOf s st) target).retired = false → target ≠ b →
        (s.ev.proofs.filter (fun q => decide (sliceTester q.slice = (4, 0)))).length < 256 →
        (∃ t : State, exec (.flashRelocate st b .soft len .done target) s = .next t ∧
          (blockRec (flashOf s st) b).erases + 1 ≤ (blockRec (flashOf t st) b).erases ∧ unlevel (flashOf t st) = false ∧
          (blockRec (flashOf t st) b).soft = (blockRec (flashOf s st) b).soft + 1 ∧
          (blockRec (flashOf t st) b).retired = decide (3 ≤ (blockRec (flashOf s st) b).soft + 1) ∧
          ((flashOf t st).wearBytes = bumpBy (flashOf s st).wearBytes len ∨
            ∃ k : Nat, (flashOf t st).wearBytes = bumpBy (bumpBy (flashOf s st).wearBytes len) (Config.levelBytes k))) ∧
        (∃ t : State, exec (.flashRelocate st b .soft len .programFails target) s = .next t ∧
          (blockRec (flashOf t st) target).retired = true ∧ (blockRec (flashOf t st) b).retired = false) ∧
        (∃ t : State, exec (.flashRelocate st b .soft len .eraseFails target) s = .next t ∧
          (blockRec (flashOf t st) b).retired = true ∧ (blockRec (flashOf t st) target).retired = false)))

/-! ### Light -/

/-- The laser commands (R309 to R311, R343, R344, R764): enabling, its end and its timeout; disabling and its end; a lost
LSR_OK and the end of its grace; an unexpected LSR_OK; the backstop and the release of a HELD laser. -/
def Obligations.LasersFollowTheirStates : Prop :=
  ∀ (s : State) (n : Fin 16),
    (∀ who : Ident, Serving s → hasRight s (identNat who) rFABRIC = true → objHeld s (objAt 0x9000 1 n) = false →
      ((laserOf s n).st = .off → exec (.laserEnable (.direct who) n) s = .next (answered (updLaser s n (fun l =>
        { l with en := true, st := .enabling, changedAt := s.now, pending := false, reqEnable := true })) who 0)) ∧
      ((laserOf s n).st = .disabling ∨ (laserOf s n).st = .held → exec (.laserEnable (.direct who) n) s = .next (answered
        (updLaser s n (fun l => { l with pending := true, reqEnable := true })) who 0)) ∧
      ((laserOf s n).st = .enabling ∨ (laserOf s n).st = .on → ∃ t : State,
        exec (.laserDisable (.direct who) n) s = .next (answered t who 0) ∧ (laserOf t n).st = .disabling ∧
        (laserOf t n).en = false ∧ (laserOf t n).changedAt = s.now)) ∧
    ((laserOf s n).st = .enabling →
      (∃ t : State, exec (.lsrOkAssert n) s = .next t ∧ (laserOf t n).st = .on ∧ (laserOf t n).ok = true ∧
        ((laserOf s n).trimTest = true → ∀ e : Nat, e / 2 = n.val → (engOf s e).st ≠ .outOfService → (engOf t e).st = .dark)) ∧
      (∃ t : State, exec (.laserEnableTimeout n) s = .next t ∧ (laserOf t n).st = .fault ∧ (laserOf t n).en = false ∧
        t.now = max s.now ((laserOf s n).changedAt + 50000000))) ∧
    ((laserOf s n).st = .disabling → ∃ t : State, exec (.laserDisableEnd n) s = .next t ∧
      (laserOf t n).st = (if (laserOf s n).pending then .enabling else .off) ∧
      t.now = max s.now ((laserOf s n).changedAt + 500000)) ∧
    ((laserOf s n).st = .on → ∃ t : State, exec (.lsrOkDeassert n) s = .next t ∧ (laserOf t n).st = .fault ∧
      (laserOf t n).graceFrom = some s.now ∧ (laserOf t n).en = (laserOf s n).en ∧
      (laserOf t n).faults = bump (laserOf s n).faults ∧
      ∀ e : Nat, e / 2 = n.val → (engOf s e).st ≠ .outOfService → (engOf t e).st = .laserLost) ∧
    (∀ t0 : Nat, (laserOf s n).st = .fault → (laserOf s n).graceFrom = some t0 →
      ∃ t : State, exec (.laserGraceExpiry n) s = .next t ∧ (laserOf t n).st = .fault ∧ (laserOf t n).en = false ∧
        t.now = max s.now (t0 + 100000000)) ∧
    (∀ t0 : Nat, (laserOf s n).st = .fault → (laserOf s n).graceFrom = some t0 → (laserOf s n).en = true →
      ∃ t : State, exec (.lsrOkAssert n) s = .next t ∧ (laserOf t n).st = .on ∧ (laserOf t n).graceFrom = none) ∧
    ((laserOf s n).st = .off → exec (.lsrOkWhileOff n) s =
      .next (raise (updLaser s n (fun x => { x with ok := true })) 0x48 ukCHIPLET n 1)) ∧
    (∀ (q : Fin 48) (e : Nat) (launch : U16), engineOfPort s q = some e → (optPortOf s q).safelight = true →
      (optPortOf s q).backstopRead = false → ∃ t : State, exec (.safelightBackstop q launch) s = .next t ∧
        (optPortOf t q).backstopRead = true ∧ t.now = max s.now ((optPortOf s q).enteredAt + 1000000) ∧
        (501 < launch.toNat → (laserOf t (e / 2)).st = .held ∧ (laserOf t (e / 2)).en = false ∧
          t.optics.backstops = bump s.optics.backstops) ∧
        (launch.toNat ≤ 501 → t.optics.lasers = s.optics.lasers ∧ t.optics.backstops = s.optics.backstops)) ∧
    ((laserOf s n).st = .held → (laserOf s n).pending = true → s.optics.shroudOpen = false →
      ∃ t : State, exec (.heldRelease n none none) s = .next t ∧ (laserOf t n).st = .enabling ∧ (laserOf t n).en = true ∧
        t.now = max s.now (s.optics.shroudClosedAt + 1000000000))

/-- The focus loops and what detects a lost or wrong line (R321, R322, R325 to R328, R335 to R337, R380). -/
def Obligations.FocusLoopsDriveAndDetect : Prop :=
  ∀ (s : State) (e : Fin 32) (i : Fin 240),
    (loopRuns s.now (ringOf s e i) = true → ∀ feedback detuning : Int,
      let h := clampHeater (feedback - forwardOf s e i (ringOf s e i))
      (-60 ≤ detuning → detuning ≤ 60 →
        ∃ t : State, exec (.focusLoopUpdate e i feedback detuning) s = .next t ∧ (ringOf t e i).feedback = feedback ∧
          (ringOf t e i).detuning = detuning ∧ (ringOf t e i).heater = h ∧ t.optics.lanes = s.optics.lanes) ∧
      (h = 0 ∨ h = heaterMax → detuning < -60 ∨ 60 < detuning → (laneOf s (16 * e.val + ringLane i)).st = .inService →
        ∃ t : State, exec (.focusLoopUpdate e i feedback detuning) s = .next t ∧
          (laneOf t (16 * e.val + ringLane i)).st = .relocking ∧ (engOf t e).lockLosses = bump (engOf s e).lockLosses)) ∧
    (∀ t0 : Nat, (ringOf s e i).offFrom = some t0 → loopRuns s.now (ringOf s e i) = true →
      (laneOf s (16 * e.val + ringLane i)).st = .inService →
      ∃ t : State, exec (.lockLost e i) s = .next t ∧ (laneOf t (16 * e.val + ringLane i)).st = .relocking ∧
        (engOf t e).lockLosses = bump (engOf s e).lockLosses ∧ t.now = max s.now (t0 + 10000)) ∧
    (∀ t0 : Nat, (ringOf s e i).limitFrom = some t0 → (ringOf s e i).limitRaised = false →
      ∃ t : State, exec (.heaterLimit e i) s = .next t ∧ (ringOf t e i).limitRaised = true ∧
        t.ev.counts[0x49] = bump s.ev.counts[0x49] ∧ t.now = max s.now (t0 + 10000000)) ∧
    (Quiet s → loopAt s e i = .locked → ringReceives i = false → (laserOf s (e.val / 2)).st = .on →
      (∀ j : Fin 16, j.val = ringLane i →
        exec (.pilotWindow e i (some j)) s = .next (updRing s e i (fun r => { r with noTone := 0 }))) ∧
      (∀ j : Fin 16, j.val ≠ ringLane i → laneWatched (laneOf s (16 * e.val + ringLane i)) = true →
        ∃ t : State, exec (.pilotWindow e i (some j)) s = .next t ∧
          (laneOf t (16 * e.val + ringLane i)).st = .relocking ∧ (engOf t e).mislocks = bump (engOf s e).mislocks ∧
          ((laneOf s (16 * e.val + j.val)).outFor = none → (laneOf t (16 * e.val + j.val)).st ≠ .inService)) ∧
      ((ringOf s e i).noTone = 0 → exec (.pilotWindow e i none) s = .next (updRing s e i (fun r => { r with noTone := 1 })))) ∧
    (∀ (l : Fin 512) (q : Nat), (laneOf s l).st = .inService → (engOf s (l.val / 16)).port = some q → q < 48 →
      (∃ t : State, exec (.markerMissing l) s = .next t ∧ (laneOf t l).st = .relocking) ∧
      (Quiet s → ∀ m : U64, bits m.toNat 63 56 = 0xA5 →
        (bits m.toNat 3 0 ≠ l.val % 16 → ∃ t : State, exec (.laneIdMarker l m) s = .next t ∧ (laneOf t l).st = .relocking) ∧
        (bits m.toNat 3 0 = l.val % 16 →
          (bits m.toNat 14 9 = (portOf s q).port.toNat → bits m.toNat 30 15 = (portOf s q).member.toNat →
            engineFits (bits m.toNat 8 4) (portOf s q).port.toNat = true →
            exec (.laneIdMarker l m) s = .next (updLane s l (fun x => { x with heard := true }))) ∧
          (bits m.toNat 14 9 ≠ (portOf s q).port.toNat ∨ bits m.toNat 30 15 ≠ (portOf s q).member.toNat →
            (portOf s q).outcome = 5#8 → (portOf s q).heard = true →
            ∃ t : State, exec (.laneIdMarker l m) s = .next t ∧ (portOf t q).dark = true ∧ (portOf t q).outcome = 0#8)))) ∧
    (s.optics.calib.inForce ≠ none → ∀ (die : Fin 8) (mw : Nat) (rest : List Nat), e.val / 8 = die.val / 2 →
      let ff := calEntry s 0xF100 e i
      let p : Int := (mw : Int) * 1000000
      ∀ c ∈ [Instr.powerSample die mw, .tripNotice die mw],
        (c = .tripNotice die mw → (vget s.power.dies die DiePowerS.reset).notices = mw :: rest) →
        ∃ t : State, exec c s = .next t ∧
        (ringOf t e i).y0 = (if die.val % 2 = 0 then
          (ringOf s e i).y0 + ffStep (bits ff 47 32) (p - (ringOf s e i).y0) else (ringOf s e i).y0) ∧
        (ringOf t e i).y1 = (if die.val % 2 = 0 then (ringOf s e i).y1 else
          (ringOf s e i).y1 + ffStep (bits ff 63 48) (p - (ringOf s e i).y1)) ∧
        t.optics.lanes = s.optics.lanes ∧ t.optics.lasers = s.optics.lasers) ∧
    (∀ (q : Fin 48) (fm fr fd : Int), (engOf s e).st = .inService → (engOf s e).port = some q.val → (engOf s e).resweepLane < 16 →
      (∀ l ∈ lanesOf e, (laneOf s l).st = .inService) →
      ∃ t : State, exec (.resweep e fm fr fd) s = .next t ∧
        (ringOf t e (engOf s e).resweepLane).feedback = fm ∧ (ringOf t e (rxRing q (engOf s e).resweepLane)).feedback = fr ∧
        (ringOf t e (32 + (engOf s e).resweepLane)).feedback = fd ∧
        (laneOf t (16 * e.val + (engOf s e).resweepLane)).outUntil = t.now + 300000 ∧
        (engOf t e).resweepLane = ((engOf s e).resweepLane + 1) % 16 ∧
        t.now = max s.now ((engOf s e).resweepAt + 3750000000))

/-- A lane's training, relock, proof run and requalification (R323, R324, R329 to R333, R729). -/
def Obligations.LanesTrainRelockAndFail : Prop :=
  ∀ (s : State) (l : Fin 512),
    ((laneOf s l).st = .training →
      (∀ trim : Fin 201, ∃ t : State, exec (.laneTrained l trim) s = .next t ∧ (laneOf t l).st = .inService ∧
        (laneOf t l).trim = BitVec.ofNat 8 trim ∧ (engOf t (l.val / 16)).st = .inService) ∧
      (∃ t : State, exec (.laneTrainingTimeout l) s = .next t ∧ (laneOf t l).st = .failed ∧ (laneOf t l).fail = 4#8 ∧
        (laneOf t l).trim = 200#8 ∧ t.now = max s.now ((laneOf s l).trainFrom + 100000000))) ∧
    (∀ (r : Relock) (before : Option (Fin 16)), (laneOf s l).relock = some r → s.ev.proofs = [] →
      let heater (i : Nat) : Int := relockHeater s (l.val / 16) (l.val % 16) i (before.map (fun j => j.val))
      ((∀ i ∈ r.rings, 0 ≤ heater i ∧ heater i ≤ heaterMax) →
        ∀ j : Fin 16, j.val = l.val % 16 → ∃ t : State, exec (.relockAttemptDone l (some j) before) s = .next t ∧
          t.ev.proofs = [{ slice := .lane l, at_ := s.now, inj := false, persist := false, running := false }] ∧
          (engOf t (l.val / 16)).attempts = bump (engOf s (l.val / 16)).attempts) ∧
      (r.attempt < 2 → ∃ (t : State) (r1 : Relock), exec (.relockAttemptDone l none before) s = .next t ∧
        (laneOf t l).relock = some r1 ∧ r1.attempt = r.attempt + 1 ∧ r1.rings = r.rings ∧
        (engOf t (l.val / 16)).attempts = bump (engOf s (l.val / 16)).attempts) ∧
      (r.attempt = 2 → r.limited = false → ∃ t : State, exec (.relockAttemptDone l none before) s = .next t ∧
        (laneOf t l).st = .failed ∧ (laneOf t l).fail = (if r.named then 1#8 else 2#8))) ∧
    (∀ p : ProofReq, s.ev.proofs = [p] → p.slice = .lane l → p.persist = false → (laneOf s l).st = .relocking →
      ((laneOf s l).outFor = none → ∃ t : State, exec (.laneProofRunDone l true) s = .next t ∧ (laneOf t l).st = (laneOf s l).home ∧
        (laneOf t l).transient = bump (laneOf s l).transient ∧ t.ev.proofs = []) ∧
      (∃ t : State, exec (.laneProofRunDone l false) s = .next t ∧ (laneOf t l).st = .failed ∧ (laneOf t l).fail = 5#8)) ∧
    ((laneOf s l).st = .inService → s.ev.proofs = [] →
      16 < ((laneOf s l).badAt.filter (fun b => decide (s.now < b.1 + 1000000000))).length →
      ∃ t : State, exec (.laneCodewords l) s = .next t ∧ (laneOf t l).st = .relocking ∧ (laneOf t l).home = .inService ∧
        t.ev.proofs.map (fun p => p.slice) = [Slice.lane l]) ∧
    (∀ (who : Ident), Serving s → hasRight s (identNat who) rFABRIC = true → objHeld s (objAt 0x8E00 9 (l.val / 16)) = false →
      s.ev.proofs = [] → (laneOf s l).st = .failed → (laneOf s l).returning = false →
      ∃ t : State, exec (.requalifyLane (.direct who) ⟨l.val / 16, by omega⟩ (BitVec.ofNat 16 (2 ^ (l.val % 16)))) s =
          .next (answered t who 0) ∧ (laneOf t l).st = .requalifying ∧ t.ev.proofs.map (fun p => p.slice) = [Slice.lane l])

/-- Safelight mode (R339 to R345): an open shroud, lost light and HOLD bring lit ports into it; four READY words received, four
sent, the shroud closed for 1 s and the laser ON bring a port out, into training. -/
def Obligations.SafelightModeIsEnteredAndLeft : Prop :=
  ∀ s : State,
    (s.optics.shroudOpen = false → ∃ t : State, exec .shroudOpen s = .next t ∧ t.optics.shroudOpen = true ∧
      ∀ q : Nat, q < 48 → portLit s q = true → (optPortOf t q).safelight = true) ∧
    (s.optics.shroudOpen = true → exec .shroudClose s = .next (raise
      (updOptics s (fun o => { o with shroudOpen := false, shroudClosedAt := s.now })) 0x0F ukPACKAGE 0 0)) ∧
    (∀ (q : Fin 48) (e : Nat), engineOfPort s q = some e → portLit s q = true →
      ((optPortOf s q).safelight = false → (engOf s e).st = .training ∨ (engOf s e).st = .inService →
        ∃ t : State, exec (.rxPowerLoss q) s = .next t ∧ (optPortOf t q).safelight = true ∧ (optPortOf t q).noLight = true ∧
          (engOf t e).st = .safe ∧ t.optics.entries = bump s.optics.entries) ∧
      ((optPortOf s q).safelight = true → (engOf s e).st = .safe → exec (.rxPowerLoss q) s = .next
        (updOptPort s q (fun p => { p with noLight := true, recvReady := 0, recvHold := 0 }))) ∧
      (∀ w : U32, bits w.toNat 15 0 = 0x9C5A →
        (bits w.toNat 17 16 = 1 → ∃ t : State, exec (.beaconWord q w) s = .next t ∧
          (optPortOf t q).recvReady = min 4 ((optPortOf s q).recvReady + 1) ∧ (optPortOf t q).recvHold = 0 ∧
          (optPortOf t q).noLight = false ∧ (optPortOf t q).safelight = (optPortOf s q).safelight ∧
          t.now = max s.now ((optPortOf s q).lastBeacon + 25600)) ∧
        (bits w.toNat 17 16 = 2 → 3 ≤ (optPortOf s q).recvHold → ∃ t : State, exec (.beaconWord q w) s = .next t ∧
          (optPortOf t q).safelight = true)) ∧
      ((optPortOf s q).safelight = true → s.optics.shroudOpen = false → (laserOf s (e / 2)).st = .on →
        (optPortOf s q).noLight = false → 4 ≤ (optPortOf s q).recvReady → ∃ t : State, exec (.safelightExit q) s = .next t ∧
          (optPortOf t q).safelight = false ∧ (engOf t e).st = .training ∧
          (∀ k : Nat, k < 16 → laneFailed s e k = false → (laneOf t (16 * e + k)).st = .training) ∧
          t.now = max s.now (max (s.optics.shroudClosedAt + 1000000000)
            (max (max (optPortOf s q).readyFrom (optPortOf s q).beaconFrom) s.optics.shroudClosedAt + 102400))))

/-- The calibration set (R351, R352): a write stages an image; a commit checks it; the finished write replaces the stored set
with ORIGIN 01h and counts the commit. -/
def Obligations.CalibrationStagesChecksAndCommits : Prop :=
  ∀ (s : State) (who : Ident), Serving s → hasRight s (identNat who) rCALIB = true →
    objHeld s (objAt 0x2800 3 0) = false → objHeld s (objAt 0x2800 5 0) = false → s.optics.calib.state ≠ .committing →
    (∀ img : List Byte, img.length = 145664 → exec (.calibrationStage (.direct who) img) s = .next (answered
      (updCalib s (fun c => { c with staged := some img, state := .staged })) who 0)) ∧
    (∀ img : List Byte, s.optics.calib.staged = some img → exec (.calibrationCommit (.direct who)) s = .next (answered
      (updCalib s (fun c => { c with state := if calChecks img then .committing else .invalid })) who 0)) ∧
    (∀ (img : List Byte) (u : State), u.optics.calib.state = .committing → u.optics.calib.staged = some img →
      exec .calibrationWritten u = .next (raise (updCalib u (fun c => { c with
        stored := .user (img.take 6 ++ [1#8] ++ img.drop 7), staged := none, state := .none, commits := bump c.commits }))
        0x4A ukPACKAGE 0 0))

/-! ### The fabric -/

/-- Discovery (R373 to R382, R393): a record is evaluated by R375 and kept; a lit port without one for 100 ms reads NONE; the
rounds of R378 give the engines their ports; a neighbour without a word for 10 ms is lost. -/
def Obligations.DiscoveryEvaluatesRecordsAndRunsItsRounds : Prop :=
  ∀ s : State,
    (∀ (who : Ident) (at_ : U64), Serving s → hasRight s (identNat who) rFABRIC = true → objHeld s (objAt 0x2A00 7 0) = false →
      anyHeld s = false → exec (.discoveryStart (.direct who) at_) s = .next (answered
        (updFabric s (fun x => { x with
          discAt := some at_.toNat, discPlaced := false, discState := if x.discState = 3#8 then 3#8 else 0#8 })) who 0)) ∧
    (∀ at_ : Nat, s.fabric.discAt = some at_ →
      (s.fabric.discState = 0#8 ∨ s.fabric.discState = 3#8 → ∃ t : State, exec .discoveryRoundA s = .next t ∧ t.fabric.discState = 1#8 ∧
        ∀ e : Nat, e < 32 → (engOf s e).st ≠ .outOfService → (engOf t e).port = some (6 * (e / 4) + e % 4)) ∧
      (s.fabric.discState = 1#8 → ∃ t : State, exec .discoveryRoundB s = .next t ∧ t.fabric.discState = 2#8 ∧
        ∀ e : Nat, e < 32 → e % 4 < 2 → (engOf s e).st ≠ .outOfService → (engOf t e).port = some (6 * (e / 4) + 4 + e % 4)) ∧
      (s.fabric.discState = 2#8 → s.fabric.discPlaced = false → s.fabric.sheet = [] →
        ∃ t : State, exec .discoveryFinish s = .next t ∧ t.fabric.discPlaced = true ∧
        ∀ e : Nat, e < 32 → (engOf s e).st ≠ .outOfService → (engOf t e).port = some (6 * (e / 4) + e % 4)) ∧
      (s.fabric.discState = 2#8 → s.fabric.discPlaced = true → exec .discoveryDone s =
        .next (raise (updFabric s (fun x => { x with discState := 3#8, discAt := none })) 0x50 ukPACKAGE 0 0))) ∧
    (∀ q : Fin 48, portLit s q = true → (portOf s q).dark = false →
      (∀ rec_ : BitVec 256, ∃ t : State, exec (.discoveryRecord q rec_) s = .next t ∧
        portOf t q = { portOf s q with
          member := BitVec.ofNat 16 (bits rec_.toNat 15 0), port := BitVec.ofNat 8 (bits rec_.toNat 21 16)
          serial := BitVec.ofNat 64 (bits rec_.toNat 127 64), csid := BitVec.ofNat 32 (bits rec_.toNat 63 32)
          records := bump (portOf s q).records, heard := true, outcome := BitVec.ofNat 8 (outcomeOf s q rec_.toNat)
          dark := decide (outcomeOf s q rec_.toNat ≠ 5)
          ready := (portOf s q).ready && decide (outcomeOf s q rec_.toNat = 5) } ∧
        t.optics.lasers = s.optics.lasers) ∧
      ((portOf s q).heard = false → ∃ t : State, exec (.discoveryRecordTimeout q) s = .next t ∧ (portOf t q).outcome = 1#8 ∧
        (portOf t q).dark = true ∧ t.now = max s.now ((portOf s q).litAt + 100000000)) ∧
      (∀ y k : Nat, expected s q = some (y, k) → (∀ p : Nat, p < 48 → portLit s p = true → (expected s p).map Prod.fst = some y →
          (optPortOf s p).safelight = true ∧ (portOf s p).lostRaised = false) →
        ∃ t : State, exec (.memberLost q) s = .next t ∧ t.ev.counts[0x54] = bump s.ev.counts[0x54] ∧ (portOf t q).lostRaised = true))

/-- CODEWORD_RECEIVED, CONTROL_PAIR, CELL_ROUTE and CELL_RECEIVE (R410 to R412, R414, R416, R425, R426, R441, R457): codewords
are counted; credits return; a cell for elsewhere frees its input slot and is queued on the hop that the router chooses, or
dropped and reported; a cell of an open flow is counted once, a copy answered, a cell that fails its check dropped. -/
def Obligations.CellsAreRoutedAndCounted : Prop :=
  ∀ s : State, Quiet s →
    (∀ l : Fin 512, exec (.codewordReceived l .clean) s = .next s ∧
      exec (.codewordReceived l .corrected) s = .next (updFabric s (fun x => { x with corrected := bump x.corrected })) ∧
      ∃ t : State, exec (.codewordReceived l .uncorrectable) s = .next t ∧ t.fabric.uncorr = bump s.fabric.uncorr ∧
        (laneOf t l).badAt.getLast? = some (s.now, false) ∧ (laneOf t l).badAt.length ≤ 17) ∧
    (∀ (q : Fin 48) (vc : Fin 5) (pool : Fin 3) (n : Nat), exec (.controlPair q (.credits vc pool n)) s = .next (updOut s q
      (fun o => { o with credits := vmod o.credits vc (fun v => vmod v pool (fun k => k + n)) })) ∧
      exec (.controlPair q .idle) s = .next s ∧ exec (.controlPair q .mixed) s = .next s) ∧
    (∀ (q : Fin 48) (c : BitVec 512), portCarries s q = true → (cellF c).typ ≠ 0 → (cellF c).typ ≠ 2 → (cellF c).vc < 5 →
      let freed := emit s (.credit q (cellF c).vc (if (cellF c).esc then (cellF c).ecl + 1 else 0))
      (isOwn s (cellF c).dmem = true → exec (.cellRoute q c) s = .next freed) ∧
      (isOwn s (cellF c).dmem = false → fenceActs s (cellF c).dmem = true → exec (.cellRoute q c) s = .next (dropRoute freed)) ∧
      (isOwn s (cellF c).dmem = false → fenceActs s (cellF c).dmem = false →
        (∀ p cls : Nat, route s (cellF c) (dimOfPort q) = .out p cls → exec (.cellRoute q c) s = .next (enqueue freed p cls c)) ∧
        (route s (cellF c) (dimOfPort q) = .unreachable →
          exec (.cellRoute q c) s = .next (raiseUnreach (dropRoute freed) (cellF c).dmem)))) ∧
    (∀ c : BitVec 512, ingressClosed s = false → fenced s (cellF c).smem = false →
      (cellGood c = false → exec (.cellReceive c) s = .next (dropCheck s)) ∧
      (∀ i : FlowIn, cellGood c = true → (cellF c).typ = 1 → (cellF c).vc < 5 → isOwn s (cellF c).dmem = true → (cellF c).dep < 10 →
        flowInOf s (cellF c).dep (cellF c).flow = some i → i.peer = (cellF c).smem → i.peerEp = (cellF c).sep →
        ((cellF c).seq = flowB i → i.got.contains i.base = false → i.lasts = [] → (cellF c).last = false →
          (cellF c).acknow = false → i.unacked < 63 → ∃ (t : State) (ps : List (Nat × List Byte)), exec (.cellReceive c) s = .next t ∧
            flowInOf t (cellF c).dep (cellF c).flow = some { countCell s.now i.base (cellF c).cm i with parts := ps } ∧
            t.mem = s.mem) ∧
        ((cellF c).seq + 1 = flowB i → 0 < i.base → ∃ t : State, exec (.cellReceive c) s = .next t ∧
          t.fabric.dups = bump s.fabric.dups ∧ t.mem = s.mem ∧ t.reels = s.reels)))

/-- Acknowledgement, resend and rates (R427 to R430, R437 to R440): an ACK of a flow of no multicast tree goes 4 µs after a
cell, and frees what it covers; a NAK marks a gap of 20 µs, and what it marks is resent; the resend timer doubles; a rate rises by 2.34 GB/s. -/
def Obligations.AcknowledgementAndResend : Prop :=
  ∀ s : State,
    (∀ (ep : Fin 16) (slot : Fin 4096) (i : FlowIn), flowInOf s ep slot = some i →
      (i.unacked ≠ 0 → isTree i.use = false → ∃ t : State, exec (.ackTimer ep slot) s = .next t ∧
        flowInOf t ep slot = some { i with cm := 0, marked := 0, unacked := 0 } ∧ t.now = max s.now (i.unackedAt + 4000)) ∧
      (hasGap i = true → ∃ t : State, exec (.nakTimer ep slot) s = .next t ∧
        flowInOf t ep slot = some { i with missAt := max s.now (i.missAt + 20000) })) ∧
    (∀ (c : BitVec 512) (o : FlowOut), fencedOff s c = false → flowOutOf s (cellF c) = some o →
      (controlOk s c 3 = true → bits (cellF c).payload 31 24 = 0 → ∀ up : Nat,
        up = (bits (cellF c).payload 23 0 + 2 ^ 24 - (o.first + o.low) % 2 ^ 24) % 2 ^ 24 → 0 < up → o.low + up < o.next →
        exec (.ackReceived c) s = .next (updFlowOut s o.ep o.peer o.peerEp o.slot (fun y => { y with
          low := o.low + up, cells := y.cells.filter (fun p => decide (o.low + up ≤ p.1))
          shown := ((List.range 256).filter (fun k => (cellF c).payload.testBit (64 + k))).map (fun k => o.low + up + 1 + k)
          timer := 100000, timerAt := s.now, expiries := 0
          resentAt := y.resentAt.filter (fun p => decide (o.low + up ≤ p.1)) }))) ∧
      (controlOk s c 4 = true → bits (cellF c).payload 23 0 = (o.first + o.low) % 2 ^ 24 →
        (∀ k : Nat, k < 256 → (cellF c).payload.testBit (64 + k) = false) → o.resentAt = [] →
        ∀ d : BitVec 512, lookupNat o.low o.cells = some d → ∃ t : State, exec (.nakReceived c) s = .next t ∧
          t.fabric.resent = bump s.fabric.resent ∧ t.mem = s.mem ∧ t.reels = s.reels)) ∧
    (∀ (ep : Fin 16) (peer : U16) (peerEp : Fin 16) (slot : Fin 4096) (o : FlowOut),
      s.fabric.flowsOut.find? (fun o => sameFlowOut o ep peer.toNat peerEp slot) = some o → o.low ≠ o.next →
      ∃ (t : State) (p : FlowOut), exec (.resendTimer ep peer peerEp slot) s = .next t ∧
        t.fabric.flowsOut.find? (fun o => sameFlowOut o ep peer.toNat peerEp slot) = some p ∧
        p.timer = min 1600000 (2 * o.timer) ∧ p.timerAt = max s.now (o.timerAt + o.timer) ∧ p.expiries = o.expiries + 1 ∧
        p.low = o.low ∧ p.next = o.next ∧ p.cells = o.cells ∧ p.stalled = (o.stalled || decide (64 ≤ o.expiries + 1))) ∧
    (∀ (member : U16) (vc : Fin 5) (r : RateCtx),
      s.fabric.rates.find? (fun r => decide (r.member = member.toNat ∧ r.vc = vc.val)) = some r → r.held = 0 →
      ∃ (t : State) (r2 : RateCtx), exec (.rateIncrease member vc) s = .next t ∧
        t.fabric.rates.find? (fun r => decide (r.member = member.toNat ∧ r.vc = vc.val)) = some r2 ∧
        r2.rate = min 2050000000 (r.rate + 2340000) ∧ t.now = max s.now (r.echoAt + 16000))

/-- Rendezvous and board loads (R240, R241, R423, R424, R435, R621): an offer that meets its RECV is granted a slot, one of
another shape ends it with SIZE; a GRANT opens the sender's flow; an offer without one goes again; a load that a grant admits
is answered by a flow, and one that none admits is refused. The CLE's offers and grants go the same way (R468, R472). -/
def Obligations.RendezvousAndBoardLoads : Prop :=
  ∀ s : State, ingressClosed s = false → ∀ (peer : U16), fenced s peer.toNat = false →
    (∀ (ep peerEp : Fin 16) (tag : U16) (nt : U32) (efmt : Fin 8) (eint : Bool) (sig : U64) (r : Nat) (m : Move), ep.val ≠ 8 →
      grantedFlow s ep peer.toNat peerEp tag.toNat = none → matchRecv s ep peer.toNat tag.toNat = some r →
      runningMove s r = some m →
      (∀ k : Nat, freeSlot s ep = some k → (descF m.desc).nt = nt.toNat → (descF m.desc).efmt = efmt.val →
        (descF m.desc).eint = eint → ∃ t : State, exec (.rtsReceived ep peer peerEp tag nt efmt eint sig) s = .next t ∧
          runningMove t r = some { m with phase := .matched, flow := k } ∧
          t.fabric.flowsIn = s.fabric.flowsIn ++ [newFlowIn s ep k peer.toNat peerEp (.reel r m.seqno)] ∧ t.mem = s.mem) ∧
      ((descF m.desc).nt ≠ nt.toNat → ∃ t : State, exec (.rtsReceived ep peer peerEp tag nt efmt eint sig) s = .next t ∧
        (reelOf t r).lastStatus = 9#8)) ∧
    (∀ (r : Fin 68) (m : Move), runningMove s r = some m → moveKind m = 1 → m.phase = .offered →
      isOwn s (descF m.desc).peer = false → ∃ t : State, exec (.rtsRepeat (.reel r)) s = .next t ∧
        runningMove t r = some { m with rtsAt := max s.now (m.rtsAt + 100000) }) ∧
    (∀ (i : Fin 64) (t0 : Nat), lookupNat peer.toNat (slotOf s i).offers = some t0 →
      (slotOf s i).st = .agreeing ∨ (slotOf s i).st = .running →
      exec (.rtsRepeat (.call i peer)) s = .next (sendCallRts (advanceTo s (t0 + 100000)) i peer.toNat)) ∧
    (∀ (peerEp : Fin 16) (tag : U16) (slot : Fin 4096) (first : Fin 16777216) (i : Nat), slotOfTag s peer.toNat tag.toNat = some i →
      (slotOf s i).offers.any (fun o => decide (o.1 = peer.toNat)) = true →
      ∃ t : State, exec (.grantReceived 8 peer peerEp tag slot first false) s = .next t ∧
        t.fabric.flowsOut = s.fabric.flowsOut ++ [newFlowOut s 8 peer.toNat peerEp slot 1 first (.cle i)] ∧ t.mem = s.mem) ∧
    (∀ (ep peerEp : Fin 16) (tag : U16) (slot : Fin 4096) (first : Fin 16777216) (r : Nat) (m : Move), ep.val ≠ 8 →
      grantedSend s ep peer.toNat peerEp tag.toNat = some r → runningMove s r = some m →
      ∃ t : State, exec (.grantReceived ep peer peerEp tag slot first false) s = .next t ∧
        runningMove t r = some { m with phase := .matched, flow := slot.val, access := none } ∧
        t.fabric.flowsOut = s.fabric.flowsOut ++
          [newFlowOut s ep peer.toNat peerEp slot (if (descF m.desc).vcb then 3 else 2) first (.reel r m.seqno)] ∧ t.mem = s.mem) ∧
    (∀ (peerEp : Fin 16) (slot : Fin 4096) (first : Fin 16777216) (addr : U64) (lay : Fin 4) (efmt : Fin 8) (pitch : U16) (a : Addr),
      addrF addr.toNat = some a →
      let span := if lay.val = 3 then 1 else tileSpan lay efmt pitch.toNat
      (a.tier ≠ .hbm ∧ a.tier ≠ .store ∨
          boardAdmits s (peer.toNat % 4) peerEp (bits addr.toNat 55 52) a.unit a.off span false = false →
        exec (.breadReceived peer peerEp slot first addr lay efmt pitch .clean) s = .next
          (sendControl s 8 peer.toNat peerEp (a.unit % 8) slot (Config.ctrlPayload 8 [slot, 6]))) ∧
      (Quiet s → peerAccess s peer.toNat peerEp addr.toNat a span false = 0 →
        ∃ t : State, exec (.breadReceived peer peerEp slot first addr lay efmt pitch .clean) s = .next t ∧
          t.fabric.flowsOut.any (fun o => sameFlowOut o a.unit peer.toNat peerEp slot) = true ∧ t.mem = s.mem)) ∧
    (∀ (r : Fin 68) (m : Move) (i : FlowIn), runningMove s r = some m → i.base = 0 →
      s.fabric.flowsIn.find? (fun i => decide (i.use = .load r m.seqno)) = some i →
      exec (.breadRepeat r) s = .next (sendControl s 7 i.peer i.peerEp i.ep i.slot
        (breadPayload i.slot i.first (if loadsTile s m then askTile m else askStat m))))

/-! ### Collectives -/

/-- How a call begins, agrees, is aborted and waits (R467, R470 to R473, R498, R500 to R504): CALL_BEGIN, AGREE_RECEIVED,
AGREE_REPEAT, STRAGGLER, ABORT_RECEIVED, ABORT_REPEAT, ABORT_ACK_RECEIVED, COLL_ABORT_WRITE and CALL_CONTEXT_WRITE. -/
def Obligations.CallsBeginAgreeAndAbort : Prop :=
  ∀ (s : State) (i : Fin 64), (slotOf s i).owner ≠ 0xFF#8 →
    ((slotOf s i).st = .idle ∨ (slotOf s i).st = .ending → (slotOf s i).dmask ≠ 0 → (∀ k ∈ slotDies (slotOf s i), (regOfDie (slotOf s i) k).isSome = true) →
      groupFenced s (slotOf s i) = false → heldAbort (slotOf s i) = none →
      (∀ f : GroupSlot → GroupSlot, callMaps (updSlot s i f) (slotOf s i) = (updSlot s i f, none)) →
      ∀ a : Nat, partnerNow s { slotOf s i with dimAt := 0 } = some a →
        (∀ r ∈ (slotOf s i).agrees, ¬(r.peer = a ∧ r.call = (slotOf s i).call.toNat)) →
        ∃ t : State, exec (.callBegin i) s = .next t ∧ (slotOf t i).st = .agreeing ∧ (slotOf t i).dimAt = 0 ∧
          (slotOf t i).call = (slotOf s i).call ∧ (slotOf t i).agreeAt = s.now ∧ (slotOf t i).threshold = s.cle.threshold ∧
          (slotOf t i).sig = signature { slotOf s i with threshold := s.cle.threshold, interval := s.cle.interval }
            (callDesc s (slotOf s i)) ∧
          (slotOf t i).ok = decide (localDetail s { slotOf s i with threshold := s.cle.threshold, interval := s.cle.interval } = 0)) ∧
    ((slotOf s i).st = .agreeing → ∀ (peer : U16) (sig : U64), partnerNow s (slotOf s i) = some peer.toNat →
      (slotOf s i).dimAt + 1 = (setBits 13 (slotOf s i).dims).length → (slotOf s i).ok = true → ingressClosed s = false →
      fenced s peer.toNat = false →
      (sig.toNat = (slotOf s i).sig → ∃ t : State,
        exec (.agreeReceived i peer (slotOf s i).call sig true) s = .next t ∧ (slotOf t i).st = .running ∧
        (slotOf t i).agreed = true ∧ (slotOf t i).step = 0#16 ∧ (slotOf t i).call = (slotOf s i).call) ∧
      (sig.toNat ≠ (slotOf s i).sig → ∃ t : State,
        exec (.agreeReceived i peer (slotOf s i).call sig true) s = .next t ∧ (slotOf t i).last = 1#8 ∧
        (slotOf t i).call = (slotOf s i).call + 1#32)) ∧
    ((slotOf s i).st = .agreeing → ∀ a : Nat, partnerNow s (slotOf s i) = some a →
      (∃ t : State, exec (.agreeRepeat i) s = .next t ∧ (slotOf t i).agreeAt = max s.now ((slotOf s i).agreeAt + 100000)) ∧
      ((slotOf s i).stragRaised = false → ∀ p : Fin 8192, ∃ t : State, exec (.straggler i p) s = .next t ∧
        (slotOf t i).awaited = BitVec.ofNat 16 a ∧ (slotOf t i).stragglers = bump (slotOf s i).stragglers ∧
        (slotOf t i).stragRaised = true ∧ t.ev.counts[0x70] = bump s.ev.counts[0x70])) ∧
    (∀ (peer : U16) (call : U32) (status : Fin 8), ingressClosed s = false → fenced s peer.toNat = false → spreads status = true →
      (call = (slotOf s i).call → (slotOf s i).st = .agreeing ∨ (slotOf s i).st = .running → (callDesc s (slotOf s i)).op ≠ 6 →
        ∃ t : State, exec (.abortReceived i peer call status) s = .next t ∧
          (slotOf t i).last = BitVec.ofNat 8 (if status.val = 4 then 5 else status.val) ∧
          (slotOf t i).call = (slotOf s i).call + 1#32) ∧
      ((slotOf s i).call.toNat < call.toNat → ∃ t : State, exec (.abortReceived i peer call status) s = .next t ∧
        (slotOf t i).aborts = (slotOf s i).aborts ++
          [{ call := call.toNat, status := if status.val = 4 then 5 else status.val }])) ∧
    (∀ (peer : U16) (a : AbortOut), (slotOf s i).abortsOut.find? (fun a => decide (a.peer = peer.toNat)) = some a → a.sent < 100 →
      ∃ t : State, exec (.abortRepeat i peer) s = .next t ∧ (slotOf t i).abortsOut = (slotOf s i).abortsOut.map (fun b =>
        if b = a then { b with sent := b.sent + 1, at_ := max s.now (a.at_ + 1000000) } else b)) ∧
    (∀ (peer : U16) (call : U32), ∃ t : State, exec (.abortAckReceived i peer call) s = .next t ∧
      (slotOf t i).abortsOut = (slotOf s i).abortsOut.filter (fun b => !decide (b.peer = peer.toNat ∧ b.call = call.toNat)) ∧
      ((slotOf s i).st = .ending → (slotOf t i).abortsOut = [] → (slotOf t i).st = .idle)) ∧
    (∀ p : Fin 8, (slotOf s i).owner = BitVec.ofNat 8 p → Serving s → objHeld s (objAt 0x9200 0x0A i) = false →
      objHeld s (objAt 0x9200 0x0C i) = false →
      ((slotOf s i).st = .agreeing ∨ (slotOf s i).st = .running → ∃ t : State,
        exec (.collAbortWrite (.direct (.driver p)) i) s = .next (answered t (.driver p) 0) ∧ (slotOf t i).last = 6#8 ∧
        (slotOf t i).call = (slotOf s i).call + 1#32) ∧
      (∀ img : BitVec 2048, (negOf s p).state = .suspended → contextGood (slotOf s i) (leBytes 256 img.toNat) = true →
        reservedBad (objAt 0x9200 0x0C i) (leBytes 256 img.toNat) = false →
        exec (.callContextWrite (.direct (.driver p)) i img) s =
          .next (answered (updSlot s i (fun g => writeContext g (leBytes 256 img.toNat))) (.driver p) 0)))

/-- The reductions and gathers (R474 to R479, R492, R497): where this member's sources are read and its destinations
written, ALLREDUCE and REDUCESCATTER write each element reduced in the fixed order of R476 to R478 and rounded once,
ALLGATHER every coordinate's sources in coordinate order, BROADCAST the root's source, KVRING its neighbour's. -/
def Obligations.ReductionsAndGathersWriteTheirResults : Prop :=
  ∀ (s : State) (i : Fin 64),
    let g := slotOf s i
    let f := callDesc s g
    let own := slotCoord s g
    let eb := elemBytes f.sfmt
    let fold := fun (srcs : List (List Byte)) => foldVecs f.redop (srcs.map (fun b => (elemsOf f.sfmt b).map (to32 f.sfmt)))
    let reduced := fun (alg : Nat) (vecs : List (List Nat)) (e : Nat) =>
      (convert .fp32 (fmtD f.dfmt) (rmD f.rmode) 0 (reduceElem f.redop alg f.count (slotP g) (setBits 13 g.dims).length vecs e)).1
    let writes := fun (c : Instr) (s1 : State) (bytes : Nat → List Byte) =>
      ∀ t : State, writeDests s1 g bytes = (t, none) → ∃ num : Byte, exec c s = .next (dataDone t i num)
    (∀ (peers : List (List Byte)) (s1 : State) (srcs : List (List Byte)), readSources s g .clean = (s1, none, srcs) →
      (runsOp s i 1 = true → peersHere (slotP g) own (4 * f.count) peers = true →
        writes (.allreduce i peers .clean) s1 (fun _ => ((List.range f.count).map
          (reduced (resolvedAlg g f) (contributions own (fold srcs) peers))).flatMap (leBytes (elemBytes f.dfmt)))) ∧
      (runsOp s i 2 = true → peersHere (slotP g) own (4 * f.count) peers = true →
        writes (.reducescatter i peers .clean) s1 (fun k => ((((List.range (f.count / slotP g)).map (fun j =>
          reduced 1 (contributions own (fold srcs) peers) (own * (f.count / slotP g) + j))).drop
            (dieRank g.dmask k * (f.count / slotP g / max (slotD g) 1))).take
              (f.count / slotP g / max (slotD g) 1)).flatMap (leBytes (elemBytes f.dfmt)))) ∧
      (runsOp s i 3 = true → peersHere (slotP g) own (slotD g * f.count * eb) peers = true →
        writes (.allgather i peers .clean) s1 (fun _ =>
          ((List.range (slotP g)).map (fun c => if c = own then srcs.flatten else peers.getD c [])).flatten)) ∧
      (runsOp s i 7 = true → slotP g ≠ 1 → peers.length = slotD g → (∀ b ∈ peers, b.length = f.count * eb) →
        writes (.kvring i peers .clean) s1 (fun k => peers.getD (dieRank g.dmask k) [])) ∧
      (runsOp s i 7 = true → slotP g = 1 →
        writes (.kvring i peers .clean) s1 (fun k => srcs.getD (dieRank g.dmask k) []))) ∧
    (∀ data : List Byte, runsOp s i 4 = true → (∀ k ∈ slotDies g, rankOf s g k ≠ f.root) → data.length = f.count * eb →
      writes (.broadcast i data .clean) s (fun _ => data)) ∧
    (∀ (k : Nat) (data : List Byte) (s1 : State) (bytes : List Byte), runsOp s i 4 = true → f.mcen = false →
      (slotDies g).find? (fun k => decide (rankOf s g k = f.root)) = some k →
      collRead s g.owner.toNat (descOf s g k).src (f.count * eb) .clean = (s1, none, bytes) →
      writes (.broadcast i data .clean) s1 (fun _ => bytes))

/-- NORM and PERMUTE (R486 to R489, R493 to R496): a NORM adds the park records' values exactly and writes the block of R489;
a PERMUTE fetches its moving blocks, answers what other members ask for, and copies after the completion round. -/
def Obligations.NormAndPermute : Prop :=
  ∀ (s : State) (i : Fin 64),
    let g := slotOf s i
    let f := callDesc s g
    let own := slotCoord s g
    (∀ (peers : List (List Byte)) (s1 : State) (recs : List (Tray × Bool)), runsOp s i 5 = true →
      peersHere (slotP g) own 71 peers = true → readRecords s g .clean = (s1, none, recs) →
      let zero : Tray × Bool := (normValue 0, false)
      let mine := recs.foldl (fun a b => (normAdd a.1 b.1, a.2 || b.2)) zero
      let parts := (List.range (slotP g)).map (fun c =>
        if c = own then mine else (normValue (leNat (peers.getD c [])), (leNat (peers.getD c [])).testBit 564))
      let total := ((setBits 13 g.dims).foldl (fun l _ => pairNorm l) parts).headD zero
      ∀ t : State, writeDests (updSlot s1 i (fun x => { x with gscale := BitVec.ofNat 32 (gscaleOf total.1 f.clip) })) g
          (fun _ => leBytes 16 (normBlock total.1 total.2 f.clip)) = (t, none) →
        exec (.norm i peers .clean) s = .next (dataDone t i 0#8)) ∧
    (∀ blocks : List (List (List Byte)), runsOp s i 6 = true → g.phase = 3 →
      (∀ k ∈ slotDies g, movingOf (rankOf s g k) (dieMap s g k) = []) → ∀ a : Nat, partnerNow s { g with dimAt := 0 } = some a →
      ∃ t : State, exec (.permute i blocks .clean) s = .next t ∧ (slotOf t i).phase = 4 ∧ (slotOf t i).agreeAt = s.now ∧
        t.mem = s.mem ∧ t.arrays = s.arrays) ∧
    (∀ (peer : U16) (slot : Fin 4096) (first : Fin 16777216) (rank : Fin 8) (blk : U32) (s1 : State) (bytes : List Byte),
      g.st = .running → f.op = 6 → g.agreed = true → rank.val < slotD g →
      let d := descOf s g ((slotDies g).getD rank 0)
      blk.toNat < blocksOf d → (otherMembers s g).contains peer.toNat = true → fenced s peer.toNat = false →
      collRead s g.owner.toNat (d.src + blk.toNat * blockBytes d) (blockBytes d) .clean = (s1, none, bytes) →
      ∃ t : State, exec (.permuteFetchRequest i peer slot first rank blk .clean) s = .next t ∧
        t.fabric.flowsOut.any (fun o => sameFlowOut o 8 peer.toNat 8 slot) = true ∧ t.mem = s1.mem) ∧
    (runsOp s i 6 = true → g.phase = 4 → (∀ k ∈ slotDies g, dieMap s g k = []) →
      exec (.completionRoundEnd i .clean) s = .next (dataDone
        (updSlot s i (fun x => { x with phase := 5, step := 0#16, progressAt := s.now })) i 0#8)) ∧
    (g.st = .running → f.op = 0 → exec (.barrier i) s = .next (dataDone s i 0#8))

/-- CLE_STEP_DONE, CLE_LANE_SELFCHECK_DONE and CALL_END (R467, R481 to R483, R503): a step counts; a step of a reduction whose
residue fails is replayed on another lane and its lane self-checked, or ends the call with ADDER_FAULT; a failed self-check takes the lane
out; a call whose data is done and whose cells are acknowledged ends with OK and the next call number is current. -/
def Obligations.CollectiveStepsAndEnds : Prop :=
  ∀ (s : State) (i : Fin 64), Quiet s → (slotOf s i).st = .running →
    (∀ (residue : Option (Fin 16)) (ok : Bool), residue = none ∨ (callDesc s (slotOf s i)).op ∉ [1, 2, 5] →
      exec (.cleStepDone i residue ok) s = .next (updSlot s i (fun x =>
        { x with step := x.step + 1#16, progressAt := s.now, replayed := false }))) ∧
    (∀ l : Fin 16, (callDesc s (slotOf s i)).op ∈ [1, 2, 5] → s.ev.proofs = [] →
      ((replayLane s l).isSome = true → ∃ t : State, exec (.cleStepDone i (some l) true) s = .next t ∧
        t.cle.replays = bump s.cle.replays ∧ (slotOf t i).step = (slotOf s i).step + 1#16 ∧ (slotOf t i).st = .running ∧
        t.ev.proofs.map (fun p => p.slice) = [Slice.cleLane l] ∧ t.cle.lanes = s.cle.lanes) ∧
      (∃ t : State, exec (.cleStepDone i (some l) false) s = .next t ∧ (slotOf t i).last = 3#8 ∧
        (slotOf t i).call = (slotOf s i).call + 1#32)) ∧
    (∀ (l : Fin 16) (p : ProofReq), s.ev.proofs = [p] → p.slice = .cleLane l → p.persist = false → s.cle.lanes[l] = true →
      (∃ t : State, exec (.cleLaneSelfcheckDone l true) s = .next t ∧ t.ev.proofs = [] ∧ t.cle = s.cle) ∧
      (∃ t : State, exec (.cleLaneSelfcheckDone l false) s = .next t ∧ t.ev.proofs = [] ∧ t.cle.lanes[l] = false)) ∧
    ((slotOf s i).done = true → callFlowsDone s i = true → ∃ t : State, exec (.callEnd i) s = .next t ∧ (slotOf t i).last = 0#8 ∧
      (slotOf t i).call = (slotOf s i).call + 1#32 ∧ t.cle.completed = bump s.cle.completed ∧
      ((slotOf s i).abortsOut = [] → (slotOf t i).st = .idle))

/-! ### Host ports, windows -/

/-- Host ports (R512 to R519, R528, R535): the way from TRAINING to SECURED, what leads back, FAULT after 60 s and again after
10 s, what a port accepts in each state, and pauses. A quantum of 512 bit times is PRESUMED (log entry 12). -/
def Obligations.HostPortsTrainAndFilter : Prop :=
  ∀ (s : State) (n : Fin 2),
    ((hportOf s n).st = .training → portRuns s n = true →
      exec (.hostLaneLock n) s = .next (updHport s n (fun p => { p with
        locked := true, lockedAt := if p.locked then p.lockedAt else s.now })) ∧
      (∃ t : State, exec (.hostTrainingFault n) s = .next t ∧ (hportOf t n).st = .fault ∧
        t.now = max s.now ((hportOf s n).trainFrom + 60000000000) ∧ (hportOf t n).trainFrom = t.now)) ∧
    ((hportOf s n).st = .training → (hportOf s n).locked = true → ∃ t : State, exec (.hostLinkUp n) s = .next t ∧
      (hportOf t n).st = (if vget s.sec.hostKeys n false then .linkUp else .enrollment) ∧
      t.now = max s.now ((hportOf s n).lockedAt + 2000000) ∧ t.ev.counts[0x80] = bump s.ev.counts[0x80]) ∧
    ((hportOf s n).st = .fault → ∃ t : State, exec (.hostTrainingRetry n) s = .next t ∧ (hportOf t n).st = .training ∧
      t.now = max s.now ((hportOf s n).trainFrom + 10000000000)) ∧
    ((hportOf s n).st = .linkUp → ∃ t : State, exec (.mkpduReceived n true) s = .next t ∧ (hportOf t n).st = .secured ∧
      (hportOf t n).sak = true ∧ t.ev.counts[0x82] = bump s.ev.counts[0x82]) ∧
    ((hportOf s n).st ≠ .training → (hportOf s n).st ≠ .fault →
      (∃ t : State, exec (.hostLinkDown n) s = .next t ∧ (hportOf t n).st = .training ∧ (hportOf t n).locked = false ∧
        t.ev.counts[0x81] = bump s.ev.counts[0x81]) ∧
      ∀ (kind : FrameKind) (ok : Bool) (fixed lost : Nat), exec (.frameReceived n kind ok fixed lost) s = .next (updHport s n (fun p => { p with
        corrected := bumpBy p.corrected fixed, uncorr := bumpBy p.uncorr lost
        frames := if lost = 0 then bump p.frames else p.frames
        refused := if lost ≠ 0 ∨ (p.st = .secured ∧ (kind = .eapol ∨ ok = true)) ∨ (p.st = .linkUp ∧ kind = .eapol) ∨
            (p.st = .enrollment ∧ (kind = .eapol ∨ kind = .eumonSession)) then p.refused else bump p.refused }))) ∧
    ((hportOf s n).st = .secured →
      (∃ t : State, exec (.macsecLost n) s = .next t ∧ (hportOf t n).st = .linkUp ∧ (hportOf t n).sak = false ∧
        ∀ w : Nat, w < 256 → usesPort (winOf s w) n = true → (winOf t w).st = .error ∧ (winOf t w).ops = []) ∧
      ∀ (prio : Fin 8) (quanta : U16), ∃ t : State, exec (.pfcFrame n prio quanta) s = .next t ∧
        vget (hportOf t n).pauses prio 0 = s.now + (quanta.toNat * 16 + 24) / 25)

/-- Windows (R520 to R525, R527, R528, R531): a driver writes a descriptor and opens and closes its window, acknowledgements
and responses answer what is outstanding, a NAK fails it, 131 µs resend it, notifications halve its rate and 55 µs without
one raise it. A CLOSED window's descriptor may be written where Config says so (log entry 11). -/
def Obligations.WindowsOpenCarryAndClose : Prop :=
  ∀ (s : State) (w : Fin 256) (p : Fin 8),
    (Serving s → objHeld s (objAt 0x9300 1 w) = false → objHeld s (objAt 0x9300 2 w) = false →
      (∀ d : BitVec 512, (winF d).reserved = false → descWritable (winOf s w) = true →
        (winOf s w).st = .closed ∨ (winOf s w).owner = BitVec.ofNat 8 p →
        exec (.windowDescriptorWrite (.direct (.driver p)) w d) s =
          .next (answered (updWin s w (fun x => { x with desc := d })) (.driver p) 0)) ∧
      ((winOf s w).st = .closed → descOpens (winOf s w).desc = true → ∃ t : State,
        exec (.windowOpen (.direct (.driver p)) w) s = .next (answered t (.driver p) 0) ∧ (winOf t w).st = .open_ ∧
        (winOf t w).owner = BitVec.ofNat 8 p ∧ (winOf t w).psn = (winF (winOf s w).desc).rpsn ∧ (winOf t w).rate = 100000#32) ∧
      ((winOf s w).st = .closed → descOpens (winOf s w).desc = false →
        exec (.windowOpen (.direct (.driver p)) w) s = .next (answered s (.driver p) abSTATE)) ∧
      ((winOf s w).st = .open_ ∨ (winOf s w).st = .error → (winOf s w).owner = BitVec.ofNat 8 p →
        exec (.windowClose (.direct (.driver p)) w) s =
          .next (answered (updWin s w (fun x => { x with st := .closing })) (.driver p) 0))) ∧
    ((winOf s w).st = .closing → (∀ o ∈ (winOf s w).ops, o.late = true) → (winOf s w).pendingOpen = none →
      exec (.windowCloseDone w) s = .next (updWin s w (fun x =>
        { x with st := .closed, owner := 0xFF#8, pendingOpen := none, ops := [] }))) ∧
    (portOpen s w = true →
      exec (.hostRequestNak w) s = .next (emit s (.nak w)) ∧
      (∀ psn : BitVec 24, ∃ t : State, exec (.rdmaAckReceived w psn) s = .next t ∧
        (winOf t w).ops = (winOf s w).ops.filter (fun o => !(o.write && psnLe (lastPsn o) psn.toNat))) ∧
      (∀ (psn : BitVec 24) (bytes : List Byte) (ce : Bool) (o : RdmaOp),
        (winOf s w).ops.find? (fun o => !o.write && decide (o.psn = psn.toNat)) = some o → bytes.length = o.len →
        ∃ t : State, exec (.readResponseReceived w psn bytes ce) s = .next t ∧
          (winOf t w).ops = (winOf s w).ops.filter (fun x => decide (x ≠ o)) ∧
          (ce = true → (winOf s w).echoAt = none → (winOf t w).echoAt = some s.now) ∧
          (∀ m : Move, runningMove s o.reel = some m → m.seqno = o.move → m.tile = o.tile →
            runningMove t o.reel = some { m with parts := m.parts ++ [(o.byte_, bytes)] })) ∧
      ((winOf s w).st = .open_ ∨ (winOf s w).st = .closing → ∃ t : State, exec (.rdmaNakReceived w) s = .next t ∧
        (winOf t w).st = .error ∧ (winOf t w).ops = []) ∧
      ((winOf s w).st ≠ .closed → ∃ t : State, exec (.cnpReceived w) s = .next t ∧ (winOf t w).cnpAt = s.now ∧
        (winOf t w).rate = if (winOf s w).cutAt.all (fun a => decide (a + 50000 ≤ s.now)) = true then
          BitVec.ofNat 32 (max ((winOf s w).rate.toNat / 2) 100) else (winOf s w).rate)) ∧
    ((winOf s w).st ≠ .closed → ∃ t : State, exec (.windowRateIncrease w) s = .next t ∧
      (winOf t w).rate = BitVec.ofNat 32 (min ((winOf s w).rate.toNat + 1250) 100000) ∧
      t.now = max s.now ((winOf s w).cnpAt + 55000) ∧ (winOf t w).cnpAt = t.now) ∧
    (∀ (o : RdmaOp) (rest : List RdmaOp), (winOf s w).ops = o :: rest → winSends s w = true →
      ∃ t : State, exec (.rdmaAckTimeout w) s = .next t ∧ t.now = max s.now (o.sentAt + 131000) ∧
        (winOf t w).ops = (winOf s w).ops.map (fun o => { o with sentAt := t.now }) ∧
        (winOf t w).retrans = bumpBy (winOf s w).retrans (winOf s w).ops.length)

/-! ### The Eumon protocol -/

/-- READ, WRITE, a staged WRITE and DESCRIBE in a session (R542, R547, R548, R557, R566, R575): the answer is an ENVELOPE
with the code of the first check that fails, or with 0 and what was asked for; a write that fails changes nothing else. -/
def Obligations.RequestsAreCheckedAndAnswered : Prop :=
  (∀ (s : State) (id : U32) (x : Session) (m : EMsg) (c : Nat) (d : List Byte), findSession s id = some x → m.mtype + 0x80 ≠ 0x16 →
    (respond s (owedTo id m) c d).out = s.out ++ [.message (.session id) (sealBody x
      (msgBytes m.gen (m.mtype + 0x80) m.seq m.index m.sub m.inst m.exp c d))] ∧
    (respond s (owedTo id m) c d).eumon.served = bump s.eumon.served) ∧
  ∀ (s : State) (id : U32) (x : Session) (r : Req) (m : EMsg), Asks s id x m → isGroup (objOf m) = false →
    (m = msgOf r 0x01 r.exp.toNat [] → r.exp = 0#8 → exec (.read (.session id) r) s = .next (
      if checkRead (heard s id) x.ident (objOf m) = 0 then
        respond (readEffect (heard s id) x.ident (objOf m)) (owedTo id m) 0
          (readValue (heard s id) x.ident (some x.cred) (objOf m) (rowOf (objOf m)))
      else respond (heard s id) (owedTo id m) (checkRead (heard s id) x.ident (objOf m)) [])) ∧
    (∀ (data : List Byte) (obs : WriteObs), m = msgOf r 0x02 0 data → m.index ≠ 0x2F00 → m.index ≠ 0xD000 →
      layoutOf m.index ≠ 0xC810 → layoutOf m.index ≠ 0xD510 →
      exec (.write (.session id) r data obs) s = .next (
        if checkDirect (heard s id) (afterCommits (heard s id)) x.ident (objOf m) data = 0 then
          respond (applyObj (heard s id) x.ident (objOf m) data obs) (owedTo id m) 0 []
        else respond (heard s id) (owedTo id m) (checkDirect (heard s id) (afterCommits (heard s id)) x.ident (objOf m) data) [])) ∧
    (∀ (e : Fin 16) (data : List Byte) (obs : WriteObs), m = msgOf r 0x02 (e.val + 1) data → rivals (heard s id) e (objOf m) = [] →
      commitHolds (heard s id) e (objOf m) = false →
      (putStaged (expOf s e).writes { obj := objOf m, data := data, obs := obs }).length ≤ 1024 →
      stagedBytes (putStaged (expOf s e).writes { obj := objOf m, data := data, obs := obs }) ≤ 524288 →
      exec (.stageWrite (.session id) e r data obs) s = .next (
        if checkStaged (heard s id) (afterCommits (heard s id)) x.ident e (objOf m) data = 0 then
          respond (updExp (heard s id) e (fun y => { y with writes := putStaged y.writes { obj := objOf m, data := data, obs := obs } }))
            (owedTo id m) 0 []
        else respond (heard s id) (owedTo id m)
          (checkStaged (heard s id) (afterCommits (heard s id)) x.ident e (objOf m) data) [])) ∧
    (m = msgOf r 0x03 r.exp.toNat [] → existence (objOf m) = 0 → exec (.describe (.session id) r) s =
      .next (respond (heard s id) (owedTo id m) 0 (describe (objOf m))))

/-- Block transfers (R551 to R555): BLKRD serves a copy taken at once, BLKWR opens a transfer of its length, segments of the
block in progress are kept, a wrong one ends the transfer with TRANSFER, as do BLKABORT and 5 s without progress; missing
segments go again, and a block not held in full is acknowledged after 2 ms. -/
def Obligations.BlocksTransferInSegments : Prop :=
  ∀ (s : State) (id : U32),
    (∀ (x : Session) (r : Req) (m : EMsg), Asks s id x m → transferRoom (heard s id) (.session id) = true →
      (m = msgOf r 0x11 r.exp.toNat [] → r.exp = 0#8 → isGroup (objOf m) = false → checkRead (heard s id) x.ident (objOf m) = 0 →
        ∀ v : List Byte, v = readValue (heard s id) x.ident (some x.cred) (objOf m) (rowOf (objOf m)) → v ≠ [] →
        ∃ (t : State) (y : Transfer), exec (.blkrd (.session id) r) s = .next t ∧ y ∈ t.eumon.transfers ∧
          y.asker = .session id ∧ y.write = false ∧ y.total = v.length ∧ y.copy = v ∧ y.ended = none) ∧
      (∀ (total : U32) (obs : WriteObs), m = msgOf r 0x12 r.exp.toNat (leBytes 4 total.toNat) → total ≠ 0#32 →
        total.toNat ≤ 16777216 → ∃ (t : State) (y : Transfer), exec (.blkwr (.session id) r total obs) s = .next t ∧
          y ∈ t.eumon.transfers ∧ y.asker = .session id ∧ y.write = true ∧ y.total = total.toNat ∧ y.segs = [] ∧ y.block = 0 ∧
          y.obj = objOf m ∧ y.exp = m.exp ∧ y.ended = none)) ∧
    (silent s = false → ∀ (r : Req) (y : Transfer) (m : EMsg), r.gen.val = 2 →
      liveTransfer (heard s id) (.session id) m = some y →
      (∀ (data : List Byte) (obs : WriteObs), m = msgOf r 0x13 r.exp.toNat data → data.length ≤ 1024 → y.write = true →
        blockNo m < segCount y.total →
        (data.length = (if blockNo m + 1 = segCount y.total then y.total - 1024 * blockNo m else 1024) → blockNo m / 64 = y.block →
          heldMap { y with segs := assignNat (blockNo m) data y.segs } y.block ≠ fullMap y.total y.block →
          ∃ t : State, exec (.blkdata (.session id) r data obs) s = .next t ∧ findTransfer t y.id = some { y with
            segs := assignNat (blockNo m) data y.segs, lastAt := s.now
            blockFrom := if heldMap y y.block = 0 then some s.now else y.blockFrom }) ∧
        (data.length ≠ (if blockNo m + 1 = segCount y.total then y.total - 1024 * blockNo m else 1024) →
          ∃ t : State, exec (.blkdata (.session id) r data obs) s = .next t ∧
            ∀ z ∈ t.eumon.transfers, z.id = y.id → z.ended = some (abTRANSFER, s.now))) ∧
      (∀ map : U64, m = msgOf r 0x14 r.exp.toNat (leBytes 8 map.toNat) → y.write = false → blockNo m = y.block →
        64 * y.block < segCount y.total →
        (blockSegs y.total y.block).filter (fun n => !map.toNat.testBit (n - 64 * y.block)) ≠ [] →
        exec (.blkack (.session id) r map) s = .next (sendSegs (updTransfer (heard s id) y.id (fun z => { z with lastAt := s.now })) y
          ((blockSegs y.total y.block).filter (fun n => !map.toNat.testBit (n - 64 * y.block))))) ∧
      (m = msgOf r 0x15 r.exp.toNat [] → ∃ t : State, exec (.blkabort (.session id) r) s = .next t ∧
        ∀ z ∈ t.eumon.transfers, z.id = y.id → z.ended = some (abTRANSFER, s.now))) ∧
    (∀ (k : U16) (y : Transfer),
      ((openTransfers s).find? (fun t => decide (t.id = k.toNat) && t.write) = some y → ∀ a : Nat, y.blockFrom = some a →
        ∃ t : State, exec (.blkackTimer k) s = .next t ∧ t.now = max s.now (a + 2000000) ∧
          ∀ z ∈ t.eumon.transfers, z.id = k.toNat → z.blockFrom = none) ∧
      ((openTransfers s).find? (fun t => decide (t.id = k.toNat)) = some y → ∃ t : State,
        exec (.transferStalled k) s = .next t ∧ t.now = max s.now (y.lastAt + 5000000000) ∧
          ∀ z ∈ t.eumon.transfers, z.id = k.toNat → z.ended = some (abTRANSFER, t.now)))

/-- Sessions and envelopes (R564 to R570): SESS_OPEN leaves an unconfirmed session of a new identity where the host's point is
valid, SESS_CONFIRM confirms it or drops it, 5 s unconfirmed and 30 s idle end it; an ENVELOPE is executed, or dropped and
counted; what waits 50 ms at the AON is answered DEVICE. -/
def Obligations.SessionsOpenConfirmAndClose : Prop :=
  ∀ s : State,
    (∀ (addr : Nat) (r : Req) (d : List Byte), Serving s → r.gen.val = 3 → outstanding s (.plain addr) < 16 →
      (d.length = 131 → leNat (d.take 1) < 64 → leNat ((d.drop 1).take 1) = 0 → s.eumon.sessions.length < 16 →
        ∃ t : State, exec (.sessOpen addr r d) s = .next t ∧
          (Config.ecdh s.free ((d.drop 2).take 97) = none → t.eumon.sessions = s.eumon.sessions) ∧
          (∀ z : List Byte, Config.ecdh s.free ((d.drop 2).take 97) = some z → ∃ y : Session,
            t.eumon.sessions = s.eumon.sessions ++ [y] ∧ y.confirmed = false ∧ y.cred = leNat (d.take 1) ∧ y.openedAt = s.now ∧
            y.ctrHigh = 0 ∧ findSession s y.id = none)) ∧
      (∀ x : Session, d.length = 100 →
        s.eumon.sessions.find? (fun x => decide (x.id = BitVec.ofNat 32 (leNat (d.take 4))) && !x.confirmed) = some x →
        ∃ t : State, exec (.sessConfirm addr r d) s = .next t ∧ t.eumon.served = bump s.eumon.served ∧
          match confirmBy s x with
          | none => findSession t x.id = none
          | some (key, who) => if Config.ecdsaVerify key x.th2 (d.drop 4) = true then
              (∃ y : Session, findSession t x.id = some y ∧ y.confirmed = true ∧ y.ident = who)
            else findSession t x.id = none)) ∧
    (∀ (id : U32) (x : Session), findSession s id = some x →
      (x.confirmed = false → ∃ t : State, exec (.sessionConfirmTimeout id) s = .next t ∧
        t.now = max s.now (x.openedAt + 5000000000) ∧ findSession t id = none) ∧
      (x.confirmed = true → ∃ t : State, exec (.sessionIdleTimeout id) s = .next t ∧
        t.now = max s.now (x.lastAt + 30000000000) ∧ findSession t id = none) ∧
      (∀ r : Req, Asks s id x (msgOf r 0x23 r.exp.toNat []) → ∃ t : State, exec (.sessClose id r) s = .next t ∧
        findSession t id = none ∧ id ∉ t.sec.spdmNegotiated ∧ t.eumon.served = bump s.eumon.served)) ∧
    (silent s = false → ∀ obs : WriteObs,
      (∀ bs : List Byte, bs.length < 72 → exec (.envelope bs obs) s =
        .next { s with eumon := { s.eumon with dropped := bump s.eumon.dropped } }) ∧
      (∀ (id : U32) (ctr : U64) (body mac : List Byte), body.length < 65536 → mac.length = 48 →
        ∀ hdr : List Byte, hdr = leBytes 24 (3 + 0x24 * 2 ^ 8 + id.toNat * 2 ^ 32 + ctr.toNat * 2 ^ 64 + body.length * 2 ^ 128) →
        (envelopeSession s id ctr.toNat (hdr ++ body) mac = none → exec (.envelope (hdr ++ body ++ mac) obs) s =
          .next { s with eumon := { s.eumon with envDropped := bump s.eumon.envDropped } }) ∧
        (∀ (x : Session) (m : EMsg), findSession s id = some x → x.confirmed = true → mac = hmac384 x.kh (hdr ++ body) →
          counterFresh x ctr.toNat = true → parseMsg body = some m →
          exec (.envelope (hdr ++ body ++ mac) obs) s = .next (message (acceptCounter s x ctr.toNat) (.session id) m obs)))) ∧
    (∀ w : Waiting, heldByAon s = some w → mgpUp s = false → ∃ t : State, exec .aonDeviceTimeout s = .next t ∧
      t.now = max s.now (w.since + 50000000) ∧ t.eumon.waiting = s.eumon.waiting.erase w)

/-- SPDM in a session (R636, R637): each request is answered in its session; versions, capabilities and algorithms at any
time, what needs algorithms only after they are agreed, any other code by ERROR. The layouts and the order are those of SPDM
1.3, PRESUMED (log entry 13). -/
def Obligations.SpdmAnswersItsSevenRequests : Prop :=
  ∀ (s : State) (id : U32) (x : Session) (r : Req) (c : Instr) (m : List Byte) (p1 p2 : U8) (rest : List Byte),
    (c, m) ∈ [(.spdm id r m, m), (.getVersion id r p1 p2, spdmReq 0x10 0x84 p1 p2 []),
      (.getCapabilities id r p1 p2 rest, spdmReq 0x13 0xE1 p1 p2 rest),
      (.negotiateAlgorithms id r p1 p2 rest, spdmReq 0x13 0xE3 p1 p2 rest),
      (.getDigests id r p1 p2, spdmReq 0x13 0x81 p1 p2 []), (.getCertificate id r p1 p2 rest, spdmReq 0x13 0x82 p1 p2 rest),
      (.challenge id r p1 p2 rest, spdmReq 0x13 0x83 p1 p2 rest),
      (.getMeasurements id r p1 p2 rest, spdmReq 0x13 0xE0 p1 p2 rest)] →
    Asks s id x (msgOf r 0x30 r.exp.toNat m) →
    ∃ t : State, exec c s = .next t ∧
      t.out = s.out ++ [.message (.session id) (sealBody x (msgBytes r.gen.val 0xB0 r.seq.toNat r.index.toNat r.sub.toNat
        r.inst.toNat r.exp.toNat 0 (spdmAnswer (heard s id) id s.free m)))] ∧
      (spdmByte m 1 = 0xE3 → id ∈ t.sec.spdmNegotiated) ∧
      (spdmByte m 1 ∈ [0x81, 0x82, 0x83, 0xE0] → id ∉ s.sec.spdmNegotiated → spdmAnswer (heard s id) id s.free m = spdmUnexpected) ∧
      (spdmByte m 1 = 0x84 → spdmByte (spdmAnswer (heard s id) id s.free m) 1 = 0x04) ∧
      (spdmByte m 1 = 0xE1 → spdmByte (spdmAnswer (heard s id) id s.free m) 1 = 0x61) ∧
      (spdmByte m 1 = 0xE3 → spdmByte (spdmAnswer (heard s id) id s.free m) 1 = 0x63) ∧
      (spdmByte m 1 ∉ [0x84, 0xE1, 0xE3, 0x81, 0x82, 0x83, 0xE0] → spdmAnswer (heard s id) id s.free m = spdmUnsupported (spdmByte m 1))

/-! ### Exposures, proposals and keys -/

/-- Exposures (R279, R572 to R583): an identity opens a free slot, stages into it, aborts or closes it; a prepared one gets
its commit time, at least 20 µs on and a multiple of 1,024 ns, or fails with its write named; 500 ms without a close expire
it; at its time what it staged is in force. -/
def Obligations.ExposuresStagePrepareAndCommit : Prop :=
  ∀ (s : State) (e : Fin 16),
    (∀ who : Ident, Serving s → who ≠ .none_ → who ≠ .claim → objHeld s (objAt (0xC810 + e.val) 1 0) = false →
      objHeld s (objAt (0xC810 + e.val) 2 0) = false →
      (expHolds (expOf s e) = false →
        slotsHeld s (identNat who) < 4 →
        ∃ t : State, exec (.shutterOpen (.direct who) e) s = .next (answered t who 0) ∧ (expOf t e).st = .open_ ∧
          (expOf t e).owner = BitVec.ofNat 8 (identNat who) ∧ (expOf t e).openTime = BitVec.ofNat 64 (stepNow s) ∧
          (expOf t e).writes = []) ∧
      ((expOf s e).owner.toNat = identNat who → (expOf s e).st = .open_ →
        (∃ t : State, exec (.shutterAbort (.direct who) e) s = .next t ∧ (expOf t e).st = .aborted ∧
          (expOf t e).abort = BitVec.ofNat 32 abABORTED ∧ (expOf t e).writes = [] ∧ t.exps.aborts = bump s.exps.aborts) ∧
        (∀ at_ : U64, at_.toNat % 1024 = 0 → ∃ t : State, exec (.exposureClose (.direct who) e at_) s = .next t ∧
          (expOf t e).st = .preparing ∧ (expOf t e).request = at_ ∧ (expOf t e).writes = (expOf s e).writes ∧
          (expOf t e).closer.isSome = true ∧ t.out = s.out))) ∧
    (∀ (p k : Fin 8) (page : U32) (w : Staged), Serving s → ownerOf s 0x8C00 k = some p.val → (expOf s e).st = .open_ →
      (expOf s e).owner.toNat = 0x20 + p.val → w = { obj := objAt 0x8C00 1 k, data := leBytes 4 page.toNat, obs := noObs } →
      page.toNat < pageEnd (afterCommits s) k → rivals s e w.obj = [] → commitHolds s e w.obj = false →
      (putStaged (expOf s e).writes w).length ≤ 1024 → stagedBytes (putStaged (expOf s e).writes w) ≤ 524288 →
      exec (.pageRetireWrite (.direct (.driver p)) e k page) s = .next (answered
        (updExp s e (fun y => { y with writes := putStaged y.writes w })) (.driver p) 0)) ∧
    (nextPreparing s e = true →
      ((∀ w ∈ (expOf s e).writes, prepCheck (afterCommits s) (expOf s e).owner.toNat
          (checksOf (afterCommits s) (expOf s e).owner.toNat (expOf s e).writes) w = 0) → (expOf s e).request = 0#64 →
        commitAt s (stepNow s) 0 ≤ (expOf s e).openTime.toNat + 500000000 →
        ∃ t : State, exec (.exposurePrepared e) s = .next t ∧ (expOf t e).st = .committing ∧ (expOf t e).closer = none ∧
          (expOf t e).commitTime = BitVec.ofNat 64 (commitAt s (stepNow s) 0)) ∧
      (∀ (w : Staged) (rest : List Staged) (c : Nat), (expOf s e).writes = w :: rest → c ≠ 0 →
        prepCheck (afterCommits s) (expOf s e).owner.toNat
          (checksOf (afterCommits s) (expOf s e).owner.toNat (expOf s e).writes) w = c →
        ∃ t : State, exec (.exposurePrepared e) s = .next t ∧ (expOf t e).st = .aborted ∧ (expOf t e).writes = [] ∧
          (expOf t e).abort = BitVec.ofNat 32 c ∧ (expOf t e).failWrite = 0#16 ∧
          (expOf t e).failObj = BitVec.ofNat 64 (objNat w.obj))) ∧
    (committing s = [] → commitAt s (stepNow s) 0 = alignUp (stepNow s + 20000) 1024) ∧
    ((expOf s e).st = .open_ → ∃ t : State, exec (.exposureExpired e) s = .next t ∧ (expOf t e).st = .aborted ∧
      (expOf t e).abort = BitVec.ofNat 32 abEXPIRED ∧ (expOf t e).writes = []) ∧
    (nextCommit s e = true →
      ((commitSlot (reachCommit s (expOf s e).commitTime.toNat) e).eumon.waiting = [] →
        ∃ t : State, exec (.exposureCommit e) s = .next t ∧ (expOf t e).st = .committed ∧ (expOf t e).writes = []) ∧
      ∀ (v : U32) (obs : WriteObs), (expOf s e).writes = [{ obj := objAt 0x2C00 2 0, data := leBytes 4 v.toNat, obs := obs }] →
        (expOf s e).owner = 0x50#8 → s.ev.faults = [] → s.ev.returning = [] → s.eumon.waiting = [] →
        ∃ t : State, exec (.exposureCommit e) s = .next t ∧ t.cle.interval = v ∧ t.cle.threshold = s.cle.threshold)

/-- Proposals and claims (R618, R625 to R630): a body that R625 allows is PROPOSED for ten minutes of step time, its digest
that of R626; it is rejected, expires, or is countersigned: late with EXPIRED, by a wrong signature with ACCESS_RIGHTS, against
another generation with CONFLICT, else its one item is staged and its exposure prepares; a claim makes the T1 owned. -/
def Obligations.ProposalsAndClaims : Prop :=
  ∀ (s : State) (k : Fin 4),
    (Serving s → (∀ sub : Nat, objHeld s (objAt (0xD510 + k.val) sub 0) = false) →
      (∀ body : List Byte, (propOf s k).st ≠ .proposed → (propOf s k).st ≠ .committing → bodyItems body ≠ none →
        80 ≤ body.length → body.length ≤ 557120 → ∃ t : State,
          exec (.proposalBody (.direct .operator) k body) s = .next (answered t .operator 0) ∧ (propOf t k).st = .proposed ∧
          (propOf t k).body = body ∧ (propOf t k).proposer = 0x50#8 ∧
          (propOf t k).expiry = BitVec.ofNat 64 (stepNow s + 600000000000) ∧ (propOf t k).digest = proposalDigest
            s.sec.generation.toNat k (stepNow s + 600000000000) body ∧ t.ev.counts[0x90] = bump s.ev.counts[0x90]) ∧
      ((propOf s k).st = .proposed →
        (∃ t : State, exec (.proposalReject (.direct .securityOfficer) k) s = .next (answered t .securityOfficer 0) ∧
          (propOf t k).st = .rejected ∧ t.ev.counts[0x92] = bump s.ev.counts[0x92]) ∧
        ∀ (cred : U8) (sig : BitVec 768),
          ((propOf s k).expiry.toNat ≤ stepNow s → ∃ t : State,
            exec (.countersign (.direct .securityOfficer) k cred sig) s = .next (answered t .securityOfficer abEXPIRED) ∧
            (propOf t k).st = .expired ∧ t.ev.counts[0x93] = bump s.ev.counts[0x93]) ∧
          (stepNow s < (propOf s k).expiry.toNat → proposalWaits s k = false → ∃ o : Owed, o.asker = .direct .securityOfficer ∧
            exec (.countersign (.direct .securityOfficer) k cred sig) s = .next (
              if countersigned s k (cred :: leBytes 96 sig.toNat) then runProposal s k o
              else answered s .securityOfficer abRIGHTS)))) ∧
    ((propOf s k).st = .proposed → ∃ t : State, exec (.proposalExpiry k) s = .next t ∧ (propOf t k).st = .expired) ∧
    (∀ o : Owed, (s.sec.generation ≠ (propOf s k).generation → (propOf (runProposal s k o) k).st = .aborted ∧
        (propOf (runProposal s k o) k).abort = BitVec.ofNat 32 abCONFLICT) ∧
      (∀ w : Item, s.sec.generation = (propOf s k).generation → bodyItems (propOf s k).body = some [w] → dualControl w.obj = true →
        w.obj.index ≠ 0xD300 → w.data.length ≤ 524288 → guardCheck s (proposalMap s [w]) w = 0 →
        (∀ e : Nat, e < 16 → expHolds (expOf s e) = false) →
        (propOf (runProposal s k o) k).st = .committing ∧ (propOf (runProposal s k o) k).expSlot = some 0 ∧
        (expOf (runProposal s k o) 0).st = .preparing ∧
        (expOf (runProposal s k o) 0).request = BitVec.ofNat 64 (bodyTime (propOf s k).body) ∧
        (expOf (runProposal s k o) 0).writes = [{ obj := w.obj, data := w.data, obs := noObs }])) ∧
    (s.sec.ownership = .claiming →
      (∃ t : State, exec .claimingExpiry s = .next t ∧ t.sec.ownership = .unowned ∧
        t.now = max s.now (s.sec.claimFrom + 600000000000)) ∧
      ∀ (entries : BitVec 1792) (a b : List Byte), Serving s → objHeld s (objAt 0xD000 3 0) = false →
        a = (leBytes 224 entries.toNat).take 112 → b = (leBytes 224 entries.toNat).drop 112 → credRole a = 3 → credRole b = 2 →
        credKey a ≠ credKey b → credReserved a = false → credReserved b = false →
        ∃ t : State, exec (.claim (.direct .claim) entries) s = .next t ∧ t.sec.ownership = .owned ∧ t.sec.generation = 1#64 ∧
          vget t.sec.creds 0 [] = a ∧ vget t.sec.creds 1 [] = b ∧ t.ev.counts[0x96] = bump s.ev.counts[0x96] ∧
          t.eumon.sessions = s.eumon.sessions.filter (fun y => decide (y.ident ≠ idCLAIM)) ∧
          t.out = s.out ++ [.status idCLAIM 0])

/-- Zeroisation and dies that change hands (R611, R631, R633, R634): the keys of what is zeroised are gone at once, flash reads
zero, a host port goes back to ENROLLMENT, and the rewritten pairs and the cleared dies come back zero under new keys. -/
def Obligations.ZeroisationAndClearing : Prop :=
  ∀ s : State,
    (Serving s → objHeld s (objAt 0xD400 4 0) = false →
      (∀ p : Fin 8, ∃ t : State, exec (.zeroisePartition (.direct .securityOfficer) p) s = .next (answered t .securityOfficer 0) ∧
        t.sec.flashKeys[p] = false ∧ t.mem.flash[p] = Mem.empty ∧ t.ev.counts[0x95] = bump s.ev.counts[0x95] ∧
        t.sec.zeroisations = bump s.sec.zeroisations ∧
        (∀ k : Fin 8, t.sec.hbmKeys[k] = (s.sec.hbmKeys[k] && decide (partOfDie s k ≠ some p.val)) ∧
          t.sec.rewriting[k] = (s.sec.rewriting[k] || decide (partOfDie s k = some p.val)))) ∧
      (∀ n : Fin 2, (hportOf s n).st ≠ .secured → exec (.zeroiseHostLink (.direct .securityOfficer) n) s =
        .next (answered (zeroiseHost s n) .securityOfficer 0) ∧ (zeroiseHost s n).sec.hostKeys[n] = false ∧
        ((hportOf s n).st = .linkUp → (hportOf (zeroiseHost s n) n).st = .enrollment)) ∧
      (∃ t : State, exec (.zeroiseAll (.direct .securityOfficer)) s = .next (answered t .securityOfficer 0) ∧
        (∀ p : Fin 8, t.sec.flashKeys[p] = false ∧ t.mem.flash[p] = Mem.empty) ∧ ∀ n : Fin 2, t.sec.hostKeys[n] = false)) ∧
    (∀ p : Fin 8, ∃ t : State, exec (.zeroiseRewriteDone p) s = .next t ∧
      (∀ k : Fin 8, partOfDie s k = some p.val → s.sec.rewriting[k] = true → s.sec.clearing.toNat.testBit k = false →
        t.sec.hbmKeys[k] = true ∧ t.sec.rewriting[k] = false ∧ t.mem.hbm[k] = Mem.empty) ∧
      (∀ k : Fin 8, partOfDie s k ≠ some p.val → t.sec.hbmKeys[k] = s.sec.hbmKeys[k] ∧ t.mem.hbm[k] = s.mem.hbm[k]) ∧
      t.sec.flashKeys[p] = (s.sec.flashKeys[p] || decide (s.sec.flashQuota[p] ≠ 0#16))) ∧
    (∀ k : Fin 8, s.sec.clearing.toNat.testBit k = true → ∃ t : State, exec (.dieClearDone k) s = .next t ∧
      t.sec.clearing.toNat.testBit k = false ∧ t.mem.hbm[k] = Mem.empty ∧ t.mem.store[k] = Mem.empty ∧
      t.sec.rewriting[k] = false ∧ t.sec.hbmKeys[k] = (partOfDie s k).isSome ∧ (∀ j : Fin 8, j ≠ k → t.mem.hbm[j] = s.mem.hbm[j] ∧ t.mem.store[j] = s.mem.store[j]))

/-! ### Mailboxes, service, the management bus and the test access port -/

/-- Mailboxes (R593 to R603): a sender's post fills an EMPTY channel and rings the doorbell of the MGP or the SEP, or wakes the
sleeping MGP first; the receiver releases it, the sender clears its notice; a woken receiver takes what waited, one that does
not wake leaves WAKE_FAILED. -/
def Obligations.MailboxesPostWakeAndRelease : Prop :=
  ∀ (s : State) (c : Fin 64) (who : Ident), who ≠ .none_ → who ≠ .claim → silent s = false → s.eumon.waiting = [] →
    s.sys.boot = .ready → s.sys.mgpFailed = false → s.sys.sep = .up →
    (∀ sub : Nat, objHeld s (objAt (0xC000 + c.val) sub 0) = false) →
    (chSender (chOf s c) = identNat who →
      (∀ data : List Byte, 1 ≤ data.length → data.length ≤ 256 → (chOf s c).st = .empty → (chOf s c).notice = 0#8 →
        (s.sys.mgp = .up → ∃ t : State, exec (.mailboxPost (.direct who) c data) s = .next t ∧ (chOf t c).st = .full ∧
          (chOf t c).msg = data ∧ (chOf t c).messages = bump (chOf s c).messages ∧
          t.out = s.out ++ (if chReceiver (chOf s c) = 1 ∨ chReceiver (chOf s c) = 2 then [.interrupt (chReceiver (chOf s c)) c] else []) ++
            [.status (identNat who) 0]) ∧
        (s.sys.mgp = .asleep → chReceiver (chOf s c) = 1 → chWake (chOf s c) = true → ∃ t : State,
          exec (.mailboxPost (.direct who) c data) s = .next t ∧ (chOf t c).st = .waking ∧ (chOf t c).msg = data ∧
          t.sys.mgp = .waking ∧ (chOf t c).wakeFrom = s.now)) ∧
      (s.sys.mgp = .up → exec (.noticeClear (.direct who) c) s =
        .next (answered (updCh s c (fun m => { m with notice := 0#8 })) who 0))) ∧
    (chReceiver (chOf s c) = identNat who → (chOf s c).st = .full → s.sys.mgp = .up →
      exec (.mailboxRelease (.direct who) c) s = .next (answered (updCh s c (fun m => { m with st := .empty, msg := [] })) who 0)) ∧
    (s.sys.mgp = .waking → ∃ t : State, exec (.receiverReady false) s = .next t ∧ t.sys.mgp = .up ∧
      ((chOf s c).st = .waking → chReceiver (chOf s c) = 1 → (chOf t c).st = .full ∧ (chOf t c).msg = (chOf s c).msg) ∧
      ((chOf s c).st ≠ .waking → chOf t c = chOf s c)) ∧
    ((chOf s c).st = .waking → ∃ t : State, exec (.wakeFailed c) s = .next t ∧ (chOf t c).st = .empty ∧ (chOf t c).msg = [] ∧
      (chOf t c).notice = 2#8 ∧ (chOf t c).notices = bump (chOf s c).notices ∧
      t.now = max s.now ((chOf s c).wakeFrom + (if chReceiver (chOf s c) = 1 then 50000000 else 20000000)))

/-- Service (R617, R705, R732, R734, R735, R737, R748 to R750, R639): the three service states and their events, the button's
five conditions, requalification of a unit on the fault list, arming of an injection point, and the snapshot of SHARED
counters. -/
def Obligations.ServiceButtonAndInjection : Prop :=
  ∀ s : State,
    (Serving s → objHeld s (objAt 0x2D00 1 0) = false →
      (s.ev.service = .normal → ∃ t : State, exec (.serviceRequested (.direct .operator)) s = .next (answered t .operator 0) ∧
        t.ev.service = .requested ∧ t.ev.counts[0x0B] = bump s.ev.counts[0x0B]) ∧
      (allEmpty s = true → s.ev.service ≠ .inService → ∃ t : State,
        exec (.serviceInService (.direct .operator)) s = .next (answered t .operator 0) ∧ t.ev.service = .inService ∧
        t.ev.counts[0x0C] = bump s.ev.counts[0x0C]) ∧
      (allEmpty s = false → exec (.serviceInService (.direct .operator)) s = .next (answered s .operator abSTATE)) ∧
      (s.ev.service = .inService → ∃ t : State, exec (.serviceNormal (.direct .operator)) s = .next (answered t .operator 0) ∧
        t.ev.service = .normal ∧ t.ev.counts[0x0D] = bump s.ev.counts[0x0D])) ∧
    (Serving s → objHeld s (objAt 0x7200 2 0) = false → ∀ (uk : U8) (ui : BitVec 12), onFaultList s uk.toNat ui.toNat = true →
      unitExists uk.toNat ui.toNat = 0 → unitExists uk.toNat 0 = 0 → ∀ passed : Bool, ∃ t : State,
        exec (.requalifyUnit (.direct .operator) uk ui passed) s = .next (answered t .operator 0) ∧
        onFaultList t uk.toNat ui.toNat = !passed ∧
        t.ev.returning = s.ev.returning ++ (if passed then [(uk, ui)] else []) ∧
        (passed = true → t.ev.counts[0x01] = bump s.ev.counts[0x01]) ∧ (passed = false → t.ev.counts[0x02] = bump s.ev.counts[0x02])) ∧
    (Serving s → ∀ (d : Fin 17) (mode : Fin 4), objHeld s (objAt (0x7800 + d.val) 2 0) = false →
      targetReach s 0x50 (pointOf s d).target.toNat = true → d.val < 14 → (mode.val = 3 → 5 ≤ d.val) →
      exec (.injectionArm (.direct .operator) d mode) s = .next (answered (updPoint s d (fun p => { p with
        mode := BitVec.ofNat 8 mode.val, armed := decide (mode.val ≠ 0) })) .operator 0)) ∧
    (s.ev.buttonFrom = none → ∃ t : State, exec .svcBtnAssert s = .next t ∧
      (recoveryArmed s = false → t.ev.buttonFrom = some s.now ∧ t.ev.presses = bump s.ev.presses ∧ t.now = s.now + 20000000) ∧
      (recoveryArmed s = true → t.sys.running = some .recovery ∧ t.sys.afterBoot = true)) ∧
    (∀ a : Nat, s.ev.buttonFrom = some a → s.ev.buttonRead = false →
      (s.sec.ownership = .unowned → ∃ t : State, exec .svcBtnHold5s s = .next t ∧ t.sec.ownership = .claiming ∧
        t.now = max s.now (a + 5000000000) ∧ t.ev.buttonRead = true) ∧
      (s.ev.buttonFromRelease = true → ∃ t : State, exec .svcBtnHold10s s = .next t ∧ t.sys.running = some .recovery ∧
        t.now = max s.now (a + 10000000000)) ∧
      ∃ t : State, exec .svcBtnRelease s = .next t ∧ t.ev.buttonFrom = none ∧
        (s.ev.service = .requested → a + 3000000000 ≤ s.now → t.ev.service = .normal) ∧
        (s.ev.service = .requested → s.now < a + 3000000000 → t.ev.service = .requested) ∧
        (s.ev.service = .normal → t.ev.service = .requested ∧ t.ev.counts[0x0B] = bump s.ev.counts[0x0B])) ∧
    (∃ t : State, exec .sharedCounterSnapshot s = .next t ∧ ∀ x ∈ t.sys.snapshot, x.2 % 1024 = 0)

/-- The management bus (R711, R712, R768) and the test access port (R769 to R772). The characteristics bytes and GETSTATUS are
values that no rule states, and the order of the boundary cells is the model's (log entry 14). -/
def Obligations.BusAndTestAccess : Prop :=
  ∀ s : State,
    (s.sys.i3cAddr = none → ∀ a : BitVec 7, ∃ t : State, exec (.entdaa a) s = .next t ∧ t.sys.i3cAddr = some a ∧
      ∃ rest : List Byte, rest.length = 2 ∧
        t.out = s.out ++ [.bus (busBytes 6 (0x2A6B * 2 ^ 33 + Config.serial.toNat % 2 ^ 32) ++ rest)]) ∧
    (∃ t : State, exec .rstdaa s = .next t ∧ t.sys.i3cAddr = none) ∧
    (∀ a : BitVec 7, s.sys.i3cAddr = some a →
      exec .getpid s = .next (emit s (.bus (busBytes 6 (0x2A6B * 2 ^ 33 + Config.serial.toNat % 2 ^ 32)))) ∧
      (∃ b : Byte, exec .getbcr s = .next (emit s (.bus [b]))) ∧ (∃ b : Byte, exec .getdcr s = .next (emit s (.bus [b]))) ∧
      (∃ (t : State) (b : List Byte), exec .getstatus s = .next t ∧ b.length = 2 ∧ t.out = s.out ++ [.bus b]) ∧
      exec .i3cStatusRead s = .next (emit s (.bus [BitVec.ofNat 8 (bootCode s % 16 + 16 * (powerCode s.power.st % 8) +
        (if s.power.thermtrip then 128 else 0))])) ∧
      (∃ t : State, exec .i3cAttn s = .next t ∧ t.sys.attn = true ∧ t.ev = s.ev) ∧
      (s.power.st = .p3 → s.power.target = none → s.power.stop = .none → ∃ t : State, exec .i3cWake s = .next t ∧
        t.power.target = some .p0 ∧ t.power.convertersOn = true ∧ t.sys.bootDue = true) ∧
      (s.power.st ≠ .p3 → exec .i3cWake s = .next s) ∧
      (s.power.stop = .none → s.sys.running = none → ∃ t : State, exec .i3cReset s = .next t ∧ t.sys.cause = 3#8 ∧
        t.sys.running = some .package ∧ t.sys.bootDue = true)) ∧
    (∃ t : State, exec .bypass s = .next t ∧ t.sys.jtag.ir = .bypass ∧ t.out = s.out) ∧
    (∃ t : State, exec .idcode s = .next t ∧ t.sys.jtag.ir = .idcode ∧ t.out = s.out ++ [.tdo 0x11048B47]) ∧
    (∀ lands preload : BitVec 41, ∃ t : State, exec (.samplePreload lands preload) s = .next t ∧ t.sys.jtag.cells = preload ∧
      t.sys.jtag.ir = .samplePreload ∧ ∃ shown : Nat, t.out = s.out ++ [.tdo shown] ∧
        (∀ n : Fin 16, shown.testBit n = s.optics.lasers[n].en) ∧ shown.testBit 32 = !s.power.thermtrip ∧
        ∀ i : Nat, 16 ≤ i → i < 41 → i ∉ [32, 34, 37, 38] → shown.testBit i = lands.getLsbD i) ∧
    (∀ c ∈ [Instr.extest, .clamp, .highz], ∃ t : State, exec c s = .next t ∧
      (s.sys.rstN = false → t.sys.jtag.ir = .bypass ∧ t.out = s.out) ∧
      (s.sys.rstN = true → ∃ m : BitVec 41, (∀ i : Nat, i < 16 → m.getLsbD i = false) ∧ m.getLsbD 32 = false ∧
        t.out = s.out ++ [.lands m (s.sys.jtag.cells &&& m)] ∧ t.sys.jtag.ir = (match c with
          | .extest => .extest
          | .clamp => .clamp
          | _ => .highz)))

/-! ### Clocks, power and heat -/

/-- The reference and step time (R648, R649, R652 to R655): an epoch is loaded at the first pulse that comes 100 µs after its
write; a pulse within 16 ns is slewed out, any other is a slip, and three that agree realign; holdover, and its ends. -/
def Obligations.ClocksFollowReferenceAndPulses : Prop :=
  ∀ s : State,
    (s.clk.refHoldover = false → ∃ t : State, exec .refclkLost s = .next t ∧ t.clk.refHoldover = true ∧
      t.clk.sync ≠ .locked ∧ t.clk.sync ≠ .aligning ∧ t.ev.counts[0xA0] = bump s.ev.counts[0xA0]) ∧
    (s.clk.refHoldover = true → s.sys.boot ≠ .waitRefclk → ∃ t : State, exec .refclkRestored s = .next t ∧
      t.clk.refHoldover = false ∧ t.ev.counts[0xA1] = bump s.ev.counts[0xA1] ∧ t.clk.sync = s.clk.sync) ∧
    (∀ e : U64, Serving s → objHeld s (objAt 0x2E00 2 0) = false → e.toNat % 2 ^ 20 = 0 →
      exec (.epochWrite (.direct .operator) e) s = .next (answered (updClk s (fun c => { c with epoch := some (e.toNat, s.now) })) .operator 0)) ∧
    (∀ e a : Nat, s.clk.epoch = some (e, a) → a + 100000 ≤ s.now → s.clk.refHoldover = false →
      ∃ t : State, exec .stepPulse s = .next t ∧ t.clk.stepTime = BitVec.ofNat 64 e ∧ t.clk.sync = .locked ∧ t.clk.epoch = none) ∧
    (s.clk.epoch = none → s.clk.refHoldover = false → s.clk.sync ≠ .unset → ∀ e : Int, e = pulseError (stepNow s) true →
      (e.natAbs ≤ 16 → s.clk.sync ≠ .aligning → ∃ t : State, exec .stepPulse s = .next t ∧ t.clk.pulseErr = e ∧
        t.clk.slew = e ∧ t.clk.sync = .locked ∧ t.clk.slips = s.clk.slips ∧ t.clk.lastPulse = s.now) ∧
      (16 < e.natAbs → stepNow s % 1048576 ≠ 524288 → ∃ t : State, exec .stepPulse s = .next t ∧
        t.clk.slips = bump s.clk.slips ∧ t.ev.counts[0xA3] = bump s.ev.counts[0xA3] ∧
        (∀ a b : Int, s.clk.errs = [a, b] → s.clk.sync ≠ .aligning → (a - b).natAbs ≤ 2 → (a - e).natAbs ≤ 2 → (b - e).natAbs ≤ 2 →
          t.clk.sync = .aligning ∧ (e < 0 → t.clk.forward = some ((stepNow s / 1024 + 1) * 1024, e.natAbs)) ∧
          (0 < e → t.clk.halve = e.natAbs)) ∧
        (s.clk.errs = [] → t.clk.sync = s.clk.sync))) ∧
    (s.clk.sync = .locked ∨ s.clk.sync = .aligning → ∃ t : State, exec .stepLost s = .next t ∧ t.clk.sync = .holdover ∧
      t.now = max s.now (s.clk.lastPulse + 4194304) ∧ t.ev.counts[0xA2] = bump s.ev.counts[0xA2]) ∧
    (s.clk.sync = .aligning → s.clk.slew = 0 →
      (s.clk.forward = none → ∃ t : State, exec .alignmentComplete s = .next t ∧ t.clk.sync = .locked ∧ t.clk.halve = 0) ∧
      (∀ b n : Nat, s.clk.forward = some (b, n) → stepNow s < b → 0 < n → s.clk.halve = 0 →
        ∃ t : State, exec .alignmentComplete s = .next t ∧ t.clk.sync = .locked ∧ t.clk.stepTime = BitVec.ofNat 64 (b + n)))

/-- Performance points, power states and sleep (R665 to R667, R677 to R682): a change starts where R678 lists it and is
refused elsewhere, a request in a change waits; what a state loses is lost when it is entered. -/
def Obligations.PowerStatesAndPoints : Prop :=
  ∀ s : State,
    (∀ (k : Fin 8) (p : U8), Serving s → objHeld s (objAt 0x9500 1 k) = false → p.toNat < 8 →
      exec (.performancePointWrite (.direct .operator) k p) s = .next (answered (updDieP s k (fun d =>
        if d.changing then { d with pendingPoint := p } else if d.point = p then d
        else { d with from_ := d.point, point := p, changing := true })) .operator 0)) ∧
    (∀ k : Fin 8, (dieP s k).changing = true → ∃ t : State, exec (.performancePointDone k) s = .next t ∧
      ((dieP s k).pendingPoint = 0xFF#8 → (dieP t k).changing = false ∧ (dieP t k).point = (dieP s k).point) ∧
      ((dieP s k).pendingPoint ≠ 0xFF#8 → (dieP s k).pendingPoint ≠ (dieP s k).point →
        (dieP t k).changing = true ∧ (dieP t k).point = (dieP s k).pendingPoint)) ∧
    (Serving s → objHeld s (objAt 0x2E10 1 0) = false → s.power.stop = .none →
      ∀ (c : Instr) (b : PowerSt), (c, b) ∈ [(Instr.powerStateP0 (.direct .operator), PowerSt.p0),
        (.powerStateP1 (.direct .operator), .p1), (.powerStateP2 (.direct .operator), .p2), (.powerStateP3 (.direct .operator), .p3)] →
      (s.power.target = none → changeOk s s.power.st b = true → s.power.st ≠ .p3 →
        exec c s = .next (answered (updPower s (fun w => { w with target := some b })) .operator 0)) ∧
      (s.power.target = none → changeOk s s.power.st b = false → exec c s = .next (answered s .operator abSTATE)) ∧
      (s.power.target ≠ none → exec c s = .next (answered
        (updPower s (fun w => { w with pending := BitVec.ofNat 8 (powerCode b) })) .operator 0))) ∧
    (∀ (b : PowerSt) (idle : Vector U16 8), s.power.target = some b → s.power.st ≠ .p3 → s.power.pending = 0xFF#8 →
      ∃ t : State, exec (.powerStateChangeDone idle []) s = .next t ∧ t.power.st = b ∧ t.power.target = none ∧
        (b = .p1 → ∀ k : Fin 8, t.power.dies[k].idle = idle[k] ∧ t.mem.store = s.mem.store ∧ (arrOf t k).bufs = (arrOf s k).bufs) ∧
        (b = .p2 → t.mem.hbm = s.mem.hbm ∧ ∃ n : Nat, ∀ k : Fin 8, t.mem.store[k] = memScramble n) ∧
        (b = .p3 → t.power.convertersOn = false ∧ t.mem.flash = s.mem.flash ∧ t.ev.record = s.ev.record ∧
          ∀ l : Fin 16, t.power.lasers[l] = s.optics.lasers[l].reqEnable)) ∧
    (∀ b : Bool, (if b then s.sys.sep else s.sys.mgp) = .up → ∃ t : State, exec (.islandSleep b) s = .next t ∧
      (if b then t.sys.sep else t.sys.mgp) = .asleep) ∧
    (∀ b : Bool, (if b then s.sys.sep else s.sys.mgp) = .asleep → ∃ t : State, exec (.islandWake b) s = .next t ∧
      (if b then t.sys.sep else t.sys.mgp) = .waking)

/-- The input, limits, throttling and trips (R658 to R664, R669 to R675, R683): the converters run from a valid input and stop
on a fault, a faulty regulator goes off, measurements set the caps, F falls at once and rises by sixteenths each 1 ms, holds
bring it to 0, 105 °C stops the package. -/
def Obligations.PowerLimitsThrottleAndTrips : Prop :=
  ∀ s : State,
    (∀ mv : U16, 40000 ≤ mv.toNat → s.power.convertersOn = false → s.power.stop = .none → s.power.inputValid = false →
      ∃ t : State, exec (.inputValid mv) s = .next t ∧ t.power.convertersOn = true ∧ t.sys.bootDue = true ∧
        t.sys.boot = .rom ∧ t.power.mv = mv) ∧
    (s.power.convertersOn = true → ∀ mv : U16,
      (mv.toNat < 38000 → ∃ t : State, exec (.inputUndervoltage mv) s = .next t ∧ t.power.stop = .inputFault ∧
        t.power.convertersOn = false ∧ t.mem.flash = s.mem.flash) ∧
      (60000 < mv.toNat → ∃ t : State, exec (.inputOvervoltage mv) s = .next t ∧ t.power.stop = .inputFault ∧
        t.power.convertersOn = false)) ∧
    (∀ r : Fin 210, regulatorOn s r = true → ∃ t : State, exec (.regulatorFault r) s = .next t ∧ regulatorOn t r = false) ∧
    (∀ (mv : U16) (ma power : U32) (projected : Nat) (dies : Vector (U16 × U16 × U16) 8), ∃ t : State,
      exec (.powerBudgetUpdate mv ma power projected dies) s = .next t ∧ t.now = max s.now (s.power.budgetAt + 1000000) ∧
      t.power.mv = mv ∧ t.power.ma = ma ∧ t.power.power = power ∧ ∀ k : Fin 8,
        (t.power.dies[k].diePower, t.power.dies[k].storePower, t.power.dies[k].hbmPower) = dies[k] ∧
        ((lowestCap t.power.dies[k]).2 < s.power.dies[k].frac.toNat →
          t.power.dies[k].frac = BitVec.ofNat 8 (lowestCap t.power.dies[k]).2)) ∧
    (∀ k : Fin 8, mayRise (dieP s k) = true → ∃ t : State, exec (.throttleRise k) s = .next t ∧
      (dieP t k).frac = (dieP s k).frac + 1#8 ∧ t.now = max s.now ((dieP s k).riseAt + 1000000) ∧ (dieP t k).riseAt = t.now) ∧
    (∀ (k : Fin 8) (a : Nat), (dieP s k).slewUntil = some a → ∃ t : State, exec (.slewHoldEnd k) s = .next t ∧
      (dieP t k).slewUntil = none ∧ t.now = max s.now a) ∧
    (∀ (k : Fin 8) (a : Nat), (dieP s k).storeHotFrom = some a → (dieP s k).storeHold = false → (dieP s k).slewUntil = none →
      ∃ t : State, exec (.thermalHold k) s = .next t ∧ (dieP t k).storeHold = true ∧ (dieP t k).frac = 0#8 ∧
        t.now = max s.now (a + 1000000)) ∧
    (∀ (uk : Fin 21) (ui : Fin 4096), unitExists uk ui = 0 → s.power.stop ≠ .tripped → ∃ t : State,
      exec (.thermtrip uk ui) s = .next t ∧ t.power.stop = .tripped ∧ t.power.convertersOn = false ∧ t.power.thermtrip = true ∧
      t.sys.boot = .tripped) ∧
    (∀ temps : Vector Int 932, s.power.sensorInj = [] → s.ev.points[0x0C].armed = false →
      ∃ t : State, exec (.sensorSample temps) s = .next t ∧ t.now = max s.now (s.power.sampleAt + 10000) ∧
        ((∀ i : Fin 932, temps[i] < 1050) → ∀ i : Fin 932, (sensorOf t i).hist = (temps[i] :: (sensorOf s i).hist).take 26 ∧
          (sensorOf t i).valid = (allValid temps.toList).getD i false) ∧
        ((∀ i : Fin 932, temps[i] = 1050) → t.power.stop = .tripped))

/-! ### Resets, boot, firmware and functions -/

/-- Resets and the boot sequence (R600, R684, R690 to R698, R705, R766): what a reset covers is as after reset and what it does
not reach stands; the boot follows, and is READY 2.75 s after its origin. -/
def Obligations.ResetsAndBoot : Prop :=
  ∀ s : State,
    (Serving s → objHeld s (objAt 0x2F00 1 0) = false → s.sys.running = none → s.power.stop = .none →
      (∀ c ∈ [Instr.resetPackage (.direct .operator), .resetCold (.direct .operator)], ∃ t : State, exec c s = .next t ∧
        t.sys.bootDue = true ∧ t.sys.boot = .rom ∧ t.sys.cause = 2#8 ∧ t.mem.flash = s.mem.flash ∧
        t.mem.store = MemS.reset.store ∧ t.mem.hbm = MemS.reset.hbm ∧ t.out = s.out ++ [.status 0x50 0] ∧
        t.sec.creds = s.sec.creds ∧ t.sec.partMap = s.sec.partMap ∧ t.sys.boots = s.sys.boots) ∧
      (allEmpty s = true → s.ev.faults = [] → (∀ r : Nat, r < 68 → runningMove s r = none) →
        (∀ (k : Fin 8) (a : Fin 8), s.sys.resetting.contains (10 * k.val + a.val) = false → ∃ t : State,
          exec (.resetIsland (.direct .operator) (BitVec.ofNat 8 (10 * k.val + a.val))) s = .next t ∧
          arrOf t (8 * k + a) = ArrayS.reset ∧ t.sys.resetting.contains (10 * k.val + a.val) = true ∧ t.mem.store = s.mem.store) ∧
        (∀ k : Fin 8, dieInReset s k = false → ∃ t : State, exec (.resetDie (.direct .operator) k) s = .next t ∧
          dieInReset t k = true ∧ t.mem.store[k] = Mem.empty ∧ t.mem.hbm = s.mem.hbm ∧ vxeOf t k = VxeS.reset ∧
          ∀ j : Fin 8, j ≠ k → t.mem.store[j] = s.mem.store[j])) ∧
      ∃ t : State, exec (.resetRecovery (.direct .securityOfficer)) s = .next t ∧ t.sys.armedAt = some s.now ∧
        t.out = s.out ++ [.status 0x51 0]) ∧
    (∀ a : Nat, s.sys.armedAt = some a → ∃ t : State, exec .recoveryArmLapse s = .next t ∧ t.sys.armedAt = none ∧
      t.now = max s.now (a + 60000000000)) ∧
    (∀ k : ResetKind, s.sys.latched = some k →
      (cool s = true → ∃ t : State, exec .latchedResetRun s = .next t ∧ t.sys.running = some k ∧ t.sys.latched = none ∧
        t.sys.bootDue = true) ∧
      (cool s = false → exec .latchedResetRun s = .next s)) ∧
    (∀ ns : Nat, (ns < 10000 → exec (.rstNAssert ns) s = .next s) ∧
      (1000000 ≤ ns → s.power.stop = .none → s.sys.running = none → ∃ t : State, exec (.rstNAssert ns) s = .next t ∧
        t.sys.running = some .package ∧ t.sys.rstN = true ∧ t.sys.cause = 1#8)) ∧
    (s.sys.bootDue = true → s.power.convertersOn = true → s.sys.fwValid = true → s.clk.refHoldover = false → ∀ calOk : Bool,
      ∃ t : State, exec (.bootStart [] calOk true) s = .next t ∧ t.sys.booting = true ∧ t.sys.bootFrom = s.now ∧
        t.sys.boot = .rom ∧ t.sys.boots = bump s.sys.boots ∧ t.sys.bootDue = false ∧ t.sys.rstN = false ∧
        (s.sys.fromP3 = false → t.optics.calib.inForce = (if calOk then some s.optics.calib.stored else none))) ∧
    (s.sys.booting = true → s.sys.boot = .rom → s.sys.fwValid = true → ∃ t : State, exec .bootDone s = .next t ∧
      t.sys.boot = .ready ∧ t.sys.mgp = .up ∧ t.sys.sep = .up ∧ t.now = max s.now (s.sys.bootFrom + 2750000000) ∧
      t.power.st = .p0 ∧ t.sys.running = none ∧ t.ev.counts[0xB0] = bump s.ev.counts[0xB0]) ∧
    (∀ i : Fin 120, s.sys.resetting.contains i.val = true → ∃ t : State, exec (.leaveReset (.island i)) s = .next t ∧
      t.sys.resetting.contains i.val = false ∧ (i.val = 85 → t.sys.sep = .up) ∧
      (i.val = 84 → s.sys.mgpFailed = false → t.sys.mgp = .up)) ∧
    (∃ t : State, exec .inputRemoved s = .next t ∧ t.power.convertersOn = false ∧ t.power.inputValid = false ∧
      t.power.stop = .none ∧ t.sys.boot = .rom ∧ t.ev.prior = [] ∧ t.mem.flash = s.mem.flash ∧ t.sec.creds = s.sec.creds)

/-- The watchdog, firmware and functions (R695 to R697, R700 to R704, R707 to R710): a missed watchdog resets the MGP, and the
third time in ten minutes leaves it there; an image that passes its checks is written and raises the floor, any other is
INVALID; a function's change starts, waits behind a running one, and ends. -/
def Obligations.WatchdogFirmwareAndFunctions : Prop :=
  ∀ s : State,
    (s.sys.mgp = .up → exec .watchdogWrite s = .next (updSys s (fun y => { y with wdAt := s.now })) ∧
      ∃ t : State, exec .mgpReset s = .next t ∧ t.sys.mgp = .resetting ∧ t.sys.mgpResets = bump s.sys.mgpResets ∧
        t.now = max s.now (s.sys.wdAt + 1000000 * s.sys.wdInterval.toNat) ∧ t.ev.counts[0xB1] = bump s.ev.counts[0xB1] ∧
        t.sys.mgpFailed = decide (2 ≤ s.sys.mgpResetAt.countP (fun a => decide (t.now < a + 600000000000)))) ∧
    (Serving s → (∀ sub : Nat, objHeld s (objAt 0x2F20 sub 0) = false) → s.sys.fwState ≠ .writing →
      (∀ img : List Byte, 256 ≤ img.length → img.length ≤ 16777216 → ∃ t : State,
        exec (.firmwareStage (.direct .operator) img) s = .next (answered t .operator 0) ∧ t.sys.fwStaged = img ∧
        t.sys.fwState = .staged) ∧
      ∃ t : State, exec (.firmwareCommit (.direct .operator)) s = .next (answered t .operator 0) ∧ t.sys.fwState =
        (if s.sys.fwStaged ≠ [] ∧ s.sys.fwFloor.toNat ≤ fwSecver s.sys.fwStaged ∧ fwChecks s.sys.fwStaged = true then .writing
          else .invalid)) ∧
    (∀ img : List Byte, s.sys.fwState = .writing → s.sys.fwImage = some img → s.sys.boot ≠ .loader →
      ∃ t : State, exec .firmwareWritten s = .next t ∧ t.sys.fwState = .written ∧ t.sys.fwImage = some img ∧
      t.sys.fwFloor = BitVec.ofNat 16 (max s.sys.fwFloor.toNat (fwSecver img)) ∧
      t.ev.counts[0xB3] = bump s.ev.counts[0xB3]) ∧
    (Serving s → ∀ f : Fin 10, objHeld s (objAt 0x9600 1 f) = false →
      ((funcOf s f).st = .disabled → exec (.functionEnable (.direct .operator) f) s =
        .next (answered (updFunc s f (fun x => { x with st := .enabling })) .operator 0)) ∧
      (f.val < 8 → (funcOf s f).st = .enabled → partOfDie s f = none → ∃ t : State,
        exec (.functionDisable (.direct .operator) f) s = .next (answered t .operator 0) ∧ (funcOf t f).st = .disabling ∧
        (seqOf t f).st = .outOfService) ∧
      ((funcOf s f).st = .enabling ∨ (funcOf s f).st = .disabling → exec (.functionDisable (.direct .operator) f) s =
        .next (answered (updFunc s f (fun x => { x with pending := 0#8 })) .operator 0))) ∧
    (∀ (f : Fin 10) (wires : List WireCount), (funcOf s f).pending = 0xFF#8 →
      ((funcOf s f).st = .enabling → ∃ t : State, exec (.functionChangeDone f wires) s = .next t ∧ (funcOf t f).st = .enabled) ∧
      ((funcOf s f).st = .disabling → ∃ t : State, exec (.functionChangeDone f wires) s = .next t ∧ (funcOf t f).st = .disabled ∧
        (f.val < 8 → (seqOf t f).st = .outOfService)))

/-! ### Every step -/

/-- What every step keeps: each buffer, local memory, die memory, store die, HBM pair and flash slice holds its bytes in the
one canonical form. -/
def Obligations.EveryStepAnswersAndKeepsStorageCanonical : Prop :=
  ∀ s : State, ∃ t : State, step s = .next t ∧ t.pending = s.pending.tail ∧ (StorageCanonical s → StorageCanonical t)

/-- After reset every storage is in its canonical form, no command waits, the lasers are off, nothing is lit and the 48 V
input is not yet valid. -/
def Obligations.ResetIsCanonicalAndDark : Prop :=
  StorageCanonical State.reset ∧ State.reset.pending = [] ∧ State.reset.power.convertersOn = false ∧
    State.reset.clk.sync = .unset ∧ (∀ n : Fin 16, State.reset.optics.lasers[n].en = false ∧ State.reset.optics.lasers[n].st = .off) ∧
    (∀ d : Fin 8, State.reset.sec.partMap[d] = 0xFF#8 ∧ (seqOf State.reset d).st = .idle ∧ (vxeOf State.reset d).st = .idle) ∧
    (∀ a : Fin 64, State.reset.arrays[a].trays = Vector.replicate 256 Tray.fresh ∧ State.reset.arrays[a].dIndex = 0#48) ∧
    (∀ p : Fin 8, State.reset.negs[p].state = .empty) ∧ State.reset.ev.record = [] ∧ State.reset.eumon.sessions = []
end

