-- ==== Sys2Proof/Laws/State.lean ====
section
/-! SUPPORT. The small lemmas of the state's updates: what each reads afterwards, field by field and accessor by accessor. -/

namespace Sys2Proof.Machine

/-! ### Vectors -/

theorem vget_vmod_same {α : Type} {n : Nat} (v : Vector α n) (i : Nat) (d : α) (f : α → α) (h : i < n) :
    vget (vmod v i f) i d = f (vget v i d) := by simp [vget, vmod, h]
theorem vget_vmod_ne {α : Type} {n : Nat} (v : Vector α n) (i j : Nat) (d : α) (f : α → α) (h : i ≠ j) :
    vget (vmod v i f) j d = vget v j d := by
  unfold vget vmod; by_cases hj : j < n <;> by_cases hi : i < n <;> simp [hi, hj, h]
theorem vmod_vmod {α : Type} {n : Nat} (v : Vector α n) (i : Nat) (f g : α → α) :
    vmod (vmod v i f) i g = vmod v i (fun x => g (f x)) := by
  unfold vmod; split <;> simp_all
theorem vmod_congr {α : Type} {n : Nat} (v : Vector α n) (i : Nat) (d : α) (f g : α → α)
    (h : f (vget v i d) = g (vget v i d)) : vmod v i f = vmod v i g := by
  unfold vmod vget at *; split <;> simp_all
theorem vmod_id {α : Type} {n : Nat} (v : Vector α n) (i : Nat) (d : α) (f : α → α)
    (h : f (vget v i d) = vget v i d) : vmod v i f = v := by
  unfold vmod vget at *; split <;> simp_all

/-! ### What each update leaves unchanged -/

@[simp] theorem updArr_now (s : State) (i : Nat) (f : ArrayS → ArrayS) : (updArr s i f).now = s.now := rfl
@[simp] theorem updArr_free (s : State) (i : Nat) (f : ArrayS → ArrayS) : (updArr s i f).free = s.free := rfl
@[simp] theorem updArr_out (s : State) (i : Nat) (f : ArrayS → ArrayS) : (updArr s i f).out = s.out := rfl
@[simp] theorem updArr_pending (s : State) (i : Nat) (f : ArrayS → ArrayS) : (updArr s i f).pending = s.pending := rfl
@[simp] theorem updArr_dbg (s : State) (i : Nat) (f : ArrayS → ArrayS) : (updArr s i f).dbg = s.dbg := rfl
@[simp] theorem updArr_vxes (s : State) (i : Nat) (f : ArrayS → ArrayS) : (updArr s i f).vxes = s.vxes := rfl
@[simp] theorem updArr_seqs (s : State) (i : Nat) (f : ArrayS → ArrayS) : (updArr s i f).seqs = s.seqs := rfl
@[simp] theorem updArr_negs (s : State) (i : Nat) (f : ArrayS → ArrayS) : (updArr s i f).negs = s.negs := rfl
@[simp] theorem updArr_reels (s : State) (i : Nat) (f : ArrayS → ArrayS) : (updArr s i f).reels = s.reels := rfl
@[simp] theorem updArr_watchdogs (s : State) (i : Nat) (f : ArrayS → ArrayS) : (updArr s i f).watchdogs = s.watchdogs := rfl
@[simp] theorem updArr_mem (s : State) (i : Nat) (f : ArrayS → ArrayS) : (updArr s i f).mem = s.mem := rfl
@[simp] theorem updArr_optics (s : State) (i : Nat) (f : ArrayS → ArrayS) : (updArr s i f).optics = s.optics := rfl
@[simp] theorem updArr_ev (s : State) (i : Nat) (f : ArrayS → ArrayS) : (updArr s i f).ev = s.ev := rfl
@[simp] theorem updArr_eumon (s : State) (i : Nat) (f : ArrayS → ArrayS) : (updArr s i f).eumon = s.eumon := rfl
@[simp] theorem updArr_exps (s : State) (i : Nat) (f : ArrayS → ArrayS) : (updArr s i f).exps = s.exps := rfl
@[simp] theorem updArr_sec (s : State) (i : Nat) (f : ArrayS → ArrayS) : (updArr s i f).sec = s.sec := rfl
@[simp] theorem updArr_clk (s : State) (i : Nat) (f : ArrayS → ArrayS) : (updArr s i f).clk = s.clk := rfl
@[simp] theorem updArr_fabric (s : State) (i : Nat) (f : ArrayS → ArrayS) : (updArr s i f).fabric = s.fabric := rfl
@[simp] theorem updArr_power (s : State) (i : Nat) (f : ArrayS → ArrayS) : (updArr s i f).power = s.power := rfl
@[simp] theorem updArr_cle (s : State) (i : Nat) (f : ArrayS → ArrayS) : (updArr s i f).cle = s.cle := rfl
@[simp] theorem updArr_host (s : State) (i : Nat) (f : ArrayS → ArrayS) : (updArr s i f).host = s.host := rfl
@[simp] theorem updArr_mail (s : State) (i : Nat) (f : ArrayS → ArrayS) : (updArr s i f).mail = s.mail := rfl
@[simp] theorem updArr_sys (s : State) (i : Nat) (f : ArrayS → ArrayS) : (updArr s i f).sys = s.sys := rfl
@[simp] theorem updArr_vxeOf (s : State) (i : Nat) (f : ArrayS → ArrayS) (k : Nat) : vxeOf (updArr s i f) k = vxeOf s k := rfl
@[simp] theorem updArr_seqOf (s : State) (i : Nat) (f : ArrayS → ArrayS) (k : Nat) : seqOf (updArr s i f) k = seqOf s k := rfl
@[simp] theorem updArr_negOf (s : State) (i : Nat) (f : ArrayS → ArrayS) (k : Nat) : negOf (updArr s i f) k = negOf s k := rfl
@[simp] theorem updArr_reelOf (s : State) (i : Nat) (f : ArrayS → ArrayS) (k : Nat) : reelOf (updArr s i f) k = reelOf s k := rfl
@[simp] theorem updArr_chanOf (s : State) (i : Nat) (f : ArrayS → ArrayS) (k : Nat) : chanOf (updArr s i f) k = chanOf s k := rfl
@[simp] theorem updArr_regOf (s : State) (i : Nat) (f : ArrayS → ArrayS) (k : Nat) : regOf (updArr s i f) k = regOf s k := rfl
@[simp] theorem updArr_pairOf (s : State) (i : Nat) (f : ArrayS → ArrayS) (k : Nat) : pairOf (updArr s i f) k = pairOf s k := rfl
@[simp] theorem updArr_flashOf (s : State) (i : Nat) (f : ArrayS → ArrayS) (k : Nat) : flashOf (updArr s i f) k = flashOf s k := rfl
@[simp] theorem updArr_portOf (s : State) (i : Nat) (f : ArrayS → ArrayS) (k : Nat) : portOf (updArr s i f) k = portOf s k := rfl
@[simp] theorem updArr_outOf (s : State) (i : Nat) (f : ArrayS → ArrayS) (k : Nat) : outOf (updArr s i f) k = outOf s k := rfl
@[simp] theorem updArr_engOf (s : State) (i : Nat) (f : ArrayS → ArrayS) (k : Nat) : engOf (updArr s i f) k = engOf s k := rfl
@[simp] theorem updArr_laneOf (s : State) (i : Nat) (f : ArrayS → ArrayS) (k : Nat) : laneOf (updArr s i f) k = laneOf s k := rfl
@[simp] theorem updArr_laserOf (s : State) (i : Nat) (f : ArrayS → ArrayS) (k : Nat) : laserOf (updArr s i f) k = laserOf s k := rfl
@[simp] theorem updArr_optPortOf (s : State) (i : Nat) (f : ArrayS → ArrayS) (k : Nat) : optPortOf (updArr s i f) k = optPortOf s k := rfl
@[simp] theorem updArr_winOf (s : State) (i : Nat) (f : ArrayS → ArrayS) (k : Nat) : winOf (updArr s i f) k = winOf s k := rfl
@[simp] theorem updArr_hportOf (s : State) (i : Nat) (f : ArrayS → ArrayS) (k : Nat) : hportOf (updArr s i f) k = hportOf s k := rfl
@[simp] theorem updArr_pointOf (s : State) (i : Nat) (f : ArrayS → ArrayS) (k : Nat) : pointOf (updArr s i f) k = pointOf s k := rfl
@[simp] theorem updArr_expOf (s : State) (i : Nat) (f : ArrayS → ArrayS) (k : Nat) : expOf (updArr s i f) k = expOf s k := rfl
@[simp] theorem updArr_propOf (s : State) (i : Nat) (f : ArrayS → ArrayS) (k : Nat) : propOf (updArr s i f) k = propOf s k := rfl
@[simp] theorem updArr_funcOf (s : State) (i : Nat) (f : ArrayS → ArrayS) (k : Nat) : funcOf (updArr s i f) k = funcOf s k := rfl
@[simp] theorem updArr_linkOf (s : State) (i : Nat) (f : ArrayS → ArrayS) (k : Nat) : linkOf (updArr s i f) k = linkOf s k := rfl
@[simp] theorem updArr_chOf (s : State) (i : Nat) (f : ArrayS → ArrayS) (k : Nat) : chOf (updArr s i f) k = chOf s k := rfl
@[simp] theorem updArr_slotOf (s : State) (i : Nat) (f : ArrayS → ArrayS) (k : Nat) : slotOf (updArr s i f) k = slotOf s k := rfl
@[simp] theorem updVxe_now (s : State) (i : Nat) (f : VxeS → VxeS) : (updVxe s i f).now = s.now := rfl
@[simp] theorem updVxe_free (s : State) (i : Nat) (f : VxeS → VxeS) : (updVxe s i f).free = s.free := rfl
@[simp] theorem updVxe_out (s : State) (i : Nat) (f : VxeS → VxeS) : (updVxe s i f).out = s.out := rfl
@[simp] theorem updVxe_pending (s : State) (i : Nat) (f : VxeS → VxeS) : (updVxe s i f).pending = s.pending := rfl
@[simp] theorem updVxe_arrays (s : State) (i : Nat) (f : VxeS → VxeS) : (updVxe s i f).arrays = s.arrays := rfl
@[simp] theorem updVxe_dbg (s : State) (i : Nat) (f : VxeS → VxeS) : (updVxe s i f).dbg = s.dbg := rfl
@[simp] theorem updVxe_seqs (s : State) (i : Nat) (f : VxeS → VxeS) : (updVxe s i f).seqs = s.seqs := rfl
@[simp] theorem updVxe_negs (s : State) (i : Nat) (f : VxeS → VxeS) : (updVxe s i f).negs = s.negs := rfl
@[simp] theorem updVxe_reels (s : State) (i : Nat) (f : VxeS → VxeS) : (updVxe s i f).reels = s.reels := rfl
@[simp] theorem updVxe_watchdogs (s : State) (i : Nat) (f : VxeS → VxeS) : (updVxe s i f).watchdogs = s.watchdogs := rfl
@[simp] theorem updVxe_mem (s : State) (i : Nat) (f : VxeS → VxeS) : (updVxe s i f).mem = s.mem := rfl
@[simp] theorem updVxe_optics (s : State) (i : Nat) (f : VxeS → VxeS) : (updVxe s i f).optics = s.optics := rfl
@[simp] theorem updVxe_ev (s : State) (i : Nat) (f : VxeS → VxeS) : (updVxe s i f).ev = s.ev := rfl
@[simp] theorem updVxe_eumon (s : State) (i : Nat) (f : VxeS → VxeS) : (updVxe s i f).eumon = s.eumon := rfl
@[simp] theorem updVxe_exps (s : State) (i : Nat) (f : VxeS → VxeS) : (updVxe s i f).exps = s.exps := rfl
@[simp] theorem updVxe_sec (s : State) (i : Nat) (f : VxeS → VxeS) : (updVxe s i f).sec = s.sec := rfl
@[simp] theorem updVxe_clk (s : State) (i : Nat) (f : VxeS → VxeS) : (updVxe s i f).clk = s.clk := rfl
@[simp] theorem updVxe_fabric (s : State) (i : Nat) (f : VxeS → VxeS) : (updVxe s i f).fabric = s.fabric := rfl
@[simp] theorem updVxe_power (s : State) (i : Nat) (f : VxeS → VxeS) : (updVxe s i f).power = s.power := rfl
@[simp] theorem updVxe_cle (s : State) (i : Nat) (f : VxeS → VxeS) : (updVxe s i f).cle = s.cle := rfl
@[simp] theorem updVxe_host (s : State) (i : Nat) (f : VxeS → VxeS) : (updVxe s i f).host = s.host := rfl
@[simp] theorem updVxe_mail (s : State) (i : Nat) (f : VxeS → VxeS) : (updVxe s i f).mail = s.mail := rfl
@[simp] theorem updVxe_sys (s : State) (i : Nat) (f : VxeS → VxeS) : (updVxe s i f).sys = s.sys := rfl
@[simp] theorem updVxe_arrOf (s : State) (i : Nat) (f : VxeS → VxeS) (k : Nat) : arrOf (updVxe s i f) k = arrOf s k := rfl
@[simp] theorem updVxe_seqOf (s : State) (i : Nat) (f : VxeS → VxeS) (k : Nat) : seqOf (updVxe s i f) k = seqOf s k := rfl
@[simp] theorem updVxe_negOf (s : State) (i : Nat) (f : VxeS → VxeS) (k : Nat) : negOf (updVxe s i f) k = negOf s k := rfl
@[simp] theorem updVxe_reelOf (s : State) (i : Nat) (f : VxeS → VxeS) (k : Nat) : reelOf (updVxe s i f) k = reelOf s k := rfl
@[simp] theorem updVxe_chanOf (s : State) (i : Nat) (f : VxeS → VxeS) (k : Nat) : chanOf (updVxe s i f) k = chanOf s k := rfl
@[simp] theorem updVxe_regOf (s : State) (i : Nat) (f : VxeS → VxeS) (k : Nat) : regOf (updVxe s i f) k = regOf s k := rfl
@[simp] theorem updVxe_pairOf (s : State) (i : Nat) (f : VxeS → VxeS) (k : Nat) : pairOf (updVxe s i f) k = pairOf s k := rfl
@[simp] theorem updVxe_flashOf (s : State) (i : Nat) (f : VxeS → VxeS) (k : Nat) : flashOf (updVxe s i f) k = flashOf s k := rfl
@[simp] theorem updVxe_portOf (s : State) (i : Nat) (f : VxeS → VxeS) (k : Nat) : portOf (updVxe s i f) k = portOf s k := rfl
@[simp] theorem updVxe_outOf (s : State) (i : Nat) (f : VxeS → VxeS) (k : Nat) : outOf (updVxe s i f) k = outOf s k := rfl
@[simp] theorem updVxe_engOf (s : State) (i : Nat) (f : VxeS → VxeS) (k : Nat) : engOf (updVxe s i f) k = engOf s k := rfl
@[simp] theorem updVxe_laneOf (s : State) (i : Nat) (f : VxeS → VxeS) (k : Nat) : laneOf (updVxe s i f) k = laneOf s k := rfl
@[simp] theorem updVxe_laserOf (s : State) (i : Nat) (f : VxeS → VxeS) (k : Nat) : laserOf (updVxe s i f) k = laserOf s k := rfl
@[simp] theorem updVxe_optPortOf (s : State) (i : Nat) (f : VxeS → VxeS) (k : Nat) : optPortOf (updVxe s i f) k = optPortOf s k := rfl
@[simp] theorem updVxe_winOf (s : State) (i : Nat) (f : VxeS → VxeS) (k : Nat) : winOf (updVxe s i f) k = winOf s k := rfl
@[simp] theorem updVxe_hportOf (s : State) (i : Nat) (f : VxeS → VxeS) (k : Nat) : hportOf (updVxe s i f) k = hportOf s k := rfl
@[simp] theorem updVxe_pointOf (s : State) (i : Nat) (f : VxeS → VxeS) (k : Nat) : pointOf (updVxe s i f) k = pointOf s k := rfl
@[simp] theorem updVxe_expOf (s : State) (i : Nat) (f : VxeS → VxeS) (k : Nat) : expOf (updVxe s i f) k = expOf s k := rfl
@[simp] theorem updVxe_propOf (s : State) (i : Nat) (f : VxeS → VxeS) (k : Nat) : propOf (updVxe s i f) k = propOf s k := rfl
@[simp] theorem updVxe_funcOf (s : State) (i : Nat) (f : VxeS → VxeS) (k : Nat) : funcOf (updVxe s i f) k = funcOf s k := rfl
@[simp] theorem updVxe_linkOf (s : State) (i : Nat) (f : VxeS → VxeS) (k : Nat) : linkOf (updVxe s i f) k = linkOf s k := rfl
@[simp] theorem updVxe_chOf (s : State) (i : Nat) (f : VxeS → VxeS) (k : Nat) : chOf (updVxe s i f) k = chOf s k := rfl
@[simp] theorem updVxe_slotOf (s : State) (i : Nat) (f : VxeS → VxeS) (k : Nat) : slotOf (updVxe s i f) k = slotOf s k := rfl
@[simp] theorem updSeq_now (s : State) (i : Nat) (f : SeqS → SeqS) : (updSeq s i f).now = s.now := rfl
@[simp] theorem updSeq_free (s : State) (i : Nat) (f : SeqS → SeqS) : (updSeq s i f).free = s.free := rfl
@[simp] theorem updSeq_out (s : State) (i : Nat) (f : SeqS → SeqS) : (updSeq s i f).out = s.out := rfl
@[simp] theorem updSeq_pending (s : State) (i : Nat) (f : SeqS → SeqS) : (updSeq s i f).pending = s.pending := rfl
@[simp] theorem updSeq_arrays (s : State) (i : Nat) (f : SeqS → SeqS) : (updSeq s i f).arrays = s.arrays := rfl
@[simp] theorem updSeq_dbg (s : State) (i : Nat) (f : SeqS → SeqS) : (updSeq s i f).dbg = s.dbg := rfl
@[simp] theorem updSeq_vxes (s : State) (i : Nat) (f : SeqS → SeqS) : (updSeq s i f).vxes = s.vxes := rfl
@[simp] theorem updSeq_negs (s : State) (i : Nat) (f : SeqS → SeqS) : (updSeq s i f).negs = s.negs := rfl
@[simp] theorem updSeq_reels (s : State) (i : Nat) (f : SeqS → SeqS) : (updSeq s i f).reels = s.reels := rfl
@[simp] theorem updSeq_watchdogs (s : State) (i : Nat) (f : SeqS → SeqS) : (updSeq s i f).watchdogs = s.watchdogs := rfl
@[simp] theorem updSeq_mem (s : State) (i : Nat) (f : SeqS → SeqS) : (updSeq s i f).mem = s.mem := rfl
@[simp] theorem updSeq_optics (s : State) (i : Nat) (f : SeqS → SeqS) : (updSeq s i f).optics = s.optics := rfl
@[simp] theorem updSeq_ev (s : State) (i : Nat) (f : SeqS → SeqS) : (updSeq s i f).ev = s.ev := rfl
@[simp] theorem updSeq_eumon (s : State) (i : Nat) (f : SeqS → SeqS) : (updSeq s i f).eumon = s.eumon := rfl
@[simp] theorem updSeq_exps (s : State) (i : Nat) (f : SeqS → SeqS) : (updSeq s i f).exps = s.exps := rfl
@[simp] theorem updSeq_sec (s : State) (i : Nat) (f : SeqS → SeqS) : (updSeq s i f).sec = s.sec := rfl
@[simp] theorem updSeq_clk (s : State) (i : Nat) (f : SeqS → SeqS) : (updSeq s i f).clk = s.clk := rfl
@[simp] theorem updSeq_fabric (s : State) (i : Nat) (f : SeqS → SeqS) : (updSeq s i f).fabric = s.fabric := rfl
@[simp] theorem updSeq_power (s : State) (i : Nat) (f : SeqS → SeqS) : (updSeq s i f).power = s.power := rfl
@[simp] theorem updSeq_cle (s : State) (i : Nat) (f : SeqS → SeqS) : (updSeq s i f).cle = s.cle := rfl
@[simp] theorem updSeq_host (s : State) (i : Nat) (f : SeqS → SeqS) : (updSeq s i f).host = s.host := rfl
@[simp] theorem updSeq_mail (s : State) (i : Nat) (f : SeqS → SeqS) : (updSeq s i f).mail = s.mail := rfl
@[simp] theorem updSeq_sys (s : State) (i : Nat) (f : SeqS → SeqS) : (updSeq s i f).sys = s.sys := rfl
@[simp] theorem updSeq_arrOf (s : State) (i : Nat) (f : SeqS → SeqS) (k : Nat) : arrOf (updSeq s i f) k = arrOf s k := rfl
@[simp] theorem updSeq_vxeOf (s : State) (i : Nat) (f : SeqS → SeqS) (k : Nat) : vxeOf (updSeq s i f) k = vxeOf s k := rfl
@[simp] theorem updSeq_negOf (s : State) (i : Nat) (f : SeqS → SeqS) (k : Nat) : negOf (updSeq s i f) k = negOf s k := rfl
@[simp] theorem updSeq_reelOf (s : State) (i : Nat) (f : SeqS → SeqS) (k : Nat) : reelOf (updSeq s i f) k = reelOf s k := rfl
@[simp] theorem updSeq_chanOf (s : State) (i : Nat) (f : SeqS → SeqS) (k : Nat) : chanOf (updSeq s i f) k = chanOf s k := rfl
@[simp] theorem updSeq_regOf (s : State) (i : Nat) (f : SeqS → SeqS) (k : Nat) : regOf (updSeq s i f) k = regOf s k := rfl
@[simp] theorem updSeq_pairOf (s : State) (i : Nat) (f : SeqS → SeqS) (k : Nat) : pairOf (updSeq s i f) k = pairOf s k := rfl
@[simp] theorem updSeq_flashOf (s : State) (i : Nat) (f : SeqS → SeqS) (k : Nat) : flashOf (updSeq s i f) k = flashOf s k := rfl
@[simp] theorem updSeq_portOf (s : State) (i : Nat) (f : SeqS → SeqS) (k : Nat) : portOf (updSeq s i f) k = portOf s k := rfl
@[simp] theorem updSeq_outOf (s : State) (i : Nat) (f : SeqS → SeqS) (k : Nat) : outOf (updSeq s i f) k = outOf s k := rfl
@[simp] theorem updSeq_engOf (s : State) (i : Nat) (f : SeqS → SeqS) (k : Nat) : engOf (updSeq s i f) k = engOf s k := rfl
@[simp] theorem updSeq_laneOf (s : State) (i : Nat) (f : SeqS → SeqS) (k : Nat) : laneOf (updSeq s i f) k = laneOf s k := rfl
@[simp] theorem updSeq_laserOf (s : State) (i : Nat) (f : SeqS → SeqS) (k : Nat) : laserOf (updSeq s i f) k = laserOf s k := rfl
@[simp] theorem updSeq_optPortOf (s : State) (i : Nat) (f : SeqS → SeqS) (k : Nat) : optPortOf (updSeq s i f) k = optPortOf s k := rfl
@[simp] theorem updSeq_winOf (s : State) (i : Nat) (f : SeqS → SeqS) (k : Nat) : winOf (updSeq s i f) k = winOf s k := rfl
@[simp] theorem updSeq_hportOf (s : State) (i : Nat) (f : SeqS → SeqS) (k : Nat) : hportOf (updSeq s i f) k = hportOf s k := rfl
@[simp] theorem updSeq_pointOf (s : State) (i : Nat) (f : SeqS → SeqS) (k : Nat) : pointOf (updSeq s i f) k = pointOf s k := rfl
@[simp] theorem updSeq_expOf (s : State) (i : Nat) (f : SeqS → SeqS) (k : Nat) : expOf (updSeq s i f) k = expOf s k := rfl
@[simp] theorem updSeq_propOf (s : State) (i : Nat) (f : SeqS → SeqS) (k : Nat) : propOf (updSeq s i f) k = propOf s k := rfl
@[simp] theorem updSeq_funcOf (s : State) (i : Nat) (f : SeqS → SeqS) (k : Nat) : funcOf (updSeq s i f) k = funcOf s k := rfl
@[simp] theorem updSeq_linkOf (s : State) (i : Nat) (f : SeqS → SeqS) (k : Nat) : linkOf (updSeq s i f) k = linkOf s k := rfl
@[simp] theorem updSeq_chOf (s : State) (i : Nat) (f : SeqS → SeqS) (k : Nat) : chOf (updSeq s i f) k = chOf s k := rfl
@[simp] theorem updSeq_slotOf (s : State) (i : Nat) (f : SeqS → SeqS) (k : Nat) : slotOf (updSeq s i f) k = slotOf s k := rfl
@[simp] theorem updNeg_now (s : State) (i : Nat) (f : NegS → NegS) : (updNeg s i f).now = s.now := rfl
@[simp] theorem updNeg_free (s : State) (i : Nat) (f : NegS → NegS) : (updNeg s i f).free = s.free := rfl
@[simp] theorem updNeg_out (s : State) (i : Nat) (f : NegS → NegS) : (updNeg s i f).out = s.out := rfl
@[simp] theorem updNeg_pending (s : State) (i : Nat) (f : NegS → NegS) : (updNeg s i f).pending = s.pending := rfl
@[simp] theorem updNeg_arrays (s : State) (i : Nat) (f : NegS → NegS) : (updNeg s i f).arrays = s.arrays := rfl
@[simp] theorem updNeg_dbg (s : State) (i : Nat) (f : NegS → NegS) : (updNeg s i f).dbg = s.dbg := rfl
@[simp] theorem updNeg_vxes (s : State) (i : Nat) (f : NegS → NegS) : (updNeg s i f).vxes = s.vxes := rfl
@[simp] theorem updNeg_seqs (s : State) (i : Nat) (f : NegS → NegS) : (updNeg s i f).seqs = s.seqs := rfl
@[simp] theorem updNeg_reels (s : State) (i : Nat) (f : NegS → NegS) : (updNeg s i f).reels = s.reels := rfl
@[simp] theorem updNeg_watchdogs (s : State) (i : Nat) (f : NegS → NegS) : (updNeg s i f).watchdogs = s.watchdogs := rfl
@[simp] theorem updNeg_mem (s : State) (i : Nat) (f : NegS → NegS) : (updNeg s i f).mem = s.mem := rfl
@[simp] theorem updNeg_optics (s : State) (i : Nat) (f : NegS → NegS) : (updNeg s i f).optics = s.optics := rfl
@[simp] theorem updNeg_ev (s : State) (i : Nat) (f : NegS → NegS) : (updNeg s i f).ev = s.ev := rfl
@[simp] theorem updNeg_eumon (s : State) (i : Nat) (f : NegS → NegS) : (updNeg s i f).eumon = s.eumon := rfl
@[simp] theorem updNeg_exps (s : State) (i : Nat) (f : NegS → NegS) : (updNeg s i f).exps = s.exps := rfl
@[simp] theorem updNeg_sec (s : State) (i : Nat) (f : NegS → NegS) : (updNeg s i f).sec = s.sec := rfl
@[simp] theorem updNeg_clk (s : State) (i : Nat) (f : NegS → NegS) : (updNeg s i f).clk = s.clk := rfl
@[simp] theorem updNeg_fabric (s : State) (i : Nat) (f : NegS → NegS) : (updNeg s i f).fabric = s.fabric := rfl
@[simp] theorem updNeg_power (s : State) (i : Nat) (f : NegS → NegS) : (updNeg s i f).power = s.power := rfl
@[simp] theorem updNeg_cle (s : State) (i : Nat) (f : NegS → NegS) : (updNeg s i f).cle = s.cle := rfl
@[simp] theorem updNeg_host (s : State) (i : Nat) (f : NegS → NegS) : (updNeg s i f).host = s.host := rfl
@[simp] theorem updNeg_mail (s : State) (i : Nat) (f : NegS → NegS) : (updNeg s i f).mail = s.mail := rfl
@[simp] theorem updNeg_sys (s : State) (i : Nat) (f : NegS → NegS) : (updNeg s i f).sys = s.sys := rfl
@[simp] theorem updNeg_arrOf (s : State) (i : Nat) (f : NegS → NegS) (k : Nat) : arrOf (updNeg s i f) k = arrOf s k := rfl
@[simp] theorem updNeg_vxeOf (s : State) (i : Nat) (f : NegS → NegS) (k : Nat) : vxeOf (updNeg s i f) k = vxeOf s k := rfl
@[simp] theorem updNeg_seqOf (s : State) (i : Nat) (f : NegS → NegS) (k : Nat) : seqOf (updNeg s i f) k = seqOf s k := rfl
@[simp] theorem updNeg_reelOf (s : State) (i : Nat) (f : NegS → NegS) (k : Nat) : reelOf (updNeg s i f) k = reelOf s k := rfl
@[simp] theorem updNeg_chanOf (s : State) (i : Nat) (f : NegS → NegS) (k : Nat) : chanOf (updNeg s i f) k = chanOf s k := rfl
@[simp] theorem updNeg_regOf (s : State) (i : Nat) (f : NegS → NegS) (k : Nat) : regOf (updNeg s i f) k = regOf s k := rfl
@[simp] theorem updNeg_pairOf (s : State) (i : Nat) (f : NegS → NegS) (k : Nat) : pairOf (updNeg s i f) k = pairOf s k := rfl
@[simp] theorem updNeg_flashOf (s : State) (i : Nat) (f : NegS → NegS) (k : Nat) : flashOf (updNeg s i f) k = flashOf s k := rfl
@[simp] theorem updNeg_portOf (s : State) (i : Nat) (f : NegS → NegS) (k : Nat) : portOf (updNeg s i f) k = portOf s k := rfl
@[simp] theorem updNeg_outOf (s : State) (i : Nat) (f : NegS → NegS) (k : Nat) : outOf (updNeg s i f) k = outOf s k := rfl
@[simp] theorem updNeg_engOf (s : State) (i : Nat) (f : NegS → NegS) (k : Nat) : engOf (updNeg s i f) k = engOf s k := rfl
@[simp] theorem updNeg_laneOf (s : State) (i : Nat) (f : NegS → NegS) (k : Nat) : laneOf (updNeg s i f) k = laneOf s k := rfl
@[simp] theorem updNeg_laserOf (s : State) (i : Nat) (f : NegS → NegS) (k : Nat) : laserOf (updNeg s i f) k = laserOf s k := rfl
@[simp] theorem updNeg_optPortOf (s : State) (i : Nat) (f : NegS → NegS) (k : Nat) : optPortOf (updNeg s i f) k = optPortOf s k := rfl
@[simp] theorem updNeg_winOf (s : State) (i : Nat) (f : NegS → NegS) (k : Nat) : winOf (updNeg s i f) k = winOf s k := rfl
@[simp] theorem updNeg_hportOf (s : State) (i : Nat) (f : NegS → NegS) (k : Nat) : hportOf (updNeg s i f) k = hportOf s k := rfl
@[simp] theorem updNeg_pointOf (s : State) (i : Nat) (f : NegS → NegS) (k : Nat) : pointOf (updNeg s i f) k = pointOf s k := rfl
@[simp] theorem updNeg_expOf (s : State) (i : Nat) (f : NegS → NegS) (k : Nat) : expOf (updNeg s i f) k = expOf s k := rfl
@[simp] theorem updNeg_propOf (s : State) (i : Nat) (f : NegS → NegS) (k : Nat) : propOf (updNeg s i f) k = propOf s k := rfl
@[simp] theorem updNeg_funcOf (s : State) (i : Nat) (f : NegS → NegS) (k : Nat) : funcOf (updNeg s i f) k = funcOf s k := rfl
@[simp] theorem updNeg_linkOf (s : State) (i : Nat) (f : NegS → NegS) (k : Nat) : linkOf (updNeg s i f) k = linkOf s k := rfl
@[simp] theorem updNeg_chOf (s : State) (i : Nat) (f : NegS → NegS) (k : Nat) : chOf (updNeg s i f) k = chOf s k := rfl
@[simp] theorem updNeg_slotOf (s : State) (i : Nat) (f : NegS → NegS) (k : Nat) : slotOf (updNeg s i f) k = slotOf s k := rfl
@[simp] theorem updReel_now (s : State) (i : Nat) (f : ReelS → ReelS) : (updReel s i f).now = s.now := rfl
@[simp] theorem updReel_free (s : State) (i : Nat) (f : ReelS → ReelS) : (updReel s i f).free = s.free := rfl
@[simp] theorem updReel_out (s : State) (i : Nat) (f : ReelS → ReelS) : (updReel s i f).out = s.out := rfl
@[simp] theorem updReel_pending (s : State) (i : Nat) (f : ReelS → ReelS) : (updReel s i f).pending = s.pending := rfl
@[simp] theorem updReel_arrays (s : State) (i : Nat) (f : ReelS → ReelS) : (updReel s i f).arrays = s.arrays := rfl
@[simp] theorem updReel_dbg (s : State) (i : Nat) (f : ReelS → ReelS) : (updReel s i f).dbg = s.dbg := rfl
@[simp] theorem updReel_vxes (s : State) (i : Nat) (f : ReelS → ReelS) : (updReel s i f).vxes = s.vxes := rfl
@[simp] theorem updReel_seqs (s : State) (i : Nat) (f : ReelS → ReelS) : (updReel s i f).seqs = s.seqs := rfl
@[simp] theorem updReel_negs (s : State) (i : Nat) (f : ReelS → ReelS) : (updReel s i f).negs = s.negs := rfl
@[simp] theorem updReel_watchdogs (s : State) (i : Nat) (f : ReelS → ReelS) : (updReel s i f).watchdogs = s.watchdogs := rfl
@[simp] theorem updReel_mem (s : State) (i : Nat) (f : ReelS → ReelS) : (updReel s i f).mem = s.mem := rfl
@[simp] theorem updReel_optics (s : State) (i : Nat) (f : ReelS → ReelS) : (updReel s i f).optics = s.optics := rfl
@[simp] theorem updReel_ev (s : State) (i : Nat) (f : ReelS → ReelS) : (updReel s i f).ev = s.ev := rfl
@[simp] theorem updReel_eumon (s : State) (i : Nat) (f : ReelS → ReelS) : (updReel s i f).eumon = s.eumon := rfl
@[simp] theorem updReel_exps (s : State) (i : Nat) (f : ReelS → ReelS) : (updReel s i f).exps = s.exps := rfl
@[simp] theorem updReel_sec (s : State) (i : Nat) (f : ReelS → ReelS) : (updReel s i f).sec = s.sec := rfl
@[simp] theorem updReel_clk (s : State) (i : Nat) (f : ReelS → ReelS) : (updReel s i f).clk = s.clk := rfl
@[simp] theorem updReel_fabric (s : State) (i : Nat) (f : ReelS → ReelS) : (updReel s i f).fabric = s.fabric := rfl
@[simp] theorem updReel_power (s : State) (i : Nat) (f : ReelS → ReelS) : (updReel s i f).power = s.power := rfl
@[simp] theorem updReel_cle (s : State) (i : Nat) (f : ReelS → ReelS) : (updReel s i f).cle = s.cle := rfl
@[simp] theorem updReel_host (s : State) (i : Nat) (f : ReelS → ReelS) : (updReel s i f).host = s.host := rfl
@[simp] theorem updReel_mail (s : State) (i : Nat) (f : ReelS → ReelS) : (updReel s i f).mail = s.mail := rfl
@[simp] theorem updReel_sys (s : State) (i : Nat) (f : ReelS → ReelS) : (updReel s i f).sys = s.sys := rfl
@[simp] theorem updReel_arrOf (s : State) (i : Nat) (f : ReelS → ReelS) (k : Nat) : arrOf (updReel s i f) k = arrOf s k := rfl
@[simp] theorem updReel_vxeOf (s : State) (i : Nat) (f : ReelS → ReelS) (k : Nat) : vxeOf (updReel s i f) k = vxeOf s k := rfl
@[simp] theorem updReel_seqOf (s : State) (i : Nat) (f : ReelS → ReelS) (k : Nat) : seqOf (updReel s i f) k = seqOf s k := rfl
@[simp] theorem updReel_negOf (s : State) (i : Nat) (f : ReelS → ReelS) (k : Nat) : negOf (updReel s i f) k = negOf s k := rfl
@[simp] theorem updReel_chanOf (s : State) (i : Nat) (f : ReelS → ReelS) (k : Nat) : chanOf (updReel s i f) k = chanOf s k := rfl
@[simp] theorem updReel_regOf (s : State) (i : Nat) (f : ReelS → ReelS) (k : Nat) : regOf (updReel s i f) k = regOf s k := rfl
@[simp] theorem updReel_pairOf (s : State) (i : Nat) (f : ReelS → ReelS) (k : Nat) : pairOf (updReel s i f) k = pairOf s k := rfl
@[simp] theorem updReel_flashOf (s : State) (i : Nat) (f : ReelS → ReelS) (k : Nat) : flashOf (updReel s i f) k = flashOf s k := rfl
@[simp] theorem updReel_portOf (s : State) (i : Nat) (f : ReelS → ReelS) (k : Nat) : portOf (updReel s i f) k = portOf s k := rfl
@[simp] theorem updReel_outOf (s : State) (i : Nat) (f : ReelS → ReelS) (k : Nat) : outOf (updReel s i f) k = outOf s k := rfl
@[simp] theorem updReel_engOf (s : State) (i : Nat) (f : ReelS → ReelS) (k : Nat) : engOf (updReel s i f) k = engOf s k := rfl
@[simp] theorem updReel_laneOf (s : State) (i : Nat) (f : ReelS → ReelS) (k : Nat) : laneOf (updReel s i f) k = laneOf s k := rfl
@[simp] theorem updReel_laserOf (s : State) (i : Nat) (f : ReelS → ReelS) (k : Nat) : laserOf (updReel s i f) k = laserOf s k := rfl
@[simp] theorem updReel_optPortOf (s : State) (i : Nat) (f : ReelS → ReelS) (k : Nat) : optPortOf (updReel s i f) k = optPortOf s k := rfl
@[simp] theorem updReel_winOf (s : State) (i : Nat) (f : ReelS → ReelS) (k : Nat) : winOf (updReel s i f) k = winOf s k := rfl
@[simp] theorem updReel_hportOf (s : State) (i : Nat) (f : ReelS → ReelS) (k : Nat) : hportOf (updReel s i f) k = hportOf s k := rfl
@[simp] theorem updReel_pointOf (s : State) (i : Nat) (f : ReelS → ReelS) (k : Nat) : pointOf (updReel s i f) k = pointOf s k := rfl
@[simp] theorem updReel_expOf (s : State) (i : Nat) (f : ReelS → ReelS) (k : Nat) : expOf (updReel s i f) k = expOf s k := rfl
@[simp] theorem updReel_propOf (s : State) (i : Nat) (f : ReelS → ReelS) (k : Nat) : propOf (updReel s i f) k = propOf s k := rfl
@[simp] theorem updReel_funcOf (s : State) (i : Nat) (f : ReelS → ReelS) (k : Nat) : funcOf (updReel s i f) k = funcOf s k := rfl
@[simp] theorem updReel_linkOf (s : State) (i : Nat) (f : ReelS → ReelS) (k : Nat) : linkOf (updReel s i f) k = linkOf s k := rfl
@[simp] theorem updReel_chOf (s : State) (i : Nat) (f : ReelS → ReelS) (k : Nat) : chOf (updReel s i f) k = chOf s k := rfl
@[simp] theorem updReel_slotOf (s : State) (i : Nat) (f : ReelS → ReelS) (k : Nat) : slotOf (updReel s i f) k = slotOf s k := rfl
@[simp] theorem updMem_now (s : State) (f : MemS → MemS) : (updMem s f).now = s.now := rfl
@[simp] theorem updMem_free (s : State) (f : MemS → MemS) : (updMem s f).free = s.free := rfl
@[simp] theorem updMem_out (s : State) (f : MemS → MemS) : (updMem s f).out = s.out := rfl
@[simp] theorem updMem_pending (s : State) (f : MemS → MemS) : (updMem s f).pending = s.pending := rfl
@[simp] theorem updMem_arrays (s : State) (f : MemS → MemS) : (updMem s f).arrays = s.arrays := rfl
@[simp] theorem updMem_dbg (s : State) (f : MemS → MemS) : (updMem s f).dbg = s.dbg := rfl
@[simp] theorem updMem_vxes (s : State) (f : MemS → MemS) : (updMem s f).vxes = s.vxes := rfl
@[simp] theorem updMem_seqs (s : State) (f : MemS → MemS) : (updMem s f).seqs = s.seqs := rfl
@[simp] theorem updMem_negs (s : State) (f : MemS → MemS) : (updMem s f).negs = s.negs := rfl
@[simp] theorem updMem_reels (s : State) (f : MemS → MemS) : (updMem s f).reels = s.reels := rfl
@[simp] theorem updMem_watchdogs (s : State) (f : MemS → MemS) : (updMem s f).watchdogs = s.watchdogs := rfl
@[simp] theorem updMem_optics (s : State) (f : MemS → MemS) : (updMem s f).optics = s.optics := rfl
@[simp] theorem updMem_ev (s : State) (f : MemS → MemS) : (updMem s f).ev = s.ev := rfl
@[simp] theorem updMem_eumon (s : State) (f : MemS → MemS) : (updMem s f).eumon = s.eumon := rfl
@[simp] theorem updMem_exps (s : State) (f : MemS → MemS) : (updMem s f).exps = s.exps := rfl
@[simp] theorem updMem_sec (s : State) (f : MemS → MemS) : (updMem s f).sec = s.sec := rfl
@[simp] theorem updMem_clk (s : State) (f : MemS → MemS) : (updMem s f).clk = s.clk := rfl
@[simp] theorem updMem_fabric (s : State) (f : MemS → MemS) : (updMem s f).fabric = s.fabric := rfl
@[simp] theorem updMem_power (s : State) (f : MemS → MemS) : (updMem s f).power = s.power := rfl
@[simp] theorem updMem_cle (s : State) (f : MemS → MemS) : (updMem s f).cle = s.cle := rfl
@[simp] theorem updMem_host (s : State) (f : MemS → MemS) : (updMem s f).host = s.host := rfl
@[simp] theorem updMem_mail (s : State) (f : MemS → MemS) : (updMem s f).mail = s.mail := rfl
@[simp] theorem updMem_sys (s : State) (f : MemS → MemS) : (updMem s f).sys = s.sys := rfl
@[simp] theorem updMem_arrOf (s : State) (f : MemS → MemS) (k : Nat) : arrOf (updMem s f) k = arrOf s k := rfl
@[simp] theorem updMem_vxeOf (s : State) (f : MemS → MemS) (k : Nat) : vxeOf (updMem s f) k = vxeOf s k := rfl
@[simp] theorem updMem_seqOf (s : State) (f : MemS → MemS) (k : Nat) : seqOf (updMem s f) k = seqOf s k := rfl
@[simp] theorem updMem_negOf (s : State) (f : MemS → MemS) (k : Nat) : negOf (updMem s f) k = negOf s k := rfl
@[simp] theorem updMem_reelOf (s : State) (f : MemS → MemS) (k : Nat) : reelOf (updMem s f) k = reelOf s k := rfl
@[simp] theorem updMem_portOf (s : State) (f : MemS → MemS) (k : Nat) : portOf (updMem s f) k = portOf s k := rfl
@[simp] theorem updMem_outOf (s : State) (f : MemS → MemS) (k : Nat) : outOf (updMem s f) k = outOf s k := rfl
@[simp] theorem updMem_engOf (s : State) (f : MemS → MemS) (k : Nat) : engOf (updMem s f) k = engOf s k := rfl
@[simp] theorem updMem_laneOf (s : State) (f : MemS → MemS) (k : Nat) : laneOf (updMem s f) k = laneOf s k := rfl
@[simp] theorem updMem_laserOf (s : State) (f : MemS → MemS) (k : Nat) : laserOf (updMem s f) k = laserOf s k := rfl
@[simp] theorem updMem_optPortOf (s : State) (f : MemS → MemS) (k : Nat) : optPortOf (updMem s f) k = optPortOf s k := rfl
@[simp] theorem updMem_winOf (s : State) (f : MemS → MemS) (k : Nat) : winOf (updMem s f) k = winOf s k := rfl
@[simp] theorem updMem_hportOf (s : State) (f : MemS → MemS) (k : Nat) : hportOf (updMem s f) k = hportOf s k := rfl
@[simp] theorem updMem_pointOf (s : State) (f : MemS → MemS) (k : Nat) : pointOf (updMem s f) k = pointOf s k := rfl
@[simp] theorem updMem_expOf (s : State) (f : MemS → MemS) (k : Nat) : expOf (updMem s f) k = expOf s k := rfl
@[simp] theorem updMem_propOf (s : State) (f : MemS → MemS) (k : Nat) : propOf (updMem s f) k = propOf s k := rfl
@[simp] theorem updMem_funcOf (s : State) (f : MemS → MemS) (k : Nat) : funcOf (updMem s f) k = funcOf s k := rfl
@[simp] theorem updMem_linkOf (s : State) (f : MemS → MemS) (k : Nat) : linkOf (updMem s f) k = linkOf s k := rfl
@[simp] theorem updMem_chOf (s : State) (f : MemS → MemS) (k : Nat) : chOf (updMem s f) k = chOf s k := rfl
@[simp] theorem updMem_slotOf (s : State) (f : MemS → MemS) (k : Nat) : slotOf (updMem s f) k = slotOf s k := rfl
@[simp] theorem updChan_now (s : State) (i : Nat) (f : ChanS → ChanS) : (updChan s i f).now = s.now := rfl
@[simp] theorem updChan_free (s : State) (i : Nat) (f : ChanS → ChanS) : (updChan s i f).free = s.free := rfl
@[simp] theorem updChan_out (s : State) (i : Nat) (f : ChanS → ChanS) : (updChan s i f).out = s.out := rfl
@[simp] theorem updChan_pending (s : State) (i : Nat) (f : ChanS → ChanS) : (updChan s i f).pending = s.pending := rfl
@[simp] theorem updChan_arrays (s : State) (i : Nat) (f : ChanS → ChanS) : (updChan s i f).arrays = s.arrays := rfl
@[simp] theorem updChan_dbg (s : State) (i : Nat) (f : ChanS → ChanS) : (updChan s i f).dbg = s.dbg := rfl
@[simp] theorem updChan_vxes (s : State) (i : Nat) (f : ChanS → ChanS) : (updChan s i f).vxes = s.vxes := rfl
@[simp] theorem updChan_seqs (s : State) (i : Nat) (f : ChanS → ChanS) : (updChan s i f).seqs = s.seqs := rfl
@[simp] theorem updChan_negs (s : State) (i : Nat) (f : ChanS → ChanS) : (updChan s i f).negs = s.negs := rfl
@[simp] theorem updChan_reels (s : State) (i : Nat) (f : ChanS → ChanS) : (updChan s i f).reels = s.reels := rfl
@[simp] theorem updChan_watchdogs (s : State) (i : Nat) (f : ChanS → ChanS) : (updChan s i f).watchdogs = s.watchdogs := rfl
@[simp] theorem updChan_optics (s : State) (i : Nat) (f : ChanS → ChanS) : (updChan s i f).optics = s.optics := rfl
@[simp] theorem updChan_ev (s : State) (i : Nat) (f : ChanS → ChanS) : (updChan s i f).ev = s.ev := rfl
@[simp] theorem updChan_eumon (s : State) (i : Nat) (f : ChanS → ChanS) : (updChan s i f).eumon = s.eumon := rfl
@[simp] theorem updChan_exps (s : State) (i : Nat) (f : ChanS → ChanS) : (updChan s i f).exps = s.exps := rfl
@[simp] theorem updChan_sec (s : State) (i : Nat) (f : ChanS → ChanS) : (updChan s i f).sec = s.sec := rfl
@[simp] theorem updChan_clk (s : State) (i : Nat) (f : ChanS → ChanS) : (updChan s i f).clk = s.clk := rfl
@[simp] theorem updChan_fabric (s : State) (i : Nat) (f : ChanS → ChanS) : (updChan s i f).fabric = s.fabric := rfl
@[simp] theorem updChan_power (s : State) (i : Nat) (f : ChanS → ChanS) : (updChan s i f).power = s.power := rfl
@[simp] theorem updChan_cle (s : State) (i : Nat) (f : ChanS → ChanS) : (updChan s i f).cle = s.cle := rfl
@[simp] theorem updChan_host (s : State) (i : Nat) (f : ChanS → ChanS) : (updChan s i f).host = s.host := rfl
@[simp] theorem updChan_mail (s : State) (i : Nat) (f : ChanS → ChanS) : (updChan s i f).mail = s.mail := rfl
@[simp] theorem updChan_sys (s : State) (i : Nat) (f : ChanS → ChanS) : (updChan s i f).sys = s.sys := rfl
@[simp] theorem updChan_arrOf (s : State) (i : Nat) (f : ChanS → ChanS) (k : Nat) : arrOf (updChan s i f) k = arrOf s k := rfl
@[simp] theorem updChan_vxeOf (s : State) (i : Nat) (f : ChanS → ChanS) (k : Nat) : vxeOf (updChan s i f) k = vxeOf s k := rfl
@[simp] theorem updChan_seqOf (s : State) (i : Nat) (f : ChanS → ChanS) (k : Nat) : seqOf (updChan s i f) k = seqOf s k := rfl
@[simp] theorem updChan_negOf (s : State) (i : Nat) (f : ChanS → ChanS) (k : Nat) : negOf (updChan s i f) k = negOf s k := rfl
@[simp] theorem updChan_reelOf (s : State) (i : Nat) (f : ChanS → ChanS) (k : Nat) : reelOf (updChan s i f) k = reelOf s k := rfl
@[simp] theorem updChan_portOf (s : State) (i : Nat) (f : ChanS → ChanS) (k : Nat) : portOf (updChan s i f) k = portOf s k := rfl
@[simp] theorem updChan_outOf (s : State) (i : Nat) (f : ChanS → ChanS) (k : Nat) : outOf (updChan s i f) k = outOf s k := rfl
@[simp] theorem updChan_engOf (s : State) (i : Nat) (f : ChanS → ChanS) (k : Nat) : engOf (updChan s i f) k = engOf s k := rfl
@[simp] theorem updChan_laneOf (s : State) (i : Nat) (f : ChanS → ChanS) (k : Nat) : laneOf (updChan s i f) k = laneOf s k := rfl
@[simp] theorem updChan_laserOf (s : State) (i : Nat) (f : ChanS → ChanS) (k : Nat) : laserOf (updChan s i f) k = laserOf s k := rfl
@[simp] theorem updChan_optPortOf (s : State) (i : Nat) (f : ChanS → ChanS) (k : Nat) : optPortOf (updChan s i f) k = optPortOf s k := rfl
@[simp] theorem updChan_winOf (s : State) (i : Nat) (f : ChanS → ChanS) (k : Nat) : winOf (updChan s i f) k = winOf s k := rfl
@[simp] theorem updChan_hportOf (s : State) (i : Nat) (f : ChanS → ChanS) (k : Nat) : hportOf (updChan s i f) k = hportOf s k := rfl
@[simp] theorem updChan_pointOf (s : State) (i : Nat) (f : ChanS → ChanS) (k : Nat) : pointOf (updChan s i f) k = pointOf s k := rfl
@[simp] theorem updChan_expOf (s : State) (i : Nat) (f : ChanS → ChanS) (k : Nat) : expOf (updChan s i f) k = expOf s k := rfl
@[simp] theorem updChan_propOf (s : State) (i : Nat) (f : ChanS → ChanS) (k : Nat) : propOf (updChan s i f) k = propOf s k := rfl
@[simp] theorem updChan_funcOf (s : State) (i : Nat) (f : ChanS → ChanS) (k : Nat) : funcOf (updChan s i f) k = funcOf s k := rfl
@[simp] theorem updChan_linkOf (s : State) (i : Nat) (f : ChanS → ChanS) (k : Nat) : linkOf (updChan s i f) k = linkOf s k := rfl
@[simp] theorem updChan_chOf (s : State) (i : Nat) (f : ChanS → ChanS) (k : Nat) : chOf (updChan s i f) k = chOf s k := rfl
@[simp] theorem updChan_slotOf (s : State) (i : Nat) (f : ChanS → ChanS) (k : Nat) : slotOf (updChan s i f) k = slotOf s k := rfl
@[simp] theorem updReg_now (s : State) (i : Nat) (f : RegionS → RegionS) : (updReg s i f).now = s.now := rfl
@[simp] theorem updReg_free (s : State) (i : Nat) (f : RegionS → RegionS) : (updReg s i f).free = s.free := rfl
@[simp] theorem updReg_out (s : State) (i : Nat) (f : RegionS → RegionS) : (updReg s i f).out = s.out := rfl
@[simp] theorem updReg_pending (s : State) (i : Nat) (f : RegionS → RegionS) : (updReg s i f).pending = s.pending := rfl
@[simp] theorem updReg_arrays (s : State) (i : Nat) (f : RegionS → RegionS) : (updReg s i f).arrays = s.arrays := rfl
@[simp] theorem updReg_dbg (s : State) (i : Nat) (f : RegionS → RegionS) : (updReg s i f).dbg = s.dbg := rfl
@[simp] theorem updReg_vxes (s : State) (i : Nat) (f : RegionS → RegionS) : (updReg s i f).vxes = s.vxes := rfl
@[simp] theorem updReg_seqs (s : State) (i : Nat) (f : RegionS → RegionS) : (updReg s i f).seqs = s.seqs := rfl
@[simp] theorem updReg_negs (s : State) (i : Nat) (f : RegionS → RegionS) : (updReg s i f).negs = s.negs := rfl
@[simp] theorem updReg_reels (s : State) (i : Nat) (f : RegionS → RegionS) : (updReg s i f).reels = s.reels := rfl
@[simp] theorem updReg_watchdogs (s : State) (i : Nat) (f : RegionS → RegionS) : (updReg s i f).watchdogs = s.watchdogs := rfl
@[simp] theorem updReg_optics (s : State) (i : Nat) (f : RegionS → RegionS) : (updReg s i f).optics = s.optics := rfl
@[simp] theorem updReg_ev (s : State) (i : Nat) (f : RegionS → RegionS) : (updReg s i f).ev = s.ev := rfl
@[simp] theorem updReg_eumon (s : State) (i : Nat) (f : RegionS → RegionS) : (updReg s i f).eumon = s.eumon := rfl
@[simp] theorem updReg_exps (s : State) (i : Nat) (f : RegionS → RegionS) : (updReg s i f).exps = s.exps := rfl
@[simp] theorem updReg_sec (s : State) (i : Nat) (f : RegionS → RegionS) : (updReg s i f).sec = s.sec := rfl
@[simp] theorem updReg_clk (s : State) (i : Nat) (f : RegionS → RegionS) : (updReg s i f).clk = s.clk := rfl
@[simp] theorem updReg_fabric (s : State) (i : Nat) (f : RegionS → RegionS) : (updReg s i f).fabric = s.fabric := rfl
@[simp] theorem updReg_power (s : State) (i : Nat) (f : RegionS → RegionS) : (updReg s i f).power = s.power := rfl
@[simp] theorem updReg_cle (s : State) (i : Nat) (f : RegionS → RegionS) : (updReg s i f).cle = s.cle := rfl
@[simp] theorem updReg_host (s : State) (i : Nat) (f : RegionS → RegionS) : (updReg s i f).host = s.host := rfl
@[simp] theorem updReg_mail (s : State) (i : Nat) (f : RegionS → RegionS) : (updReg s i f).mail = s.mail := rfl
@[simp] theorem updReg_sys (s : State) (i : Nat) (f : RegionS → RegionS) : (updReg s i f).sys = s.sys := rfl
@[simp] theorem updReg_arrOf (s : State) (i : Nat) (f : RegionS → RegionS) (k : Nat) : arrOf (updReg s i f) k = arrOf s k := rfl
@[simp] theorem updReg_vxeOf (s : State) (i : Nat) (f : RegionS → RegionS) (k : Nat) : vxeOf (updReg s i f) k = vxeOf s k := rfl
@[simp] theorem updReg_seqOf (s : State) (i : Nat) (f : RegionS → RegionS) (k : Nat) : seqOf (updReg s i f) k = seqOf s k := rfl
@[simp] theorem updReg_negOf (s : State) (i : Nat) (f : RegionS → RegionS) (k : Nat) : negOf (updReg s i f) k = negOf s k := rfl
@[simp] theorem updReg_reelOf (s : State) (i : Nat) (f : RegionS → RegionS) (k : Nat) : reelOf (updReg s i f) k = reelOf s k := rfl
@[simp] theorem updReg_portOf (s : State) (i : Nat) (f : RegionS → RegionS) (k : Nat) : portOf (updReg s i f) k = portOf s k := rfl
@[simp] theorem updReg_outOf (s : State) (i : Nat) (f : RegionS → RegionS) (k : Nat) : outOf (updReg s i f) k = outOf s k := rfl
@[simp] theorem updReg_engOf (s : State) (i : Nat) (f : RegionS → RegionS) (k : Nat) : engOf (updReg s i f) k = engOf s k := rfl
@[simp] theorem updReg_laneOf (s : State) (i : Nat) (f : RegionS → RegionS) (k : Nat) : laneOf (updReg s i f) k = laneOf s k := rfl
@[simp] theorem updReg_laserOf (s : State) (i : Nat) (f : RegionS → RegionS) (k : Nat) : laserOf (updReg s i f) k = laserOf s k := rfl
@[simp] theorem updReg_optPortOf (s : State) (i : Nat) (f : RegionS → RegionS) (k : Nat) : optPortOf (updReg s i f) k = optPortOf s k := rfl
@[simp] theorem updReg_winOf (s : State) (i : Nat) (f : RegionS → RegionS) (k : Nat) : winOf (updReg s i f) k = winOf s k := rfl
@[simp] theorem updReg_hportOf (s : State) (i : Nat) (f : RegionS → RegionS) (k : Nat) : hportOf (updReg s i f) k = hportOf s k := rfl
@[simp] theorem updReg_pointOf (s : State) (i : Nat) (f : RegionS → RegionS) (k : Nat) : pointOf (updReg s i f) k = pointOf s k := rfl
@[simp] theorem updReg_expOf (s : State) (i : Nat) (f : RegionS → RegionS) (k : Nat) : expOf (updReg s i f) k = expOf s k := rfl
@[simp] theorem updReg_propOf (s : State) (i : Nat) (f : RegionS → RegionS) (k : Nat) : propOf (updReg s i f) k = propOf s k := rfl
@[simp] theorem updReg_funcOf (s : State) (i : Nat) (f : RegionS → RegionS) (k : Nat) : funcOf (updReg s i f) k = funcOf s k := rfl
@[simp] theorem updReg_linkOf (s : State) (i : Nat) (f : RegionS → RegionS) (k : Nat) : linkOf (updReg s i f) k = linkOf s k := rfl
@[simp] theorem updReg_chOf (s : State) (i : Nat) (f : RegionS → RegionS) (k : Nat) : chOf (updReg s i f) k = chOf s k := rfl
@[simp] theorem updReg_slotOf (s : State) (i : Nat) (f : RegionS → RegionS) (k : Nat) : slotOf (updReg s i f) k = slotOf s k := rfl
@[simp] theorem updPair_now (s : State) (i : Nat) (f : PairS → PairS) : (updPair s i f).now = s.now := rfl
@[simp] theorem updPair_free (s : State) (i : Nat) (f : PairS → PairS) : (updPair s i f).free = s.free := rfl
@[simp] theorem updPair_out (s : State) (i : Nat) (f : PairS → PairS) : (updPair s i f).out = s.out := rfl
@[simp] theorem updPair_pending (s : State) (i : Nat) (f : PairS → PairS) : (updPair s i f).pending = s.pending := rfl
@[simp] theorem updPair_arrays (s : State) (i : Nat) (f : PairS → PairS) : (updPair s i f).arrays = s.arrays := rfl
@[simp] theorem updPair_dbg (s : State) (i : Nat) (f : PairS → PairS) : (updPair s i f).dbg = s.dbg := rfl
@[simp] theorem updPair_vxes (s : State) (i : Nat) (f : PairS → PairS) : (updPair s i f).vxes = s.vxes := rfl
@[simp] theorem updPair_seqs (s : State) (i : Nat) (f : PairS → PairS) : (updPair s i f).seqs = s.seqs := rfl
@[simp] theorem updPair_negs (s : State) (i : Nat) (f : PairS → PairS) : (updPair s i f).negs = s.negs := rfl
@[simp] theorem updPair_reels (s : State) (i : Nat) (f : PairS → PairS) : (updPair s i f).reels = s.reels := rfl
@[simp] theorem updPair_watchdogs (s : State) (i : Nat) (f : PairS → PairS) : (updPair s i f).watchdogs = s.watchdogs := rfl
@[simp] theorem updPair_optics (s : State) (i : Nat) (f : PairS → PairS) : (updPair s i f).optics = s.optics := rfl
@[simp] theorem updPair_ev (s : State) (i : Nat) (f : PairS → PairS) : (updPair s i f).ev = s.ev := rfl
@[simp] theorem updPair_eumon (s : State) (i : Nat) (f : PairS → PairS) : (updPair s i f).eumon = s.eumon := rfl
@[simp] theorem updPair_exps (s : State) (i : Nat) (f : PairS → PairS) : (updPair s i f).exps = s.exps := rfl
@[simp] theorem updPair_sec (s : State) (i : Nat) (f : PairS → PairS) : (updPair s i f).sec = s.sec := rfl
@[simp] theorem updPair_clk (s : State) (i : Nat) (f : PairS → PairS) : (updPair s i f).clk = s.clk := rfl
@[simp] theorem updPair_fabric (s : State) (i : Nat) (f : PairS → PairS) : (updPair s i f).fabric = s.fabric := rfl
@[simp] theorem updPair_power (s : State) (i : Nat) (f : PairS → PairS) : (updPair s i f).power = s.power := rfl
@[simp] theorem updPair_cle (s : State) (i : Nat) (f : PairS → PairS) : (updPair s i f).cle = s.cle := rfl
@[simp] theorem updPair_host (s : State) (i : Nat) (f : PairS → PairS) : (updPair s i f).host = s.host := rfl
@[simp] theorem updPair_mail (s : State) (i : Nat) (f : PairS → PairS) : (updPair s i f).mail = s.mail := rfl
@[simp] theorem updPair_sys (s : State) (i : Nat) (f : PairS → PairS) : (updPair s i f).sys = s.sys := rfl
@[simp] theorem updPair_arrOf (s : State) (i : Nat) (f : PairS → PairS) (k : Nat) : arrOf (updPair s i f) k = arrOf s k := rfl
@[simp] theorem updPair_vxeOf (s : State) (i : Nat) (f : PairS → PairS) (k : Nat) : vxeOf (updPair s i f) k = vxeOf s k := rfl
@[simp] theorem updPair_seqOf (s : State) (i : Nat) (f : PairS → PairS) (k : Nat) : seqOf (updPair s i f) k = seqOf s k := rfl
@[simp] theorem updPair_negOf (s : State) (i : Nat) (f : PairS → PairS) (k : Nat) : negOf (updPair s i f) k = negOf s k := rfl
@[simp] theorem updPair_reelOf (s : State) (i : Nat) (f : PairS → PairS) (k : Nat) : reelOf (updPair s i f) k = reelOf s k := rfl
@[simp] theorem updPair_portOf (s : State) (i : Nat) (f : PairS → PairS) (k : Nat) : portOf (updPair s i f) k = portOf s k := rfl
@[simp] theorem updPair_outOf (s : State) (i : Nat) (f : PairS → PairS) (k : Nat) : outOf (updPair s i f) k = outOf s k := rfl
@[simp] theorem updPair_engOf (s : State) (i : Nat) (f : PairS → PairS) (k : Nat) : engOf (updPair s i f) k = engOf s k := rfl
@[simp] theorem updPair_laneOf (s : State) (i : Nat) (f : PairS → PairS) (k : Nat) : laneOf (updPair s i f) k = laneOf s k := rfl
@[simp] theorem updPair_laserOf (s : State) (i : Nat) (f : PairS → PairS) (k : Nat) : laserOf (updPair s i f) k = laserOf s k := rfl
@[simp] theorem updPair_optPortOf (s : State) (i : Nat) (f : PairS → PairS) (k : Nat) : optPortOf (updPair s i f) k = optPortOf s k := rfl
@[simp] theorem updPair_winOf (s : State) (i : Nat) (f : PairS → PairS) (k : Nat) : winOf (updPair s i f) k = winOf s k := rfl
@[simp] theorem updPair_hportOf (s : State) (i : Nat) (f : PairS → PairS) (k : Nat) : hportOf (updPair s i f) k = hportOf s k := rfl
@[simp] theorem updPair_pointOf (s : State) (i : Nat) (f : PairS → PairS) (k : Nat) : pointOf (updPair s i f) k = pointOf s k := rfl
@[simp] theorem updPair_expOf (s : State) (i : Nat) (f : PairS → PairS) (k : Nat) : expOf (updPair s i f) k = expOf s k := rfl
@[simp] theorem updPair_propOf (s : State) (i : Nat) (f : PairS → PairS) (k : Nat) : propOf (updPair s i f) k = propOf s k := rfl
@[simp] theorem updPair_funcOf (s : State) (i : Nat) (f : PairS → PairS) (k : Nat) : funcOf (updPair s i f) k = funcOf s k := rfl
@[simp] theorem updPair_linkOf (s : State) (i : Nat) (f : PairS → PairS) (k : Nat) : linkOf (updPair s i f) k = linkOf s k := rfl
@[simp] theorem updPair_chOf (s : State) (i : Nat) (f : PairS → PairS) (k : Nat) : chOf (updPair s i f) k = chOf s k := rfl
@[simp] theorem updPair_slotOf (s : State) (i : Nat) (f : PairS → PairS) (k : Nat) : slotOf (updPair s i f) k = slotOf s k := rfl
@[simp] theorem updFlash_now (s : State) (i : Nat) (f : FlashS → FlashS) : (updFlash s i f).now = s.now := rfl
@[simp] theorem updFlash_free (s : State) (i : Nat) (f : FlashS → FlashS) : (updFlash s i f).free = s.free := rfl
@[simp] theorem updFlash_out (s : State) (i : Nat) (f : FlashS → FlashS) : (updFlash s i f).out = s.out := rfl
@[simp] theorem updFlash_pending (s : State) (i : Nat) (f : FlashS → FlashS) : (updFlash s i f).pending = s.pending := rfl
@[simp] theorem updFlash_arrays (s : State) (i : Nat) (f : FlashS → FlashS) : (updFlash s i f).arrays = s.arrays := rfl
@[simp] theorem updFlash_dbg (s : State) (i : Nat) (f : FlashS → FlashS) : (updFlash s i f).dbg = s.dbg := rfl
@[simp] theorem updFlash_vxes (s : State) (i : Nat) (f : FlashS → FlashS) : (updFlash s i f).vxes = s.vxes := rfl
@[simp] theorem updFlash_seqs (s : State) (i : Nat) (f : FlashS → FlashS) : (updFlash s i f).seqs = s.seqs := rfl
@[simp] theorem updFlash_negs (s : State) (i : Nat) (f : FlashS → FlashS) : (updFlash s i f).negs = s.negs := rfl
@[simp] theorem updFlash_reels (s : State) (i : Nat) (f : FlashS → FlashS) : (updFlash s i f).reels = s.reels := rfl
@[simp] theorem updFlash_watchdogs (s : State) (i : Nat) (f : FlashS → FlashS) : (updFlash s i f).watchdogs = s.watchdogs := rfl
@[simp] theorem updFlash_optics (s : State) (i : Nat) (f : FlashS → FlashS) : (updFlash s i f).optics = s.optics := rfl
@[simp] theorem updFlash_ev (s : State) (i : Nat) (f : FlashS → FlashS) : (updFlash s i f).ev = s.ev := rfl
@[simp] theorem updFlash_eumon (s : State) (i : Nat) (f : FlashS → FlashS) : (updFlash s i f).eumon = s.eumon := rfl
@[simp] theorem updFlash_exps (s : State) (i : Nat) (f : FlashS → FlashS) : (updFlash s i f).exps = s.exps := rfl
@[simp] theorem updFlash_sec (s : State) (i : Nat) (f : FlashS → FlashS) : (updFlash s i f).sec = s.sec := rfl
@[simp] theorem updFlash_clk (s : State) (i : Nat) (f : FlashS → FlashS) : (updFlash s i f).clk = s.clk := rfl
@[simp] theorem updFlash_fabric (s : State) (i : Nat) (f : FlashS → FlashS) : (updFlash s i f).fabric = s.fabric := rfl
@[simp] theorem updFlash_power (s : State) (i : Nat) (f : FlashS → FlashS) : (updFlash s i f).power = s.power := rfl
@[simp] theorem updFlash_cle (s : State) (i : Nat) (f : FlashS → FlashS) : (updFlash s i f).cle = s.cle := rfl
@[simp] theorem updFlash_host (s : State) (i : Nat) (f : FlashS → FlashS) : (updFlash s i f).host = s.host := rfl
@[simp] theorem updFlash_mail (s : State) (i : Nat) (f : FlashS → FlashS) : (updFlash s i f).mail = s.mail := rfl
@[simp] theorem updFlash_sys (s : State) (i : Nat) (f : FlashS → FlashS) : (updFlash s i f).sys = s.sys := rfl
@[simp] theorem updFlash_arrOf (s : State) (i : Nat) (f : FlashS → FlashS) (k : Nat) : arrOf (updFlash s i f) k = arrOf s k := rfl
@[simp] theorem updFlash_vxeOf (s : State) (i : Nat) (f : FlashS → FlashS) (k : Nat) : vxeOf (updFlash s i f) k = vxeOf s k := rfl
@[simp] theorem updFlash_seqOf (s : State) (i : Nat) (f : FlashS → FlashS) (k : Nat) : seqOf (updFlash s i f) k = seqOf s k := rfl
@[simp] theorem updFlash_negOf (s : State) (i : Nat) (f : FlashS → FlashS) (k : Nat) : negOf (updFlash s i f) k = negOf s k := rfl
@[simp] theorem updFlash_reelOf (s : State) (i : Nat) (f : FlashS → FlashS) (k : Nat) : reelOf (updFlash s i f) k = reelOf s k := rfl
@[simp] theorem updFlash_portOf (s : State) (i : Nat) (f : FlashS → FlashS) (k : Nat) : portOf (updFlash s i f) k = portOf s k := rfl
@[simp] theorem updFlash_outOf (s : State) (i : Nat) (f : FlashS → FlashS) (k : Nat) : outOf (updFlash s i f) k = outOf s k := rfl
@[simp] theorem updFlash_engOf (s : State) (i : Nat) (f : FlashS → FlashS) (k : Nat) : engOf (updFlash s i f) k = engOf s k := rfl
@[simp] theorem updFlash_laneOf (s : State) (i : Nat) (f : FlashS → FlashS) (k : Nat) : laneOf (updFlash s i f) k = laneOf s k := rfl
@[simp] theorem updFlash_laserOf (s : State) (i : Nat) (f : FlashS → FlashS) (k : Nat) : laserOf (updFlash s i f) k = laserOf s k := rfl
@[simp] theorem updFlash_optPortOf (s : State) (i : Nat) (f : FlashS → FlashS) (k : Nat) : optPortOf (updFlash s i f) k = optPortOf s k := rfl
@[simp] theorem updFlash_winOf (s : State) (i : Nat) (f : FlashS → FlashS) (k : Nat) : winOf (updFlash s i f) k = winOf s k := rfl
@[simp] theorem updFlash_hportOf (s : State) (i : Nat) (f : FlashS → FlashS) (k : Nat) : hportOf (updFlash s i f) k = hportOf s k := rfl
@[simp] theorem updFlash_pointOf (s : State) (i : Nat) (f : FlashS → FlashS) (k : Nat) : pointOf (updFlash s i f) k = pointOf s k := rfl
@[simp] theorem updFlash_expOf (s : State) (i : Nat) (f : FlashS → FlashS) (k : Nat) : expOf (updFlash s i f) k = expOf s k := rfl
@[simp] theorem updFlash_propOf (s : State) (i : Nat) (f : FlashS → FlashS) (k : Nat) : propOf (updFlash s i f) k = propOf s k := rfl
@[simp] theorem updFlash_funcOf (s : State) (i : Nat) (f : FlashS → FlashS) (k : Nat) : funcOf (updFlash s i f) k = funcOf s k := rfl
@[simp] theorem updFlash_linkOf (s : State) (i : Nat) (f : FlashS → FlashS) (k : Nat) : linkOf (updFlash s i f) k = linkOf s k := rfl
@[simp] theorem updFlash_chOf (s : State) (i : Nat) (f : FlashS → FlashS) (k : Nat) : chOf (updFlash s i f) k = chOf s k := rfl
@[simp] theorem updFlash_slotOf (s : State) (i : Nat) (f : FlashS → FlashS) (k : Nat) : slotOf (updFlash s i f) k = slotOf s k := rfl
@[simp] theorem updFabric_now (s : State) (f : FabricS → FabricS) : (updFabric s f).now = s.now := rfl
@[simp] theorem updFabric_free (s : State) (f : FabricS → FabricS) : (updFabric s f).free = s.free := rfl
@[simp] theorem updFabric_out (s : State) (f : FabricS → FabricS) : (updFabric s f).out = s.out := rfl
@[simp] theorem updFabric_pending (s : State) (f : FabricS → FabricS) : (updFabric s f).pending = s.pending := rfl
@[simp] theorem updFabric_arrays (s : State) (f : FabricS → FabricS) : (updFabric s f).arrays = s.arrays := rfl
@[simp] theorem updFabric_dbg (s : State) (f : FabricS → FabricS) : (updFabric s f).dbg = s.dbg := rfl
@[simp] theorem updFabric_vxes (s : State) (f : FabricS → FabricS) : (updFabric s f).vxes = s.vxes := rfl
@[simp] theorem updFabric_seqs (s : State) (f : FabricS → FabricS) : (updFabric s f).seqs = s.seqs := rfl
@[simp] theorem updFabric_negs (s : State) (f : FabricS → FabricS) : (updFabric s f).negs = s.negs := rfl
@[simp] theorem updFabric_reels (s : State) (f : FabricS → FabricS) : (updFabric s f).reels = s.reels := rfl
@[simp] theorem updFabric_watchdogs (s : State) (f : FabricS → FabricS) : (updFabric s f).watchdogs = s.watchdogs := rfl
@[simp] theorem updFabric_mem (s : State) (f : FabricS → FabricS) : (updFabric s f).mem = s.mem := rfl
@[simp] theorem updFabric_optics (s : State) (f : FabricS → FabricS) : (updFabric s f).optics = s.optics := rfl
@[simp] theorem updFabric_ev (s : State) (f : FabricS → FabricS) : (updFabric s f).ev = s.ev := rfl
@[simp] theorem updFabric_eumon (s : State) (f : FabricS → FabricS) : (updFabric s f).eumon = s.eumon := rfl
@[simp] theorem updFabric_exps (s : State) (f : FabricS → FabricS) : (updFabric s f).exps = s.exps := rfl
@[simp] theorem updFabric_sec (s : State) (f : FabricS → FabricS) : (updFabric s f).sec = s.sec := rfl
@[simp] theorem updFabric_clk (s : State) (f : FabricS → FabricS) : (updFabric s f).clk = s.clk := rfl
@[simp] theorem updFabric_power (s : State) (f : FabricS → FabricS) : (updFabric s f).power = s.power := rfl
@[simp] theorem updFabric_cle (s : State) (f : FabricS → FabricS) : (updFabric s f).cle = s.cle := rfl
@[simp] theorem updFabric_host (s : State) (f : FabricS → FabricS) : (updFabric s f).host = s.host := rfl
@[simp] theorem updFabric_mail (s : State) (f : FabricS → FabricS) : (updFabric s f).mail = s.mail := rfl
@[simp] theorem updFabric_sys (s : State) (f : FabricS → FabricS) : (updFabric s f).sys = s.sys := rfl
@[simp] theorem updFabric_arrOf (s : State) (f : FabricS → FabricS) (k : Nat) : arrOf (updFabric s f) k = arrOf s k := rfl
@[simp] theorem updFabric_vxeOf (s : State) (f : FabricS → FabricS) (k : Nat) : vxeOf (updFabric s f) k = vxeOf s k := rfl
@[simp] theorem updFabric_seqOf (s : State) (f : FabricS → FabricS) (k : Nat) : seqOf (updFabric s f) k = seqOf s k := rfl
@[simp] theorem updFabric_negOf (s : State) (f : FabricS → FabricS) (k : Nat) : negOf (updFabric s f) k = negOf s k := rfl
@[simp] theorem updFabric_reelOf (s : State) (f : FabricS → FabricS) (k : Nat) : reelOf (updFabric s f) k = reelOf s k := rfl
@[simp] theorem updFabric_chanOf (s : State) (f : FabricS → FabricS) (k : Nat) : chanOf (updFabric s f) k = chanOf s k := rfl
@[simp] theorem updFabric_regOf (s : State) (f : FabricS → FabricS) (k : Nat) : regOf (updFabric s f) k = regOf s k := rfl
@[simp] theorem updFabric_pairOf (s : State) (f : FabricS → FabricS) (k : Nat) : pairOf (updFabric s f) k = pairOf s k := rfl
@[simp] theorem updFabric_flashOf (s : State) (f : FabricS → FabricS) (k : Nat) : flashOf (updFabric s f) k = flashOf s k := rfl
@[simp] theorem updFabric_engOf (s : State) (f : FabricS → FabricS) (k : Nat) : engOf (updFabric s f) k = engOf s k := rfl
@[simp] theorem updFabric_laneOf (s : State) (f : FabricS → FabricS) (k : Nat) : laneOf (updFabric s f) k = laneOf s k := rfl
@[simp] theorem updFabric_laserOf (s : State) (f : FabricS → FabricS) (k : Nat) : laserOf (updFabric s f) k = laserOf s k := rfl
@[simp] theorem updFabric_optPortOf (s : State) (f : FabricS → FabricS) (k : Nat) : optPortOf (updFabric s f) k = optPortOf s k := rfl
@[simp] theorem updFabric_winOf (s : State) (f : FabricS → FabricS) (k : Nat) : winOf (updFabric s f) k = winOf s k := rfl
@[simp] theorem updFabric_hportOf (s : State) (f : FabricS → FabricS) (k : Nat) : hportOf (updFabric s f) k = hportOf s k := rfl
@[simp] theorem updFabric_pointOf (s : State) (f : FabricS → FabricS) (k : Nat) : pointOf (updFabric s f) k = pointOf s k := rfl
@[simp] theorem updFabric_expOf (s : State) (f : FabricS → FabricS) (k : Nat) : expOf (updFabric s f) k = expOf s k := rfl
@[simp] theorem updFabric_propOf (s : State) (f : FabricS → FabricS) (k : Nat) : propOf (updFabric s f) k = propOf s k := rfl
@[simp] theorem updFabric_funcOf (s : State) (f : FabricS → FabricS) (k : Nat) : funcOf (updFabric s f) k = funcOf s k := rfl
@[simp] theorem updFabric_linkOf (s : State) (f : FabricS → FabricS) (k : Nat) : linkOf (updFabric s f) k = linkOf s k := rfl
@[simp] theorem updFabric_chOf (s : State) (f : FabricS → FabricS) (k : Nat) : chOf (updFabric s f) k = chOf s k := rfl
@[simp] theorem updFabric_slotOf (s : State) (f : FabricS → FabricS) (k : Nat) : slotOf (updFabric s f) k = slotOf s k := rfl
@[simp] theorem updPort_now (s : State) (i : Nat) (f : PortS → PortS) : (updPort s i f).now = s.now := rfl
@[simp] theorem updPort_free (s : State) (i : Nat) (f : PortS → PortS) : (updPort s i f).free = s.free := rfl
@[simp] theorem updPort_out (s : State) (i : Nat) (f : PortS → PortS) : (updPort s i f).out = s.out := rfl
@[simp] theorem updPort_pending (s : State) (i : Nat) (f : PortS → PortS) : (updPort s i f).pending = s.pending := rfl
@[simp] theorem updPort_arrays (s : State) (i : Nat) (f : PortS → PortS) : (updPort s i f).arrays = s.arrays := rfl
@[simp] theorem updPort_dbg (s : State) (i : Nat) (f : PortS → PortS) : (updPort s i f).dbg = s.dbg := rfl
@[simp] theorem updPort_vxes (s : State) (i : Nat) (f : PortS → PortS) : (updPort s i f).vxes = s.vxes := rfl
@[simp] theorem updPort_seqs (s : State) (i : Nat) (f : PortS → PortS) : (updPort s i f).seqs = s.seqs := rfl
@[simp] theorem updPort_negs (s : State) (i : Nat) (f : PortS → PortS) : (updPort s i f).negs = s.negs := rfl
@[simp] theorem updPort_reels (s : State) (i : Nat) (f : PortS → PortS) : (updPort s i f).reels = s.reels := rfl
@[simp] theorem updPort_watchdogs (s : State) (i : Nat) (f : PortS → PortS) : (updPort s i f).watchdogs = s.watchdogs := rfl
@[simp] theorem updPort_mem (s : State) (i : Nat) (f : PortS → PortS) : (updPort s i f).mem = s.mem := rfl
@[simp] theorem updPort_optics (s : State) (i : Nat) (f : PortS → PortS) : (updPort s i f).optics = s.optics := rfl
@[simp] theorem updPort_ev (s : State) (i : Nat) (f : PortS → PortS) : (updPort s i f).ev = s.ev := rfl
@[simp] theorem updPort_eumon (s : State) (i : Nat) (f : PortS → PortS) : (updPort s i f).eumon = s.eumon := rfl
@[simp] theorem updPort_exps (s : State) (i : Nat) (f : PortS → PortS) : (updPort s i f).exps = s.exps := rfl
@[simp] theorem updPort_sec (s : State) (i : Nat) (f : PortS → PortS) : (updPort s i f).sec = s.sec := rfl
@[simp] theorem updPort_clk (s : State) (i : Nat) (f : PortS → PortS) : (updPort s i f).clk = s.clk := rfl
@[simp] theorem updPort_power (s : State) (i : Nat) (f : PortS → PortS) : (updPort s i f).power = s.power := rfl
@[simp] theorem updPort_cle (s : State) (i : Nat) (f : PortS → PortS) : (updPort s i f).cle = s.cle := rfl
@[simp] theorem updPort_host (s : State) (i : Nat) (f : PortS → PortS) : (updPort s i f).host = s.host := rfl
@[simp] theorem updPort_mail (s : State) (i : Nat) (f : PortS → PortS) : (updPort s i f).mail = s.mail := rfl
@[simp] theorem updPort_sys (s : State) (i : Nat) (f : PortS → PortS) : (updPort s i f).sys = s.sys := rfl
@[simp] theorem updPort_arrOf (s : State) (i : Nat) (f : PortS → PortS) (k : Nat) : arrOf (updPort s i f) k = arrOf s k := rfl
@[simp] theorem updPort_vxeOf (s : State) (i : Nat) (f : PortS → PortS) (k : Nat) : vxeOf (updPort s i f) k = vxeOf s k := rfl
@[simp] theorem updPort_seqOf (s : State) (i : Nat) (f : PortS → PortS) (k : Nat) : seqOf (updPort s i f) k = seqOf s k := rfl
@[simp] theorem updPort_negOf (s : State) (i : Nat) (f : PortS → PortS) (k : Nat) : negOf (updPort s i f) k = negOf s k := rfl
@[simp] theorem updPort_reelOf (s : State) (i : Nat) (f : PortS → PortS) (k : Nat) : reelOf (updPort s i f) k = reelOf s k := rfl
@[simp] theorem updPort_chanOf (s : State) (i : Nat) (f : PortS → PortS) (k : Nat) : chanOf (updPort s i f) k = chanOf s k := rfl
@[simp] theorem updPort_regOf (s : State) (i : Nat) (f : PortS → PortS) (k : Nat) : regOf (updPort s i f) k = regOf s k := rfl
@[simp] theorem updPort_pairOf (s : State) (i : Nat) (f : PortS → PortS) (k : Nat) : pairOf (updPort s i f) k = pairOf s k := rfl
@[simp] theorem updPort_flashOf (s : State) (i : Nat) (f : PortS → PortS) (k : Nat) : flashOf (updPort s i f) k = flashOf s k := rfl
@[simp] theorem updPort_engOf (s : State) (i : Nat) (f : PortS → PortS) (k : Nat) : engOf (updPort s i f) k = engOf s k := rfl
@[simp] theorem updPort_laneOf (s : State) (i : Nat) (f : PortS → PortS) (k : Nat) : laneOf (updPort s i f) k = laneOf s k := rfl
@[simp] theorem updPort_laserOf (s : State) (i : Nat) (f : PortS → PortS) (k : Nat) : laserOf (updPort s i f) k = laserOf s k := rfl
@[simp] theorem updPort_optPortOf (s : State) (i : Nat) (f : PortS → PortS) (k : Nat) : optPortOf (updPort s i f) k = optPortOf s k := rfl
@[simp] theorem updPort_winOf (s : State) (i : Nat) (f : PortS → PortS) (k : Nat) : winOf (updPort s i f) k = winOf s k := rfl
@[simp] theorem updPort_hportOf (s : State) (i : Nat) (f : PortS → PortS) (k : Nat) : hportOf (updPort s i f) k = hportOf s k := rfl
@[simp] theorem updPort_pointOf (s : State) (i : Nat) (f : PortS → PortS) (k : Nat) : pointOf (updPort s i f) k = pointOf s k := rfl
@[simp] theorem updPort_expOf (s : State) (i : Nat) (f : PortS → PortS) (k : Nat) : expOf (updPort s i f) k = expOf s k := rfl
@[simp] theorem updPort_propOf (s : State) (i : Nat) (f : PortS → PortS) (k : Nat) : propOf (updPort s i f) k = propOf s k := rfl
@[simp] theorem updPort_funcOf (s : State) (i : Nat) (f : PortS → PortS) (k : Nat) : funcOf (updPort s i f) k = funcOf s k := rfl
@[simp] theorem updPort_linkOf (s : State) (i : Nat) (f : PortS → PortS) (k : Nat) : linkOf (updPort s i f) k = linkOf s k := rfl
@[simp] theorem updPort_chOf (s : State) (i : Nat) (f : PortS → PortS) (k : Nat) : chOf (updPort s i f) k = chOf s k := rfl
@[simp] theorem updPort_slotOf (s : State) (i : Nat) (f : PortS → PortS) (k : Nat) : slotOf (updPort s i f) k = slotOf s k := rfl
@[simp] theorem updOut_now (s : State) (i : Nat) (f : OutPort → OutPort) : (updOut s i f).now = s.now := rfl
@[simp] theorem updOut_free (s : State) (i : Nat) (f : OutPort → OutPort) : (updOut s i f).free = s.free := rfl
@[simp] theorem updOut_out (s : State) (i : Nat) (f : OutPort → OutPort) : (updOut s i f).out = s.out := rfl
@[simp] theorem updOut_pending (s : State) (i : Nat) (f : OutPort → OutPort) : (updOut s i f).pending = s.pending := rfl
@[simp] theorem updOut_arrays (s : State) (i : Nat) (f : OutPort → OutPort) : (updOut s i f).arrays = s.arrays := rfl
@[simp] theorem updOut_dbg (s : State) (i : Nat) (f : OutPort → OutPort) : (updOut s i f).dbg = s.dbg := rfl
@[simp] theorem updOut_vxes (s : State) (i : Nat) (f : OutPort → OutPort) : (updOut s i f).vxes = s.vxes := rfl
@[simp] theorem updOut_seqs (s : State) (i : Nat) (f : OutPort → OutPort) : (updOut s i f).seqs = s.seqs := rfl
@[simp] theorem updOut_negs (s : State) (i : Nat) (f : OutPort → OutPort) : (updOut s i f).negs = s.negs := rfl
@[simp] theorem updOut_reels (s : State) (i : Nat) (f : OutPort → OutPort) : (updOut s i f).reels = s.reels := rfl
@[simp] theorem updOut_watchdogs (s : State) (i : Nat) (f : OutPort → OutPort) : (updOut s i f).watchdogs = s.watchdogs := rfl
@[simp] theorem updOut_mem (s : State) (i : Nat) (f : OutPort → OutPort) : (updOut s i f).mem = s.mem := rfl
@[simp] theorem updOut_optics (s : State) (i : Nat) (f : OutPort → OutPort) : (updOut s i f).optics = s.optics := rfl
@[simp] theorem updOut_ev (s : State) (i : Nat) (f : OutPort → OutPort) : (updOut s i f).ev = s.ev := rfl
@[simp] theorem updOut_eumon (s : State) (i : Nat) (f : OutPort → OutPort) : (updOut s i f).eumon = s.eumon := rfl
@[simp] theorem updOut_exps (s : State) (i : Nat) (f : OutPort → OutPort) : (updOut s i f).exps = s.exps := rfl
@[simp] theorem updOut_sec (s : State) (i : Nat) (f : OutPort → OutPort) : (updOut s i f).sec = s.sec := rfl
@[simp] theorem updOut_clk (s : State) (i : Nat) (f : OutPort → OutPort) : (updOut s i f).clk = s.clk := rfl
@[simp] theorem updOut_power (s : State) (i : Nat) (f : OutPort → OutPort) : (updOut s i f).power = s.power := rfl
@[simp] theorem updOut_cle (s : State) (i : Nat) (f : OutPort → OutPort) : (updOut s i f).cle = s.cle := rfl
@[simp] theorem updOut_host (s : State) (i : Nat) (f : OutPort → OutPort) : (updOut s i f).host = s.host := rfl
@[simp] theorem updOut_mail (s : State) (i : Nat) (f : OutPort → OutPort) : (updOut s i f).mail = s.mail := rfl
@[simp] theorem updOut_sys (s : State) (i : Nat) (f : OutPort → OutPort) : (updOut s i f).sys = s.sys := rfl
@[simp] theorem updOut_arrOf (s : State) (i : Nat) (f : OutPort → OutPort) (k : Nat) : arrOf (updOut s i f) k = arrOf s k := rfl
@[simp] theorem updOut_vxeOf (s : State) (i : Nat) (f : OutPort → OutPort) (k : Nat) : vxeOf (updOut s i f) k = vxeOf s k := rfl
@[simp] theorem updOut_seqOf (s : State) (i : Nat) (f : OutPort → OutPort) (k : Nat) : seqOf (updOut s i f) k = seqOf s k := rfl
@[simp] theorem updOut_negOf (s : State) (i : Nat) (f : OutPort → OutPort) (k : Nat) : negOf (updOut s i f) k = negOf s k := rfl
@[simp] theorem updOut_reelOf (s : State) (i : Nat) (f : OutPort → OutPort) (k : Nat) : reelOf (updOut s i f) k = reelOf s k := rfl
@[simp] theorem updOut_chanOf (s : State) (i : Nat) (f : OutPort → OutPort) (k : Nat) : chanOf (updOut s i f) k = chanOf s k := rfl
@[simp] theorem updOut_regOf (s : State) (i : Nat) (f : OutPort → OutPort) (k : Nat) : regOf (updOut s i f) k = regOf s k := rfl
@[simp] theorem updOut_pairOf (s : State) (i : Nat) (f : OutPort → OutPort) (k : Nat) : pairOf (updOut s i f) k = pairOf s k := rfl
@[simp] theorem updOut_flashOf (s : State) (i : Nat) (f : OutPort → OutPort) (k : Nat) : flashOf (updOut s i f) k = flashOf s k := rfl
@[simp] theorem updOut_engOf (s : State) (i : Nat) (f : OutPort → OutPort) (k : Nat) : engOf (updOut s i f) k = engOf s k := rfl
@[simp] theorem updOut_laneOf (s : State) (i : Nat) (f : OutPort → OutPort) (k : Nat) : laneOf (updOut s i f) k = laneOf s k := rfl
@[simp] theorem updOut_laserOf (s : State) (i : Nat) (f : OutPort → OutPort) (k : Nat) : laserOf (updOut s i f) k = laserOf s k := rfl
@[simp] theorem updOut_optPortOf (s : State) (i : Nat) (f : OutPort → OutPort) (k : Nat) : optPortOf (updOut s i f) k = optPortOf s k := rfl
@[simp] theorem updOut_winOf (s : State) (i : Nat) (f : OutPort → OutPort) (k : Nat) : winOf (updOut s i f) k = winOf s k := rfl
@[simp] theorem updOut_hportOf (s : State) (i : Nat) (f : OutPort → OutPort) (k : Nat) : hportOf (updOut s i f) k = hportOf s k := rfl
@[simp] theorem updOut_pointOf (s : State) (i : Nat) (f : OutPort → OutPort) (k : Nat) : pointOf (updOut s i f) k = pointOf s k := rfl
@[simp] theorem updOut_expOf (s : State) (i : Nat) (f : OutPort → OutPort) (k : Nat) : expOf (updOut s i f) k = expOf s k := rfl
@[simp] theorem updOut_propOf (s : State) (i : Nat) (f : OutPort → OutPort) (k : Nat) : propOf (updOut s i f) k = propOf s k := rfl
@[simp] theorem updOut_funcOf (s : State) (i : Nat) (f : OutPort → OutPort) (k : Nat) : funcOf (updOut s i f) k = funcOf s k := rfl
@[simp] theorem updOut_linkOf (s : State) (i : Nat) (f : OutPort → OutPort) (k : Nat) : linkOf (updOut s i f) k = linkOf s k := rfl
@[simp] theorem updOut_chOf (s : State) (i : Nat) (f : OutPort → OutPort) (k : Nat) : chOf (updOut s i f) k = chOf s k := rfl
@[simp] theorem updOut_slotOf (s : State) (i : Nat) (f : OutPort → OutPort) (k : Nat) : slotOf (updOut s i f) k = slotOf s k := rfl
@[simp] theorem updOptics_now (s : State) (f : OpticsS → OpticsS) : (updOptics s f).now = s.now := rfl
@[simp] theorem updOptics_free (s : State) (f : OpticsS → OpticsS) : (updOptics s f).free = s.free := rfl
@[simp] theorem updOptics_out (s : State) (f : OpticsS → OpticsS) : (updOptics s f).out = s.out := rfl
@[simp] theorem updOptics_pending (s : State) (f : OpticsS → OpticsS) : (updOptics s f).pending = s.pending := rfl
@[simp] theorem updOptics_arrays (s : State) (f : OpticsS → OpticsS) : (updOptics s f).arrays = s.arrays := rfl
@[simp] theorem updOptics_dbg (s : State) (f : OpticsS → OpticsS) : (updOptics s f).dbg = s.dbg := rfl
@[simp] theorem updOptics_vxes (s : State) (f : OpticsS → OpticsS) : (updOptics s f).vxes = s.vxes := rfl
@[simp] theorem updOptics_seqs (s : State) (f : OpticsS → OpticsS) : (updOptics s f).seqs = s.seqs := rfl
@[simp] theorem updOptics_negs (s : State) (f : OpticsS → OpticsS) : (updOptics s f).negs = s.negs := rfl
@[simp] theorem updOptics_reels (s : State) (f : OpticsS → OpticsS) : (updOptics s f).reels = s.reels := rfl
@[simp] theorem updOptics_watchdogs (s : State) (f : OpticsS → OpticsS) : (updOptics s f).watchdogs = s.watchdogs := rfl
@[simp] theorem updOptics_mem (s : State) (f : OpticsS → OpticsS) : (updOptics s f).mem = s.mem := rfl
@[simp] theorem updOptics_ev (s : State) (f : OpticsS → OpticsS) : (updOptics s f).ev = s.ev := rfl
@[simp] theorem updOptics_eumon (s : State) (f : OpticsS → OpticsS) : (updOptics s f).eumon = s.eumon := rfl
@[simp] theorem updOptics_exps (s : State) (f : OpticsS → OpticsS) : (updOptics s f).exps = s.exps := rfl
@[simp] theorem updOptics_sec (s : State) (f : OpticsS → OpticsS) : (updOptics s f).sec = s.sec := rfl
@[simp] theorem updOptics_clk (s : State) (f : OpticsS → OpticsS) : (updOptics s f).clk = s.clk := rfl
@[simp] theorem updOptics_fabric (s : State) (f : OpticsS → OpticsS) : (updOptics s f).fabric = s.fabric := rfl
@[simp] theorem updOptics_power (s : State) (f : OpticsS → OpticsS) : (updOptics s f).power = s.power := rfl
@[simp] theorem updOptics_cle (s : State) (f : OpticsS → OpticsS) : (updOptics s f).cle = s.cle := rfl
@[simp] theorem updOptics_host (s : State) (f : OpticsS → OpticsS) : (updOptics s f).host = s.host := rfl
@[simp] theorem updOptics_mail (s : State) (f : OpticsS → OpticsS) : (updOptics s f).mail = s.mail := rfl
@[simp] theorem updOptics_sys (s : State) (f : OpticsS → OpticsS) : (updOptics s f).sys = s.sys := rfl
@[simp] theorem updOptics_arrOf (s : State) (f : OpticsS → OpticsS) (k : Nat) : arrOf (updOptics s f) k = arrOf s k := rfl
@[simp] theorem updOptics_vxeOf (s : State) (f : OpticsS → OpticsS) (k : Nat) : vxeOf (updOptics s f) k = vxeOf s k := rfl
@[simp] theorem updOptics_seqOf (s : State) (f : OpticsS → OpticsS) (k : Nat) : seqOf (updOptics s f) k = seqOf s k := rfl
@[simp] theorem updOptics_negOf (s : State) (f : OpticsS → OpticsS) (k : Nat) : negOf (updOptics s f) k = negOf s k := rfl
@[simp] theorem updOptics_reelOf (s : State) (f : OpticsS → OpticsS) (k : Nat) : reelOf (updOptics s f) k = reelOf s k := rfl
@[simp] theorem updOptics_chanOf (s : State) (f : OpticsS → OpticsS) (k : Nat) : chanOf (updOptics s f) k = chanOf s k := rfl
@[simp] theorem updOptics_regOf (s : State) (f : OpticsS → OpticsS) (k : Nat) : regOf (updOptics s f) k = regOf s k := rfl
@[simp] theorem updOptics_pairOf (s : State) (f : OpticsS → OpticsS) (k : Nat) : pairOf (updOptics s f) k = pairOf s k := rfl
@[simp] theorem updOptics_flashOf (s : State) (f : OpticsS → OpticsS) (k : Nat) : flashOf (updOptics s f) k = flashOf s k := rfl
@[simp] theorem updOptics_portOf (s : State) (f : OpticsS → OpticsS) (k : Nat) : portOf (updOptics s f) k = portOf s k := rfl
@[simp] theorem updOptics_outOf (s : State) (f : OpticsS → OpticsS) (k : Nat) : outOf (updOptics s f) k = outOf s k := rfl
@[simp] theorem updOptics_winOf (s : State) (f : OpticsS → OpticsS) (k : Nat) : winOf (updOptics s f) k = winOf s k := rfl
@[simp] theorem updOptics_hportOf (s : State) (f : OpticsS → OpticsS) (k : Nat) : hportOf (updOptics s f) k = hportOf s k := rfl
@[simp] theorem updOptics_pointOf (s : State) (f : OpticsS → OpticsS) (k : Nat) : pointOf (updOptics s f) k = pointOf s k := rfl
@[simp] theorem updOptics_expOf (s : State) (f : OpticsS → OpticsS) (k : Nat) : expOf (updOptics s f) k = expOf s k := rfl
@[simp] theorem updOptics_propOf (s : State) (f : OpticsS → OpticsS) (k : Nat) : propOf (updOptics s f) k = propOf s k := rfl
@[simp] theorem updOptics_funcOf (s : State) (f : OpticsS → OpticsS) (k : Nat) : funcOf (updOptics s f) k = funcOf s k := rfl
@[simp] theorem updOptics_linkOf (s : State) (f : OpticsS → OpticsS) (k : Nat) : linkOf (updOptics s f) k = linkOf s k := rfl
@[simp] theorem updOptics_chOf (s : State) (f : OpticsS → OpticsS) (k : Nat) : chOf (updOptics s f) k = chOf s k := rfl
@[simp] theorem updOptics_slotOf (s : State) (f : OpticsS → OpticsS) (k : Nat) : slotOf (updOptics s f) k = slotOf s k := rfl
@[simp] theorem updEng_now (s : State) (i : Nat) (f : EngineS → EngineS) : (updEng s i f).now = s.now := rfl
@[simp] theorem updEng_free (s : State) (i : Nat) (f : EngineS → EngineS) : (updEng s i f).free = s.free := rfl
@[simp] theorem updEng_out (s : State) (i : Nat) (f : EngineS → EngineS) : (updEng s i f).out = s.out := rfl
@[simp] theorem updEng_pending (s : State) (i : Nat) (f : EngineS → EngineS) : (updEng s i f).pending = s.pending := rfl
@[simp] theorem updEng_arrays (s : State) (i : Nat) (f : EngineS → EngineS) : (updEng s i f).arrays = s.arrays := rfl
@[simp] theorem updEng_dbg (s : State) (i : Nat) (f : EngineS → EngineS) : (updEng s i f).dbg = s.dbg := rfl
@[simp] theorem updEng_vxes (s : State) (i : Nat) (f : EngineS → EngineS) : (updEng s i f).vxes = s.vxes := rfl
@[simp] theorem updEng_seqs (s : State) (i : Nat) (f : EngineS → EngineS) : (updEng s i f).seqs = s.seqs := rfl
@[simp] theorem updEng_negs (s : State) (i : Nat) (f : EngineS → EngineS) : (updEng s i f).negs = s.negs := rfl
@[simp] theorem updEng_reels (s : State) (i : Nat) (f : EngineS → EngineS) : (updEng s i f).reels = s.reels := rfl
@[simp] theorem updEng_watchdogs (s : State) (i : Nat) (f : EngineS → EngineS) : (updEng s i f).watchdogs = s.watchdogs := rfl
@[simp] theorem updEng_mem (s : State) (i : Nat) (f : EngineS → EngineS) : (updEng s i f).mem = s.mem := rfl
@[simp] theorem updEng_ev (s : State) (i : Nat) (f : EngineS → EngineS) : (updEng s i f).ev = s.ev := rfl
@[simp] theorem updEng_eumon (s : State) (i : Nat) (f : EngineS → EngineS) : (updEng s i f).eumon = s.eumon := rfl
@[simp] theorem updEng_exps (s : State) (i : Nat) (f : EngineS → EngineS) : (updEng s i f).exps = s.exps := rfl
@[simp] theorem updEng_sec (s : State) (i : Nat) (f : EngineS → EngineS) : (updEng s i f).sec = s.sec := rfl
@[simp] theorem updEng_clk (s : State) (i : Nat) (f : EngineS → EngineS) : (updEng s i f).clk = s.clk := rfl
@[simp] theorem updEng_fabric (s : State) (i : Nat) (f : EngineS → EngineS) : (updEng s i f).fabric = s.fabric := rfl
@[simp] theorem updEng_power (s : State) (i : Nat) (f : EngineS → EngineS) : (updEng s i f).power = s.power := rfl
@[simp] theorem updEng_cle (s : State) (i : Nat) (f : EngineS → EngineS) : (updEng s i f).cle = s.cle := rfl
@[simp] theorem updEng_host (s : State) (i : Nat) (f : EngineS → EngineS) : (updEng s i f).host = s.host := rfl
@[simp] theorem updEng_mail (s : State) (i : Nat) (f : EngineS → EngineS) : (updEng s i f).mail = s.mail := rfl
@[simp] theorem updEng_sys (s : State) (i : Nat) (f : EngineS → EngineS) : (updEng s i f).sys = s.sys := rfl
@[simp] theorem updEng_arrOf (s : State) (i : Nat) (f : EngineS → EngineS) (k : Nat) : arrOf (updEng s i f) k = arrOf s k := rfl
@[simp] theorem updEng_vxeOf (s : State) (i : Nat) (f : EngineS → EngineS) (k : Nat) : vxeOf (updEng s i f) k = vxeOf s k := rfl
@[simp] theorem updEng_seqOf (s : State) (i : Nat) (f : EngineS → EngineS) (k : Nat) : seqOf (updEng s i f) k = seqOf s k := rfl
@[simp] theorem updEng_negOf (s : State) (i : Nat) (f : EngineS → EngineS) (k : Nat) : negOf (updEng s i f) k = negOf s k := rfl
@[simp] theorem updEng_reelOf (s : State) (i : Nat) (f : EngineS → EngineS) (k : Nat) : reelOf (updEng s i f) k = reelOf s k := rfl
@[simp] theorem updEng_chanOf (s : State) (i : Nat) (f : EngineS → EngineS) (k : Nat) : chanOf (updEng s i f) k = chanOf s k := rfl
@[simp] theorem updEng_regOf (s : State) (i : Nat) (f : EngineS → EngineS) (k : Nat) : regOf (updEng s i f) k = regOf s k := rfl
@[simp] theorem updEng_pairOf (s : State) (i : Nat) (f : EngineS → EngineS) (k : Nat) : pairOf (updEng s i f) k = pairOf s k := rfl
@[simp] theorem updEng_flashOf (s : State) (i : Nat) (f : EngineS → EngineS) (k : Nat) : flashOf (updEng s i f) k = flashOf s k := rfl
@[simp] theorem updEng_portOf (s : State) (i : Nat) (f : EngineS → EngineS) (k : Nat) : portOf (updEng s i f) k = portOf s k := rfl
@[simp] theorem updEng_outOf (s : State) (i : Nat) (f : EngineS → EngineS) (k : Nat) : outOf (updEng s i f) k = outOf s k := rfl
@[simp] theorem updEng_winOf (s : State) (i : Nat) (f : EngineS → EngineS) (k : Nat) : winOf (updEng s i f) k = winOf s k := rfl
@[simp] theorem updEng_hportOf (s : State) (i : Nat) (f : EngineS → EngineS) (k : Nat) : hportOf (updEng s i f) k = hportOf s k := rfl
@[simp] theorem updEng_pointOf (s : State) (i : Nat) (f : EngineS → EngineS) (k : Nat) : pointOf (updEng s i f) k = pointOf s k := rfl
@[simp] theorem updEng_expOf (s : State) (i : Nat) (f : EngineS → EngineS) (k : Nat) : expOf (updEng s i f) k = expOf s k := rfl
@[simp] theorem updEng_propOf (s : State) (i : Nat) (f : EngineS → EngineS) (k : Nat) : propOf (updEng s i f) k = propOf s k := rfl
@[simp] theorem updEng_funcOf (s : State) (i : Nat) (f : EngineS → EngineS) (k : Nat) : funcOf (updEng s i f) k = funcOf s k := rfl
@[simp] theorem updEng_linkOf (s : State) (i : Nat) (f : EngineS → EngineS) (k : Nat) : linkOf (updEng s i f) k = linkOf s k := rfl
@[simp] theorem updEng_chOf (s : State) (i : Nat) (f : EngineS → EngineS) (k : Nat) : chOf (updEng s i f) k = chOf s k := rfl
@[simp] theorem updEng_slotOf (s : State) (i : Nat) (f : EngineS → EngineS) (k : Nat) : slotOf (updEng s i f) k = slotOf s k := rfl
@[simp] theorem updLane_now (s : State) (i : Nat) (f : LaneS → LaneS) : (updLane s i f).now = s.now := rfl
@[simp] theorem updLane_free (s : State) (i : Nat) (f : LaneS → LaneS) : (updLane s i f).free = s.free := rfl
@[simp] theorem updLane_out (s : State) (i : Nat) (f : LaneS → LaneS) : (updLane s i f).out = s.out := rfl
@[simp] theorem updLane_pending (s : State) (i : Nat) (f : LaneS → LaneS) : (updLane s i f).pending = s.pending := rfl
@[simp] theorem updLane_arrays (s : State) (i : Nat) (f : LaneS → LaneS) : (updLane s i f).arrays = s.arrays := rfl
@[simp] theorem updLane_dbg (s : State) (i : Nat) (f : LaneS → LaneS) : (updLane s i f).dbg = s.dbg := rfl
@[simp] theorem updLane_vxes (s : State) (i : Nat) (f : LaneS → LaneS) : (updLane s i f).vxes = s.vxes := rfl
@[simp] theorem updLane_seqs (s : State) (i : Nat) (f : LaneS → LaneS) : (updLane s i f).seqs = s.seqs := rfl
@[simp] theorem updLane_negs (s : State) (i : Nat) (f : LaneS → LaneS) : (updLane s i f).negs = s.negs := rfl
@[simp] theorem updLane_reels (s : State) (i : Nat) (f : LaneS → LaneS) : (updLane s i f).reels = s.reels := rfl
@[simp] theorem updLane_watchdogs (s : State) (i : Nat) (f : LaneS → LaneS) : (updLane s i f).watchdogs = s.watchdogs := rfl
@[simp] theorem updLane_mem (s : State) (i : Nat) (f : LaneS → LaneS) : (updLane s i f).mem = s.mem := rfl
@[simp] theorem updLane_ev (s : State) (i : Nat) (f : LaneS → LaneS) : (updLane s i f).ev = s.ev := rfl
@[simp] theorem updLane_eumon (s : State) (i : Nat) (f : LaneS → LaneS) : (updLane s i f).eumon = s.eumon := rfl
@[simp] theorem updLane_exps (s : State) (i : Nat) (f : LaneS → LaneS) : (updLane s i f).exps = s.exps := rfl
@[simp] theorem updLane_sec (s : State) (i : Nat) (f : LaneS → LaneS) : (updLane s i f).sec = s.sec := rfl
@[simp] theorem updLane_clk (s : State) (i : Nat) (f : LaneS → LaneS) : (updLane s i f).clk = s.clk := rfl
@[simp] theorem updLane_fabric (s : State) (i : Nat) (f : LaneS → LaneS) : (updLane s i f).fabric = s.fabric := rfl
@[simp] theorem updLane_power (s : State) (i : Nat) (f : LaneS → LaneS) : (updLane s i f).power = s.power := rfl
@[simp] theorem updLane_cle (s : State) (i : Nat) (f : LaneS → LaneS) : (updLane s i f).cle = s.cle := rfl
@[simp] theorem updLane_host (s : State) (i : Nat) (f : LaneS → LaneS) : (updLane s i f).host = s.host := rfl
@[simp] theorem updLane_mail (s : State) (i : Nat) (f : LaneS → LaneS) : (updLane s i f).mail = s.mail := rfl
@[simp] theorem updLane_sys (s : State) (i : Nat) (f : LaneS → LaneS) : (updLane s i f).sys = s.sys := rfl
@[simp] theorem updLane_arrOf (s : State) (i : Nat) (f : LaneS → LaneS) (k : Nat) : arrOf (updLane s i f) k = arrOf s k := rfl
@[simp] theorem updLane_vxeOf (s : State) (i : Nat) (f : LaneS → LaneS) (k : Nat) : vxeOf (updLane s i f) k = vxeOf s k := rfl
@[simp] theorem updLane_seqOf (s : State) (i : Nat) (f : LaneS → LaneS) (k : Nat) : seqOf (updLane s i f) k = seqOf s k := rfl
@[simp] theorem updLane_negOf (s : State) (i : Nat) (f : LaneS → LaneS) (k : Nat) : negOf (updLane s i f) k = negOf s k := rfl
@[simp] theorem updLane_reelOf (s : State) (i : Nat) (f : LaneS → LaneS) (k : Nat) : reelOf (updLane s i f) k = reelOf s k := rfl
@[simp] theorem updLane_chanOf (s : State) (i : Nat) (f : LaneS → LaneS) (k : Nat) : chanOf (updLane s i f) k = chanOf s k := rfl
@[simp] theorem updLane_regOf (s : State) (i : Nat) (f : LaneS → LaneS) (k : Nat) : regOf (updLane s i f) k = regOf s k := rfl
@[simp] theorem updLane_pairOf (s : State) (i : Nat) (f : LaneS → LaneS) (k : Nat) : pairOf (updLane s i f) k = pairOf s k := rfl
@[simp] theorem updLane_flashOf (s : State) (i : Nat) (f : LaneS → LaneS) (k : Nat) : flashOf (updLane s i f) k = flashOf s k := rfl
@[simp] theorem updLane_portOf (s : State) (i : Nat) (f : LaneS → LaneS) (k : Nat) : portOf (updLane s i f) k = portOf s k := rfl
@[simp] theorem updLane_outOf (s : State) (i : Nat) (f : LaneS → LaneS) (k : Nat) : outOf (updLane s i f) k = outOf s k := rfl
@[simp] theorem updLane_winOf (s : State) (i : Nat) (f : LaneS → LaneS) (k : Nat) : winOf (updLane s i f) k = winOf s k := rfl
@[simp] theorem updLane_hportOf (s : State) (i : Nat) (f : LaneS → LaneS) (k : Nat) : hportOf (updLane s i f) k = hportOf s k := rfl
@[simp] theorem updLane_pointOf (s : State) (i : Nat) (f : LaneS → LaneS) (k : Nat) : pointOf (updLane s i f) k = pointOf s k := rfl
@[simp] theorem updLane_expOf (s : State) (i : Nat) (f : LaneS → LaneS) (k : Nat) : expOf (updLane s i f) k = expOf s k := rfl
@[simp] theorem updLane_propOf (s : State) (i : Nat) (f : LaneS → LaneS) (k : Nat) : propOf (updLane s i f) k = propOf s k := rfl
@[simp] theorem updLane_funcOf (s : State) (i : Nat) (f : LaneS → LaneS) (k : Nat) : funcOf (updLane s i f) k = funcOf s k := rfl
@[simp] theorem updLane_linkOf (s : State) (i : Nat) (f : LaneS → LaneS) (k : Nat) : linkOf (updLane s i f) k = linkOf s k := rfl
@[simp] theorem updLane_chOf (s : State) (i : Nat) (f : LaneS → LaneS) (k : Nat) : chOf (updLane s i f) k = chOf s k := rfl
@[simp] theorem updLane_slotOf (s : State) (i : Nat) (f : LaneS → LaneS) (k : Nat) : slotOf (updLane s i f) k = slotOf s k := rfl
@[simp] theorem updLaser_now (s : State) (i : Nat) (f : LaserS → LaserS) : (updLaser s i f).now = s.now := rfl
@[simp] theorem updLaser_free (s : State) (i : Nat) (f : LaserS → LaserS) : (updLaser s i f).free = s.free := rfl
@[simp] theorem updLaser_out (s : State) (i : Nat) (f : LaserS → LaserS) : (updLaser s i f).out = s.out := rfl
@[simp] theorem updLaser_pending (s : State) (i : Nat) (f : LaserS → LaserS) : (updLaser s i f).pending = s.pending := rfl
@[simp] theorem updLaser_arrays (s : State) (i : Nat) (f : LaserS → LaserS) : (updLaser s i f).arrays = s.arrays := rfl
@[simp] theorem updLaser_dbg (s : State) (i : Nat) (f : LaserS → LaserS) : (updLaser s i f).dbg = s.dbg := rfl
@[simp] theorem updLaser_vxes (s : State) (i : Nat) (f : LaserS → LaserS) : (updLaser s i f).vxes = s.vxes := rfl
@[simp] theorem updLaser_seqs (s : State) (i : Nat) (f : LaserS → LaserS) : (updLaser s i f).seqs = s.seqs := rfl
@[simp] theorem updLaser_negs (s : State) (i : Nat) (f : LaserS → LaserS) : (updLaser s i f).negs = s.negs := rfl
@[simp] theorem updLaser_reels (s : State) (i : Nat) (f : LaserS → LaserS) : (updLaser s i f).reels = s.reels := rfl
@[simp] theorem updLaser_watchdogs (s : State) (i : Nat) (f : LaserS → LaserS) : (updLaser s i f).watchdogs = s.watchdogs := rfl
@[simp] theorem updLaser_mem (s : State) (i : Nat) (f : LaserS → LaserS) : (updLaser s i f).mem = s.mem := rfl
@[simp] theorem updLaser_ev (s : State) (i : Nat) (f : LaserS → LaserS) : (updLaser s i f).ev = s.ev := rfl
@[simp] theorem updLaser_eumon (s : State) (i : Nat) (f : LaserS → LaserS) : (updLaser s i f).eumon = s.eumon := rfl
@[simp] theorem updLaser_exps (s : State) (i : Nat) (f : LaserS → LaserS) : (updLaser s i f).exps = s.exps := rfl
@[simp] theorem updLaser_sec (s : State) (i : Nat) (f : LaserS → LaserS) : (updLaser s i f).sec = s.sec := rfl
@[simp] theorem updLaser_clk (s : State) (i : Nat) (f : LaserS → LaserS) : (updLaser s i f).clk = s.clk := rfl
@[simp] theorem updLaser_fabric (s : State) (i : Nat) (f : LaserS → LaserS) : (updLaser s i f).fabric = s.fabric := rfl
@[simp] theorem updLaser_power (s : State) (i : Nat) (f : LaserS → LaserS) : (updLaser s i f).power = s.power := rfl
@[simp] theorem updLaser_cle (s : State) (i : Nat) (f : LaserS → LaserS) : (updLaser s i f).cle = s.cle := rfl
@[simp] theorem updLaser_host (s : State) (i : Nat) (f : LaserS → LaserS) : (updLaser s i f).host = s.host := rfl
@[simp] theorem updLaser_mail (s : State) (i : Nat) (f : LaserS → LaserS) : (updLaser s i f).mail = s.mail := rfl
@[simp] theorem updLaser_sys (s : State) (i : Nat) (f : LaserS → LaserS) : (updLaser s i f).sys = s.sys := rfl
@[simp] theorem updLaser_arrOf (s : State) (i : Nat) (f : LaserS → LaserS) (k : Nat) : arrOf (updLaser s i f) k = arrOf s k := rfl
@[simp] theorem updLaser_vxeOf (s : State) (i : Nat) (f : LaserS → LaserS) (k : Nat) : vxeOf (updLaser s i f) k = vxeOf s k := rfl
@[simp] theorem updLaser_seqOf (s : State) (i : Nat) (f : LaserS → LaserS) (k : Nat) : seqOf (updLaser s i f) k = seqOf s k := rfl
@[simp] theorem updLaser_negOf (s : State) (i : Nat) (f : LaserS → LaserS) (k : Nat) : negOf (updLaser s i f) k = negOf s k := rfl
@[simp] theorem updLaser_reelOf (s : State) (i : Nat) (f : LaserS → LaserS) (k : Nat) : reelOf (updLaser s i f) k = reelOf s k := rfl
@[simp] theorem updLaser_chanOf (s : State) (i : Nat) (f : LaserS → LaserS) (k : Nat) : chanOf (updLaser s i f) k = chanOf s k := rfl
@[simp] theorem updLaser_regOf (s : State) (i : Nat) (f : LaserS → LaserS) (k : Nat) : regOf (updLaser s i f) k = regOf s k := rfl
@[simp] theorem updLaser_pairOf (s : State) (i : Nat) (f : LaserS → LaserS) (k : Nat) : pairOf (updLaser s i f) k = pairOf s k := rfl
@[simp] theorem updLaser_flashOf (s : State) (i : Nat) (f : LaserS → LaserS) (k : Nat) : flashOf (updLaser s i f) k = flashOf s k := rfl
@[simp] theorem updLaser_portOf (s : State) (i : Nat) (f : LaserS → LaserS) (k : Nat) : portOf (updLaser s i f) k = portOf s k := rfl
@[simp] theorem updLaser_outOf (s : State) (i : Nat) (f : LaserS → LaserS) (k : Nat) : outOf (updLaser s i f) k = outOf s k := rfl
@[simp] theorem updLaser_winOf (s : State) (i : Nat) (f : LaserS → LaserS) (k : Nat) : winOf (updLaser s i f) k = winOf s k := rfl
@[simp] theorem updLaser_hportOf (s : State) (i : Nat) (f : LaserS → LaserS) (k : Nat) : hportOf (updLaser s i f) k = hportOf s k := rfl
@[simp] theorem updLaser_pointOf (s : State) (i : Nat) (f : LaserS → LaserS) (k : Nat) : pointOf (updLaser s i f) k = pointOf s k := rfl
@[simp] theorem updLaser_expOf (s : State) (i : Nat) (f : LaserS → LaserS) (k : Nat) : expOf (updLaser s i f) k = expOf s k := rfl
@[simp] theorem updLaser_propOf (s : State) (i : Nat) (f : LaserS → LaserS) (k : Nat) : propOf (updLaser s i f) k = propOf s k := rfl
@[simp] theorem updLaser_funcOf (s : State) (i : Nat) (f : LaserS → LaserS) (k : Nat) : funcOf (updLaser s i f) k = funcOf s k := rfl
@[simp] theorem updLaser_linkOf (s : State) (i : Nat) (f : LaserS → LaserS) (k : Nat) : linkOf (updLaser s i f) k = linkOf s k := rfl
@[simp] theorem updLaser_chOf (s : State) (i : Nat) (f : LaserS → LaserS) (k : Nat) : chOf (updLaser s i f) k = chOf s k := rfl
@[simp] theorem updLaser_slotOf (s : State) (i : Nat) (f : LaserS → LaserS) (k : Nat) : slotOf (updLaser s i f) k = slotOf s k := rfl
@[simp] theorem updOptPort_now (s : State) (i : Nat) (f : OptPortS → OptPortS) : (updOptPort s i f).now = s.now := rfl
@[simp] theorem updOptPort_free (s : State) (i : Nat) (f : OptPortS → OptPortS) : (updOptPort s i f).free = s.free := rfl
@[simp] theorem updOptPort_out (s : State) (i : Nat) (f : OptPortS → OptPortS) : (updOptPort s i f).out = s.out := rfl
@[simp] theorem updOptPort_pending (s : State) (i : Nat) (f : OptPortS → OptPortS) : (updOptPort s i f).pending = s.pending := rfl
@[simp] theorem updOptPort_arrays (s : State) (i : Nat) (f : OptPortS → OptPortS) : (updOptPort s i f).arrays = s.arrays := rfl
@[simp] theorem updOptPort_dbg (s : State) (i : Nat) (f : OptPortS → OptPortS) : (updOptPort s i f).dbg = s.dbg := rfl
@[simp] theorem updOptPort_vxes (s : State) (i : Nat) (f : OptPortS → OptPortS) : (updOptPort s i f).vxes = s.vxes := rfl
@[simp] theorem updOptPort_seqs (s : State) (i : Nat) (f : OptPortS → OptPortS) : (updOptPort s i f).seqs = s.seqs := rfl
@[simp] theorem updOptPort_negs (s : State) (i : Nat) (f : OptPortS → OptPortS) : (updOptPort s i f).negs = s.negs := rfl
@[simp] theorem updOptPort_reels (s : State) (i : Nat) (f : OptPortS → OptPortS) : (updOptPort s i f).reels = s.reels := rfl
@[simp] theorem updOptPort_watchdogs (s : State) (i : Nat) (f : OptPortS → OptPortS) : (updOptPort s i f).watchdogs = s.watchdogs := rfl
@[simp] theorem updOptPort_mem (s : State) (i : Nat) (f : OptPortS → OptPortS) : (updOptPort s i f).mem = s.mem := rfl
@[simp] theorem updOptPort_ev (s : State) (i : Nat) (f : OptPortS → OptPortS) : (updOptPort s i f).ev = s.ev := rfl
@[simp] theorem updOptPort_eumon (s : State) (i : Nat) (f : OptPortS → OptPortS) : (updOptPort s i f).eumon = s.eumon := rfl
@[simp] theorem updOptPort_exps (s : State) (i : Nat) (f : OptPortS → OptPortS) : (updOptPort s i f).exps = s.exps := rfl
@[simp] theorem updOptPort_sec (s : State) (i : Nat) (f : OptPortS → OptPortS) : (updOptPort s i f).sec = s.sec := rfl
@[simp] theorem updOptPort_clk (s : State) (i : Nat) (f : OptPortS → OptPortS) : (updOptPort s i f).clk = s.clk := rfl
@[simp] theorem updOptPort_fabric (s : State) (i : Nat) (f : OptPortS → OptPortS) : (updOptPort s i f).fabric = s.fabric := rfl
@[simp] theorem updOptPort_power (s : State) (i : Nat) (f : OptPortS → OptPortS) : (updOptPort s i f).power = s.power := rfl
@[simp] theorem updOptPort_cle (s : State) (i : Nat) (f : OptPortS → OptPortS) : (updOptPort s i f).cle = s.cle := rfl
@[simp] theorem updOptPort_host (s : State) (i : Nat) (f : OptPortS → OptPortS) : (updOptPort s i f).host = s.host := rfl
@[simp] theorem updOptPort_mail (s : State) (i : Nat) (f : OptPortS → OptPortS) : (updOptPort s i f).mail = s.mail := rfl
@[simp] theorem updOptPort_sys (s : State) (i : Nat) (f : OptPortS → OptPortS) : (updOptPort s i f).sys = s.sys := rfl
@[simp] theorem updOptPort_arrOf (s : State) (i : Nat) (f : OptPortS → OptPortS) (k : Nat) : arrOf (updOptPort s i f) k = arrOf s k := rfl
@[simp] theorem updOptPort_vxeOf (s : State) (i : Nat) (f : OptPortS → OptPortS) (k : Nat) : vxeOf (updOptPort s i f) k = vxeOf s k := rfl
@[simp] theorem updOptPort_seqOf (s : State) (i : Nat) (f : OptPortS → OptPortS) (k : Nat) : seqOf (updOptPort s i f) k = seqOf s k := rfl
@[simp] theorem updOptPort_negOf (s : State) (i : Nat) (f : OptPortS → OptPortS) (k : Nat) : negOf (updOptPort s i f) k = negOf s k := rfl
@[simp] theorem updOptPort_reelOf (s : State) (i : Nat) (f : OptPortS → OptPortS) (k : Nat) : reelOf (updOptPort s i f) k = reelOf s k := rfl
@[simp] theorem updOptPort_chanOf (s : State) (i : Nat) (f : OptPortS → OptPortS) (k : Nat) : chanOf (updOptPort s i f) k = chanOf s k := rfl
@[simp] theorem updOptPort_regOf (s : State) (i : Nat) (f : OptPortS → OptPortS) (k : Nat) : regOf (updOptPort s i f) k = regOf s k := rfl
@[simp] theorem updOptPort_pairOf (s : State) (i : Nat) (f : OptPortS → OptPortS) (k : Nat) : pairOf (updOptPort s i f) k = pairOf s k := rfl
@[simp] theorem updOptPort_flashOf (s : State) (i : Nat) (f : OptPortS → OptPortS) (k : Nat) : flashOf (updOptPort s i f) k = flashOf s k := rfl
@[simp] theorem updOptPort_portOf (s : State) (i : Nat) (f : OptPortS → OptPortS) (k : Nat) : portOf (updOptPort s i f) k = portOf s k := rfl
@[simp] theorem updOptPort_outOf (s : State) (i : Nat) (f : OptPortS → OptPortS) (k : Nat) : outOf (updOptPort s i f) k = outOf s k := rfl
@[simp] theorem updOptPort_winOf (s : State) (i : Nat) (f : OptPortS → OptPortS) (k : Nat) : winOf (updOptPort s i f) k = winOf s k := rfl
@[simp] theorem updOptPort_hportOf (s : State) (i : Nat) (f : OptPortS → OptPortS) (k : Nat) : hportOf (updOptPort s i f) k = hportOf s k := rfl
@[simp] theorem updOptPort_pointOf (s : State) (i : Nat) (f : OptPortS → OptPortS) (k : Nat) : pointOf (updOptPort s i f) k = pointOf s k := rfl
@[simp] theorem updOptPort_expOf (s : State) (i : Nat) (f : OptPortS → OptPortS) (k : Nat) : expOf (updOptPort s i f) k = expOf s k := rfl
@[simp] theorem updOptPort_propOf (s : State) (i : Nat) (f : OptPortS → OptPortS) (k : Nat) : propOf (updOptPort s i f) k = propOf s k := rfl
@[simp] theorem updOptPort_funcOf (s : State) (i : Nat) (f : OptPortS → OptPortS) (k : Nat) : funcOf (updOptPort s i f) k = funcOf s k := rfl
@[simp] theorem updOptPort_linkOf (s : State) (i : Nat) (f : OptPortS → OptPortS) (k : Nat) : linkOf (updOptPort s i f) k = linkOf s k := rfl
@[simp] theorem updOptPort_chOf (s : State) (i : Nat) (f : OptPortS → OptPortS) (k : Nat) : chOf (updOptPort s i f) k = chOf s k := rfl
@[simp] theorem updOptPort_slotOf (s : State) (i : Nat) (f : OptPortS → OptPortS) (k : Nat) : slotOf (updOptPort s i f) k = slotOf s k := rfl
@[simp] theorem updWin_now (s : State) (i : Nat) (f : WindowS → WindowS) : (updWin s i f).now = s.now := rfl
@[simp] theorem updWin_free (s : State) (i : Nat) (f : WindowS → WindowS) : (updWin s i f).free = s.free := rfl
@[simp] theorem updWin_out (s : State) (i : Nat) (f : WindowS → WindowS) : (updWin s i f).out = s.out := rfl
@[simp] theorem updWin_pending (s : State) (i : Nat) (f : WindowS → WindowS) : (updWin s i f).pending = s.pending := rfl
@[simp] theorem updWin_arrays (s : State) (i : Nat) (f : WindowS → WindowS) : (updWin s i f).arrays = s.arrays := rfl
@[simp] theorem updWin_dbg (s : State) (i : Nat) (f : WindowS → WindowS) : (updWin s i f).dbg = s.dbg := rfl
@[simp] theorem updWin_vxes (s : State) (i : Nat) (f : WindowS → WindowS) : (updWin s i f).vxes = s.vxes := rfl
@[simp] theorem updWin_seqs (s : State) (i : Nat) (f : WindowS → WindowS) : (updWin s i f).seqs = s.seqs := rfl
@[simp] theorem updWin_negs (s : State) (i : Nat) (f : WindowS → WindowS) : (updWin s i f).negs = s.negs := rfl
@[simp] theorem updWin_reels (s : State) (i : Nat) (f : WindowS → WindowS) : (updWin s i f).reels = s.reels := rfl
@[simp] theorem updWin_watchdogs (s : State) (i : Nat) (f : WindowS → WindowS) : (updWin s i f).watchdogs = s.watchdogs := rfl
@[simp] theorem updWin_mem (s : State) (i : Nat) (f : WindowS → WindowS) : (updWin s i f).mem = s.mem := rfl
@[simp] theorem updWin_optics (s : State) (i : Nat) (f : WindowS → WindowS) : (updWin s i f).optics = s.optics := rfl
@[simp] theorem updWin_ev (s : State) (i : Nat) (f : WindowS → WindowS) : (updWin s i f).ev = s.ev := rfl
@[simp] theorem updWin_eumon (s : State) (i : Nat) (f : WindowS → WindowS) : (updWin s i f).eumon = s.eumon := rfl
@[simp] theorem updWin_exps (s : State) (i : Nat) (f : WindowS → WindowS) : (updWin s i f).exps = s.exps := rfl
@[simp] theorem updWin_sec (s : State) (i : Nat) (f : WindowS → WindowS) : (updWin s i f).sec = s.sec := rfl
@[simp] theorem updWin_clk (s : State) (i : Nat) (f : WindowS → WindowS) : (updWin s i f).clk = s.clk := rfl
@[simp] theorem updWin_fabric (s : State) (i : Nat) (f : WindowS → WindowS) : (updWin s i f).fabric = s.fabric := rfl
@[simp] theorem updWin_power (s : State) (i : Nat) (f : WindowS → WindowS) : (updWin s i f).power = s.power := rfl
@[simp] theorem updWin_cle (s : State) (i : Nat) (f : WindowS → WindowS) : (updWin s i f).cle = s.cle := rfl
@[simp] theorem updWin_mail (s : State) (i : Nat) (f : WindowS → WindowS) : (updWin s i f).mail = s.mail := rfl
@[simp] theorem updWin_sys (s : State) (i : Nat) (f : WindowS → WindowS) : (updWin s i f).sys = s.sys := rfl
@[simp] theorem updWin_arrOf (s : State) (i : Nat) (f : WindowS → WindowS) (k : Nat) : arrOf (updWin s i f) k = arrOf s k := rfl
@[simp] theorem updWin_vxeOf (s : State) (i : Nat) (f : WindowS → WindowS) (k : Nat) : vxeOf (updWin s i f) k = vxeOf s k := rfl
@[simp] theorem updWin_seqOf (s : State) (i : Nat) (f : WindowS → WindowS) (k : Nat) : seqOf (updWin s i f) k = seqOf s k := rfl
@[simp] theorem updWin_negOf (s : State) (i : Nat) (f : WindowS → WindowS) (k : Nat) : negOf (updWin s i f) k = negOf s k := rfl
@[simp] theorem updWin_reelOf (s : State) (i : Nat) (f : WindowS → WindowS) (k : Nat) : reelOf (updWin s i f) k = reelOf s k := rfl
@[simp] theorem updWin_chanOf (s : State) (i : Nat) (f : WindowS → WindowS) (k : Nat) : chanOf (updWin s i f) k = chanOf s k := rfl
@[simp] theorem updWin_regOf (s : State) (i : Nat) (f : WindowS → WindowS) (k : Nat) : regOf (updWin s i f) k = regOf s k := rfl
@[simp] theorem updWin_pairOf (s : State) (i : Nat) (f : WindowS → WindowS) (k : Nat) : pairOf (updWin s i f) k = pairOf s k := rfl
@[simp] theorem updWin_flashOf (s : State) (i : Nat) (f : WindowS → WindowS) (k : Nat) : flashOf (updWin s i f) k = flashOf s k := rfl
@[simp] theorem updWin_portOf (s : State) (i : Nat) (f : WindowS → WindowS) (k : Nat) : portOf (updWin s i f) k = portOf s k := rfl
@[simp] theorem updWin_outOf (s : State) (i : Nat) (f : WindowS → WindowS) (k : Nat) : outOf (updWin s i f) k = outOf s k := rfl
@[simp] theorem updWin_engOf (s : State) (i : Nat) (f : WindowS → WindowS) (k : Nat) : engOf (updWin s i f) k = engOf s k := rfl
@[simp] theorem updWin_laneOf (s : State) (i : Nat) (f : WindowS → WindowS) (k : Nat) : laneOf (updWin s i f) k = laneOf s k := rfl
@[simp] theorem updWin_laserOf (s : State) (i : Nat) (f : WindowS → WindowS) (k : Nat) : laserOf (updWin s i f) k = laserOf s k := rfl
@[simp] theorem updWin_optPortOf (s : State) (i : Nat) (f : WindowS → WindowS) (k : Nat) : optPortOf (updWin s i f) k = optPortOf s k := rfl
@[simp] theorem updWin_pointOf (s : State) (i : Nat) (f : WindowS → WindowS) (k : Nat) : pointOf (updWin s i f) k = pointOf s k := rfl
@[simp] theorem updWin_expOf (s : State) (i : Nat) (f : WindowS → WindowS) (k : Nat) : expOf (updWin s i f) k = expOf s k := rfl
@[simp] theorem updWin_propOf (s : State) (i : Nat) (f : WindowS → WindowS) (k : Nat) : propOf (updWin s i f) k = propOf s k := rfl
@[simp] theorem updWin_funcOf (s : State) (i : Nat) (f : WindowS → WindowS) (k : Nat) : funcOf (updWin s i f) k = funcOf s k := rfl
@[simp] theorem updWin_linkOf (s : State) (i : Nat) (f : WindowS → WindowS) (k : Nat) : linkOf (updWin s i f) k = linkOf s k := rfl
@[simp] theorem updWin_chOf (s : State) (i : Nat) (f : WindowS → WindowS) (k : Nat) : chOf (updWin s i f) k = chOf s k := rfl
@[simp] theorem updWin_slotOf (s : State) (i : Nat) (f : WindowS → WindowS) (k : Nat) : slotOf (updWin s i f) k = slotOf s k := rfl
@[simp] theorem updHport_now (s : State) (i : Nat) (f : HostPortS → HostPortS) : (updHport s i f).now = s.now := rfl
@[simp] theorem updHport_free (s : State) (i : Nat) (f : HostPortS → HostPortS) : (updHport s i f).free = s.free := rfl
@[simp] theorem updHport_out (s : State) (i : Nat) (f : HostPortS → HostPortS) : (updHport s i f).out = s.out := rfl
@[simp] theorem updHport_pending (s : State) (i : Nat) (f : HostPortS → HostPortS) : (updHport s i f).pending = s.pending := rfl
@[simp] theorem updHport_arrays (s : State) (i : Nat) (f : HostPortS → HostPortS) : (updHport s i f).arrays = s.arrays := rfl
@[simp] theorem updHport_dbg (s : State) (i : Nat) (f : HostPortS → HostPortS) : (updHport s i f).dbg = s.dbg := rfl
@[simp] theorem updHport_vxes (s : State) (i : Nat) (f : HostPortS → HostPortS) : (updHport s i f).vxes = s.vxes := rfl
@[simp] theorem updHport_seqs (s : State) (i : Nat) (f : HostPortS → HostPortS) : (updHport s i f).seqs = s.seqs := rfl
@[simp] theorem updHport_negs (s : State) (i : Nat) (f : HostPortS → HostPortS) : (updHport s i f).negs = s.negs := rfl
@[simp] theorem updHport_reels (s : State) (i : Nat) (f : HostPortS → HostPortS) : (updHport s i f).reels = s.reels := rfl
@[simp] theorem updHport_watchdogs (s : State) (i : Nat) (f : HostPortS → HostPortS) : (updHport s i f).watchdogs = s.watchdogs := rfl
@[simp] theorem updHport_mem (s : State) (i : Nat) (f : HostPortS → HostPortS) : (updHport s i f).mem = s.mem := rfl
@[simp] theorem updHport_optics (s : State) (i : Nat) (f : HostPortS → HostPortS) : (updHport s i f).optics = s.optics := rfl
@[simp] theorem updHport_ev (s : State) (i : Nat) (f : HostPortS → HostPortS) : (updHport s i f).ev = s.ev := rfl
@[simp] theorem updHport_eumon (s : State) (i : Nat) (f : HostPortS → HostPortS) : (updHport s i f).eumon = s.eumon := rfl
@[simp] theorem updHport_exps (s : State) (i : Nat) (f : HostPortS → HostPortS) : (updHport s i f).exps = s.exps := rfl
@[simp] theorem updHport_sec (s : State) (i : Nat) (f : HostPortS → HostPortS) : (updHport s i f).sec = s.sec := rfl
@[simp] theorem updHport_clk (s : State) (i : Nat) (f : HostPortS → HostPortS) : (updHport s i f).clk = s.clk := rfl
@[simp] theorem updHport_fabric (s : State) (i : Nat) (f : HostPortS → HostPortS) : (updHport s i f).fabric = s.fabric := rfl
@[simp] theorem updHport_power (s : State) (i : Nat) (f : HostPortS → HostPortS) : (updHport s i f).power = s.power := rfl
@[simp] theorem updHport_cle (s : State) (i : Nat) (f : HostPortS → HostPortS) : (updHport s i f).cle = s.cle := rfl
@[simp] theorem updHport_mail (s : State) (i : Nat) (f : HostPortS → HostPortS) : (updHport s i f).mail = s.mail := rfl
@[simp] theorem updHport_sys (s : State) (i : Nat) (f : HostPortS → HostPortS) : (updHport s i f).sys = s.sys := rfl
@[simp] theorem updHport_arrOf (s : State) (i : Nat) (f : HostPortS → HostPortS) (k : Nat) : arrOf (updHport s i f) k = arrOf s k := rfl
@[simp] theorem updHport_vxeOf (s : State) (i : Nat) (f : HostPortS → HostPortS) (k : Nat) : vxeOf (updHport s i f) k = vxeOf s k := rfl
@[simp] theorem updHport_seqOf (s : State) (i : Nat) (f : HostPortS → HostPortS) (k : Nat) : seqOf (updHport s i f) k = seqOf s k := rfl
@[simp] theorem updHport_negOf (s : State) (i : Nat) (f : HostPortS → HostPortS) (k : Nat) : negOf (updHport s i f) k = negOf s k := rfl
@[simp] theorem updHport_reelOf (s : State) (i : Nat) (f : HostPortS → HostPortS) (k : Nat) : reelOf (updHport s i f) k = reelOf s k := rfl
@[simp] theorem updHport_chanOf (s : State) (i : Nat) (f : HostPortS → HostPortS) (k : Nat) : chanOf (updHport s i f) k = chanOf s k := rfl
@[simp] theorem updHport_regOf (s : State) (i : Nat) (f : HostPortS → HostPortS) (k : Nat) : regOf (updHport s i f) k = regOf s k := rfl
@[simp] theorem updHport_pairOf (s : State) (i : Nat) (f : HostPortS → HostPortS) (k : Nat) : pairOf (updHport s i f) k = pairOf s k := rfl
@[simp] theorem updHport_flashOf (s : State) (i : Nat) (f : HostPortS → HostPortS) (k : Nat) : flashOf (updHport s i f) k = flashOf s k := rfl
@[simp] theorem updHport_portOf (s : State) (i : Nat) (f : HostPortS → HostPortS) (k : Nat) : portOf (updHport s i f) k = portOf s k := rfl
@[simp] theorem updHport_outOf (s : State) (i : Nat) (f : HostPortS → HostPortS) (k : Nat) : outOf (updHport s i f) k = outOf s k := rfl
@[simp] theorem updHport_engOf (s : State) (i : Nat) (f : HostPortS → HostPortS) (k : Nat) : engOf (updHport s i f) k = engOf s k := rfl
@[simp] theorem updHport_laneOf (s : State) (i : Nat) (f : HostPortS → HostPortS) (k : Nat) : laneOf (updHport s i f) k = laneOf s k := rfl
@[simp] theorem updHport_laserOf (s : State) (i : Nat) (f : HostPortS → HostPortS) (k : Nat) : laserOf (updHport s i f) k = laserOf s k := rfl
@[simp] theorem updHport_optPortOf (s : State) (i : Nat) (f : HostPortS → HostPortS) (k : Nat) : optPortOf (updHport s i f) k = optPortOf s k := rfl
@[simp] theorem updHport_pointOf (s : State) (i : Nat) (f : HostPortS → HostPortS) (k : Nat) : pointOf (updHport s i f) k = pointOf s k := rfl
@[simp] theorem updHport_expOf (s : State) (i : Nat) (f : HostPortS → HostPortS) (k : Nat) : expOf (updHport s i f) k = expOf s k := rfl
@[simp] theorem updHport_propOf (s : State) (i : Nat) (f : HostPortS → HostPortS) (k : Nat) : propOf (updHport s i f) k = propOf s k := rfl
@[simp] theorem updHport_funcOf (s : State) (i : Nat) (f : HostPortS → HostPortS) (k : Nat) : funcOf (updHport s i f) k = funcOf s k := rfl
@[simp] theorem updHport_linkOf (s : State) (i : Nat) (f : HostPortS → HostPortS) (k : Nat) : linkOf (updHport s i f) k = linkOf s k := rfl
@[simp] theorem updHport_chOf (s : State) (i : Nat) (f : HostPortS → HostPortS) (k : Nat) : chOf (updHport s i f) k = chOf s k := rfl
@[simp] theorem updHport_slotOf (s : State) (i : Nat) (f : HostPortS → HostPortS) (k : Nat) : slotOf (updHport s i f) k = slotOf s k := rfl
@[simp] theorem updEv_now (s : State) (f : EventS → EventS) : (updEv s f).now = s.now := rfl
@[simp] theorem updEv_free (s : State) (f : EventS → EventS) : (updEv s f).free = s.free := rfl
@[simp] theorem updEv_out (s : State) (f : EventS → EventS) : (updEv s f).out = s.out := rfl
@[simp] theorem updEv_pending (s : State) (f : EventS → EventS) : (updEv s f).pending = s.pending := rfl
@[simp] theorem updEv_arrays (s : State) (f : EventS → EventS) : (updEv s f).arrays = s.arrays := rfl
@[simp] theorem updEv_dbg (s : State) (f : EventS → EventS) : (updEv s f).dbg = s.dbg := rfl
@[simp] theorem updEv_vxes (s : State) (f : EventS → EventS) : (updEv s f).vxes = s.vxes := rfl
@[simp] theorem updEv_seqs (s : State) (f : EventS → EventS) : (updEv s f).seqs = s.seqs := rfl
@[simp] theorem updEv_negs (s : State) (f : EventS → EventS) : (updEv s f).negs = s.negs := rfl
@[simp] theorem updEv_reels (s : State) (f : EventS → EventS) : (updEv s f).reels = s.reels := rfl
@[simp] theorem updEv_watchdogs (s : State) (f : EventS → EventS) : (updEv s f).watchdogs = s.watchdogs := rfl
@[simp] theorem updEv_mem (s : State) (f : EventS → EventS) : (updEv s f).mem = s.mem := rfl
@[simp] theorem updEv_optics (s : State) (f : EventS → EventS) : (updEv s f).optics = s.optics := rfl
@[simp] theorem updEv_eumon (s : State) (f : EventS → EventS) : (updEv s f).eumon = s.eumon := rfl
@[simp] theorem updEv_exps (s : State) (f : EventS → EventS) : (updEv s f).exps = s.exps := rfl
@[simp] theorem updEv_sec (s : State) (f : EventS → EventS) : (updEv s f).sec = s.sec := rfl
@[simp] theorem updEv_clk (s : State) (f : EventS → EventS) : (updEv s f).clk = s.clk := rfl
@[simp] theorem updEv_fabric (s : State) (f : EventS → EventS) : (updEv s f).fabric = s.fabric := rfl
@[simp] theorem updEv_power (s : State) (f : EventS → EventS) : (updEv s f).power = s.power := rfl
@[simp] theorem updEv_cle (s : State) (f : EventS → EventS) : (updEv s f).cle = s.cle := rfl
@[simp] theorem updEv_host (s : State) (f : EventS → EventS) : (updEv s f).host = s.host := rfl
@[simp] theorem updEv_mail (s : State) (f : EventS → EventS) : (updEv s f).mail = s.mail := rfl
@[simp] theorem updEv_sys (s : State) (f : EventS → EventS) : (updEv s f).sys = s.sys := rfl
@[simp] theorem updEv_arrOf (s : State) (f : EventS → EventS) (k : Nat) : arrOf (updEv s f) k = arrOf s k := rfl
@[simp] theorem updEv_vxeOf (s : State) (f : EventS → EventS) (k : Nat) : vxeOf (updEv s f) k = vxeOf s k := rfl
@[simp] theorem updEv_seqOf (s : State) (f : EventS → EventS) (k : Nat) : seqOf (updEv s f) k = seqOf s k := rfl
@[simp] theorem updEv_negOf (s : State) (f : EventS → EventS) (k : Nat) : negOf (updEv s f) k = negOf s k := rfl
@[simp] theorem updEv_reelOf (s : State) (f : EventS → EventS) (k : Nat) : reelOf (updEv s f) k = reelOf s k := rfl
@[simp] theorem updEv_chanOf (s : State) (f : EventS → EventS) (k : Nat) : chanOf (updEv s f) k = chanOf s k := rfl
@[simp] theorem updEv_regOf (s : State) (f : EventS → EventS) (k : Nat) : regOf (updEv s f) k = regOf s k := rfl
@[simp] theorem updEv_pairOf (s : State) (f : EventS → EventS) (k : Nat) : pairOf (updEv s f) k = pairOf s k := rfl
@[simp] theorem updEv_flashOf (s : State) (f : EventS → EventS) (k : Nat) : flashOf (updEv s f) k = flashOf s k := rfl
@[simp] theorem updEv_portOf (s : State) (f : EventS → EventS) (k : Nat) : portOf (updEv s f) k = portOf s k := rfl
@[simp] theorem updEv_outOf (s : State) (f : EventS → EventS) (k : Nat) : outOf (updEv s f) k = outOf s k := rfl
@[simp] theorem updEv_engOf (s : State) (f : EventS → EventS) (k : Nat) : engOf (updEv s f) k = engOf s k := rfl
@[simp] theorem updEv_laneOf (s : State) (f : EventS → EventS) (k : Nat) : laneOf (updEv s f) k = laneOf s k := rfl
@[simp] theorem updEv_laserOf (s : State) (f : EventS → EventS) (k : Nat) : laserOf (updEv s f) k = laserOf s k := rfl
@[simp] theorem updEv_optPortOf (s : State) (f : EventS → EventS) (k : Nat) : optPortOf (updEv s f) k = optPortOf s k := rfl
@[simp] theorem updEv_winOf (s : State) (f : EventS → EventS) (k : Nat) : winOf (updEv s f) k = winOf s k := rfl
@[simp] theorem updEv_hportOf (s : State) (f : EventS → EventS) (k : Nat) : hportOf (updEv s f) k = hportOf s k := rfl
@[simp] theorem updEv_expOf (s : State) (f : EventS → EventS) (k : Nat) : expOf (updEv s f) k = expOf s k := rfl
@[simp] theorem updEv_propOf (s : State) (f : EventS → EventS) (k : Nat) : propOf (updEv s f) k = propOf s k := rfl
@[simp] theorem updEv_funcOf (s : State) (f : EventS → EventS) (k : Nat) : funcOf (updEv s f) k = funcOf s k := rfl
@[simp] theorem updEv_linkOf (s : State) (f : EventS → EventS) (k : Nat) : linkOf (updEv s f) k = linkOf s k := rfl
@[simp] theorem updEv_chOf (s : State) (f : EventS → EventS) (k : Nat) : chOf (updEv s f) k = chOf s k := rfl
@[simp] theorem updEv_slotOf (s : State) (f : EventS → EventS) (k : Nat) : slotOf (updEv s f) k = slotOf s k := rfl
@[simp] theorem setCause_now (s : State) (b : Bool) : (setCause s b).now = s.now := rfl
@[simp] theorem setCause_free (s : State) (b : Bool) : (setCause s b).free = s.free := rfl
@[simp] theorem setCause_out (s : State) (b : Bool) : (setCause s b).out = s.out := rfl
@[simp] theorem setCause_pending (s : State) (b : Bool) : (setCause s b).pending = s.pending := rfl
@[simp] theorem setCause_arrays (s : State) (b : Bool) : (setCause s b).arrays = s.arrays := rfl
@[simp] theorem setCause_dbg (s : State) (b : Bool) : (setCause s b).dbg = s.dbg := rfl
@[simp] theorem setCause_vxes (s : State) (b : Bool) : (setCause s b).vxes = s.vxes := rfl
@[simp] theorem setCause_seqs (s : State) (b : Bool) : (setCause s b).seqs = s.seqs := rfl
@[simp] theorem setCause_negs (s : State) (b : Bool) : (setCause s b).negs = s.negs := rfl
@[simp] theorem setCause_reels (s : State) (b : Bool) : (setCause s b).reels = s.reels := rfl
@[simp] theorem setCause_watchdogs (s : State) (b : Bool) : (setCause s b).watchdogs = s.watchdogs := rfl
@[simp] theorem setCause_mem (s : State) (b : Bool) : (setCause s b).mem = s.mem := rfl
@[simp] theorem setCause_optics (s : State) (b : Bool) : (setCause s b).optics = s.optics := rfl
@[simp] theorem setCause_eumon (s : State) (b : Bool) : (setCause s b).eumon = s.eumon := rfl
@[simp] theorem setCause_exps (s : State) (b : Bool) : (setCause s b).exps = s.exps := rfl
@[simp] theorem setCause_sec (s : State) (b : Bool) : (setCause s b).sec = s.sec := rfl
@[simp] theorem setCause_clk (s : State) (b : Bool) : (setCause s b).clk = s.clk := rfl
@[simp] theorem setCause_fabric (s : State) (b : Bool) : (setCause s b).fabric = s.fabric := rfl
@[simp] theorem setCause_power (s : State) (b : Bool) : (setCause s b).power = s.power := rfl
@[simp] theorem setCause_cle (s : State) (b : Bool) : (setCause s b).cle = s.cle := rfl
@[simp] theorem setCause_host (s : State) (b : Bool) : (setCause s b).host = s.host := rfl
@[simp] theorem setCause_mail (s : State) (b : Bool) : (setCause s b).mail = s.mail := rfl
@[simp] theorem setCause_sys (s : State) (b : Bool) : (setCause s b).sys = s.sys := rfl
@[simp] theorem setCause_arrOf (s : State) (b : Bool) (k : Nat) : arrOf (setCause s b) k = arrOf s k := rfl
@[simp] theorem setCause_vxeOf (s : State) (b : Bool) (k : Nat) : vxeOf (setCause s b) k = vxeOf s k := rfl
@[simp] theorem setCause_seqOf (s : State) (b : Bool) (k : Nat) : seqOf (setCause s b) k = seqOf s k := rfl
@[simp] theorem setCause_negOf (s : State) (b : Bool) (k : Nat) : negOf (setCause s b) k = negOf s k := rfl
@[simp] theorem setCause_reelOf (s : State) (b : Bool) (k : Nat) : reelOf (setCause s b) k = reelOf s k := rfl
@[simp] theorem setCause_chanOf (s : State) (b : Bool) (k : Nat) : chanOf (setCause s b) k = chanOf s k := rfl
@[simp] theorem setCause_regOf (s : State) (b : Bool) (k : Nat) : regOf (setCause s b) k = regOf s k := rfl
@[simp] theorem setCause_pairOf (s : State) (b : Bool) (k : Nat) : pairOf (setCause s b) k = pairOf s k := rfl
@[simp] theorem setCause_flashOf (s : State) (b : Bool) (k : Nat) : flashOf (setCause s b) k = flashOf s k := rfl
@[simp] theorem setCause_portOf (s : State) (b : Bool) (k : Nat) : portOf (setCause s b) k = portOf s k := rfl
@[simp] theorem setCause_outOf (s : State) (b : Bool) (k : Nat) : outOf (setCause s b) k = outOf s k := rfl
@[simp] theorem setCause_engOf (s : State) (b : Bool) (k : Nat) : engOf (setCause s b) k = engOf s k := rfl
@[simp] theorem setCause_laneOf (s : State) (b : Bool) (k : Nat) : laneOf (setCause s b) k = laneOf s k := rfl
@[simp] theorem setCause_laserOf (s : State) (b : Bool) (k : Nat) : laserOf (setCause s b) k = laserOf s k := rfl
@[simp] theorem setCause_optPortOf (s : State) (b : Bool) (k : Nat) : optPortOf (setCause s b) k = optPortOf s k := rfl
@[simp] theorem setCause_winOf (s : State) (b : Bool) (k : Nat) : winOf (setCause s b) k = winOf s k := rfl
@[simp] theorem setCause_hportOf (s : State) (b : Bool) (k : Nat) : hportOf (setCause s b) k = hportOf s k := rfl
@[simp] theorem setCause_expOf (s : State) (b : Bool) (k : Nat) : expOf (setCause s b) k = expOf s k := rfl
@[simp] theorem setCause_propOf (s : State) (b : Bool) (k : Nat) : propOf (setCause s b) k = propOf s k := rfl
@[simp] theorem setCause_funcOf (s : State) (b : Bool) (k : Nat) : funcOf (setCause s b) k = funcOf s k := rfl
@[simp] theorem setCause_linkOf (s : State) (b : Bool) (k : Nat) : linkOf (setCause s b) k = linkOf s k := rfl
@[simp] theorem setCause_chOf (s : State) (b : Bool) (k : Nat) : chOf (setCause s b) k = chOf s k := rfl
@[simp] theorem setCause_slotOf (s : State) (b : Bool) (k : Nat) : slotOf (setCause s b) k = slotOf s k := rfl
@[simp] theorem updPoint_now (s : State) (i : Nat) (f : InjPoint → InjPoint) : (updPoint s i f).now = s.now := rfl
@[simp] theorem updPoint_free (s : State) (i : Nat) (f : InjPoint → InjPoint) : (updPoint s i f).free = s.free := rfl
@[simp] theorem updPoint_out (s : State) (i : Nat) (f : InjPoint → InjPoint) : (updPoint s i f).out = s.out := rfl
@[simp] theorem updPoint_pending (s : State) (i : Nat) (f : InjPoint → InjPoint) : (updPoint s i f).pending = s.pending := rfl
@[simp] theorem updPoint_arrays (s : State) (i : Nat) (f : InjPoint → InjPoint) : (updPoint s i f).arrays = s.arrays := rfl
@[simp] theorem updPoint_dbg (s : State) (i : Nat) (f : InjPoint → InjPoint) : (updPoint s i f).dbg = s.dbg := rfl
@[simp] theorem updPoint_vxes (s : State) (i : Nat) (f : InjPoint → InjPoint) : (updPoint s i f).vxes = s.vxes := rfl
@[simp] theorem updPoint_seqs (s : State) (i : Nat) (f : InjPoint → InjPoint) : (updPoint s i f).seqs = s.seqs := rfl
@[simp] theorem updPoint_negs (s : State) (i : Nat) (f : InjPoint → InjPoint) : (updPoint s i f).negs = s.negs := rfl
@[simp] theorem updPoint_reels (s : State) (i : Nat) (f : InjPoint → InjPoint) : (updPoint s i f).reels = s.reels := rfl
@[simp] theorem updPoint_watchdogs (s : State) (i : Nat) (f : InjPoint → InjPoint) : (updPoint s i f).watchdogs = s.watchdogs := rfl
@[simp] theorem updPoint_mem (s : State) (i : Nat) (f : InjPoint → InjPoint) : (updPoint s i f).mem = s.mem := rfl
@[simp] theorem updPoint_optics (s : State) (i : Nat) (f : InjPoint → InjPoint) : (updPoint s i f).optics = s.optics := rfl
@[simp] theorem updPoint_eumon (s : State) (i : Nat) (f : InjPoint → InjPoint) : (updPoint s i f).eumon = s.eumon := rfl
@[simp] theorem updPoint_exps (s : State) (i : Nat) (f : InjPoint → InjPoint) : (updPoint s i f).exps = s.exps := rfl
@[simp] theorem updPoint_sec (s : State) (i : Nat) (f : InjPoint → InjPoint) : (updPoint s i f).sec = s.sec := rfl
@[simp] theorem updPoint_clk (s : State) (i : Nat) (f : InjPoint → InjPoint) : (updPoint s i f).clk = s.clk := rfl
@[simp] theorem updPoint_fabric (s : State) (i : Nat) (f : InjPoint → InjPoint) : (updPoint s i f).fabric = s.fabric := rfl
@[simp] theorem updPoint_power (s : State) (i : Nat) (f : InjPoint → InjPoint) : (updPoint s i f).power = s.power := rfl
@[simp] theorem updPoint_cle (s : State) (i : Nat) (f : InjPoint → InjPoint) : (updPoint s i f).cle = s.cle := rfl
@[simp] theorem updPoint_host (s : State) (i : Nat) (f : InjPoint → InjPoint) : (updPoint s i f).host = s.host := rfl
@[simp] theorem updPoint_mail (s : State) (i : Nat) (f : InjPoint → InjPoint) : (updPoint s i f).mail = s.mail := rfl
@[simp] theorem updPoint_sys (s : State) (i : Nat) (f : InjPoint → InjPoint) : (updPoint s i f).sys = s.sys := rfl
@[simp] theorem updPoint_arrOf (s : State) (i : Nat) (f : InjPoint → InjPoint) (k : Nat) : arrOf (updPoint s i f) k = arrOf s k := rfl
@[simp] theorem updPoint_vxeOf (s : State) (i : Nat) (f : InjPoint → InjPoint) (k : Nat) : vxeOf (updPoint s i f) k = vxeOf s k := rfl
@[simp] theorem updPoint_seqOf (s : State) (i : Nat) (f : InjPoint → InjPoint) (k : Nat) : seqOf (updPoint s i f) k = seqOf s k := rfl
@[simp] theorem updPoint_negOf (s : State) (i : Nat) (f : InjPoint → InjPoint) (k : Nat) : negOf (updPoint s i f) k = negOf s k := rfl
@[simp] theorem updPoint_reelOf (s : State) (i : Nat) (f : InjPoint → InjPoint) (k : Nat) : reelOf (updPoint s i f) k = reelOf s k := rfl
@[simp] theorem updPoint_chanOf (s : State) (i : Nat) (f : InjPoint → InjPoint) (k : Nat) : chanOf (updPoint s i f) k = chanOf s k := rfl
@[simp] theorem updPoint_regOf (s : State) (i : Nat) (f : InjPoint → InjPoint) (k : Nat) : regOf (updPoint s i f) k = regOf s k := rfl
@[simp] theorem updPoint_pairOf (s : State) (i : Nat) (f : InjPoint → InjPoint) (k : Nat) : pairOf (updPoint s i f) k = pairOf s k := rfl
@[simp] theorem updPoint_flashOf (s : State) (i : Nat) (f : InjPoint → InjPoint) (k : Nat) : flashOf (updPoint s i f) k = flashOf s k := rfl
@[simp] theorem updPoint_portOf (s : State) (i : Nat) (f : InjPoint → InjPoint) (k : Nat) : portOf (updPoint s i f) k = portOf s k := rfl
@[simp] theorem updPoint_outOf (s : State) (i : Nat) (f : InjPoint → InjPoint) (k : Nat) : outOf (updPoint s i f) k = outOf s k := rfl
@[simp] theorem updPoint_engOf (s : State) (i : Nat) (f : InjPoint → InjPoint) (k : Nat) : engOf (updPoint s i f) k = engOf s k := rfl
@[simp] theorem updPoint_laneOf (s : State) (i : Nat) (f : InjPoint → InjPoint) (k : Nat) : laneOf (updPoint s i f) k = laneOf s k := rfl
@[simp] theorem updPoint_laserOf (s : State) (i : Nat) (f : InjPoint → InjPoint) (k : Nat) : laserOf (updPoint s i f) k = laserOf s k := rfl
@[simp] theorem updPoint_optPortOf (s : State) (i : Nat) (f : InjPoint → InjPoint) (k : Nat) : optPortOf (updPoint s i f) k = optPortOf s k := rfl
@[simp] theorem updPoint_winOf (s : State) (i : Nat) (f : InjPoint → InjPoint) (k : Nat) : winOf (updPoint s i f) k = winOf s k := rfl
@[simp] theorem updPoint_hportOf (s : State) (i : Nat) (f : InjPoint → InjPoint) (k : Nat) : hportOf (updPoint s i f) k = hportOf s k := rfl
@[simp] theorem updPoint_expOf (s : State) (i : Nat) (f : InjPoint → InjPoint) (k : Nat) : expOf (updPoint s i f) k = expOf s k := rfl
@[simp] theorem updPoint_propOf (s : State) (i : Nat) (f : InjPoint → InjPoint) (k : Nat) : propOf (updPoint s i f) k = propOf s k := rfl
@[simp] theorem updPoint_funcOf (s : State) (i : Nat) (f : InjPoint → InjPoint) (k : Nat) : funcOf (updPoint s i f) k = funcOf s k := rfl
@[simp] theorem updPoint_linkOf (s : State) (i : Nat) (f : InjPoint → InjPoint) (k : Nat) : linkOf (updPoint s i f) k = linkOf s k := rfl
@[simp] theorem updPoint_chOf (s : State) (i : Nat) (f : InjPoint → InjPoint) (k : Nat) : chOf (updPoint s i f) k = chOf s k := rfl
@[simp] theorem updPoint_slotOf (s : State) (i : Nat) (f : InjPoint → InjPoint) (k : Nat) : slotOf (updPoint s i f) k = slotOf s k := rfl
@[simp] theorem updSys_now (s : State) (f : SystemS → SystemS) : (updSys s f).now = s.now := rfl
@[simp] theorem updSys_free (s : State) (f : SystemS → SystemS) : (updSys s f).free = s.free := rfl
@[simp] theorem updSys_out (s : State) (f : SystemS → SystemS) : (updSys s f).out = s.out := rfl
@[simp] theorem updSys_pending (s : State) (f : SystemS → SystemS) : (updSys s f).pending = s.pending := rfl
@[simp] theorem updSys_arrays (s : State) (f : SystemS → SystemS) : (updSys s f).arrays = s.arrays := rfl
@[simp] theorem updSys_dbg (s : State) (f : SystemS → SystemS) : (updSys s f).dbg = s.dbg := rfl
@[simp] theorem updSys_vxes (s : State) (f : SystemS → SystemS) : (updSys s f).vxes = s.vxes := rfl
@[simp] theorem updSys_seqs (s : State) (f : SystemS → SystemS) : (updSys s f).seqs = s.seqs := rfl
@[simp] theorem updSys_negs (s : State) (f : SystemS → SystemS) : (updSys s f).negs = s.negs := rfl
@[simp] theorem updSys_reels (s : State) (f : SystemS → SystemS) : (updSys s f).reels = s.reels := rfl
@[simp] theorem updSys_watchdogs (s : State) (f : SystemS → SystemS) : (updSys s f).watchdogs = s.watchdogs := rfl
@[simp] theorem updSys_mem (s : State) (f : SystemS → SystemS) : (updSys s f).mem = s.mem := rfl
@[simp] theorem updSys_optics (s : State) (f : SystemS → SystemS) : (updSys s f).optics = s.optics := rfl
@[simp] theorem updSys_ev (s : State) (f : SystemS → SystemS) : (updSys s f).ev = s.ev := rfl
@[simp] theorem updSys_eumon (s : State) (f : SystemS → SystemS) : (updSys s f).eumon = s.eumon := rfl
@[simp] theorem updSys_exps (s : State) (f : SystemS → SystemS) : (updSys s f).exps = s.exps := rfl
@[simp] theorem updSys_sec (s : State) (f : SystemS → SystemS) : (updSys s f).sec = s.sec := rfl
@[simp] theorem updSys_clk (s : State) (f : SystemS → SystemS) : (updSys s f).clk = s.clk := rfl
@[simp] theorem updSys_fabric (s : State) (f : SystemS → SystemS) : (updSys s f).fabric = s.fabric := rfl
@[simp] theorem updSys_power (s : State) (f : SystemS → SystemS) : (updSys s f).power = s.power := rfl
@[simp] theorem updSys_cle (s : State) (f : SystemS → SystemS) : (updSys s f).cle = s.cle := rfl
@[simp] theorem updSys_host (s : State) (f : SystemS → SystemS) : (updSys s f).host = s.host := rfl
@[simp] theorem updSys_mail (s : State) (f : SystemS → SystemS) : (updSys s f).mail = s.mail := rfl
@[simp] theorem updSys_arrOf (s : State) (f : SystemS → SystemS) (k : Nat) : arrOf (updSys s f) k = arrOf s k := rfl
@[simp] theorem updSys_vxeOf (s : State) (f : SystemS → SystemS) (k : Nat) : vxeOf (updSys s f) k = vxeOf s k := rfl
@[simp] theorem updSys_seqOf (s : State) (f : SystemS → SystemS) (k : Nat) : seqOf (updSys s f) k = seqOf s k := rfl
@[simp] theorem updSys_negOf (s : State) (f : SystemS → SystemS) (k : Nat) : negOf (updSys s f) k = negOf s k := rfl
@[simp] theorem updSys_reelOf (s : State) (f : SystemS → SystemS) (k : Nat) : reelOf (updSys s f) k = reelOf s k := rfl
@[simp] theorem updSys_chanOf (s : State) (f : SystemS → SystemS) (k : Nat) : chanOf (updSys s f) k = chanOf s k := rfl
@[simp] theorem updSys_regOf (s : State) (f : SystemS → SystemS) (k : Nat) : regOf (updSys s f) k = regOf s k := rfl
@[simp] theorem updSys_pairOf (s : State) (f : SystemS → SystemS) (k : Nat) : pairOf (updSys s f) k = pairOf s k := rfl
@[simp] theorem updSys_flashOf (s : State) (f : SystemS → SystemS) (k : Nat) : flashOf (updSys s f) k = flashOf s k := rfl
@[simp] theorem updSys_portOf (s : State) (f : SystemS → SystemS) (k : Nat) : portOf (updSys s f) k = portOf s k := rfl
@[simp] theorem updSys_outOf (s : State) (f : SystemS → SystemS) (k : Nat) : outOf (updSys s f) k = outOf s k := rfl
@[simp] theorem updSys_engOf (s : State) (f : SystemS → SystemS) (k : Nat) : engOf (updSys s f) k = engOf s k := rfl
@[simp] theorem updSys_laneOf (s : State) (f : SystemS → SystemS) (k : Nat) : laneOf (updSys s f) k = laneOf s k := rfl
@[simp] theorem updSys_laserOf (s : State) (f : SystemS → SystemS) (k : Nat) : laserOf (updSys s f) k = laserOf s k := rfl
@[simp] theorem updSys_optPortOf (s : State) (f : SystemS → SystemS) (k : Nat) : optPortOf (updSys s f) k = optPortOf s k := rfl
@[simp] theorem updSys_winOf (s : State) (f : SystemS → SystemS) (k : Nat) : winOf (updSys s f) k = winOf s k := rfl
@[simp] theorem updSys_hportOf (s : State) (f : SystemS → SystemS) (k : Nat) : hportOf (updSys s f) k = hportOf s k := rfl
@[simp] theorem updSys_pointOf (s : State) (f : SystemS → SystemS) (k : Nat) : pointOf (updSys s f) k = pointOf s k := rfl
@[simp] theorem updSys_expOf (s : State) (f : SystemS → SystemS) (k : Nat) : expOf (updSys s f) k = expOf s k := rfl
@[simp] theorem updSys_propOf (s : State) (f : SystemS → SystemS) (k : Nat) : propOf (updSys s f) k = propOf s k := rfl
@[simp] theorem updSys_chOf (s : State) (f : SystemS → SystemS) (k : Nat) : chOf (updSys s f) k = chOf s k := rfl
@[simp] theorem updSys_slotOf (s : State) (f : SystemS → SystemS) (k : Nat) : slotOf (updSys s f) k = slotOf s k := rfl
@[simp] theorem updFunc_now (s : State) (i : Nat) (f : FuncS → FuncS) : (updFunc s i f).now = s.now := rfl
@[simp] theorem updFunc_free (s : State) (i : Nat) (f : FuncS → FuncS) : (updFunc s i f).free = s.free := rfl
@[simp] theorem updFunc_out (s : State) (i : Nat) (f : FuncS → FuncS) : (updFunc s i f).out = s.out := rfl
@[simp] theorem updFunc_pending (s : State) (i : Nat) (f : FuncS → FuncS) : (updFunc s i f).pending = s.pending := rfl
@[simp] theorem updFunc_arrays (s : State) (i : Nat) (f : FuncS → FuncS) : (updFunc s i f).arrays = s.arrays := rfl
@[simp] theorem updFunc_dbg (s : State) (i : Nat) (f : FuncS → FuncS) : (updFunc s i f).dbg = s.dbg := rfl
@[simp] theorem updFunc_vxes (s : State) (i : Nat) (f : FuncS → FuncS) : (updFunc s i f).vxes = s.vxes := rfl
@[simp] theorem updFunc_seqs (s : State) (i : Nat) (f : FuncS → FuncS) : (updFunc s i f).seqs = s.seqs := rfl
@[simp] theorem updFunc_negs (s : State) (i : Nat) (f : FuncS → FuncS) : (updFunc s i f).negs = s.negs := rfl
@[simp] theorem updFunc_reels (s : State) (i : Nat) (f : FuncS → FuncS) : (updFunc s i f).reels = s.reels := rfl
@[simp] theorem updFunc_watchdogs (s : State) (i : Nat) (f : FuncS → FuncS) : (updFunc s i f).watchdogs = s.watchdogs := rfl
@[simp] theorem updFunc_mem (s : State) (i : Nat) (f : FuncS → FuncS) : (updFunc s i f).mem = s.mem := rfl
@[simp] theorem updFunc_optics (s : State) (i : Nat) (f : FuncS → FuncS) : (updFunc s i f).optics = s.optics := rfl
@[simp] theorem updFunc_ev (s : State) (i : Nat) (f : FuncS → FuncS) : (updFunc s i f).ev = s.ev := rfl
@[simp] theorem updFunc_eumon (s : State) (i : Nat) (f : FuncS → FuncS) : (updFunc s i f).eumon = s.eumon := rfl
@[simp] theorem updFunc_exps (s : State) (i : Nat) (f : FuncS → FuncS) : (updFunc s i f).exps = s.exps := rfl
@[simp] theorem updFunc_sec (s : State) (i : Nat) (f : FuncS → FuncS) : (updFunc s i f).sec = s.sec := rfl
@[simp] theorem updFunc_clk (s : State) (i : Nat) (f : FuncS → FuncS) : (updFunc s i f).clk = s.clk := rfl
@[simp] theorem updFunc_fabric (s : State) (i : Nat) (f : FuncS → FuncS) : (updFunc s i f).fabric = s.fabric := rfl
@[simp] theorem updFunc_power (s : State) (i : Nat) (f : FuncS → FuncS) : (updFunc s i f).power = s.power := rfl
@[simp] theorem updFunc_cle (s : State) (i : Nat) (f : FuncS → FuncS) : (updFunc s i f).cle = s.cle := rfl
@[simp] theorem updFunc_host (s : State) (i : Nat) (f : FuncS → FuncS) : (updFunc s i f).host = s.host := rfl
@[simp] theorem updFunc_mail (s : State) (i : Nat) (f : FuncS → FuncS) : (updFunc s i f).mail = s.mail := rfl
@[simp] theorem updFunc_arrOf (s : State) (i : Nat) (f : FuncS → FuncS) (k : Nat) : arrOf (updFunc s i f) k = arrOf s k := rfl
@[simp] theorem updFunc_vxeOf (s : State) (i : Nat) (f : FuncS → FuncS) (k : Nat) : vxeOf (updFunc s i f) k = vxeOf s k := rfl
@[simp] theorem updFunc_seqOf (s : State) (i : Nat) (f : FuncS → FuncS) (k : Nat) : seqOf (updFunc s i f) k = seqOf s k := rfl
@[simp] theorem updFunc_negOf (s : State) (i : Nat) (f : FuncS → FuncS) (k : Nat) : negOf (updFunc s i f) k = negOf s k := rfl
@[simp] theorem updFunc_reelOf (s : State) (i : Nat) (f : FuncS → FuncS) (k : Nat) : reelOf (updFunc s i f) k = reelOf s k := rfl
@[simp] theorem updFunc_chanOf (s : State) (i : Nat) (f : FuncS → FuncS) (k : Nat) : chanOf (updFunc s i f) k = chanOf s k := rfl
@[simp] theorem updFunc_regOf (s : State) (i : Nat) (f : FuncS → FuncS) (k : Nat) : regOf (updFunc s i f) k = regOf s k := rfl
@[simp] theorem updFunc_pairOf (s : State) (i : Nat) (f : FuncS → FuncS) (k : Nat) : pairOf (updFunc s i f) k = pairOf s k := rfl
@[simp] theorem updFunc_flashOf (s : State) (i : Nat) (f : FuncS → FuncS) (k : Nat) : flashOf (updFunc s i f) k = flashOf s k := rfl
@[simp] theorem updFunc_portOf (s : State) (i : Nat) (f : FuncS → FuncS) (k : Nat) : portOf (updFunc s i f) k = portOf s k := rfl
@[simp] theorem updFunc_outOf (s : State) (i : Nat) (f : FuncS → FuncS) (k : Nat) : outOf (updFunc s i f) k = outOf s k := rfl
@[simp] theorem updFunc_engOf (s : State) (i : Nat) (f : FuncS → FuncS) (k : Nat) : engOf (updFunc s i f) k = engOf s k := rfl
@[simp] theorem updFunc_laneOf (s : State) (i : Nat) (f : FuncS → FuncS) (k : Nat) : laneOf (updFunc s i f) k = laneOf s k := rfl
@[simp] theorem updFunc_laserOf (s : State) (i : Nat) (f : FuncS → FuncS) (k : Nat) : laserOf (updFunc s i f) k = laserOf s k := rfl
@[simp] theorem updFunc_optPortOf (s : State) (i : Nat) (f : FuncS → FuncS) (k : Nat) : optPortOf (updFunc s i f) k = optPortOf s k := rfl
@[simp] theorem updFunc_winOf (s : State) (i : Nat) (f : FuncS → FuncS) (k : Nat) : winOf (updFunc s i f) k = winOf s k := rfl
@[simp] theorem updFunc_hportOf (s : State) (i : Nat) (f : FuncS → FuncS) (k : Nat) : hportOf (updFunc s i f) k = hportOf s k := rfl
@[simp] theorem updFunc_pointOf (s : State) (i : Nat) (f : FuncS → FuncS) (k : Nat) : pointOf (updFunc s i f) k = pointOf s k := rfl
@[simp] theorem updFunc_expOf (s : State) (i : Nat) (f : FuncS → FuncS) (k : Nat) : expOf (updFunc s i f) k = expOf s k := rfl
@[simp] theorem updFunc_propOf (s : State) (i : Nat) (f : FuncS → FuncS) (k : Nat) : propOf (updFunc s i f) k = propOf s k := rfl
@[simp] theorem updFunc_chOf (s : State) (i : Nat) (f : FuncS → FuncS) (k : Nat) : chOf (updFunc s i f) k = chOf s k := rfl
@[simp] theorem updFunc_slotOf (s : State) (i : Nat) (f : FuncS → FuncS) (k : Nat) : slotOf (updFunc s i f) k = slotOf s k := rfl
@[simp] theorem updLink_now (s : State) (i : Nat) (f : LinkS → LinkS) : (updLink s i f).now = s.now := rfl
@[simp] theorem updLink_free (s : State) (i : Nat) (f : LinkS → LinkS) : (updLink s i f).free = s.free := rfl
@[simp] theorem updLink_out (s : State) (i : Nat) (f : LinkS → LinkS) : (updLink s i f).out = s.out := rfl
@[simp] theorem updLink_pending (s : State) (i : Nat) (f : LinkS → LinkS) : (updLink s i f).pending = s.pending := rfl
@[simp] theorem updLink_arrays (s : State) (i : Nat) (f : LinkS → LinkS) : (updLink s i f).arrays = s.arrays := rfl
@[simp] theorem updLink_dbg (s : State) (i : Nat) (f : LinkS → LinkS) : (updLink s i f).dbg = s.dbg := rfl
@[simp] theorem updLink_vxes (s : State) (i : Nat) (f : LinkS → LinkS) : (updLink s i f).vxes = s.vxes := rfl
@[simp] theorem updLink_seqs (s : State) (i : Nat) (f : LinkS → LinkS) : (updLink s i f).seqs = s.seqs := rfl
@[simp] theorem updLink_negs (s : State) (i : Nat) (f : LinkS → LinkS) : (updLink s i f).negs = s.negs := rfl
@[simp] theorem updLink_reels (s : State) (i : Nat) (f : LinkS → LinkS) : (updLink s i f).reels = s.reels := rfl
@[simp] theorem updLink_watchdogs (s : State) (i : Nat) (f : LinkS → LinkS) : (updLink s i f).watchdogs = s.watchdogs := rfl
@[simp] theorem updLink_mem (s : State) (i : Nat) (f : LinkS → LinkS) : (updLink s i f).mem = s.mem := rfl
@[simp] theorem updLink_optics (s : State) (i : Nat) (f : LinkS → LinkS) : (updLink s i f).optics = s.optics := rfl
@[simp] theorem updLink_ev (s : State) (i : Nat) (f : LinkS → LinkS) : (updLink s i f).ev = s.ev := rfl
@[simp] theorem updLink_eumon (s : State) (i : Nat) (f : LinkS → LinkS) : (updLink s i f).eumon = s.eumon := rfl
@[simp] theorem updLink_exps (s : State) (i : Nat) (f : LinkS → LinkS) : (updLink s i f).exps = s.exps := rfl
@[simp] theorem updLink_sec (s : State) (i : Nat) (f : LinkS → LinkS) : (updLink s i f).sec = s.sec := rfl
@[simp] theorem updLink_clk (s : State) (i : Nat) (f : LinkS → LinkS) : (updLink s i f).clk = s.clk := rfl
@[simp] theorem updLink_fabric (s : State) (i : Nat) (f : LinkS → LinkS) : (updLink s i f).fabric = s.fabric := rfl
@[simp] theorem updLink_power (s : State) (i : Nat) (f : LinkS → LinkS) : (updLink s i f).power = s.power := rfl
@[simp] theorem updLink_cle (s : State) (i : Nat) (f : LinkS → LinkS) : (updLink s i f).cle = s.cle := rfl
@[simp] theorem updLink_host (s : State) (i : Nat) (f : LinkS → LinkS) : (updLink s i f).host = s.host := rfl
@[simp] theorem updLink_mail (s : State) (i : Nat) (f : LinkS → LinkS) : (updLink s i f).mail = s.mail := rfl
@[simp] theorem updLink_arrOf (s : State) (i : Nat) (f : LinkS → LinkS) (k : Nat) : arrOf (updLink s i f) k = arrOf s k := rfl
@[simp] theorem updLink_vxeOf (s : State) (i : Nat) (f : LinkS → LinkS) (k : Nat) : vxeOf (updLink s i f) k = vxeOf s k := rfl
@[simp] theorem updLink_seqOf (s : State) (i : Nat) (f : LinkS → LinkS) (k : Nat) : seqOf (updLink s i f) k = seqOf s k := rfl
@[simp] theorem updLink_negOf (s : State) (i : Nat) (f : LinkS → LinkS) (k : Nat) : negOf (updLink s i f) k = negOf s k := rfl
@[simp] theorem updLink_reelOf (s : State) (i : Nat) (f : LinkS → LinkS) (k : Nat) : reelOf (updLink s i f) k = reelOf s k := rfl
@[simp] theorem updLink_chanOf (s : State) (i : Nat) (f : LinkS → LinkS) (k : Nat) : chanOf (updLink s i f) k = chanOf s k := rfl
@[simp] theorem updLink_regOf (s : State) (i : Nat) (f : LinkS → LinkS) (k : Nat) : regOf (updLink s i f) k = regOf s k := rfl
@[simp] theorem updLink_pairOf (s : State) (i : Nat) (f : LinkS → LinkS) (k : Nat) : pairOf (updLink s i f) k = pairOf s k := rfl
@[simp] theorem updLink_flashOf (s : State) (i : Nat) (f : LinkS → LinkS) (k : Nat) : flashOf (updLink s i f) k = flashOf s k := rfl
@[simp] theorem updLink_portOf (s : State) (i : Nat) (f : LinkS → LinkS) (k : Nat) : portOf (updLink s i f) k = portOf s k := rfl
@[simp] theorem updLink_outOf (s : State) (i : Nat) (f : LinkS → LinkS) (k : Nat) : outOf (updLink s i f) k = outOf s k := rfl
@[simp] theorem updLink_engOf (s : State) (i : Nat) (f : LinkS → LinkS) (k : Nat) : engOf (updLink s i f) k = engOf s k := rfl
@[simp] theorem updLink_laneOf (s : State) (i : Nat) (f : LinkS → LinkS) (k : Nat) : laneOf (updLink s i f) k = laneOf s k := rfl
@[simp] theorem updLink_laserOf (s : State) (i : Nat) (f : LinkS → LinkS) (k : Nat) : laserOf (updLink s i f) k = laserOf s k := rfl
@[simp] theorem updLink_optPortOf (s : State) (i : Nat) (f : LinkS → LinkS) (k : Nat) : optPortOf (updLink s i f) k = optPortOf s k := rfl
@[simp] theorem updLink_winOf (s : State) (i : Nat) (f : LinkS → LinkS) (k : Nat) : winOf (updLink s i f) k = winOf s k := rfl
@[simp] theorem updLink_hportOf (s : State) (i : Nat) (f : LinkS → LinkS) (k : Nat) : hportOf (updLink s i f) k = hportOf s k := rfl
@[simp] theorem updLink_pointOf (s : State) (i : Nat) (f : LinkS → LinkS) (k : Nat) : pointOf (updLink s i f) k = pointOf s k := rfl
@[simp] theorem updLink_expOf (s : State) (i : Nat) (f : LinkS → LinkS) (k : Nat) : expOf (updLink s i f) k = expOf s k := rfl
@[simp] theorem updLink_propOf (s : State) (i : Nat) (f : LinkS → LinkS) (k : Nat) : propOf (updLink s i f) k = propOf s k := rfl
@[simp] theorem updLink_chOf (s : State) (i : Nat) (f : LinkS → LinkS) (k : Nat) : chOf (updLink s i f) k = chOf s k := rfl
@[simp] theorem updLink_slotOf (s : State) (i : Nat) (f : LinkS → LinkS) (k : Nat) : slotOf (updLink s i f) k = slotOf s k := rfl
@[simp] theorem updClk_now (s : State) (f : ClockS → ClockS) : (updClk s f).now = s.now := rfl
@[simp] theorem updClk_free (s : State) (f : ClockS → ClockS) : (updClk s f).free = s.free := rfl
@[simp] theorem updClk_out (s : State) (f : ClockS → ClockS) : (updClk s f).out = s.out := rfl
@[simp] theorem updClk_pending (s : State) (f : ClockS → ClockS) : (updClk s f).pending = s.pending := rfl
@[simp] theorem updClk_arrays (s : State) (f : ClockS → ClockS) : (updClk s f).arrays = s.arrays := rfl
@[simp] theorem updClk_dbg (s : State) (f : ClockS → ClockS) : (updClk s f).dbg = s.dbg := rfl
@[simp] theorem updClk_vxes (s : State) (f : ClockS → ClockS) : (updClk s f).vxes = s.vxes := rfl
@[simp] theorem updClk_seqs (s : State) (f : ClockS → ClockS) : (updClk s f).seqs = s.seqs := rfl
@[simp] theorem updClk_negs (s : State) (f : ClockS → ClockS) : (updClk s f).negs = s.negs := rfl
@[simp] theorem updClk_reels (s : State) (f : ClockS → ClockS) : (updClk s f).reels = s.reels := rfl
@[simp] theorem updClk_watchdogs (s : State) (f : ClockS → ClockS) : (updClk s f).watchdogs = s.watchdogs := rfl
@[simp] theorem updClk_mem (s : State) (f : ClockS → ClockS) : (updClk s f).mem = s.mem := rfl
@[simp] theorem updClk_optics (s : State) (f : ClockS → ClockS) : (updClk s f).optics = s.optics := rfl
@[simp] theorem updClk_ev (s : State) (f : ClockS → ClockS) : (updClk s f).ev = s.ev := rfl
@[simp] theorem updClk_eumon (s : State) (f : ClockS → ClockS) : (updClk s f).eumon = s.eumon := rfl
@[simp] theorem updClk_exps (s : State) (f : ClockS → ClockS) : (updClk s f).exps = s.exps := rfl
@[simp] theorem updClk_sec (s : State) (f : ClockS → ClockS) : (updClk s f).sec = s.sec := rfl
@[simp] theorem updClk_fabric (s : State) (f : ClockS → ClockS) : (updClk s f).fabric = s.fabric := rfl
@[simp] theorem updClk_power (s : State) (f : ClockS → ClockS) : (updClk s f).power = s.power := rfl
@[simp] theorem updClk_cle (s : State) (f : ClockS → ClockS) : (updClk s f).cle = s.cle := rfl
@[simp] theorem updClk_host (s : State) (f : ClockS → ClockS) : (updClk s f).host = s.host := rfl
@[simp] theorem updClk_mail (s : State) (f : ClockS → ClockS) : (updClk s f).mail = s.mail := rfl
@[simp] theorem updClk_sys (s : State) (f : ClockS → ClockS) : (updClk s f).sys = s.sys := rfl
@[simp] theorem updClk_arrOf (s : State) (f : ClockS → ClockS) (k : Nat) : arrOf (updClk s f) k = arrOf s k := rfl
@[simp] theorem updClk_vxeOf (s : State) (f : ClockS → ClockS) (k : Nat) : vxeOf (updClk s f) k = vxeOf s k := rfl
@[simp] theorem updClk_seqOf (s : State) (f : ClockS → ClockS) (k : Nat) : seqOf (updClk s f) k = seqOf s k := rfl
@[simp] theorem updClk_negOf (s : State) (f : ClockS → ClockS) (k : Nat) : negOf (updClk s f) k = negOf s k := rfl
@[simp] theorem updClk_reelOf (s : State) (f : ClockS → ClockS) (k : Nat) : reelOf (updClk s f) k = reelOf s k := rfl
@[simp] theorem updClk_chanOf (s : State) (f : ClockS → ClockS) (k : Nat) : chanOf (updClk s f) k = chanOf s k := rfl
@[simp] theorem updClk_regOf (s : State) (f : ClockS → ClockS) (k : Nat) : regOf (updClk s f) k = regOf s k := rfl
@[simp] theorem updClk_pairOf (s : State) (f : ClockS → ClockS) (k : Nat) : pairOf (updClk s f) k = pairOf s k := rfl
@[simp] theorem updClk_flashOf (s : State) (f : ClockS → ClockS) (k : Nat) : flashOf (updClk s f) k = flashOf s k := rfl
@[simp] theorem updClk_portOf (s : State) (f : ClockS → ClockS) (k : Nat) : portOf (updClk s f) k = portOf s k := rfl
@[simp] theorem updClk_outOf (s : State) (f : ClockS → ClockS) (k : Nat) : outOf (updClk s f) k = outOf s k := rfl
@[simp] theorem updClk_engOf (s : State) (f : ClockS → ClockS) (k : Nat) : engOf (updClk s f) k = engOf s k := rfl
@[simp] theorem updClk_laneOf (s : State) (f : ClockS → ClockS) (k : Nat) : laneOf (updClk s f) k = laneOf s k := rfl
@[simp] theorem updClk_laserOf (s : State) (f : ClockS → ClockS) (k : Nat) : laserOf (updClk s f) k = laserOf s k := rfl
@[simp] theorem updClk_optPortOf (s : State) (f : ClockS → ClockS) (k : Nat) : optPortOf (updClk s f) k = optPortOf s k := rfl
@[simp] theorem updClk_winOf (s : State) (f : ClockS → ClockS) (k : Nat) : winOf (updClk s f) k = winOf s k := rfl
@[simp] theorem updClk_hportOf (s : State) (f : ClockS → ClockS) (k : Nat) : hportOf (updClk s f) k = hportOf s k := rfl
@[simp] theorem updClk_pointOf (s : State) (f : ClockS → ClockS) (k : Nat) : pointOf (updClk s f) k = pointOf s k := rfl
@[simp] theorem updClk_expOf (s : State) (f : ClockS → ClockS) (k : Nat) : expOf (updClk s f) k = expOf s k := rfl
@[simp] theorem updClk_propOf (s : State) (f : ClockS → ClockS) (k : Nat) : propOf (updClk s f) k = propOf s k := rfl
@[simp] theorem updClk_funcOf (s : State) (f : ClockS → ClockS) (k : Nat) : funcOf (updClk s f) k = funcOf s k := rfl
@[simp] theorem updClk_linkOf (s : State) (f : ClockS → ClockS) (k : Nat) : linkOf (updClk s f) k = linkOf s k := rfl
@[simp] theorem updClk_chOf (s : State) (f : ClockS → ClockS) (k : Nat) : chOf (updClk s f) k = chOf s k := rfl
@[simp] theorem updClk_slotOf (s : State) (f : ClockS → ClockS) (k : Nat) : slotOf (updClk s f) k = slotOf s k := rfl
@[simp] theorem updPower_now (s : State) (f : PowerS → PowerS) : (updPower s f).now = s.now := rfl
@[simp] theorem updPower_free (s : State) (f : PowerS → PowerS) : (updPower s f).free = s.free := rfl
@[simp] theorem updPower_out (s : State) (f : PowerS → PowerS) : (updPower s f).out = s.out := rfl
@[simp] theorem updPower_pending (s : State) (f : PowerS → PowerS) : (updPower s f).pending = s.pending := rfl
@[simp] theorem updPower_arrays (s : State) (f : PowerS → PowerS) : (updPower s f).arrays = s.arrays := rfl
@[simp] theorem updPower_dbg (s : State) (f : PowerS → PowerS) : (updPower s f).dbg = s.dbg := rfl
@[simp] theorem updPower_vxes (s : State) (f : PowerS → PowerS) : (updPower s f).vxes = s.vxes := rfl
@[simp] theorem updPower_seqs (s : State) (f : PowerS → PowerS) : (updPower s f).seqs = s.seqs := rfl
@[simp] theorem updPower_negs (s : State) (f : PowerS → PowerS) : (updPower s f).negs = s.negs := rfl
@[simp] theorem updPower_reels (s : State) (f : PowerS → PowerS) : (updPower s f).reels = s.reels := rfl
@[simp] theorem updPower_watchdogs (s : State) (f : PowerS → PowerS) : (updPower s f).watchdogs = s.watchdogs := rfl
@[simp] theorem updPower_mem (s : State) (f : PowerS → PowerS) : (updPower s f).mem = s.mem := rfl
@[simp] theorem updPower_optics (s : State) (f : PowerS → PowerS) : (updPower s f).optics = s.optics := rfl
@[simp] theorem updPower_ev (s : State) (f : PowerS → PowerS) : (updPower s f).ev = s.ev := rfl
@[simp] theorem updPower_eumon (s : State) (f : PowerS → PowerS) : (updPower s f).eumon = s.eumon := rfl
@[simp] theorem updPower_exps (s : State) (f : PowerS → PowerS) : (updPower s f).exps = s.exps := rfl
@[simp] theorem updPower_sec (s : State) (f : PowerS → PowerS) : (updPower s f).sec = s.sec := rfl
@[simp] theorem updPower_clk (s : State) (f : PowerS → PowerS) : (updPower s f).clk = s.clk := rfl
@[simp] theorem updPower_fabric (s : State) (f : PowerS → PowerS) : (updPower s f).fabric = s.fabric := rfl
@[simp] theorem updPower_cle (s : State) (f : PowerS → PowerS) : (updPower s f).cle = s.cle := rfl
@[simp] theorem updPower_host (s : State) (f : PowerS → PowerS) : (updPower s f).host = s.host := rfl
@[simp] theorem updPower_mail (s : State) (f : PowerS → PowerS) : (updPower s f).mail = s.mail := rfl
@[simp] theorem updPower_sys (s : State) (f : PowerS → PowerS) : (updPower s f).sys = s.sys := rfl
@[simp] theorem updPower_arrOf (s : State) (f : PowerS → PowerS) (k : Nat) : arrOf (updPower s f) k = arrOf s k := rfl
@[simp] theorem updPower_vxeOf (s : State) (f : PowerS → PowerS) (k : Nat) : vxeOf (updPower s f) k = vxeOf s k := rfl
@[simp] theorem updPower_seqOf (s : State) (f : PowerS → PowerS) (k : Nat) : seqOf (updPower s f) k = seqOf s k := rfl
@[simp] theorem updPower_negOf (s : State) (f : PowerS → PowerS) (k : Nat) : negOf (updPower s f) k = negOf s k := rfl
@[simp] theorem updPower_reelOf (s : State) (f : PowerS → PowerS) (k : Nat) : reelOf (updPower s f) k = reelOf s k := rfl
@[simp] theorem updPower_chanOf (s : State) (f : PowerS → PowerS) (k : Nat) : chanOf (updPower s f) k = chanOf s k := rfl
@[simp] theorem updPower_regOf (s : State) (f : PowerS → PowerS) (k : Nat) : regOf (updPower s f) k = regOf s k := rfl
@[simp] theorem updPower_pairOf (s : State) (f : PowerS → PowerS) (k : Nat) : pairOf (updPower s f) k = pairOf s k := rfl
@[simp] theorem updPower_flashOf (s : State) (f : PowerS → PowerS) (k : Nat) : flashOf (updPower s f) k = flashOf s k := rfl
@[simp] theorem updPower_portOf (s : State) (f : PowerS → PowerS) (k : Nat) : portOf (updPower s f) k = portOf s k := rfl
@[simp] theorem updPower_outOf (s : State) (f : PowerS → PowerS) (k : Nat) : outOf (updPower s f) k = outOf s k := rfl
@[simp] theorem updPower_engOf (s : State) (f : PowerS → PowerS) (k : Nat) : engOf (updPower s f) k = engOf s k := rfl
@[simp] theorem updPower_laneOf (s : State) (f : PowerS → PowerS) (k : Nat) : laneOf (updPower s f) k = laneOf s k := rfl
@[simp] theorem updPower_laserOf (s : State) (f : PowerS → PowerS) (k : Nat) : laserOf (updPower s f) k = laserOf s k := rfl
@[simp] theorem updPower_optPortOf (s : State) (f : PowerS → PowerS) (k : Nat) : optPortOf (updPower s f) k = optPortOf s k := rfl
@[simp] theorem updPower_winOf (s : State) (f : PowerS → PowerS) (k : Nat) : winOf (updPower s f) k = winOf s k := rfl
@[simp] theorem updPower_hportOf (s : State) (f : PowerS → PowerS) (k : Nat) : hportOf (updPower s f) k = hportOf s k := rfl
@[simp] theorem updPower_pointOf (s : State) (f : PowerS → PowerS) (k : Nat) : pointOf (updPower s f) k = pointOf s k := rfl
@[simp] theorem updPower_expOf (s : State) (f : PowerS → PowerS) (k : Nat) : expOf (updPower s f) k = expOf s k := rfl
@[simp] theorem updPower_propOf (s : State) (f : PowerS → PowerS) (k : Nat) : propOf (updPower s f) k = propOf s k := rfl
@[simp] theorem updPower_funcOf (s : State) (f : PowerS → PowerS) (k : Nat) : funcOf (updPower s f) k = funcOf s k := rfl
@[simp] theorem updPower_linkOf (s : State) (f : PowerS → PowerS) (k : Nat) : linkOf (updPower s f) k = linkOf s k := rfl
@[simp] theorem updPower_chOf (s : State) (f : PowerS → PowerS) (k : Nat) : chOf (updPower s f) k = chOf s k := rfl
@[simp] theorem updPower_slotOf (s : State) (f : PowerS → PowerS) (k : Nat) : slotOf (updPower s f) k = slotOf s k := rfl
@[simp] theorem updDieP_now (s : State) (i : Nat) (f : DiePowerS → DiePowerS) : (updDieP s i f).now = s.now := rfl
@[simp] theorem updDieP_free (s : State) (i : Nat) (f : DiePowerS → DiePowerS) : (updDieP s i f).free = s.free := rfl
@[simp] theorem updDieP_out (s : State) (i : Nat) (f : DiePowerS → DiePowerS) : (updDieP s i f).out = s.out := rfl
@[simp] theorem updDieP_pending (s : State) (i : Nat) (f : DiePowerS → DiePowerS) : (updDieP s i f).pending = s.pending := rfl
@[simp] theorem updDieP_arrays (s : State) (i : Nat) (f : DiePowerS → DiePowerS) : (updDieP s i f).arrays = s.arrays := rfl
@[simp] theorem updDieP_dbg (s : State) (i : Nat) (f : DiePowerS → DiePowerS) : (updDieP s i f).dbg = s.dbg := rfl
@[simp] theorem updDieP_vxes (s : State) (i : Nat) (f : DiePowerS → DiePowerS) : (updDieP s i f).vxes = s.vxes := rfl
@[simp] theorem updDieP_seqs (s : State) (i : Nat) (f : DiePowerS → DiePowerS) : (updDieP s i f).seqs = s.seqs := rfl
@[simp] theorem updDieP_negs (s : State) (i : Nat) (f : DiePowerS → DiePowerS) : (updDieP s i f).negs = s.negs := rfl
@[simp] theorem updDieP_reels (s : State) (i : Nat) (f : DiePowerS → DiePowerS) : (updDieP s i f).reels = s.reels := rfl
@[simp] theorem updDieP_watchdogs (s : State) (i : Nat) (f : DiePowerS → DiePowerS) : (updDieP s i f).watchdogs = s.watchdogs := rfl
@[simp] theorem updDieP_mem (s : State) (i : Nat) (f : DiePowerS → DiePowerS) : (updDieP s i f).mem = s.mem := rfl
@[simp] theorem updDieP_optics (s : State) (i : Nat) (f : DiePowerS → DiePowerS) : (updDieP s i f).optics = s.optics := rfl
@[simp] theorem updDieP_ev (s : State) (i : Nat) (f : DiePowerS → DiePowerS) : (updDieP s i f).ev = s.ev := rfl
@[simp] theorem updDieP_eumon (s : State) (i : Nat) (f : DiePowerS → DiePowerS) : (updDieP s i f).eumon = s.eumon := rfl
@[simp] theorem updDieP_exps (s : State) (i : Nat) (f : DiePowerS → DiePowerS) : (updDieP s i f).exps = s.exps := rfl
@[simp] theorem updDieP_sec (s : State) (i : Nat) (f : DiePowerS → DiePowerS) : (updDieP s i f).sec = s.sec := rfl
@[simp] theorem updDieP_clk (s : State) (i : Nat) (f : DiePowerS → DiePowerS) : (updDieP s i f).clk = s.clk := rfl
@[simp] theorem updDieP_fabric (s : State) (i : Nat) (f : DiePowerS → DiePowerS) : (updDieP s i f).fabric = s.fabric := rfl
@[simp] theorem updDieP_cle (s : State) (i : Nat) (f : DiePowerS → DiePowerS) : (updDieP s i f).cle = s.cle := rfl
@[simp] theorem updDieP_host (s : State) (i : Nat) (f : DiePowerS → DiePowerS) : (updDieP s i f).host = s.host := rfl
@[simp] theorem updDieP_mail (s : State) (i : Nat) (f : DiePowerS → DiePowerS) : (updDieP s i f).mail = s.mail := rfl
@[simp] theorem updDieP_sys (s : State) (i : Nat) (f : DiePowerS → DiePowerS) : (updDieP s i f).sys = s.sys := rfl
@[simp] theorem updDieP_arrOf (s : State) (i : Nat) (f : DiePowerS → DiePowerS) (k : Nat) : arrOf (updDieP s i f) k = arrOf s k := rfl
@[simp] theorem updDieP_vxeOf (s : State) (i : Nat) (f : DiePowerS → DiePowerS) (k : Nat) : vxeOf (updDieP s i f) k = vxeOf s k := rfl
@[simp] theorem updDieP_seqOf (s : State) (i : Nat) (f : DiePowerS → DiePowerS) (k : Nat) : seqOf (updDieP s i f) k = seqOf s k := rfl
@[simp] theorem updDieP_negOf (s : State) (i : Nat) (f : DiePowerS → DiePowerS) (k : Nat) : negOf (updDieP s i f) k = negOf s k := rfl
@[simp] theorem updDieP_reelOf (s : State) (i : Nat) (f : DiePowerS → DiePowerS) (k : Nat) : reelOf (updDieP s i f) k = reelOf s k := rfl
@[simp] theorem updDieP_chanOf (s : State) (i : Nat) (f : DiePowerS → DiePowerS) (k : Nat) : chanOf (updDieP s i f) k = chanOf s k := rfl
@[simp] theorem updDieP_regOf (s : State) (i : Nat) (f : DiePowerS → DiePowerS) (k : Nat) : regOf (updDieP s i f) k = regOf s k := rfl
@[simp] theorem updDieP_pairOf (s : State) (i : Nat) (f : DiePowerS → DiePowerS) (k : Nat) : pairOf (updDieP s i f) k = pairOf s k := rfl
@[simp] theorem updDieP_flashOf (s : State) (i : Nat) (f : DiePowerS → DiePowerS) (k : Nat) : flashOf (updDieP s i f) k = flashOf s k := rfl
@[simp] theorem updDieP_portOf (s : State) (i : Nat) (f : DiePowerS → DiePowerS) (k : Nat) : portOf (updDieP s i f) k = portOf s k := rfl
@[simp] theorem updDieP_outOf (s : State) (i : Nat) (f : DiePowerS → DiePowerS) (k : Nat) : outOf (updDieP s i f) k = outOf s k := rfl
@[simp] theorem updDieP_engOf (s : State) (i : Nat) (f : DiePowerS → DiePowerS) (k : Nat) : engOf (updDieP s i f) k = engOf s k := rfl
@[simp] theorem updDieP_laneOf (s : State) (i : Nat) (f : DiePowerS → DiePowerS) (k : Nat) : laneOf (updDieP s i f) k = laneOf s k := rfl
@[simp] theorem updDieP_laserOf (s : State) (i : Nat) (f : DiePowerS → DiePowerS) (k : Nat) : laserOf (updDieP s i f) k = laserOf s k := rfl
@[simp] theorem updDieP_optPortOf (s : State) (i : Nat) (f : DiePowerS → DiePowerS) (k : Nat) : optPortOf (updDieP s i f) k = optPortOf s k := rfl
@[simp] theorem updDieP_winOf (s : State) (i : Nat) (f : DiePowerS → DiePowerS) (k : Nat) : winOf (updDieP s i f) k = winOf s k := rfl
@[simp] theorem updDieP_hportOf (s : State) (i : Nat) (f : DiePowerS → DiePowerS) (k : Nat) : hportOf (updDieP s i f) k = hportOf s k := rfl
@[simp] theorem updDieP_pointOf (s : State) (i : Nat) (f : DiePowerS → DiePowerS) (k : Nat) : pointOf (updDieP s i f) k = pointOf s k := rfl
@[simp] theorem updDieP_expOf (s : State) (i : Nat) (f : DiePowerS → DiePowerS) (k : Nat) : expOf (updDieP s i f) k = expOf s k := rfl
@[simp] theorem updDieP_propOf (s : State) (i : Nat) (f : DiePowerS → DiePowerS) (k : Nat) : propOf (updDieP s i f) k = propOf s k := rfl
@[simp] theorem updDieP_funcOf (s : State) (i : Nat) (f : DiePowerS → DiePowerS) (k : Nat) : funcOf (updDieP s i f) k = funcOf s k := rfl
@[simp] theorem updDieP_linkOf (s : State) (i : Nat) (f : DiePowerS → DiePowerS) (k : Nat) : linkOf (updDieP s i f) k = linkOf s k := rfl
@[simp] theorem updDieP_chOf (s : State) (i : Nat) (f : DiePowerS → DiePowerS) (k : Nat) : chOf (updDieP s i f) k = chOf s k := rfl
@[simp] theorem updDieP_slotOf (s : State) (i : Nat) (f : DiePowerS → DiePowerS) (k : Nat) : slotOf (updDieP s i f) k = slotOf s k := rfl
@[simp] theorem updCh_now (s : State) (i : Nat) (f : MailboxS → MailboxS) : (updCh s i f).now = s.now := rfl
@[simp] theorem updCh_free (s : State) (i : Nat) (f : MailboxS → MailboxS) : (updCh s i f).free = s.free := rfl
@[simp] theorem updCh_out (s : State) (i : Nat) (f : MailboxS → MailboxS) : (updCh s i f).out = s.out := rfl
@[simp] theorem updCh_pending (s : State) (i : Nat) (f : MailboxS → MailboxS) : (updCh s i f).pending = s.pending := rfl
@[simp] theorem updCh_arrays (s : State) (i : Nat) (f : MailboxS → MailboxS) : (updCh s i f).arrays = s.arrays := rfl
@[simp] theorem updCh_dbg (s : State) (i : Nat) (f : MailboxS → MailboxS) : (updCh s i f).dbg = s.dbg := rfl
@[simp] theorem updCh_vxes (s : State) (i : Nat) (f : MailboxS → MailboxS) : (updCh s i f).vxes = s.vxes := rfl
@[simp] theorem updCh_seqs (s : State) (i : Nat) (f : MailboxS → MailboxS) : (updCh s i f).seqs = s.seqs := rfl
@[simp] theorem updCh_negs (s : State) (i : Nat) (f : MailboxS → MailboxS) : (updCh s i f).negs = s.negs := rfl
@[simp] theorem updCh_reels (s : State) (i : Nat) (f : MailboxS → MailboxS) : (updCh s i f).reels = s.reels := rfl
@[simp] theorem updCh_watchdogs (s : State) (i : Nat) (f : MailboxS → MailboxS) : (updCh s i f).watchdogs = s.watchdogs := rfl
@[simp] theorem updCh_mem (s : State) (i : Nat) (f : MailboxS → MailboxS) : (updCh s i f).mem = s.mem := rfl
@[simp] theorem updCh_optics (s : State) (i : Nat) (f : MailboxS → MailboxS) : (updCh s i f).optics = s.optics := rfl
@[simp] theorem updCh_ev (s : State) (i : Nat) (f : MailboxS → MailboxS) : (updCh s i f).ev = s.ev := rfl
@[simp] theorem updCh_eumon (s : State) (i : Nat) (f : MailboxS → MailboxS) : (updCh s i f).eumon = s.eumon := rfl
@[simp] theorem updCh_exps (s : State) (i : Nat) (f : MailboxS → MailboxS) : (updCh s i f).exps = s.exps := rfl
@[simp] theorem updCh_sec (s : State) (i : Nat) (f : MailboxS → MailboxS) : (updCh s i f).sec = s.sec := rfl
@[simp] theorem updCh_clk (s : State) (i : Nat) (f : MailboxS → MailboxS) : (updCh s i f).clk = s.clk := rfl
@[simp] theorem updCh_fabric (s : State) (i : Nat) (f : MailboxS → MailboxS) : (updCh s i f).fabric = s.fabric := rfl
@[simp] theorem updCh_power (s : State) (i : Nat) (f : MailboxS → MailboxS) : (updCh s i f).power = s.power := rfl
@[simp] theorem updCh_cle (s : State) (i : Nat) (f : MailboxS → MailboxS) : (updCh s i f).cle = s.cle := rfl
@[simp] theorem updCh_host (s : State) (i : Nat) (f : MailboxS → MailboxS) : (updCh s i f).host = s.host := rfl
@[simp] theorem updCh_sys (s : State) (i : Nat) (f : MailboxS → MailboxS) : (updCh s i f).sys = s.sys := rfl
@[simp] theorem updCh_arrOf (s : State) (i : Nat) (f : MailboxS → MailboxS) (k : Nat) : arrOf (updCh s i f) k = arrOf s k := rfl
@[simp] theorem updCh_vxeOf (s : State) (i : Nat) (f : MailboxS → MailboxS) (k : Nat) : vxeOf (updCh s i f) k = vxeOf s k := rfl
@[simp] theorem updCh_seqOf (s : State) (i : Nat) (f : MailboxS → MailboxS) (k : Nat) : seqOf (updCh s i f) k = seqOf s k := rfl
@[simp] theorem updCh_negOf (s : State) (i : Nat) (f : MailboxS → MailboxS) (k : Nat) : negOf (updCh s i f) k = negOf s k := rfl
@[simp] theorem updCh_reelOf (s : State) (i : Nat) (f : MailboxS → MailboxS) (k : Nat) : reelOf (updCh s i f) k = reelOf s k := rfl
@[simp] theorem updCh_chanOf (s : State) (i : Nat) (f : MailboxS → MailboxS) (k : Nat) : chanOf (updCh s i f) k = chanOf s k := rfl
@[simp] theorem updCh_regOf (s : State) (i : Nat) (f : MailboxS → MailboxS) (k : Nat) : regOf (updCh s i f) k = regOf s k := rfl
@[simp] theorem updCh_pairOf (s : State) (i : Nat) (f : MailboxS → MailboxS) (k : Nat) : pairOf (updCh s i f) k = pairOf s k := rfl
@[simp] theorem updCh_flashOf (s : State) (i : Nat) (f : MailboxS → MailboxS) (k : Nat) : flashOf (updCh s i f) k = flashOf s k := rfl
@[simp] theorem updCh_portOf (s : State) (i : Nat) (f : MailboxS → MailboxS) (k : Nat) : portOf (updCh s i f) k = portOf s k := rfl
@[simp] theorem updCh_outOf (s : State) (i : Nat) (f : MailboxS → MailboxS) (k : Nat) : outOf (updCh s i f) k = outOf s k := rfl
@[simp] theorem updCh_engOf (s : State) (i : Nat) (f : MailboxS → MailboxS) (k : Nat) : engOf (updCh s i f) k = engOf s k := rfl
@[simp] theorem updCh_laneOf (s : State) (i : Nat) (f : MailboxS → MailboxS) (k : Nat) : laneOf (updCh s i f) k = laneOf s k := rfl
@[simp] theorem updCh_laserOf (s : State) (i : Nat) (f : MailboxS → MailboxS) (k : Nat) : laserOf (updCh s i f) k = laserOf s k := rfl
@[simp] theorem updCh_optPortOf (s : State) (i : Nat) (f : MailboxS → MailboxS) (k : Nat) : optPortOf (updCh s i f) k = optPortOf s k := rfl
@[simp] theorem updCh_winOf (s : State) (i : Nat) (f : MailboxS → MailboxS) (k : Nat) : winOf (updCh s i f) k = winOf s k := rfl
@[simp] theorem updCh_hportOf (s : State) (i : Nat) (f : MailboxS → MailboxS) (k : Nat) : hportOf (updCh s i f) k = hportOf s k := rfl
@[simp] theorem updCh_pointOf (s : State) (i : Nat) (f : MailboxS → MailboxS) (k : Nat) : pointOf (updCh s i f) k = pointOf s k := rfl
@[simp] theorem updCh_expOf (s : State) (i : Nat) (f : MailboxS → MailboxS) (k : Nat) : expOf (updCh s i f) k = expOf s k := rfl
@[simp] theorem updCh_propOf (s : State) (i : Nat) (f : MailboxS → MailboxS) (k : Nat) : propOf (updCh s i f) k = propOf s k := rfl
@[simp] theorem updCh_funcOf (s : State) (i : Nat) (f : MailboxS → MailboxS) (k : Nat) : funcOf (updCh s i f) k = funcOf s k := rfl
@[simp] theorem updCh_linkOf (s : State) (i : Nat) (f : MailboxS → MailboxS) (k : Nat) : linkOf (updCh s i f) k = linkOf s k := rfl
@[simp] theorem updCh_slotOf (s : State) (i : Nat) (f : MailboxS → MailboxS) (k : Nat) : slotOf (updCh s i f) k = slotOf s k := rfl
@[simp] theorem updSlot_now (s : State) (i : Nat) (f : GroupSlot → GroupSlot) : (updSlot s i f).now = s.now := rfl
@[simp] theorem updSlot_free (s : State) (i : Nat) (f : GroupSlot → GroupSlot) : (updSlot s i f).free = s.free := rfl
@[simp] theorem updSlot_out (s : State) (i : Nat) (f : GroupSlot → GroupSlot) : (updSlot s i f).out = s.out := rfl
@[simp] theorem updSlot_pending (s : State) (i : Nat) (f : GroupSlot → GroupSlot) : (updSlot s i f).pending = s.pending := rfl
@[simp] theorem updSlot_arrays (s : State) (i : Nat) (f : GroupSlot → GroupSlot) : (updSlot s i f).arrays = s.arrays := rfl
@[simp] theorem updSlot_dbg (s : State) (i : Nat) (f : GroupSlot → GroupSlot) : (updSlot s i f).dbg = s.dbg := rfl
@[simp] theorem updSlot_vxes (s : State) (i : Nat) (f : GroupSlot → GroupSlot) : (updSlot s i f).vxes = s.vxes := rfl
@[simp] theorem updSlot_seqs (s : State) (i : Nat) (f : GroupSlot → GroupSlot) : (updSlot s i f).seqs = s.seqs := rfl
@[simp] theorem updSlot_negs (s : State) (i : Nat) (f : GroupSlot → GroupSlot) : (updSlot s i f).negs = s.negs := rfl
@[simp] theorem updSlot_reels (s : State) (i : Nat) (f : GroupSlot → GroupSlot) : (updSlot s i f).reels = s.reels := rfl
@[simp] theorem updSlot_watchdogs (s : State) (i : Nat) (f : GroupSlot → GroupSlot) : (updSlot s i f).watchdogs = s.watchdogs := rfl
@[simp] theorem updSlot_mem (s : State) (i : Nat) (f : GroupSlot → GroupSlot) : (updSlot s i f).mem = s.mem := rfl
@[simp] theorem updSlot_optics (s : State) (i : Nat) (f : GroupSlot → GroupSlot) : (updSlot s i f).optics = s.optics := rfl
@[simp] theorem updSlot_ev (s : State) (i : Nat) (f : GroupSlot → GroupSlot) : (updSlot s i f).ev = s.ev := rfl
@[simp] theorem updSlot_eumon (s : State) (i : Nat) (f : GroupSlot → GroupSlot) : (updSlot s i f).eumon = s.eumon := rfl
@[simp] theorem updSlot_exps (s : State) (i : Nat) (f : GroupSlot → GroupSlot) : (updSlot s i f).exps = s.exps := rfl
@[simp] theorem updSlot_sec (s : State) (i : Nat) (f : GroupSlot → GroupSlot) : (updSlot s i f).sec = s.sec := rfl
@[simp] theorem updSlot_clk (s : State) (i : Nat) (f : GroupSlot → GroupSlot) : (updSlot s i f).clk = s.clk := rfl
@[simp] theorem updSlot_fabric (s : State) (i : Nat) (f : GroupSlot → GroupSlot) : (updSlot s i f).fabric = s.fabric := rfl
@[simp] theorem updSlot_power (s : State) (i : Nat) (f : GroupSlot → GroupSlot) : (updSlot s i f).power = s.power := rfl
@[simp] theorem updSlot_host (s : State) (i : Nat) (f : GroupSlot → GroupSlot) : (updSlot s i f).host = s.host := rfl
@[simp] theorem updSlot_mail (s : State) (i : Nat) (f : GroupSlot → GroupSlot) : (updSlot s i f).mail = s.mail := rfl
@[simp] theorem updSlot_sys (s : State) (i : Nat) (f : GroupSlot → GroupSlot) : (updSlot s i f).sys = s.sys := rfl
@[simp] theorem updSlot_arrOf (s : State) (i : Nat) (f : GroupSlot → GroupSlot) (k : Nat) : arrOf (updSlot s i f) k = arrOf s k := rfl
@[simp] theorem updSlot_vxeOf (s : State) (i : Nat) (f : GroupSlot → GroupSlot) (k : Nat) : vxeOf (updSlot s i f) k = vxeOf s k := rfl
@[simp] theorem updSlot_seqOf (s : State) (i : Nat) (f : GroupSlot → GroupSlot) (k : Nat) : seqOf (updSlot s i f) k = seqOf s k := rfl
@[simp] theorem updSlot_negOf (s : State) (i : Nat) (f : GroupSlot → GroupSlot) (k : Nat) : negOf (updSlot s i f) k = negOf s k := rfl
@[simp] theorem updSlot_reelOf (s : State) (i : Nat) (f : GroupSlot → GroupSlot) (k : Nat) : reelOf (updSlot s i f) k = reelOf s k := rfl
@[simp] theorem updSlot_chanOf (s : State) (i : Nat) (f : GroupSlot → GroupSlot) (k : Nat) : chanOf (updSlot s i f) k = chanOf s k := rfl
@[simp] theorem updSlot_regOf (s : State) (i : Nat) (f : GroupSlot → GroupSlot) (k : Nat) : regOf (updSlot s i f) k = regOf s k := rfl
@[simp] theorem updSlot_pairOf (s : State) (i : Nat) (f : GroupSlot → GroupSlot) (k : Nat) : pairOf (updSlot s i f) k = pairOf s k := rfl
@[simp] theorem updSlot_flashOf (s : State) (i : Nat) (f : GroupSlot → GroupSlot) (k : Nat) : flashOf (updSlot s i f) k = flashOf s k := rfl
@[simp] theorem updSlot_portOf (s : State) (i : Nat) (f : GroupSlot → GroupSlot) (k : Nat) : portOf (updSlot s i f) k = portOf s k := rfl
@[simp] theorem updSlot_outOf (s : State) (i : Nat) (f : GroupSlot → GroupSlot) (k : Nat) : outOf (updSlot s i f) k = outOf s k := rfl
@[simp] theorem updSlot_engOf (s : State) (i : Nat) (f : GroupSlot → GroupSlot) (k : Nat) : engOf (updSlot s i f) k = engOf s k := rfl
@[simp] theorem updSlot_laneOf (s : State) (i : Nat) (f : GroupSlot → GroupSlot) (k : Nat) : laneOf (updSlot s i f) k = laneOf s k := rfl
@[simp] theorem updSlot_laserOf (s : State) (i : Nat) (f : GroupSlot → GroupSlot) (k : Nat) : laserOf (updSlot s i f) k = laserOf s k := rfl
@[simp] theorem updSlot_optPortOf (s : State) (i : Nat) (f : GroupSlot → GroupSlot) (k : Nat) : optPortOf (updSlot s i f) k = optPortOf s k := rfl
@[simp] theorem updSlot_winOf (s : State) (i : Nat) (f : GroupSlot → GroupSlot) (k : Nat) : winOf (updSlot s i f) k = winOf s k := rfl
@[simp] theorem updSlot_hportOf (s : State) (i : Nat) (f : GroupSlot → GroupSlot) (k : Nat) : hportOf (updSlot s i f) k = hportOf s k := rfl
@[simp] theorem updSlot_pointOf (s : State) (i : Nat) (f : GroupSlot → GroupSlot) (k : Nat) : pointOf (updSlot s i f) k = pointOf s k := rfl
@[simp] theorem updSlot_expOf (s : State) (i : Nat) (f : GroupSlot → GroupSlot) (k : Nat) : expOf (updSlot s i f) k = expOf s k := rfl
@[simp] theorem updSlot_propOf (s : State) (i : Nat) (f : GroupSlot → GroupSlot) (k : Nat) : propOf (updSlot s i f) k = propOf s k := rfl
@[simp] theorem updSlot_funcOf (s : State) (i : Nat) (f : GroupSlot → GroupSlot) (k : Nat) : funcOf (updSlot s i f) k = funcOf s k := rfl
@[simp] theorem updSlot_linkOf (s : State) (i : Nat) (f : GroupSlot → GroupSlot) (k : Nat) : linkOf (updSlot s i f) k = linkOf s k := rfl
@[simp] theorem updSlot_chOf (s : State) (i : Nat) (f : GroupSlot → GroupSlot) (k : Nat) : chOf (updSlot s i f) k = chOf s k := rfl
@[simp] theorem updSec_now (s : State) (f : SecurityS → SecurityS) : (updSec s f).now = s.now := rfl
@[simp] theorem updSec_free (s : State) (f : SecurityS → SecurityS) : (updSec s f).free = s.free := rfl
@[simp] theorem updSec_out (s : State) (f : SecurityS → SecurityS) : (updSec s f).out = s.out := rfl
@[simp] theorem updSec_pending (s : State) (f : SecurityS → SecurityS) : (updSec s f).pending = s.pending := rfl
@[simp] theorem updSec_arrays (s : State) (f : SecurityS → SecurityS) : (updSec s f).arrays = s.arrays := rfl
@[simp] theorem updSec_dbg (s : State) (f : SecurityS → SecurityS) : (updSec s f).dbg = s.dbg := rfl
@[simp] theorem updSec_vxes (s : State) (f : SecurityS → SecurityS) : (updSec s f).vxes = s.vxes := rfl
@[simp] theorem updSec_seqs (s : State) (f : SecurityS → SecurityS) : (updSec s f).seqs = s.seqs := rfl
@[simp] theorem updSec_negs (s : State) (f : SecurityS → SecurityS) : (updSec s f).negs = s.negs := rfl
@[simp] theorem updSec_reels (s : State) (f : SecurityS → SecurityS) : (updSec s f).reels = s.reels := rfl
@[simp] theorem updSec_watchdogs (s : State) (f : SecurityS → SecurityS) : (updSec s f).watchdogs = s.watchdogs := rfl
@[simp] theorem updSec_mem (s : State) (f : SecurityS → SecurityS) : (updSec s f).mem = s.mem := rfl
@[simp] theorem updSec_optics (s : State) (f : SecurityS → SecurityS) : (updSec s f).optics = s.optics := rfl
@[simp] theorem updSec_ev (s : State) (f : SecurityS → SecurityS) : (updSec s f).ev = s.ev := rfl
@[simp] theorem updSec_eumon (s : State) (f : SecurityS → SecurityS) : (updSec s f).eumon = s.eumon := rfl
@[simp] theorem updSec_exps (s : State) (f : SecurityS → SecurityS) : (updSec s f).exps = s.exps := rfl
@[simp] theorem updSec_clk (s : State) (f : SecurityS → SecurityS) : (updSec s f).clk = s.clk := rfl
@[simp] theorem updSec_fabric (s : State) (f : SecurityS → SecurityS) : (updSec s f).fabric = s.fabric := rfl
@[simp] theorem updSec_power (s : State) (f : SecurityS → SecurityS) : (updSec s f).power = s.power := rfl
@[simp] theorem updSec_cle (s : State) (f : SecurityS → SecurityS) : (updSec s f).cle = s.cle := rfl
@[simp] theorem updSec_host (s : State) (f : SecurityS → SecurityS) : (updSec s f).host = s.host := rfl
@[simp] theorem updSec_mail (s : State) (f : SecurityS → SecurityS) : (updSec s f).mail = s.mail := rfl
@[simp] theorem updSec_sys (s : State) (f : SecurityS → SecurityS) : (updSec s f).sys = s.sys := rfl
@[simp] theorem updSec_arrOf (s : State) (f : SecurityS → SecurityS) (k : Nat) : arrOf (updSec s f) k = arrOf s k := rfl
@[simp] theorem updSec_vxeOf (s : State) (f : SecurityS → SecurityS) (k : Nat) : vxeOf (updSec s f) k = vxeOf s k := rfl
@[simp] theorem updSec_seqOf (s : State) (f : SecurityS → SecurityS) (k : Nat) : seqOf (updSec s f) k = seqOf s k := rfl
@[simp] theorem updSec_negOf (s : State) (f : SecurityS → SecurityS) (k : Nat) : negOf (updSec s f) k = negOf s k := rfl
@[simp] theorem updSec_reelOf (s : State) (f : SecurityS → SecurityS) (k : Nat) : reelOf (updSec s f) k = reelOf s k := rfl
@[simp] theorem updSec_chanOf (s : State) (f : SecurityS → SecurityS) (k : Nat) : chanOf (updSec s f) k = chanOf s k := rfl
@[simp] theorem updSec_regOf (s : State) (f : SecurityS → SecurityS) (k : Nat) : regOf (updSec s f) k = regOf s k := rfl
@[simp] theorem updSec_pairOf (s : State) (f : SecurityS → SecurityS) (k : Nat) : pairOf (updSec s f) k = pairOf s k := rfl
@[simp] theorem updSec_flashOf (s : State) (f : SecurityS → SecurityS) (k : Nat) : flashOf (updSec s f) k = flashOf s k := rfl
@[simp] theorem updSec_portOf (s : State) (f : SecurityS → SecurityS) (k : Nat) : portOf (updSec s f) k = portOf s k := rfl
@[simp] theorem updSec_outOf (s : State) (f : SecurityS → SecurityS) (k : Nat) : outOf (updSec s f) k = outOf s k := rfl
@[simp] theorem updSec_engOf (s : State) (f : SecurityS → SecurityS) (k : Nat) : engOf (updSec s f) k = engOf s k := rfl
@[simp] theorem updSec_laneOf (s : State) (f : SecurityS → SecurityS) (k : Nat) : laneOf (updSec s f) k = laneOf s k := rfl
@[simp] theorem updSec_laserOf (s : State) (f : SecurityS → SecurityS) (k : Nat) : laserOf (updSec s f) k = laserOf s k := rfl
@[simp] theorem updSec_optPortOf (s : State) (f : SecurityS → SecurityS) (k : Nat) : optPortOf (updSec s f) k = optPortOf s k := rfl
@[simp] theorem updSec_winOf (s : State) (f : SecurityS → SecurityS) (k : Nat) : winOf (updSec s f) k = winOf s k := rfl
@[simp] theorem updSec_hportOf (s : State) (f : SecurityS → SecurityS) (k : Nat) : hportOf (updSec s f) k = hportOf s k := rfl
@[simp] theorem updSec_pointOf (s : State) (f : SecurityS → SecurityS) (k : Nat) : pointOf (updSec s f) k = pointOf s k := rfl
@[simp] theorem updSec_expOf (s : State) (f : SecurityS → SecurityS) (k : Nat) : expOf (updSec s f) k = expOf s k := rfl
@[simp] theorem updSec_funcOf (s : State) (f : SecurityS → SecurityS) (k : Nat) : funcOf (updSec s f) k = funcOf s k := rfl
@[simp] theorem updSec_linkOf (s : State) (f : SecurityS → SecurityS) (k : Nat) : linkOf (updSec s f) k = linkOf s k := rfl
@[simp] theorem updSec_chOf (s : State) (f : SecurityS → SecurityS) (k : Nat) : chOf (updSec s f) k = chOf s k := rfl
@[simp] theorem updSec_slotOf (s : State) (f : SecurityS → SecurityS) (k : Nat) : slotOf (updSec s f) k = slotOf s k := rfl
@[simp] theorem updProp_now (s : State) (i : Nat) (f : ProposalS → ProposalS) : (updProp s i f).now = s.now := rfl
@[simp] theorem updProp_free (s : State) (i : Nat) (f : ProposalS → ProposalS) : (updProp s i f).free = s.free := rfl
@[simp] theorem updProp_out (s : State) (i : Nat) (f : ProposalS → ProposalS) : (updProp s i f).out = s.out := rfl
@[simp] theorem updProp_pending (s : State) (i : Nat) (f : ProposalS → ProposalS) : (updProp s i f).pending = s.pending := rfl
@[simp] theorem updProp_arrays (s : State) (i : Nat) (f : ProposalS → ProposalS) : (updProp s i f).arrays = s.arrays := rfl
@[simp] theorem updProp_dbg (s : State) (i : Nat) (f : ProposalS → ProposalS) : (updProp s i f).dbg = s.dbg := rfl
@[simp] theorem updProp_vxes (s : State) (i : Nat) (f : ProposalS → ProposalS) : (updProp s i f).vxes = s.vxes := rfl
@[simp] theorem updProp_seqs (s : State) (i : Nat) (f : ProposalS → ProposalS) : (updProp s i f).seqs = s.seqs := rfl
@[simp] theorem updProp_negs (s : State) (i : Nat) (f : ProposalS → ProposalS) : (updProp s i f).negs = s.negs := rfl
@[simp] theorem updProp_reels (s : State) (i : Nat) (f : ProposalS → ProposalS) : (updProp s i f).reels = s.reels := rfl
@[simp] theorem updProp_watchdogs (s : State) (i : Nat) (f : ProposalS → ProposalS) : (updProp s i f).watchdogs = s.watchdogs := rfl
@[simp] theorem updProp_mem (s : State) (i : Nat) (f : ProposalS → ProposalS) : (updProp s i f).mem = s.mem := rfl
@[simp] theorem updProp_optics (s : State) (i : Nat) (f : ProposalS → ProposalS) : (updProp s i f).optics = s.optics := rfl
@[simp] theorem updProp_ev (s : State) (i : Nat) (f : ProposalS → ProposalS) : (updProp s i f).ev = s.ev := rfl
@[simp] theorem updProp_eumon (s : State) (i : Nat) (f : ProposalS → ProposalS) : (updProp s i f).eumon = s.eumon := rfl
@[simp] theorem updProp_exps (s : State) (i : Nat) (f : ProposalS → ProposalS) : (updProp s i f).exps = s.exps := rfl
@[simp] theorem updProp_clk (s : State) (i : Nat) (f : ProposalS → ProposalS) : (updProp s i f).clk = s.clk := rfl
@[simp] theorem updProp_fabric (s : State) (i : Nat) (f : ProposalS → ProposalS) : (updProp s i f).fabric = s.fabric := rfl
@[simp] theorem updProp_power (s : State) (i : Nat) (f : ProposalS → ProposalS) : (updProp s i f).power = s.power := rfl
@[simp] theorem updProp_cle (s : State) (i : Nat) (f : ProposalS → ProposalS) : (updProp s i f).cle = s.cle := rfl
@[simp] theorem updProp_host (s : State) (i : Nat) (f : ProposalS → ProposalS) : (updProp s i f).host = s.host := rfl
@[simp] theorem updProp_mail (s : State) (i : Nat) (f : ProposalS → ProposalS) : (updProp s i f).mail = s.mail := rfl
@[simp] theorem updProp_sys (s : State) (i : Nat) (f : ProposalS → ProposalS) : (updProp s i f).sys = s.sys := rfl
@[simp] theorem updProp_arrOf (s : State) (i : Nat) (f : ProposalS → ProposalS) (k : Nat) : arrOf (updProp s i f) k = arrOf s k := rfl
@[simp] theorem updProp_vxeOf (s : State) (i : Nat) (f : ProposalS → ProposalS) (k : Nat) : vxeOf (updProp s i f) k = vxeOf s k := rfl
@[simp] theorem updProp_seqOf (s : State) (i : Nat) (f : ProposalS → ProposalS) (k : Nat) : seqOf (updProp s i f) k = seqOf s k := rfl
@[simp] theorem updProp_negOf (s : State) (i : Nat) (f : ProposalS → ProposalS) (k : Nat) : negOf (updProp s i f) k = negOf s k := rfl
@[simp] theorem updProp_reelOf (s : State) (i : Nat) (f : ProposalS → ProposalS) (k : Nat) : reelOf (updProp s i f) k = reelOf s k := rfl
@[simp] theorem updProp_chanOf (s : State) (i : Nat) (f : ProposalS → ProposalS) (k : Nat) : chanOf (updProp s i f) k = chanOf s k := rfl
@[simp] theorem updProp_regOf (s : State) (i : Nat) (f : ProposalS → ProposalS) (k : Nat) : regOf (updProp s i f) k = regOf s k := rfl
@[simp] theorem updProp_pairOf (s : State) (i : Nat) (f : ProposalS → ProposalS) (k : Nat) : pairOf (updProp s i f) k = pairOf s k := rfl
@[simp] theorem updProp_flashOf (s : State) (i : Nat) (f : ProposalS → ProposalS) (k : Nat) : flashOf (updProp s i f) k = flashOf s k := rfl
@[simp] theorem updProp_portOf (s : State) (i : Nat) (f : ProposalS → ProposalS) (k : Nat) : portOf (updProp s i f) k = portOf s k := rfl
@[simp] theorem updProp_outOf (s : State) (i : Nat) (f : ProposalS → ProposalS) (k : Nat) : outOf (updProp s i f) k = outOf s k := rfl
@[simp] theorem updProp_engOf (s : State) (i : Nat) (f : ProposalS → ProposalS) (k : Nat) : engOf (updProp s i f) k = engOf s k := rfl
@[simp] theorem updProp_laneOf (s : State) (i : Nat) (f : ProposalS → ProposalS) (k : Nat) : laneOf (updProp s i f) k = laneOf s k := rfl
@[simp] theorem updProp_laserOf (s : State) (i : Nat) (f : ProposalS → ProposalS) (k : Nat) : laserOf (updProp s i f) k = laserOf s k := rfl
@[simp] theorem updProp_optPortOf (s : State) (i : Nat) (f : ProposalS → ProposalS) (k : Nat) : optPortOf (updProp s i f) k = optPortOf s k := rfl
@[simp] theorem updProp_winOf (s : State) (i : Nat) (f : ProposalS → ProposalS) (k : Nat) : winOf (updProp s i f) k = winOf s k := rfl
@[simp] theorem updProp_hportOf (s : State) (i : Nat) (f : ProposalS → ProposalS) (k : Nat) : hportOf (updProp s i f) k = hportOf s k := rfl
@[simp] theorem updProp_pointOf (s : State) (i : Nat) (f : ProposalS → ProposalS) (k : Nat) : pointOf (updProp s i f) k = pointOf s k := rfl
@[simp] theorem updProp_expOf (s : State) (i : Nat) (f : ProposalS → ProposalS) (k : Nat) : expOf (updProp s i f) k = expOf s k := rfl
@[simp] theorem updProp_funcOf (s : State) (i : Nat) (f : ProposalS → ProposalS) (k : Nat) : funcOf (updProp s i f) k = funcOf s k := rfl
@[simp] theorem updProp_linkOf (s : State) (i : Nat) (f : ProposalS → ProposalS) (k : Nat) : linkOf (updProp s i f) k = linkOf s k := rfl
@[simp] theorem updProp_chOf (s : State) (i : Nat) (f : ProposalS → ProposalS) (k : Nat) : chOf (updProp s i f) k = chOf s k := rfl
@[simp] theorem updProp_slotOf (s : State) (i : Nat) (f : ProposalS → ProposalS) (k : Nat) : slotOf (updProp s i f) k = slotOf s k := rfl
@[simp] theorem updSession_now (s : State) (i : U32) (f : Session → Session) : (updSession s i f).now = s.now := rfl
@[simp] theorem updSession_free (s : State) (i : U32) (f : Session → Session) : (updSession s i f).free = s.free := rfl
@[simp] theorem updSession_out (s : State) (i : U32) (f : Session → Session) : (updSession s i f).out = s.out := rfl
@[simp] theorem updSession_pending (s : State) (i : U32) (f : Session → Session) : (updSession s i f).pending = s.pending := rfl
@[simp] theorem updSession_arrays (s : State) (i : U32) (f : Session → Session) : (updSession s i f).arrays = s.arrays := rfl
@[simp] theorem updSession_dbg (s : State) (i : U32) (f : Session → Session) : (updSession s i f).dbg = s.dbg := rfl
@[simp] theorem updSession_vxes (s : State) (i : U32) (f : Session → Session) : (updSession s i f).vxes = s.vxes := rfl
@[simp] theorem updSession_seqs (s : State) (i : U32) (f : Session → Session) : (updSession s i f).seqs = s.seqs := rfl
@[simp] theorem updSession_negs (s : State) (i : U32) (f : Session → Session) : (updSession s i f).negs = s.negs := rfl
@[simp] theorem updSession_reels (s : State) (i : U32) (f : Session → Session) : (updSession s i f).reels = s.reels := rfl
@[simp] theorem updSession_watchdogs (s : State) (i : U32) (f : Session → Session) : (updSession s i f).watchdogs = s.watchdogs := rfl
@[simp] theorem updSession_mem (s : State) (i : U32) (f : Session → Session) : (updSession s i f).mem = s.mem := rfl
@[simp] theorem updSession_optics (s : State) (i : U32) (f : Session → Session) : (updSession s i f).optics = s.optics := rfl
@[simp] theorem updSession_ev (s : State) (i : U32) (f : Session → Session) : (updSession s i f).ev = s.ev := rfl
@[simp] theorem updSession_exps (s : State) (i : U32) (f : Session → Session) : (updSession s i f).exps = s.exps := rfl
@[simp] theorem updSession_sec (s : State) (i : U32) (f : Session → Session) : (updSession s i f).sec = s.sec := rfl
@[simp] theorem updSession_clk (s : State) (i : U32) (f : Session → Session) : (updSession s i f).clk = s.clk := rfl
@[simp] theorem updSession_fabric (s : State) (i : U32) (f : Session → Session) : (updSession s i f).fabric = s.fabric := rfl
@[simp] theorem updSession_power (s : State) (i : U32) (f : Session → Session) : (updSession s i f).power = s.power := rfl
@[simp] theorem updSession_cle (s : State) (i : U32) (f : Session → Session) : (updSession s i f).cle = s.cle := rfl
@[simp] theorem updSession_host (s : State) (i : U32) (f : Session → Session) : (updSession s i f).host = s.host := rfl
@[simp] theorem updSession_mail (s : State) (i : U32) (f : Session → Session) : (updSession s i f).mail = s.mail := rfl
@[simp] theorem updSession_sys (s : State) (i : U32) (f : Session → Session) : (updSession s i f).sys = s.sys := rfl
@[simp] theorem updSession_arrOf (s : State) (i : U32) (f : Session → Session) (k : Nat) : arrOf (updSession s i f) k = arrOf s k := rfl
@[simp] theorem updSession_vxeOf (s : State) (i : U32) (f : Session → Session) (k : Nat) : vxeOf (updSession s i f) k = vxeOf s k := rfl
@[simp] theorem updSession_seqOf (s : State) (i : U32) (f : Session → Session) (k : Nat) : seqOf (updSession s i f) k = seqOf s k := rfl
@[simp] theorem updSession_negOf (s : State) (i : U32) (f : Session → Session) (k : Nat) : negOf (updSession s i f) k = negOf s k := rfl
@[simp] theorem updSession_reelOf (s : State) (i : U32) (f : Session → Session) (k : Nat) : reelOf (updSession s i f) k = reelOf s k := rfl
@[simp] theorem updSession_chanOf (s : State) (i : U32) (f : Session → Session) (k : Nat) : chanOf (updSession s i f) k = chanOf s k := rfl
@[simp] theorem updSession_regOf (s : State) (i : U32) (f : Session → Session) (k : Nat) : regOf (updSession s i f) k = regOf s k := rfl
@[simp] theorem updSession_pairOf (s : State) (i : U32) (f : Session → Session) (k : Nat) : pairOf (updSession s i f) k = pairOf s k := rfl
@[simp] theorem updSession_flashOf (s : State) (i : U32) (f : Session → Session) (k : Nat) : flashOf (updSession s i f) k = flashOf s k := rfl
@[simp] theorem updSession_portOf (s : State) (i : U32) (f : Session → Session) (k : Nat) : portOf (updSession s i f) k = portOf s k := rfl
@[simp] theorem updSession_outOf (s : State) (i : U32) (f : Session → Session) (k : Nat) : outOf (updSession s i f) k = outOf s k := rfl
@[simp] theorem updSession_engOf (s : State) (i : U32) (f : Session → Session) (k : Nat) : engOf (updSession s i f) k = engOf s k := rfl
@[simp] theorem updSession_laneOf (s : State) (i : U32) (f : Session → Session) (k : Nat) : laneOf (updSession s i f) k = laneOf s k := rfl
@[simp] theorem updSession_laserOf (s : State) (i : U32) (f : Session → Session) (k : Nat) : laserOf (updSession s i f) k = laserOf s k := rfl
@[simp] theorem updSession_optPortOf (s : State) (i : U32) (f : Session → Session) (k : Nat) : optPortOf (updSession s i f) k = optPortOf s k := rfl
@[simp] theorem updSession_winOf (s : State) (i : U32) (f : Session → Session) (k : Nat) : winOf (updSession s i f) k = winOf s k := rfl
@[simp] theorem updSession_hportOf (s : State) (i : U32) (f : Session → Session) (k : Nat) : hportOf (updSession s i f) k = hportOf s k := rfl
@[simp] theorem updSession_pointOf (s : State) (i : U32) (f : Session → Session) (k : Nat) : pointOf (updSession s i f) k = pointOf s k := rfl
@[simp] theorem updSession_expOf (s : State) (i : U32) (f : Session → Session) (k : Nat) : expOf (updSession s i f) k = expOf s k := rfl
@[simp] theorem updSession_propOf (s : State) (i : U32) (f : Session → Session) (k : Nat) : propOf (updSession s i f) k = propOf s k := rfl
@[simp] theorem updSession_funcOf (s : State) (i : U32) (f : Session → Session) (k : Nat) : funcOf (updSession s i f) k = funcOf s k := rfl
@[simp] theorem updSession_linkOf (s : State) (i : U32) (f : Session → Session) (k : Nat) : linkOf (updSession s i f) k = linkOf s k := rfl
@[simp] theorem updSession_chOf (s : State) (i : U32) (f : Session → Session) (k : Nat) : chOf (updSession s i f) k = chOf s k := rfl
@[simp] theorem updSession_slotOf (s : State) (i : U32) (f : Session → Session) (k : Nat) : slotOf (updSession s i f) k = slotOf s k := rfl
@[simp] theorem updTransfer_now (s : State) (i : Nat) (f : Transfer → Transfer) : (updTransfer s i f).now = s.now := rfl
@[simp] theorem updTransfer_free (s : State) (i : Nat) (f : Transfer → Transfer) : (updTransfer s i f).free = s.free := rfl
@[simp] theorem updTransfer_out (s : State) (i : Nat) (f : Transfer → Transfer) : (updTransfer s i f).out = s.out := rfl
@[simp] theorem updTransfer_pending (s : State) (i : Nat) (f : Transfer → Transfer) : (updTransfer s i f).pending = s.pending := rfl
@[simp] theorem updTransfer_arrays (s : State) (i : Nat) (f : Transfer → Transfer) : (updTransfer s i f).arrays = s.arrays := rfl
@[simp] theorem updTransfer_dbg (s : State) (i : Nat) (f : Transfer → Transfer) : (updTransfer s i f).dbg = s.dbg := rfl
@[simp] theorem updTransfer_vxes (s : State) (i : Nat) (f : Transfer → Transfer) : (updTransfer s i f).vxes = s.vxes := rfl
@[simp] theorem updTransfer_seqs (s : State) (i : Nat) (f : Transfer → Transfer) : (updTransfer s i f).seqs = s.seqs := rfl
@[simp] theorem updTransfer_negs (s : State) (i : Nat) (f : Transfer → Transfer) : (updTransfer s i f).negs = s.negs := rfl
@[simp] theorem updTransfer_reels (s : State) (i : Nat) (f : Transfer → Transfer) : (updTransfer s i f).reels = s.reels := rfl
@[simp] theorem updTransfer_watchdogs (s : State) (i : Nat) (f : Transfer → Transfer) : (updTransfer s i f).watchdogs = s.watchdogs := rfl
@[simp] theorem updTransfer_mem (s : State) (i : Nat) (f : Transfer → Transfer) : (updTransfer s i f).mem = s.mem := rfl
@[simp] theorem updTransfer_optics (s : State) (i : Nat) (f : Transfer → Transfer) : (updTransfer s i f).optics = s.optics := rfl
@[simp] theorem updTransfer_ev (s : State) (i : Nat) (f : Transfer → Transfer) : (updTransfer s i f).ev = s.ev := rfl
@[simp] theorem updTransfer_exps (s : State) (i : Nat) (f : Transfer → Transfer) : (updTransfer s i f).exps = s.exps := rfl
@[simp] theorem updTransfer_sec (s : State) (i : Nat) (f : Transfer → Transfer) : (updTransfer s i f).sec = s.sec := rfl
@[simp] theorem updTransfer_clk (s : State) (i : Nat) (f : Transfer → Transfer) : (updTransfer s i f).clk = s.clk := rfl
@[simp] theorem updTransfer_fabric (s : State) (i : Nat) (f : Transfer → Transfer) : (updTransfer s i f).fabric = s.fabric := rfl
@[simp] theorem updTransfer_power (s : State) (i : Nat) (f : Transfer → Transfer) : (updTransfer s i f).power = s.power := rfl
@[simp] theorem updTransfer_cle (s : State) (i : Nat) (f : Transfer → Transfer) : (updTransfer s i f).cle = s.cle := rfl
@[simp] theorem updTransfer_host (s : State) (i : Nat) (f : Transfer → Transfer) : (updTransfer s i f).host = s.host := rfl
@[simp] theorem updTransfer_mail (s : State) (i : Nat) (f : Transfer → Transfer) : (updTransfer s i f).mail = s.mail := rfl
@[simp] theorem updTransfer_sys (s : State) (i : Nat) (f : Transfer → Transfer) : (updTransfer s i f).sys = s.sys := rfl
@[simp] theorem updTransfer_arrOf (s : State) (i : Nat) (f : Transfer → Transfer) (k : Nat) : arrOf (updTransfer s i f) k = arrOf s k := rfl
@[simp] theorem updTransfer_vxeOf (s : State) (i : Nat) (f : Transfer → Transfer) (k : Nat) : vxeOf (updTransfer s i f) k = vxeOf s k := rfl
@[simp] theorem updTransfer_seqOf (s : State) (i : Nat) (f : Transfer → Transfer) (k : Nat) : seqOf (updTransfer s i f) k = seqOf s k := rfl
@[simp] theorem updTransfer_negOf (s : State) (i : Nat) (f : Transfer → Transfer) (k : Nat) : negOf (updTransfer s i f) k = negOf s k := rfl
@[simp] theorem updTransfer_reelOf (s : State) (i : Nat) (f : Transfer → Transfer) (k : Nat) : reelOf (updTransfer s i f) k = reelOf s k := rfl
@[simp] theorem updTransfer_chanOf (s : State) (i : Nat) (f : Transfer → Transfer) (k : Nat) : chanOf (updTransfer s i f) k = chanOf s k := rfl
@[simp] theorem updTransfer_regOf (s : State) (i : Nat) (f : Transfer → Transfer) (k : Nat) : regOf (updTransfer s i f) k = regOf s k := rfl
@[simp] theorem updTransfer_pairOf (s : State) (i : Nat) (f : Transfer → Transfer) (k : Nat) : pairOf (updTransfer s i f) k = pairOf s k := rfl
@[simp] theorem updTransfer_flashOf (s : State) (i : Nat) (f : Transfer → Transfer) (k : Nat) : flashOf (updTransfer s i f) k = flashOf s k := rfl
@[simp] theorem updTransfer_portOf (s : State) (i : Nat) (f : Transfer → Transfer) (k : Nat) : portOf (updTransfer s i f) k = portOf s k := rfl
@[simp] theorem updTransfer_outOf (s : State) (i : Nat) (f : Transfer → Transfer) (k : Nat) : outOf (updTransfer s i f) k = outOf s k := rfl
@[simp] theorem updTransfer_engOf (s : State) (i : Nat) (f : Transfer → Transfer) (k : Nat) : engOf (updTransfer s i f) k = engOf s k := rfl
@[simp] theorem updTransfer_laneOf (s : State) (i : Nat) (f : Transfer → Transfer) (k : Nat) : laneOf (updTransfer s i f) k = laneOf s k := rfl
@[simp] theorem updTransfer_laserOf (s : State) (i : Nat) (f : Transfer → Transfer) (k : Nat) : laserOf (updTransfer s i f) k = laserOf s k := rfl
@[simp] theorem updTransfer_optPortOf (s : State) (i : Nat) (f : Transfer → Transfer) (k : Nat) : optPortOf (updTransfer s i f) k = optPortOf s k := rfl
@[simp] theorem updTransfer_winOf (s : State) (i : Nat) (f : Transfer → Transfer) (k : Nat) : winOf (updTransfer s i f) k = winOf s k := rfl
@[simp] theorem updTransfer_hportOf (s : State) (i : Nat) (f : Transfer → Transfer) (k : Nat) : hportOf (updTransfer s i f) k = hportOf s k := rfl
@[simp] theorem updTransfer_pointOf (s : State) (i : Nat) (f : Transfer → Transfer) (k : Nat) : pointOf (updTransfer s i f) k = pointOf s k := rfl
@[simp] theorem updTransfer_expOf (s : State) (i : Nat) (f : Transfer → Transfer) (k : Nat) : expOf (updTransfer s i f) k = expOf s k := rfl
@[simp] theorem updTransfer_propOf (s : State) (i : Nat) (f : Transfer → Transfer) (k : Nat) : propOf (updTransfer s i f) k = propOf s k := rfl
@[simp] theorem updTransfer_funcOf (s : State) (i : Nat) (f : Transfer → Transfer) (k : Nat) : funcOf (updTransfer s i f) k = funcOf s k := rfl
@[simp] theorem updTransfer_linkOf (s : State) (i : Nat) (f : Transfer → Transfer) (k : Nat) : linkOf (updTransfer s i f) k = linkOf s k := rfl
@[simp] theorem updTransfer_chOf (s : State) (i : Nat) (f : Transfer → Transfer) (k : Nat) : chOf (updTransfer s i f) k = chOf s k := rfl
@[simp] theorem updTransfer_slotOf (s : State) (i : Nat) (f : Transfer → Transfer) (k : Nat) : slotOf (updTransfer s i f) k = slotOf s k := rfl
@[simp] theorem updExp_now (s : State) (i : Nat) (f : ExpSlot → ExpSlot) : (updExp s i f).now = s.now := rfl
@[simp] theorem updExp_free (s : State) (i : Nat) (f : ExpSlot → ExpSlot) : (updExp s i f).free = s.free := rfl
@[simp] theorem updExp_out (s : State) (i : Nat) (f : ExpSlot → ExpSlot) : (updExp s i f).out = s.out := rfl
@[simp] theorem updExp_pending (s : State) (i : Nat) (f : ExpSlot → ExpSlot) : (updExp s i f).pending = s.pending := rfl
@[simp] theorem updExp_arrays (s : State) (i : Nat) (f : ExpSlot → ExpSlot) : (updExp s i f).arrays = s.arrays := rfl
@[simp] theorem updExp_dbg (s : State) (i : Nat) (f : ExpSlot → ExpSlot) : (updExp s i f).dbg = s.dbg := rfl
@[simp] theorem updExp_vxes (s : State) (i : Nat) (f : ExpSlot → ExpSlot) : (updExp s i f).vxes = s.vxes := rfl
@[simp] theorem updExp_seqs (s : State) (i : Nat) (f : ExpSlot → ExpSlot) : (updExp s i f).seqs = s.seqs := rfl
@[simp] theorem updExp_negs (s : State) (i : Nat) (f : ExpSlot → ExpSlot) : (updExp s i f).negs = s.negs := rfl
@[simp] theorem updExp_reels (s : State) (i : Nat) (f : ExpSlot → ExpSlot) : (updExp s i f).reels = s.reels := rfl
@[simp] theorem updExp_watchdogs (s : State) (i : Nat) (f : ExpSlot → ExpSlot) : (updExp s i f).watchdogs = s.watchdogs := rfl
@[simp] theorem updExp_mem (s : State) (i : Nat) (f : ExpSlot → ExpSlot) : (updExp s i f).mem = s.mem := rfl
@[simp] theorem updExp_optics (s : State) (i : Nat) (f : ExpSlot → ExpSlot) : (updExp s i f).optics = s.optics := rfl
@[simp] theorem updExp_ev (s : State) (i : Nat) (f : ExpSlot → ExpSlot) : (updExp s i f).ev = s.ev := rfl
@[simp] theorem updExp_eumon (s : State) (i : Nat) (f : ExpSlot → ExpSlot) : (updExp s i f).eumon = s.eumon := rfl
@[simp] theorem updExp_sec (s : State) (i : Nat) (f : ExpSlot → ExpSlot) : (updExp s i f).sec = s.sec := rfl
@[simp] theorem updExp_clk (s : State) (i : Nat) (f : ExpSlot → ExpSlot) : (updExp s i f).clk = s.clk := rfl
@[simp] theorem updExp_fabric (s : State) (i : Nat) (f : ExpSlot → ExpSlot) : (updExp s i f).fabric = s.fabric := rfl
@[simp] theorem updExp_power (s : State) (i : Nat) (f : ExpSlot → ExpSlot) : (updExp s i f).power = s.power := rfl
@[simp] theorem updExp_cle (s : State) (i : Nat) (f : ExpSlot → ExpSlot) : (updExp s i f).cle = s.cle := rfl
@[simp] theorem updExp_host (s : State) (i : Nat) (f : ExpSlot → ExpSlot) : (updExp s i f).host = s.host := rfl
@[simp] theorem updExp_mail (s : State) (i : Nat) (f : ExpSlot → ExpSlot) : (updExp s i f).mail = s.mail := rfl
@[simp] theorem updExp_sys (s : State) (i : Nat) (f : ExpSlot → ExpSlot) : (updExp s i f).sys = s.sys := rfl
@[simp] theorem updExp_arrOf (s : State) (i : Nat) (f : ExpSlot → ExpSlot) (k : Nat) : arrOf (updExp s i f) k = arrOf s k := rfl
@[simp] theorem updExp_vxeOf (s : State) (i : Nat) (f : ExpSlot → ExpSlot) (k : Nat) : vxeOf (updExp s i f) k = vxeOf s k := rfl
@[simp] theorem updExp_seqOf (s : State) (i : Nat) (f : ExpSlot → ExpSlot) (k : Nat) : seqOf (updExp s i f) k = seqOf s k := rfl
@[simp] theorem updExp_negOf (s : State) (i : Nat) (f : ExpSlot → ExpSlot) (k : Nat) : negOf (updExp s i f) k = negOf s k := rfl
@[simp] theorem updExp_reelOf (s : State) (i : Nat) (f : ExpSlot → ExpSlot) (k : Nat) : reelOf (updExp s i f) k = reelOf s k := rfl
@[simp] theorem updExp_chanOf (s : State) (i : Nat) (f : ExpSlot → ExpSlot) (k : Nat) : chanOf (updExp s i f) k = chanOf s k := rfl
@[simp] theorem updExp_regOf (s : State) (i : Nat) (f : ExpSlot → ExpSlot) (k : Nat) : regOf (updExp s i f) k = regOf s k := rfl
@[simp] theorem updExp_pairOf (s : State) (i : Nat) (f : ExpSlot → ExpSlot) (k : Nat) : pairOf (updExp s i f) k = pairOf s k := rfl
@[simp] theorem updExp_flashOf (s : State) (i : Nat) (f : ExpSlot → ExpSlot) (k : Nat) : flashOf (updExp s i f) k = flashOf s k := rfl
@[simp] theorem updExp_portOf (s : State) (i : Nat) (f : ExpSlot → ExpSlot) (k : Nat) : portOf (updExp s i f) k = portOf s k := rfl
@[simp] theorem updExp_outOf (s : State) (i : Nat) (f : ExpSlot → ExpSlot) (k : Nat) : outOf (updExp s i f) k = outOf s k := rfl
@[simp] theorem updExp_engOf (s : State) (i : Nat) (f : ExpSlot → ExpSlot) (k : Nat) : engOf (updExp s i f) k = engOf s k := rfl
@[simp] theorem updExp_laneOf (s : State) (i : Nat) (f : ExpSlot → ExpSlot) (k : Nat) : laneOf (updExp s i f) k = laneOf s k := rfl
@[simp] theorem updExp_laserOf (s : State) (i : Nat) (f : ExpSlot → ExpSlot) (k : Nat) : laserOf (updExp s i f) k = laserOf s k := rfl
@[simp] theorem updExp_optPortOf (s : State) (i : Nat) (f : ExpSlot → ExpSlot) (k : Nat) : optPortOf (updExp s i f) k = optPortOf s k := rfl
@[simp] theorem updExp_winOf (s : State) (i : Nat) (f : ExpSlot → ExpSlot) (k : Nat) : winOf (updExp s i f) k = winOf s k := rfl
@[simp] theorem updExp_hportOf (s : State) (i : Nat) (f : ExpSlot → ExpSlot) (k : Nat) : hportOf (updExp s i f) k = hportOf s k := rfl
@[simp] theorem updExp_pointOf (s : State) (i : Nat) (f : ExpSlot → ExpSlot) (k : Nat) : pointOf (updExp s i f) k = pointOf s k := rfl
@[simp] theorem updExp_propOf (s : State) (i : Nat) (f : ExpSlot → ExpSlot) (k : Nat) : propOf (updExp s i f) k = propOf s k := rfl
@[simp] theorem updExp_funcOf (s : State) (i : Nat) (f : ExpSlot → ExpSlot) (k : Nat) : funcOf (updExp s i f) k = funcOf s k := rfl
@[simp] theorem updExp_linkOf (s : State) (i : Nat) (f : ExpSlot → ExpSlot) (k : Nat) : linkOf (updExp s i f) k = linkOf s k := rfl
@[simp] theorem updExp_chOf (s : State) (i : Nat) (f : ExpSlot → ExpSlot) (k : Nat) : chOf (updExp s i f) k = chOf s k := rfl
@[simp] theorem updExp_slotOf (s : State) (i : Nat) (f : ExpSlot → ExpSlot) (k : Nat) : slotOf (updExp s i f) k = slotOf s k := rfl
@[simp] theorem emit_now (s : State) (o : Output) : (emit s o).now = s.now := rfl
@[simp] theorem emit_free (s : State) (o : Output) : (emit s o).free = s.free := rfl
@[simp] theorem emit_pending (s : State) (o : Output) : (emit s o).pending = s.pending := rfl
@[simp] theorem emit_arrays (s : State) (o : Output) : (emit s o).arrays = s.arrays := rfl
@[simp] theorem emit_dbg (s : State) (o : Output) : (emit s o).dbg = s.dbg := rfl
@[simp] theorem emit_vxes (s : State) (o : Output) : (emit s o).vxes = s.vxes := rfl
@[simp] theorem emit_seqs (s : State) (o : Output) : (emit s o).seqs = s.seqs := rfl
@[simp] theorem emit_negs (s : State) (o : Output) : (emit s o).negs = s.negs := rfl
@[simp] theorem emit_reels (s : State) (o : Output) : (emit s o).reels = s.reels := rfl
@[simp] theorem emit_watchdogs (s : State) (o : Output) : (emit s o).watchdogs = s.watchdogs := rfl
@[simp] theorem emit_mem (s : State) (o : Output) : (emit s o).mem = s.mem := rfl
@[simp] theorem emit_optics (s : State) (o : Output) : (emit s o).optics = s.optics := rfl
@[simp] theorem emit_ev (s : State) (o : Output) : (emit s o).ev = s.ev := rfl
@[simp] theorem emit_eumon (s : State) (o : Output) : (emit s o).eumon = s.eumon := rfl
@[simp] theorem emit_exps (s : State) (o : Output) : (emit s o).exps = s.exps := rfl
@[simp] theorem emit_sec (s : State) (o : Output) : (emit s o).sec = s.sec := rfl
@[simp] theorem emit_clk (s : State) (o : Output) : (emit s o).clk = s.clk := rfl
@[simp] theorem emit_fabric (s : State) (o : Output) : (emit s o).fabric = s.fabric := rfl
@[simp] theorem emit_power (s : State) (o : Output) : (emit s o).power = s.power := rfl
@[simp] theorem emit_cle (s : State) (o : Output) : (emit s o).cle = s.cle := rfl
@[simp] theorem emit_host (s : State) (o : Output) : (emit s o).host = s.host := rfl
@[simp] theorem emit_mail (s : State) (o : Output) : (emit s o).mail = s.mail := rfl
@[simp] theorem emit_sys (s : State) (o : Output) : (emit s o).sys = s.sys := rfl
@[simp] theorem emit_arrOf (s : State) (o : Output) (k : Nat) : arrOf (emit s o) k = arrOf s k := rfl
@[simp] theorem emit_vxeOf (s : State) (o : Output) (k : Nat) : vxeOf (emit s o) k = vxeOf s k := rfl
@[simp] theorem emit_seqOf (s : State) (o : Output) (k : Nat) : seqOf (emit s o) k = seqOf s k := rfl
@[simp] theorem emit_negOf (s : State) (o : Output) (k : Nat) : negOf (emit s o) k = negOf s k := rfl
@[simp] theorem emit_reelOf (s : State) (o : Output) (k : Nat) : reelOf (emit s o) k = reelOf s k := rfl
@[simp] theorem emit_chanOf (s : State) (o : Output) (k : Nat) : chanOf (emit s o) k = chanOf s k := rfl
@[simp] theorem emit_regOf (s : State) (o : Output) (k : Nat) : regOf (emit s o) k = regOf s k := rfl
@[simp] theorem emit_pairOf (s : State) (o : Output) (k : Nat) : pairOf (emit s o) k = pairOf s k := rfl
@[simp] theorem emit_flashOf (s : State) (o : Output) (k : Nat) : flashOf (emit s o) k = flashOf s k := rfl
@[simp] theorem emit_portOf (s : State) (o : Output) (k : Nat) : portOf (emit s o) k = portOf s k := rfl
@[simp] theorem emit_outOf (s : State) (o : Output) (k : Nat) : outOf (emit s o) k = outOf s k := rfl
@[simp] theorem emit_engOf (s : State) (o : Output) (k : Nat) : engOf (emit s o) k = engOf s k := rfl
@[simp] theorem emit_laneOf (s : State) (o : Output) (k : Nat) : laneOf (emit s o) k = laneOf s k := rfl
@[simp] theorem emit_laserOf (s : State) (o : Output) (k : Nat) : laserOf (emit s o) k = laserOf s k := rfl
@[simp] theorem emit_optPortOf (s : State) (o : Output) (k : Nat) : optPortOf (emit s o) k = optPortOf s k := rfl
@[simp] theorem emit_winOf (s : State) (o : Output) (k : Nat) : winOf (emit s o) k = winOf s k := rfl
@[simp] theorem emit_hportOf (s : State) (o : Output) (k : Nat) : hportOf (emit s o) k = hportOf s k := rfl
@[simp] theorem emit_pointOf (s : State) (o : Output) (k : Nat) : pointOf (emit s o) k = pointOf s k := rfl
@[simp] theorem emit_expOf (s : State) (o : Output) (k : Nat) : expOf (emit s o) k = expOf s k := rfl
@[simp] theorem emit_propOf (s : State) (o : Output) (k : Nat) : propOf (emit s o) k = propOf s k := rfl
@[simp] theorem emit_funcOf (s : State) (o : Output) (k : Nat) : funcOf (emit s o) k = funcOf s k := rfl
@[simp] theorem emit_linkOf (s : State) (o : Output) (k : Nat) : linkOf (emit s o) k = linkOf s k := rfl
@[simp] theorem emit_chOf (s : State) (o : Output) (k : Nat) : chOf (emit s o) k = chOf s k := rfl
@[simp] theorem emit_slotOf (s : State) (o : Output) (k : Nat) : slotOf (emit s o) k = slotOf s k := rfl

/-! ### What each update changes -/

@[simp] theorem updArr_same (s : State) (i : Nat) (f : ArrayS → ArrayS) (h : i < 64) : arrOf (updArr s i f) i = f (arrOf s i) :=
  vget_vmod_same _ _ _ _ h
@[simp] theorem updArr_ne (s : State) (i : Nat) (f : ArrayS → ArrayS) (k : Nat) (h : i ≠ k) : arrOf (updArr s i f) k = arrOf s k :=
  vget_vmod_ne _ _ _ _ _ h
theorem updArr_twice (s : State) (i : Nat) (f g : ArrayS → ArrayS) : updArr (updArr s i f) i g = updArr s i (fun x => g (f x)) := by
  simp [updArr, vmod_vmod]
theorem updArr_congr (s : State) (i : Nat) (f g : ArrayS → ArrayS) (h : f (arrOf s i) = g (arrOf s i)) : updArr s i f = updArr s i g := by
  simp only [updArr]; rw [vmod_congr _ _ _ f g h]
@[simp] theorem updVxe_same (s : State) (i : Nat) (f : VxeS → VxeS) (h : i < 8) : vxeOf (updVxe s i f) i = f (vxeOf s i) :=
  vget_vmod_same _ _ _ _ h
@[simp] theorem updVxe_ne (s : State) (i : Nat) (f : VxeS → VxeS) (k : Nat) (h : i ≠ k) : vxeOf (updVxe s i f) k = vxeOf s k :=
  vget_vmod_ne _ _ _ _ _ h
theorem updVxe_twice (s : State) (i : Nat) (f g : VxeS → VxeS) : updVxe (updVxe s i f) i g = updVxe s i (fun x => g (f x)) := by
  simp [updVxe, vmod_vmod]
theorem updVxe_congr (s : State) (i : Nat) (f g : VxeS → VxeS) (h : f (vxeOf s i) = g (vxeOf s i)) : updVxe s i f = updVxe s i g := by
  simp only [updVxe]; rw [vmod_congr _ _ _ f g h]
@[simp] theorem updSeq_same (s : State) (i : Nat) (f : SeqS → SeqS) (h : i < 8) : seqOf (updSeq s i f) i = f (seqOf s i) :=
  vget_vmod_same _ _ _ _ h
@[simp] theorem updSeq_ne (s : State) (i : Nat) (f : SeqS → SeqS) (k : Nat) (h : i ≠ k) : seqOf (updSeq s i f) k = seqOf s k :=
  vget_vmod_ne _ _ _ _ _ h
theorem updSeq_twice (s : State) (i : Nat) (f g : SeqS → SeqS) : updSeq (updSeq s i f) i g = updSeq s i (fun x => g (f x)) := by
  simp [updSeq, vmod_vmod]
theorem updSeq_congr (s : State) (i : Nat) (f g : SeqS → SeqS) (h : f (seqOf s i) = g (seqOf s i)) : updSeq s i f = updSeq s i g := by
  simp only [updSeq]; rw [vmod_congr _ _ _ f g h]
@[simp] theorem updNeg_same (s : State) (i : Nat) (f : NegS → NegS) (h : i < 8) : negOf (updNeg s i f) i = f (negOf s i) :=
  vget_vmod_same _ _ _ _ h
@[simp] theorem updNeg_ne (s : State) (i : Nat) (f : NegS → NegS) (k : Nat) (h : i ≠ k) : negOf (updNeg s i f) k = negOf s k :=
  vget_vmod_ne _ _ _ _ _ h
theorem updNeg_twice (s : State) (i : Nat) (f g : NegS → NegS) : updNeg (updNeg s i f) i g = updNeg s i (fun x => g (f x)) := by
  simp [updNeg, vmod_vmod]
theorem updNeg_congr (s : State) (i : Nat) (f g : NegS → NegS) (h : f (negOf s i) = g (negOf s i)) : updNeg s i f = updNeg s i g := by
  simp only [updNeg]; rw [vmod_congr _ _ _ f g h]
@[simp] theorem updReel_same (s : State) (i : Nat) (f : ReelS → ReelS) (h : i < 68) : reelOf (updReel s i f) i = f (reelOf s i) :=
  vget_vmod_same _ _ _ _ h
@[simp] theorem updReel_ne (s : State) (i : Nat) (f : ReelS → ReelS) (k : Nat) (h : i ≠ k) : reelOf (updReel s i f) k = reelOf s k :=
  vget_vmod_ne _ _ _ _ _ h
theorem updReel_twice (s : State) (i : Nat) (f g : ReelS → ReelS) : updReel (updReel s i f) i g = updReel s i (fun x => g (f x)) := by
  simp [updReel, vmod_vmod]
theorem updReel_congr (s : State) (i : Nat) (f g : ReelS → ReelS) (h : f (reelOf s i) = g (reelOf s i)) : updReel s i f = updReel s i g := by
  simp only [updReel]; rw [vmod_congr _ _ _ f g h]
@[simp] theorem updChan_same (s : State) (i : Nat) (f : ChanS → ChanS) (h : i < 512) : chanOf (updChan s i f) i = f (chanOf s i) :=
  vget_vmod_same _ _ _ _ h
@[simp] theorem updChan_ne (s : State) (i : Nat) (f : ChanS → ChanS) (k : Nat) (h : i ≠ k) : chanOf (updChan s i f) k = chanOf s k :=
  vget_vmod_ne _ _ _ _ _ h
@[simp] theorem updChan_regOf (s : State) (i : Nat) (f : ChanS → ChanS) (k : Nat) : regOf (updChan s i f) k = regOf s k := rfl
@[simp] theorem updChan_pairOf (s : State) (i : Nat) (f : ChanS → ChanS) (k : Nat) : pairOf (updChan s i f) k = pairOf s k := rfl
@[simp] theorem updChan_flashOf (s : State) (i : Nat) (f : ChanS → ChanS) (k : Nat) : flashOf (updChan s i f) k = flashOf s k := rfl
@[simp] theorem updReg_same (s : State) (i : Nat) (f : RegionS → RegionS) (h : i < 256) : regOf (updReg s i f) i = f (regOf s i) :=
  vget_vmod_same _ _ _ _ h
@[simp] theorem updReg_ne (s : State) (i : Nat) (f : RegionS → RegionS) (k : Nat) (h : i ≠ k) : regOf (updReg s i f) k = regOf s k :=
  vget_vmod_ne _ _ _ _ _ h
@[simp] theorem updReg_chanOf (s : State) (i : Nat) (f : RegionS → RegionS) (k : Nat) : chanOf (updReg s i f) k = chanOf s k := rfl
@[simp] theorem updReg_pairOf (s : State) (i : Nat) (f : RegionS → RegionS) (k : Nat) : pairOf (updReg s i f) k = pairOf s k := rfl
@[simp] theorem updReg_flashOf (s : State) (i : Nat) (f : RegionS → RegionS) (k : Nat) : flashOf (updReg s i f) k = flashOf s k := rfl
@[simp] theorem updPair_same (s : State) (i : Nat) (f : PairS → PairS) (h : i < 8) : pairOf (updPair s i f) i = f (pairOf s i) :=
  vget_vmod_same _ _ _ _ h
@[simp] theorem updPair_ne (s : State) (i : Nat) (f : PairS → PairS) (k : Nat) (h : i ≠ k) : pairOf (updPair s i f) k = pairOf s k :=
  vget_vmod_ne _ _ _ _ _ h
@[simp] theorem updPair_chanOf (s : State) (i : Nat) (f : PairS → PairS) (k : Nat) : chanOf (updPair s i f) k = chanOf s k := rfl
@[simp] theorem updPair_regOf (s : State) (i : Nat) (f : PairS → PairS) (k : Nat) : regOf (updPair s i f) k = regOf s k := rfl
@[simp] theorem updPair_flashOf (s : State) (i : Nat) (f : PairS → PairS) (k : Nat) : flashOf (updPair s i f) k = flashOf s k := rfl
@[simp] theorem updFlash_same (s : State) (i : Nat) (f : FlashS → FlashS) (h : i < 2) : flashOf (updFlash s i f) i = f (flashOf s i) :=
  vget_vmod_same _ _ _ _ h
@[simp] theorem updFlash_ne (s : State) (i : Nat) (f : FlashS → FlashS) (k : Nat) (h : i ≠ k) : flashOf (updFlash s i f) k = flashOf s k :=
  vget_vmod_ne _ _ _ _ _ h
@[simp] theorem updFlash_chanOf (s : State) (i : Nat) (f : FlashS → FlashS) (k : Nat) : chanOf (updFlash s i f) k = chanOf s k := rfl
@[simp] theorem updFlash_regOf (s : State) (i : Nat) (f : FlashS → FlashS) (k : Nat) : regOf (updFlash s i f) k = regOf s k := rfl
@[simp] theorem updFlash_pairOf (s : State) (i : Nat) (f : FlashS → FlashS) (k : Nat) : pairOf (updFlash s i f) k = pairOf s k := rfl
@[simp] theorem updPort_same (s : State) (i : Nat) (f : PortS → PortS) (h : i < 48) : portOf (updPort s i f) i = f (portOf s i) :=
  vget_vmod_same _ _ _ _ h
@[simp] theorem updPort_ne (s : State) (i : Nat) (f : PortS → PortS) (k : Nat) (h : i ≠ k) : portOf (updPort s i f) k = portOf s k :=
  vget_vmod_ne _ _ _ _ _ h
@[simp] theorem updPort_outOf (s : State) (i : Nat) (f : PortS → PortS) (k : Nat) : outOf (updPort s i f) k = outOf s k := rfl
@[simp] theorem updOut_same (s : State) (i : Nat) (f : OutPort → OutPort) (h : i < 48) : outOf (updOut s i f) i = f (outOf s i) :=
  vget_vmod_same _ _ _ _ h
@[simp] theorem updOut_ne (s : State) (i : Nat) (f : OutPort → OutPort) (k : Nat) (h : i ≠ k) : outOf (updOut s i f) k = outOf s k :=
  vget_vmod_ne _ _ _ _ _ h
@[simp] theorem updOut_portOf (s : State) (i : Nat) (f : OutPort → OutPort) (k : Nat) : portOf (updOut s i f) k = portOf s k := rfl
@[simp] theorem updEng_same (s : State) (i : Nat) (f : EngineS → EngineS) (h : i < 32) : engOf (updEng s i f) i = f (engOf s i) :=
  vget_vmod_same _ _ _ _ h
@[simp] theorem updEng_ne (s : State) (i : Nat) (f : EngineS → EngineS) (k : Nat) (h : i ≠ k) : engOf (updEng s i f) k = engOf s k :=
  vget_vmod_ne _ _ _ _ _ h
@[simp] theorem updEng_laneOf (s : State) (i : Nat) (f : EngineS → EngineS) (k : Nat) : laneOf (updEng s i f) k = laneOf s k := rfl
@[simp] theorem updEng_laserOf (s : State) (i : Nat) (f : EngineS → EngineS) (k : Nat) : laserOf (updEng s i f) k = laserOf s k := rfl
@[simp] theorem updEng_optPortOf (s : State) (i : Nat) (f : EngineS → EngineS) (k : Nat) : optPortOf (updEng s i f) k = optPortOf s k := rfl
@[simp] theorem updLane_same (s : State) (i : Nat) (f : LaneS → LaneS) (h : i < 512) : laneOf (updLane s i f) i = f (laneOf s i) :=
  vget_vmod_same _ _ _ _ h
@[simp] theorem updLane_ne (s : State) (i : Nat) (f : LaneS → LaneS) (k : Nat) (h : i ≠ k) : laneOf (updLane s i f) k = laneOf s k :=
  vget_vmod_ne _ _ _ _ _ h
@[simp] theorem updLane_engOf (s : State) (i : Nat) (f : LaneS → LaneS) (k : Nat) : engOf (updLane s i f) k = engOf s k := rfl
@[simp] theorem updLane_laserOf (s : State) (i : Nat) (f : LaneS → LaneS) (k : Nat) : laserOf (updLane s i f) k = laserOf s k := rfl
@[simp] theorem updLane_optPortOf (s : State) (i : Nat) (f : LaneS → LaneS) (k : Nat) : optPortOf (updLane s i f) k = optPortOf s k := rfl
@[simp] theorem updLaser_same (s : State) (i : Nat) (f : LaserS → LaserS) (h : i < 16) : laserOf (updLaser s i f) i = f (laserOf s i) :=
  vget_vmod_same _ _ _ _ h
@[simp] theorem updLaser_ne (s : State) (i : Nat) (f : LaserS → LaserS) (k : Nat) (h : i ≠ k) : laserOf (updLaser s i f) k = laserOf s k :=
  vget_vmod_ne _ _ _ _ _ h
@[simp] theorem updLaser_engOf (s : State) (i : Nat) (f : LaserS → LaserS) (k : Nat) : engOf (updLaser s i f) k = engOf s k := rfl
@[simp] theorem updLaser_laneOf (s : State) (i : Nat) (f : LaserS → LaserS) (k : Nat) : laneOf (updLaser s i f) k = laneOf s k := rfl
@[simp] theorem updLaser_optPortOf (s : State) (i : Nat) (f : LaserS → LaserS) (k : Nat) : optPortOf (updLaser s i f) k = optPortOf s k := rfl
@[simp] theorem updOptPort_same (s : State) (i : Nat) (f : OptPortS → OptPortS) (h : i < 48) : optPortOf (updOptPort s i f) i = f (optPortOf s i) :=
  vget_vmod_same _ _ _ _ h
@[simp] theorem updOptPort_ne (s : State) (i : Nat) (f : OptPortS → OptPortS) (k : Nat) (h : i ≠ k) : optPortOf (updOptPort s i f) k = optPortOf s k :=
  vget_vmod_ne _ _ _ _ _ h
@[simp] theorem updOptPort_engOf (s : State) (i : Nat) (f : OptPortS → OptPortS) (k : Nat) : engOf (updOptPort s i f) k = engOf s k := rfl
@[simp] theorem updOptPort_laneOf (s : State) (i : Nat) (f : OptPortS → OptPortS) (k : Nat) : laneOf (updOptPort s i f) k = laneOf s k := rfl
@[simp] theorem updOptPort_laserOf (s : State) (i : Nat) (f : OptPortS → OptPortS) (k : Nat) : laserOf (updOptPort s i f) k = laserOf s k := rfl
@[simp] theorem updWin_same (s : State) (i : Nat) (f : WindowS → WindowS) (h : i < 256) : winOf (updWin s i f) i = f (winOf s i) :=
  vget_vmod_same _ _ _ _ h
@[simp] theorem updWin_ne (s : State) (i : Nat) (f : WindowS → WindowS) (k : Nat) (h : i ≠ k) : winOf (updWin s i f) k = winOf s k :=
  vget_vmod_ne _ _ _ _ _ h
@[simp] theorem updWin_hportOf (s : State) (i : Nat) (f : WindowS → WindowS) (k : Nat) : hportOf (updWin s i f) k = hportOf s k := rfl
@[simp] theorem updHport_same (s : State) (i : Nat) (f : HostPortS → HostPortS) (h : i < 2) : hportOf (updHport s i f) i = f (hportOf s i) :=
  vget_vmod_same _ _ _ _ h
@[simp] theorem updHport_ne (s : State) (i : Nat) (f : HostPortS → HostPortS) (k : Nat) (h : i ≠ k) : hportOf (updHport s i f) k = hportOf s k :=
  vget_vmod_ne _ _ _ _ _ h
@[simp] theorem updHport_winOf (s : State) (i : Nat) (f : HostPortS → HostPortS) (k : Nat) : winOf (updHport s i f) k = winOf s k := rfl
@[simp] theorem updPoint_same (s : State) (i : Nat) (f : InjPoint → InjPoint) (h : i < 17) : pointOf (updPoint s i f) i = f (pointOf s i) :=
  vget_vmod_same _ _ _ _ h
@[simp] theorem updPoint_ne (s : State) (i : Nat) (f : InjPoint → InjPoint) (k : Nat) (h : i ≠ k) : pointOf (updPoint s i f) k = pointOf s k :=
  vget_vmod_ne _ _ _ _ _ h
@[simp] theorem updFunc_same (s : State) (i : Nat) (f : FuncS → FuncS) (h : i < 10) : funcOf (updFunc s i f) i = f (funcOf s i) :=
  vget_vmod_same _ _ _ _ h
@[simp] theorem updFunc_ne (s : State) (i : Nat) (f : FuncS → FuncS) (k : Nat) (h : i ≠ k) : funcOf (updFunc s i f) k = funcOf s k :=
  vget_vmod_ne _ _ _ _ _ h
@[simp] theorem updFunc_linkOf (s : State) (i : Nat) (f : FuncS → FuncS) (k : Nat) : linkOf (updFunc s i f) k = linkOf s k := rfl
@[simp] theorem updLink_same (s : State) (i : Nat) (f : LinkS → LinkS) (h : i < 56) : linkOf (updLink s i f) i = f (linkOf s i) :=
  vget_vmod_same _ _ _ _ h
@[simp] theorem updLink_ne (s : State) (i : Nat) (f : LinkS → LinkS) (k : Nat) (h : i ≠ k) : linkOf (updLink s i f) k = linkOf s k :=
  vget_vmod_ne _ _ _ _ _ h
@[simp] theorem updLink_funcOf (s : State) (i : Nat) (f : LinkS → LinkS) (k : Nat) : funcOf (updLink s i f) k = funcOf s k := rfl
@[simp] theorem updCh_same (s : State) (i : Nat) (f : MailboxS → MailboxS) (h : i < 64) : chOf (updCh s i f) i = f (chOf s i) :=
  vget_vmod_same _ _ _ _ h
@[simp] theorem updCh_ne (s : State) (i : Nat) (f : MailboxS → MailboxS) (k : Nat) (h : i ≠ k) : chOf (updCh s i f) k = chOf s k :=
  vget_vmod_ne _ _ _ _ _ h
@[simp] theorem updSlot_same (s : State) (i : Nat) (f : GroupSlot → GroupSlot) (h : i < 64) : slotOf (updSlot s i f) i = f (slotOf s i) :=
  vget_vmod_same _ _ _ _ h
@[simp] theorem updSlot_ne (s : State) (i : Nat) (f : GroupSlot → GroupSlot) (k : Nat) (h : i ≠ k) : slotOf (updSlot s i f) k = slotOf s k :=
  vget_vmod_ne _ _ _ _ _ h
@[simp] theorem updProp_same (s : State) (i : Nat) (f : ProposalS → ProposalS) (h : i < 4) : propOf (updProp s i f) i = f (propOf s i) :=
  vget_vmod_same _ _ _ _ h
@[simp] theorem updProp_ne (s : State) (i : Nat) (f : ProposalS → ProposalS) (k : Nat) (h : i ≠ k) : propOf (updProp s i f) k = propOf s k :=
  vget_vmod_ne _ _ _ _ _ h
@[simp] theorem updExp_same (s : State) (i : Nat) (f : ExpSlot → ExpSlot) (h : i < 16) : expOf (updExp s i f) i = f (expOf s i) :=
  vget_vmod_same _ _ _ _ h
@[simp] theorem updExp_ne (s : State) (i : Nat) (f : ExpSlot → ExpSlot) (k : Nat) (h : i ≠ k) : expOf (updExp s i f) k = expOf s k :=
  vget_vmod_ne _ _ _ _ _ h

@[simp] theorem drawFree_fst (s : State) : (drawFree s).1 = s.free := rfl
@[simp] theorem drawFree_free (s : State) : (drawFree s).2.free = s.free + 1 := rfl
@[simp] theorem emit_out (s : State) (o : Output) : (emit s o).out = s.out ++ [o] := rfl
@[simp] theorem drawFree_now (s : State) : (drawFree s).2.now = s.now := rfl
@[simp] theorem drawFree_out (s : State) : (drawFree s).2.out = s.out := rfl
@[simp] theorem drawFree_pending (s : State) : (drawFree s).2.pending = s.pending := rfl
@[simp] theorem drawFree_arrays (s : State) : (drawFree s).2.arrays = s.arrays := rfl
@[simp] theorem drawFree_dbg (s : State) : (drawFree s).2.dbg = s.dbg := rfl
@[simp] theorem drawFree_vxes (s : State) : (drawFree s).2.vxes = s.vxes := rfl
@[simp] theorem drawFree_seqs (s : State) : (drawFree s).2.seqs = s.seqs := rfl
@[simp] theorem drawFree_negs (s : State) : (drawFree s).2.negs = s.negs := rfl
@[simp] theorem drawFree_reels (s : State) : (drawFree s).2.reels = s.reels := rfl
@[simp] theorem drawFree_watchdogs (s : State) : (drawFree s).2.watchdogs = s.watchdogs := rfl
@[simp] theorem drawFree_mem (s : State) : (drawFree s).2.mem = s.mem := rfl
@[simp] theorem drawFree_optics (s : State) : (drawFree s).2.optics = s.optics := rfl
@[simp] theorem drawFree_ev (s : State) : (drawFree s).2.ev = s.ev := rfl
@[simp] theorem drawFree_eumon (s : State) : (drawFree s).2.eumon = s.eumon := rfl
@[simp] theorem drawFree_exps (s : State) : (drawFree s).2.exps = s.exps := rfl
@[simp] theorem drawFree_sec (s : State) : (drawFree s).2.sec = s.sec := rfl
@[simp] theorem drawFree_clk (s : State) : (drawFree s).2.clk = s.clk := rfl
@[simp] theorem drawFree_fabric (s : State) : (drawFree s).2.fabric = s.fabric := rfl
@[simp] theorem drawFree_power (s : State) : (drawFree s).2.power = s.power := rfl
@[simp] theorem drawFree_cle (s : State) : (drawFree s).2.cle = s.cle := rfl
@[simp] theorem drawFree_host (s : State) : (drawFree s).2.host = s.host := rfl
@[simp] theorem drawFree_mail (s : State) : (drawFree s).2.mail = s.mail := rfl
@[simp] theorem drawFree_sys (s : State) : (drawFree s).2.sys = s.sys := rfl

end Sys2Proof.Machine
end

