-- ==== Sys2Proof/Laws/Memory.lean ====
section
/-! SUPPORT. The laws of addressed storage: a read after a write, a read elsewhere, the canonical form that every operation
keeps, and the places of the state one by one. -/

namespace Sys2Proof.Machine

/-! ### Cells -/

theorem cellsLoad_append (d : Byte) (x : Nat) (xs ys : List Host.Cell) :
    cellsLoad d x (xs ++ ys) = cellsLoad (cellsLoad d x ys) x xs := by
  induction xs with
  | nil => rfl
  | cons c cs ih =>
    obtain ⟨b, v⟩ := c
    simp only [List.cons_append, cellsLoad, ih]

theorem cellsLoad_absent (d : Byte) (x : Nat) (cs : List Host.Cell) (h : ∀ c ∈ cs, c.1 ≠ x) : cellsLoad d x cs = d := by
  induction cs with
  | nil => rfl
  | cons c cs ih =>
    obtain ⟨b, v⟩ := c
    simp only [cellsLoad]
    rw [if_neg (h (b, v) (List.mem_cons_self ..)), ih (fun c hc => h c (List.mem_cons_of_mem _ hc))]

theorem cellsLoad_filter (d : Byte) (x : Nat) (p : Nat → Bool) (cs : List Host.Cell) (h : p x = true) :
    cellsLoad d x (cs.filter (fun c => p c.1)) = cellsLoad d x cs := by
  induction cs with
  | nil => rfl
  | cons c cs ih =>
    obtain ⟨b, v⟩ := c
    rw [List.filter_cons]
    by_cases hp : p b = true
    · rw [if_pos hp]
      simp only [cellsLoad, ih]
    · rw [if_neg hp, ih]
      simp only [cellsLoad]
      rw [if_neg (fun e : b = x => hp (by rw [e]; exact h))]

/-- Where a byte of a cell list lies, and that none equals the blank. -/
theorem cellsOf_mem {blank : Nat → Byte} {vs : List Byte} {a : Nat} {c : Host.Cell} (h : c ∈ cellsOf blank a vs) :
    a ≤ c.1 ∧ c.1 < a + vs.length ∧ c.2 ≠ blank c.1 := by
  induction vs generalizing a with
  | nil => simp [cellsOf] at h
  | cons v vs ih =>
    simp only [cellsOf] at h
    split at h
    · obtain ⟨h1, h2, h3⟩ := ih h
      simp only [List.length_cons]
      exact ⟨by omega, by omega, h3⟩
    · rcases List.mem_cons.mp h with rfl | h
      · simp only [List.length_cons]
        exact ⟨Nat.le_refl _, by omega, by assumption⟩
      · obtain ⟨h1, h2, h3⟩ := ih h
        simp only [List.length_cons]
        exact ⟨by omega, by omega, h3⟩

theorem cellsOf_sorted (blank : Nat → Byte) (vs : List Byte) (a : Nat) :
    (cellsOf blank a vs).Pairwise (fun x y => x.1 < y.1) := by
  induction vs generalizing a with
  | nil => exact List.Pairwise.nil
  | cons v vs ih =>
    simp only [cellsOf]
    split
    · exact ih _
    · exact List.Pairwise.cons (fun c hc => (cellsOf_mem hc).1) (ih _)

theorem cellsLoad_cellsOf (blank : Nat → Byte) (vs : List Byte) (a x : Nat) (h : a ≤ x) (h' : x < a + vs.length) :
    cellsLoad (blank x) x (cellsOf blank a vs) = vs.getD (x - a) 0#8 := by
  induction vs generalizing a with
  | nil => simp at h'; omega
  | cons v vs ih =>
    simp only [List.length_cons] at h'
    by_cases e : a = x
    · subst e
      simp only [cellsOf, Nat.sub_self, List.getD_cons_zero]
      split
      · rw [cellsLoad_absent _ _ _ (fun c hc => by have := (cellsOf_mem hc).1; omega)]
        exact (by assumption : v = blank a).symm
      · simp [cellsLoad]
    · have g : (v :: vs).getD (x - a) 0#8 = vs.getD (x - (a + 1)) 0#8 := by
        have : x - a = (x - (a + 1)) + 1 := by omega
        rw [this, List.getD_cons_succ]
      rw [g]
      simp only [cellsOf]
      split
      · exact ih (a + 1) (by omega) (by omega)
      · simp only [cellsLoad]
        rw [if_neg e]
        exact ih (a + 1) (by omega) (by omega)

/-! ### The canonical form -/

theorem memWf_iff (m : Mem) :
    memWf m = true ↔ m.cells.Pairwise (fun x y => x.1 < y.1) ∧ ∀ c ∈ m.cells, c.2 ≠ memBlank m c.1 := by
  simp only [memWf, Bool.and_eq_true, decide_eq_true_eq, List.all_eq_true, bne_iff_ne]

@[simp] theorem memWf_empty : memWf Mem.empty = true := by decide
@[simp] theorem memWf_scramble (k : Nat) : memWf (memScramble k) = true := by
  rw [memWf_iff]
  exact ⟨List.Pairwise.nil, fun c hc => by simp [memScramble] at hc⟩

@[simp] theorem memBlank_memStore (m : Mem) (a : Nat) (vs : List Byte) (x : Nat) : memBlank (memStore m a vs) x = memBlank m x := rfl

/-- A write keeps the canonical form. -/
theorem memStore_wf {m : Mem} (h : memWf m = true) (a : Nat) (vs : List Byte) : memWf (memStore m a vs) = true := by
  rw [memWf_iff] at h ⊢
  obtain ⟨hs, hb⟩ := h
  simp only [memStore]
  constructor
  · rw [List.pairwise_append, List.pairwise_append]
    refine ⟨⟨hs.filter _, cellsOf_sorted _ _ _, fun x hx y hy => ?_⟩, hs.filter _, fun x hx y hy => ?_⟩
    · have h1 := (List.mem_filter.mp hx).2
      have h2 := (cellsOf_mem hy).1
      simp only [decide_eq_true_eq] at h1
      omega
    · have h2 := (List.mem_filter.mp hy).2
      simp only [decide_eq_true_eq] at h2
      rcases List.mem_append.mp hx with hx | hx
      · have h1 := (List.mem_filter.mp hx).2
        simp only [decide_eq_true_eq] at h1
        omega
      · have h1 := (cellsOf_mem hx).2.1
        omega
  · intro c hc
    show c.2 ≠ memBlank m c.1
    rcases List.mem_append.mp hc with hc | hc
    · rcases List.mem_append.mp hc with hc | hc
      · exact hb c (List.mem_filter.mp hc).1
      · exact (cellsOf_mem hc).2.2
    · exact hb c (List.mem_filter.mp hc).1

/-! ### Reads after a write -/

/-- Every byte after a write: a written one reads as written, any other as before. -/
theorem memLoad_memStore (m : Mem) (a x : Nat) (vs : List Byte) :
    memLoad (memStore m a vs) x = if a ≤ x ∧ x < a + vs.length then vs.getD (x - a) 0#8 else memLoad m x := by
  simp only [memLoad, memStore]
  rw [cellsLoad_append, cellsLoad_append]
  show cellsLoad (cellsLoad (cellsLoad (memBlank m x) x _) x _) x _ = _
  by_cases h1 : a ≤ x
  · by_cases h2 : x < a + vs.length
    · rw [if_pos ⟨h1, h2⟩]
      rw [cellsLoad_absent _ x (m.cells.filter (fun c => a + vs.length ≤ c.1)) (fun c hc => by
          have := (List.mem_filter.mp hc).2
          simp only [decide_eq_true_eq] at this
          omega)]
      rw [cellsLoad_absent _ x (m.cells.filter (fun c => c.1 < a)) (fun c hc => by
          have := (List.mem_filter.mp hc).2
          simp only [decide_eq_true_eq] at this
          omega)]
      exact cellsLoad_cellsOf (memBlank m) vs a x h1 h2
    · rw [if_neg (fun h => h2 h.2)]
      rw [cellsLoad_absent _ x (m.cells.filter (fun c => c.1 < a)) (fun c hc => by
          have := (List.mem_filter.mp hc).2
          simp only [decide_eq_true_eq] at this
          omega)]
      rw [cellsLoad_absent _ x (cellsOf (memBlank m) a vs) (fun c hc => by
          have := (cellsOf_mem hc).2.1
          omega)]
      exact cellsLoad_filter _ x (fun b => decide (a + vs.length ≤ b)) m.cells (by simp; omega)
  · rw [if_neg (fun h => h1 h.1)]
    rw [cellsLoad_absent _ x (m.cells.filter (fun c => a + vs.length ≤ c.1)) (fun c hc => by
        have := (List.mem_filter.mp hc).2
        simp only [decide_eq_true_eq] at this
        omega)]
    rw [cellsLoad_absent _ x (cellsOf (memBlank m) a vs) (fun c hc => by
        have := (cellsOf_mem hc).1
        omega)]
    exact cellsLoad_filter _ x (fun b => decide (b < a)) m.cells (by simp; omega)

theorem memLoad_memStore_other {m : Mem} {a x : Nat} {vs : List Byte} (h : x < a ∨ a + vs.length ≤ x) :
    memLoad (memStore m a vs) x = memLoad m x := by
  rw [memLoad_memStore, if_neg (by omega)]

theorem memLoad_memStore_same {m : Mem} {a i : Nat} {vs : List Byte} (h : i < vs.length) :
    memLoad (memStore m a vs) (a + i) = vs.getD i 0#8 := by
  rw [memLoad_memStore, if_pos (by omega)]
  congr 1
  omega

/-! ### Runs of bytes -/

theorem sliceFrom_length (blank : Nat → Byte) (n a : Nat) (cs : List Host.Cell) : (sliceFrom blank n a cs).length = n := by
  induction n generalizing a cs with
  | zero => cases cs <;> rfl
  | succ n ih =>
    cases cs with
    | nil => simp [sliceFrom, ih]
    | cons c cs =>
      obtain ⟨b, v⟩ := c
      simp only [sliceFrom]
      split <;> simp [ih]

@[simp] theorem memLoadN_length (m : Mem) (a n : Nat) : (memLoadN m a n).length = n := sliceFrom_length _ _ _ _

theorem sliceFrom_get (blank : Nat → Byte) (n a i : Nat) (cs : List Host.Cell) (hs : cs.Pairwise (fun x y => x.1 < y.1))
    (ha : ∀ c ∈ cs, a ≤ c.1) (hi : i < n) : (sliceFrom blank n a cs).getD i 0#8 = cellsLoad (blank (a + i)) (a + i) cs := by
  induction n generalizing a i cs with
  | zero => omega
  | succ n ih =>
    cases cs with
    | nil =>
      simp only [sliceFrom, cellsLoad]
      cases i with
      | zero => simp
      | succ i =>
        rw [List.getD_cons_succ, ih (a + 1) i [] List.Pairwise.nil (fun c hc => by simp at hc) (by omega)]
        simp only [cellsLoad]
        congr 1
        omega
    | cons c cs =>
      obtain ⟨b, v⟩ := c
      have hb := ha (b, v) (List.mem_cons_self ..)
      have hlt : ∀ d ∈ cs, b < d.1 := fun d hd => (List.pairwise_cons.mp hs).1 d hd
      simp only at hb
      simp only [sliceFrom]
      split
      · rename_i e
        cases i with
        | zero => simp [cellsLoad, e]
        | succ i =>
          rw [List.getD_cons_succ, ih (a + 1) i cs (List.pairwise_cons.mp hs).2 (fun d hd => by have := hlt d hd; omega) (by omega)]
          simp only [cellsLoad]
          rw [if_neg (by omega), show a + (i + 1) = a + 1 + i by omega]
      · rename_i e
        cases i with
        | zero =>
          rw [List.getD_cons_zero]
          simp only [cellsLoad, Nat.add_zero]
          rw [if_neg e, cellsLoad_absent _ _ _ (fun d hd => by have := hlt d hd; omega)]
        | succ i =>
          rw [List.getD_cons_succ, ih (a + 1) i ((b, v) :: cs) hs (fun d hd => by
            rcases List.mem_cons.mp hd with rfl | hd
            · simp only; omega
            · have := hlt d hd; omega) (by omega), show a + (i + 1) = a + 1 + i by omega]

/-- A run of bytes is read byte by byte. -/
theorem memLoadN_get {m : Mem} (h : memWf m = true) (a : Nat) {n i : Nat} (hi : i < n) :
    (memLoadN m a n).getD i 0#8 = memLoad m (a + i) := by
  unfold memLoadN memLoad
  rw [sliceFrom_get _ _ _ _ _ ((memWf_iff m).mp h |>.1.filter _) (fun c hc => by simpa using (List.mem_filter.mp hc).2) hi]
  exact cellsLoad_filter _ _ (fun b => decide (a ≤ b)) m.cells (by simp)

/-- What has just been written is read back. -/
theorem memLoadN_memStore {m : Mem} (h : memWf m = true) (a : Nat) (vs : List Byte) :
    memLoadN (memStore m a vs) a vs.length = vs := by
  apply List.ext_getElem (by simp)
  intro i h1 h2
  have := memLoadN_get (memStore_wf h a vs) a (n := vs.length) h2
  rw [memLoad_memStore_same h2] at this
  simpa [List.getD_eq_getElem?_getD, h1, h2] using this

/-- A write does not change a run of bytes that it does not meet. -/
theorem memLoadN_memStore_other {m : Mem} (h : memWf m = true) {a b n : Nat} {vs : List Byte} (hd : b + n ≤ a ∨ a + vs.length ≤ b) :
    memLoadN (memStore m a vs) b n = memLoadN m b n := by
  apply List.ext_getElem (by simp)
  intro i h1 h2
  have hi : i < n := by simpa using h1
  have e1 := memLoadN_get (memStore_wf h a vs) b hi
  have e2 := memLoadN_get h b hi
  rw [memLoad_memStore_other (by omega), ← e2] at e1
  simp only [List.getD_eq_getElem?_getD, List.getElem?_eq_getElem h1, List.getElem?_eq_getElem h2, Option.getD_some] at e1
  exact e1

/-! ### Every storage of the state -/

/-- What StorageCanonical says of each part of the state. -/
theorem StorageCanonical.vget_bufs {s : State} (h : StorageCanonical s) (a : Nat) : memWf (arrOf s a).bufs = true := by
  unfold arrOf vget
  split
  · exact h.1 ⟨a, by assumption⟩
  · exact memWf_empty

theorem StorageCanonical.vget_die {s : State} (h : StorageCanonical s) (k : Nat) :
    memWf (vxeOf s k).mem = true ∧ memWf (seqOf s k).mem = true ∧ memWf (vget s.mem.store k Mem.empty) = true ∧
      memWf (vget s.mem.hbm k Mem.empty) = true ∧ memWf (vget s.mem.flash k Mem.empty) = true := by
  unfold vxeOf seqOf vget
  split
  · exact h.2 ⟨k, by assumption⟩
  · exact ⟨memWf_empty, memWf_empty, memWf_empty, memWf_empty, memWf_empty⟩

/-- Every place's storage is canonical. -/
theorem StorageCanonical.place {s : State} (h : StorageCanonical s) (pl : Place) : memWf (placeMem s pl) = true := by
  unfold placeMem
  split
  · exact h.vget_bufs _
  · exact (h.vget_die _).1
  · exact (h.vget_die _).2.2.1
  · exact (h.vget_die _).2.2.2.1
  · exact (h.vget_die _).2.2.2.2
  · exact (h.vget_die _).2.1
  · exact memWf_empty

/-- The state's storages and nothing else decide the canonical form. -/
theorem StorageCanonical.congr {s t : State} (h : StorageCanonical s) (h1 : t.arrays = s.arrays) (h2 : t.vxes = s.vxes)
    (h3 : t.seqs = s.seqs) (h4 : t.mem.store = s.mem.store) (h5 : t.mem.hbm = s.mem.hbm) (h6 : t.mem.flash = s.mem.flash) :
    StorageCanonical t := by
  unfold StorageCanonical at h ⊢
  rw [h1, h2, h3, h4, h5, h6]
  exact h

theorem vmod_all {α : Type} {n : Nat} (P : α → Prop) (v : Vector α n) (i : Nat) (f : α → α) (h : ∀ k : Fin n, P v[k])
    (hf : ∀ x : α, P x → P (f x)) (k : Fin n) : P (vmod v i f)[k] := by
  unfold vmod
  split
  · rename_i hi
    by_cases e : i = k.val
    · subst e
      simpa using hf _ (h k)
    · have : (v.set i (f v[i]) hi)[k] = v[k] := by
        simp only [Fin.getElem_fin]
        exact Vector.getElem_set_ne hi k.isLt e
      rw [this]
      exact h k
  · exact h k

theorem StorageCanonical.updArr {s : State} (h : StorageCanonical s) (i : Nat) (f : ArrayS → ArrayS)
    (hf : ∀ x : ArrayS, memWf x.bufs = true → memWf (f x).bufs = true) : StorageCanonical (updArr s i f) :=
  ⟨vmod_all (fun x => memWf x.bufs = true) s.arrays i f h.1 hf, h.2⟩

theorem StorageCanonical.updVxe {s : State} (h : StorageCanonical s) (i : Nat) (f : VxeS → VxeS)
    (hf : ∀ x : VxeS, memWf x.mem = true → memWf (f x).mem = true) : StorageCanonical (updVxe s i f) :=
  ⟨h.1, fun k => ⟨vmod_all (fun x => memWf x.mem = true) s.vxes i f (fun k => (h.2 k).1) hf k, (h.2 k).2⟩⟩

theorem StorageCanonical.updSeq {s : State} (h : StorageCanonical s) (i : Nat) (f : SeqS → SeqS)
    (hf : ∀ x : SeqS, memWf x.mem = true → memWf (f x).mem = true) : StorageCanonical (updSeq s i f) :=
  ⟨h.1, fun k => ⟨(h.2 k).1, vmod_all (fun x => memWf x.mem = true) s.seqs i f (fun k => (h.2 k).2.1) hf k, (h.2 k).2.2⟩⟩

/-- A change of one place's storage that keeps the form keeps it everywhere. -/
theorem StorageCanonical.updPlace {s : State} (h : StorageCanonical s) (pl : Place) (f : Mem → Mem)
    (hf : ∀ m : Mem, memWf m = true → memWf (f m) = true) : StorageCanonical (updPlace s pl f) := by
  unfold Sys2Proof.Machine.updPlace
  split
  · exact h.updArr _ _ (fun x hx => hf _ hx)
  · exact h.updVxe _ _ (fun x hx => hf _ hx)
  · exact ⟨h.1, fun k => ⟨(h.2 k).1, (h.2 k).2.1, vmod_all (fun m => memWf m = true) s.mem.store _ f (fun k => (h.2 k).2.2.1) hf k,
      (h.2 k).2.2.2⟩⟩
  · exact ⟨h.1, fun k => ⟨(h.2 k).1, (h.2 k).2.1, (h.2 k).2.2.1,
      vmod_all (fun m => memWf m = true) s.mem.hbm _ f (fun k => (h.2 k).2.2.2.1) hf k, (h.2 k).2.2.2.2⟩⟩
  · exact ⟨h.1, fun k => ⟨(h.2 k).1, (h.2 k).2.1, (h.2 k).2.2.1, (h.2 k).2.2.2.1,
      vmod_all (fun m => memWf m = true) s.mem.flash _ f (fun k => (h.2 k).2.2.2.2) hf k⟩⟩
  · exact h.updSeq _ _ (fun x hx => hf _ hx)
  · exact h

/-- A write to a place keeps every storage canonical. -/
theorem StorageCanonical.placeStore {s : State} (h : StorageCanonical s) (pl : Place) (a : Nat) (vs : List Byte) :
    StorageCanonical (placeStore s pl a vs) :=
  (h.updPlace pl _ (fun _ hm => memStore_wf hm a vs)).congr rfl rfl rfl rfl rfl rfl

/-- So does what leaves a range indeterminate. -/
theorem StorageCanonical.scramble {s : State} (h : StorageCanonical s) (r : Region) : StorageCanonical (scramble s r) :=
  StorageCanonical.placeStore (s := (drawFree s).2) (h.congr rfl rfl rfl rfl rfl rfl) r.place r.lo (freeBytes (drawFree s).1 r.lo r.len)

/-! ### Places one by one -/

/-- A place that has storage. -/
def placeHolds : Place → Bool
  | .buf a => decide (a < 64)
  | .vxe d => decide (d < 8)
  | .store d => decide (d < 8)
  | .hbm p => decide (p < 8)
  | .flash p => decide (p < 8)
  | .seqMem d => decide (d < 8)
  | _ => false

theorem placeMem_updPlace_same (s : State) (pl : Place) (f : Mem → Mem) (h : placeHolds pl = true) :
    placeMem (updPlace s pl f) pl = f (placeMem s pl) := by
  cases pl <;> simp only [placeHolds, decide_eq_true_eq, Bool.false_eq_true] at h <;>
    simp [updPlace, placeMem, arrOf, updArr, vxeOf, updVxe, seqOf, updSeq, updMem, vget_vmod_same, h]

theorem placeMem_updPlace_ne (s : State) (pl q : Place) (f : Mem → Mem) (h : q ≠ pl) : placeMem (updPlace s pl f) q = placeMem s q := by
  cases pl <;> cases q <;>
    simp_all [updPlace, placeMem, arrOf, updArr, vxeOf, updVxe, seqOf, updSeq, updMem, vget_vmod_ne, Ne.symm]

theorem placeMem_placeStore_same (s : State) (pl : Place) (a : Nat) (vs : List Byte) (h : placeHolds pl = true) :
    placeMem (placeStore s pl a vs) pl = memStore (placeMem s pl) a vs := by
  have e : placeMem (placeStore s pl a vs) pl = placeMem (updPlace s pl (fun m => memStore m a vs)) pl := by cases pl <;> rfl
  rw [e, placeMem_updPlace_same s pl _ h]

/-- A write to a place leaves every other place alone. -/
theorem placeMem_placeStore_ne (s : State) (pl q : Place) (a : Nat) (vs : List Byte) (h : q ≠ pl) :
    placeMem (placeStore s pl a vs) q = placeMem s q := by
  have e : placeMem (placeStore s pl a vs) q = placeMem (updPlace s pl (fun m => memStore m a vs)) q := by cases q <;> rfl
  rw [e, placeMem_updPlace_ne s pl q _ h]

end Sys2Proof.Machine
end

