-- ==== Sys2Proof/Laws/Events.lean ====
section
/-! SUPPORT. What the operations that every family shares can do: raising an event, the fault list and the injection points
write the event state and nothing else; an event counts one occurrence of its code. What the passing of time leaves alone. -/

namespace Sys2Proof.Machine

/-! ### Folds -/

/-- What every step of a fold keeps, the fold keeps. -/
theorem foldl_keeps {A B C : Type} (g : A → C) (f : A → B → A) (h : ∀ a b, g (f a b) = g a) (l : List B) (s : A) :
    g (l.foldl f s) = g s := by
  induction l generalizing s with
  | nil => rfl
  | cons x l ih => rw [List.foldl_cons, ih, h]

/-- The same of a property. -/
theorem foldl_holds {A B : Type} (P : A → Prop) (f : A → B → A) (h : ∀ a b, P a → P (f a b)) (l : List B) (s : A) (hs : P s) :
    P (l.foldl f s) := by
  induction l generalizing s with
  | nil => exact hs
  | cons x l ih => exact ih _ (h _ _ hs)

/-! ### Events -/

/-- `record` writes the event state alone. -/
theorem record_only_ev (s : State) (code uk ui det : Nat) (inj : Bool) (part : Option Nat) : record s code uk ui det inj part = { s with ev := (record s code uk ui det inj part).ev } := by
  unfold record; dsimp only; split <;> rfl

@[simp] theorem record_now (s : State) (code uk ui det : Nat) (inj : Bool) (part : Option Nat) : (record s code uk ui det inj part).now = s.now := by rw [record_only_ev]
@[simp] theorem record_free (s : State) (code uk ui det : Nat) (inj : Bool) (part : Option Nat) : (record s code uk ui det inj part).free = s.free := by rw [record_only_ev]
@[simp] theorem record_out (s : State) (code uk ui det : Nat) (inj : Bool) (part : Option Nat) : (record s code uk ui det inj part).out = s.out := by rw [record_only_ev]
@[simp] theorem record_pending (s : State) (code uk ui det : Nat) (inj : Bool) (part : Option Nat) : (record s code uk ui det inj part).pending = s.pending := by rw [record_only_ev]
@[simp] theorem record_arrays (s : State) (code uk ui det : Nat) (inj : Bool) (part : Option Nat) : (record s code uk ui det inj part).arrays = s.arrays := by rw [record_only_ev]
@[simp] theorem record_dbg (s : State) (code uk ui det : Nat) (inj : Bool) (part : Option Nat) : (record s code uk ui det inj part).dbg = s.dbg := by rw [record_only_ev]
@[simp] theorem record_vxes (s : State) (code uk ui det : Nat) (inj : Bool) (part : Option Nat) : (record s code uk ui det inj part).vxes = s.vxes := by rw [record_only_ev]
@[simp] theorem record_seqs (s : State) (code uk ui det : Nat) (inj : Bool) (part : Option Nat) : (record s code uk ui det inj part).seqs = s.seqs := by rw [record_only_ev]
@[simp] theorem record_negs (s : State) (code uk ui det : Nat) (inj : Bool) (part : Option Nat) : (record s code uk ui det inj part).negs = s.negs := by rw [record_only_ev]
@[simp] theorem record_reels (s : State) (code uk ui det : Nat) (inj : Bool) (part : Option Nat) : (record s code uk ui det inj part).reels = s.reels := by rw [record_only_ev]
@[simp] theorem record_watchdogs (s : State) (code uk ui det : Nat) (inj : Bool) (part : Option Nat) : (record s code uk ui det inj part).watchdogs = s.watchdogs := by rw [record_only_ev]
@[simp] theorem record_mem (s : State) (code uk ui det : Nat) (inj : Bool) (part : Option Nat) : (record s code uk ui det inj part).mem = s.mem := by rw [record_only_ev]
@[simp] theorem record_optics (s : State) (code uk ui det : Nat) (inj : Bool) (part : Option Nat) : (record s code uk ui det inj part).optics = s.optics := by rw [record_only_ev]
@[simp] theorem record_eumon (s : State) (code uk ui det : Nat) (inj : Bool) (part : Option Nat) : (record s code uk ui det inj part).eumon = s.eumon := by rw [record_only_ev]
@[simp] theorem record_exps (s : State) (code uk ui det : Nat) (inj : Bool) (part : Option Nat) : (record s code uk ui det inj part).exps = s.exps := by rw [record_only_ev]
@[simp] theorem record_sec (s : State) (code uk ui det : Nat) (inj : Bool) (part : Option Nat) : (record s code uk ui det inj part).sec = s.sec := by rw [record_only_ev]
@[simp] theorem record_clk (s : State) (code uk ui det : Nat) (inj : Bool) (part : Option Nat) : (record s code uk ui det inj part).clk = s.clk := by rw [record_only_ev]
@[simp] theorem record_fabric (s : State) (code uk ui det : Nat) (inj : Bool) (part : Option Nat) : (record s code uk ui det inj part).fabric = s.fabric := by rw [record_only_ev]
@[simp] theorem record_power (s : State) (code uk ui det : Nat) (inj : Bool) (part : Option Nat) : (record s code uk ui det inj part).power = s.power := by rw [record_only_ev]
@[simp] theorem record_cle (s : State) (code uk ui det : Nat) (inj : Bool) (part : Option Nat) : (record s code uk ui det inj part).cle = s.cle := by rw [record_only_ev]
@[simp] theorem record_host (s : State) (code uk ui det : Nat) (inj : Bool) (part : Option Nat) : (record s code uk ui det inj part).host = s.host := by rw [record_only_ev]
@[simp] theorem record_mail (s : State) (code uk ui det : Nat) (inj : Bool) (part : Option Nat) : (record s code uk ui det inj part).mail = s.mail := by rw [record_only_ev]
@[simp] theorem record_sys (s : State) (code uk ui det : Nat) (inj : Bool) (part : Option Nat) : (record s code uk ui det inj part).sys = s.sys := by rw [record_only_ev]

/-- EVENTS_LOST is recorded, with the count of what was lost, or nothing happens. -/
theorem reportLost_cases (s : State) :
    reportLost s = record { s with ev := { s.ev with lostSince := 0, lostRaisedAt := some s.now } } 0x10 ukPACKAGE 0 s.ev.lostSince false none ∨
    reportLost s = s := by
  by_cases h : 0 < s.ev.lostSince ∧ (match s.ev.lostRaisedAt with
      | none => true
      | some t => decide (t + 1000000000 ≤ s.now)) = true
  · exact .inl (if_pos h)
  · exact .inr (if_neg h)

/-- `reportLost` writes the event state alone. -/
theorem reportLost_only_ev (s : State) : reportLost s = { s with ev := (reportLost s).ev } := by
  rcases reportLost_cases s with e | e
  · rw [e]
    exact record_only_ev { s with ev := { s.ev with lostSince := 0, lostRaisedAt := some s.now } } _ _ _ _ _ _
  · rw [e]

@[simp] theorem reportLost_now (s : State) : (reportLost s).now = s.now := by rw [reportLost_only_ev]
@[simp] theorem reportLost_free (s : State) : (reportLost s).free = s.free := by rw [reportLost_only_ev]
@[simp] theorem reportLost_out (s : State) : (reportLost s).out = s.out := by rw [reportLost_only_ev]
@[simp] theorem reportLost_pending (s : State) : (reportLost s).pending = s.pending := by rw [reportLost_only_ev]
@[simp] theorem reportLost_arrays (s : State) : (reportLost s).arrays = s.arrays := by rw [reportLost_only_ev]
@[simp] theorem reportLost_dbg (s : State) : (reportLost s).dbg = s.dbg := by rw [reportLost_only_ev]
@[simp] theorem reportLost_vxes (s : State) : (reportLost s).vxes = s.vxes := by rw [reportLost_only_ev]
@[simp] theorem reportLost_seqs (s : State) : (reportLost s).seqs = s.seqs := by rw [reportLost_only_ev]
@[simp] theorem reportLost_negs (s : State) : (reportLost s).negs = s.negs := by rw [reportLost_only_ev]
@[simp] theorem reportLost_reels (s : State) : (reportLost s).reels = s.reels := by rw [reportLost_only_ev]
@[simp] theorem reportLost_watchdogs (s : State) : (reportLost s).watchdogs = s.watchdogs := by rw [reportLost_only_ev]
@[simp] theorem reportLost_mem (s : State) : (reportLost s).mem = s.mem := by rw [reportLost_only_ev]
@[simp] theorem reportLost_optics (s : State) : (reportLost s).optics = s.optics := by rw [reportLost_only_ev]
@[simp] theorem reportLost_eumon (s : State) : (reportLost s).eumon = s.eumon := by rw [reportLost_only_ev]
@[simp] theorem reportLost_exps (s : State) : (reportLost s).exps = s.exps := by rw [reportLost_only_ev]
@[simp] theorem reportLost_sec (s : State) : (reportLost s).sec = s.sec := by rw [reportLost_only_ev]
@[simp] theorem reportLost_clk (s : State) : (reportLost s).clk = s.clk := by rw [reportLost_only_ev]
@[simp] theorem reportLost_fabric (s : State) : (reportLost s).fabric = s.fabric := by rw [reportLost_only_ev]
@[simp] theorem reportLost_power (s : State) : (reportLost s).power = s.power := by rw [reportLost_only_ev]
@[simp] theorem reportLost_cle (s : State) : (reportLost s).cle = s.cle := by rw [reportLost_only_ev]
@[simp] theorem reportLost_host (s : State) : (reportLost s).host = s.host := by rw [reportLost_only_ev]
@[simp] theorem reportLost_mail (s : State) : (reportLost s).mail = s.mail := by rw [reportLost_only_ev]
@[simp] theorem reportLost_sys (s : State) : (reportLost s).sys = s.sys := by rw [reportLost_only_ev]

/-- `raiseP` writes the event state alone. -/
theorem raiseP_only_ev (s : State) (code uk ui det : Nat) (inj : Bool) (part : Option Nat) : raiseP s code uk ui det inj part = { s with ev := (raiseP s code uk ui det inj part).ev } := by
  unfold raiseP; rw [reportLost_only_ev]; exact congrArg (fun t : State => { t with ev := (reportLost (record s code uk ui det inj part)).ev }) (record_only_ev s code uk ui det inj part)

@[simp] theorem raiseP_now (s : State) (code uk ui det : Nat) (inj : Bool) (part : Option Nat) : (raiseP s code uk ui det inj part).now = s.now := by rw [raiseP_only_ev]
@[simp] theorem raiseP_free (s : State) (code uk ui det : Nat) (inj : Bool) (part : Option Nat) : (raiseP s code uk ui det inj part).free = s.free := by rw [raiseP_only_ev]
@[simp] theorem raiseP_out (s : State) (code uk ui det : Nat) (inj : Bool) (part : Option Nat) : (raiseP s code uk ui det inj part).out = s.out := by rw [raiseP_only_ev]
@[simp] theorem raiseP_pending (s : State) (code uk ui det : Nat) (inj : Bool) (part : Option Nat) : (raiseP s code uk ui det inj part).pending = s.pending := by rw [raiseP_only_ev]
@[simp] theorem raiseP_arrays (s : State) (code uk ui det : Nat) (inj : Bool) (part : Option Nat) : (raiseP s code uk ui det inj part).arrays = s.arrays := by rw [raiseP_only_ev]
@[simp] theorem raiseP_dbg (s : State) (code uk ui det : Nat) (inj : Bool) (part : Option Nat) : (raiseP s code uk ui det inj part).dbg = s.dbg := by rw [raiseP_only_ev]
@[simp] theorem raiseP_vxes (s : State) (code uk ui det : Nat) (inj : Bool) (part : Option Nat) : (raiseP s code uk ui det inj part).vxes = s.vxes := by rw [raiseP_only_ev]
@[simp] theorem raiseP_seqs (s : State) (code uk ui det : Nat) (inj : Bool) (part : Option Nat) : (raiseP s code uk ui det inj part).seqs = s.seqs := by rw [raiseP_only_ev]
@[simp] theorem raiseP_negs (s : State) (code uk ui det : Nat) (inj : Bool) (part : Option Nat) : (raiseP s code uk ui det inj part).negs = s.negs := by rw [raiseP_only_ev]
@[simp] theorem raiseP_reels (s : State) (code uk ui det : Nat) (inj : Bool) (part : Option Nat) : (raiseP s code uk ui det inj part).reels = s.reels := by rw [raiseP_only_ev]
@[simp] theorem raiseP_watchdogs (s : State) (code uk ui det : Nat) (inj : Bool) (part : Option Nat) : (raiseP s code uk ui det inj part).watchdogs = s.watchdogs := by rw [raiseP_only_ev]
@[simp] theorem raiseP_mem (s : State) (code uk ui det : Nat) (inj : Bool) (part : Option Nat) : (raiseP s code uk ui det inj part).mem = s.mem := by rw [raiseP_only_ev]
@[simp] theorem raiseP_optics (s : State) (code uk ui det : Nat) (inj : Bool) (part : Option Nat) : (raiseP s code uk ui det inj part).optics = s.optics := by rw [raiseP_only_ev]
@[simp] theorem raiseP_eumon (s : State) (code uk ui det : Nat) (inj : Bool) (part : Option Nat) : (raiseP s code uk ui det inj part).eumon = s.eumon := by rw [raiseP_only_ev]
@[simp] theorem raiseP_exps (s : State) (code uk ui det : Nat) (inj : Bool) (part : Option Nat) : (raiseP s code uk ui det inj part).exps = s.exps := by rw [raiseP_only_ev]
@[simp] theorem raiseP_sec (s : State) (code uk ui det : Nat) (inj : Bool) (part : Option Nat) : (raiseP s code uk ui det inj part).sec = s.sec := by rw [raiseP_only_ev]
@[simp] theorem raiseP_clk (s : State) (code uk ui det : Nat) (inj : Bool) (part : Option Nat) : (raiseP s code uk ui det inj part).clk = s.clk := by rw [raiseP_only_ev]
@[simp] theorem raiseP_fabric (s : State) (code uk ui det : Nat) (inj : Bool) (part : Option Nat) : (raiseP s code uk ui det inj part).fabric = s.fabric := by rw [raiseP_only_ev]
@[simp] theorem raiseP_power (s : State) (code uk ui det : Nat) (inj : Bool) (part : Option Nat) : (raiseP s code uk ui det inj part).power = s.power := by rw [raiseP_only_ev]
@[simp] theorem raiseP_cle (s : State) (code uk ui det : Nat) (inj : Bool) (part : Option Nat) : (raiseP s code uk ui det inj part).cle = s.cle := by rw [raiseP_only_ev]
@[simp] theorem raiseP_host (s : State) (code uk ui det : Nat) (inj : Bool) (part : Option Nat) : (raiseP s code uk ui det inj part).host = s.host := by rw [raiseP_only_ev]
@[simp] theorem raiseP_mail (s : State) (code uk ui det : Nat) (inj : Bool) (part : Option Nat) : (raiseP s code uk ui det inj part).mail = s.mail := by rw [raiseP_only_ev]
@[simp] theorem raiseP_sys (s : State) (code uk ui det : Nat) (inj : Bool) (part : Option Nat) : (raiseP s code uk ui det inj part).sys = s.sys := by rw [raiseP_only_ev]

/-- `raise` writes the event state alone. -/
theorem raise_only_ev (s : State) (code uk ui det : Nat) (inj : Bool) : raise s code uk ui det inj = { s with ev := (raise s code uk ui det inj).ev } := by
  exact raiseP_only_ev _ _ _ _ _ _ _

@[simp] theorem raise_now (s : State) (code uk ui det : Nat) (inj : Bool) : (raise s code uk ui det inj).now = s.now := by rw [raise_only_ev]
@[simp] theorem raise_free (s : State) (code uk ui det : Nat) (inj : Bool) : (raise s code uk ui det inj).free = s.free := by rw [raise_only_ev]
@[simp] theorem raise_out (s : State) (code uk ui det : Nat) (inj : Bool) : (raise s code uk ui det inj).out = s.out := by rw [raise_only_ev]
@[simp] theorem raise_pending (s : State) (code uk ui det : Nat) (inj : Bool) : (raise s code uk ui det inj).pending = s.pending := by rw [raise_only_ev]
@[simp] theorem raise_arrays (s : State) (code uk ui det : Nat) (inj : Bool) : (raise s code uk ui det inj).arrays = s.arrays := by rw [raise_only_ev]
@[simp] theorem raise_dbg (s : State) (code uk ui det : Nat) (inj : Bool) : (raise s code uk ui det inj).dbg = s.dbg := by rw [raise_only_ev]
@[simp] theorem raise_vxes (s : State) (code uk ui det : Nat) (inj : Bool) : (raise s code uk ui det inj).vxes = s.vxes := by rw [raise_only_ev]
@[simp] theorem raise_seqs (s : State) (code uk ui det : Nat) (inj : Bool) : (raise s code uk ui det inj).seqs = s.seqs := by rw [raise_only_ev]
@[simp] theorem raise_negs (s : State) (code uk ui det : Nat) (inj : Bool) : (raise s code uk ui det inj).negs = s.negs := by rw [raise_only_ev]
@[simp] theorem raise_reels (s : State) (code uk ui det : Nat) (inj : Bool) : (raise s code uk ui det inj).reels = s.reels := by rw [raise_only_ev]
@[simp] theorem raise_watchdogs (s : State) (code uk ui det : Nat) (inj : Bool) : (raise s code uk ui det inj).watchdogs = s.watchdogs := by rw [raise_only_ev]
@[simp] theorem raise_mem (s : State) (code uk ui det : Nat) (inj : Bool) : (raise s code uk ui det inj).mem = s.mem := by rw [raise_only_ev]
@[simp] theorem raise_optics (s : State) (code uk ui det : Nat) (inj : Bool) : (raise s code uk ui det inj).optics = s.optics := by rw [raise_only_ev]
@[simp] theorem raise_eumon (s : State) (code uk ui det : Nat) (inj : Bool) : (raise s code uk ui det inj).eumon = s.eumon := by rw [raise_only_ev]
@[simp] theorem raise_exps (s : State) (code uk ui det : Nat) (inj : Bool) : (raise s code uk ui det inj).exps = s.exps := by rw [raise_only_ev]
@[simp] theorem raise_sec (s : State) (code uk ui det : Nat) (inj : Bool) : (raise s code uk ui det inj).sec = s.sec := by rw [raise_only_ev]
@[simp] theorem raise_clk (s : State) (code uk ui det : Nat) (inj : Bool) : (raise s code uk ui det inj).clk = s.clk := by rw [raise_only_ev]
@[simp] theorem raise_fabric (s : State) (code uk ui det : Nat) (inj : Bool) : (raise s code uk ui det inj).fabric = s.fabric := by rw [raise_only_ev]
@[simp] theorem raise_power (s : State) (code uk ui det : Nat) (inj : Bool) : (raise s code uk ui det inj).power = s.power := by rw [raise_only_ev]
@[simp] theorem raise_cle (s : State) (code uk ui det : Nat) (inj : Bool) : (raise s code uk ui det inj).cle = s.cle := by rw [raise_only_ev]
@[simp] theorem raise_host (s : State) (code uk ui det : Nat) (inj : Bool) : (raise s code uk ui det inj).host = s.host := by rw [raise_only_ev]
@[simp] theorem raise_mail (s : State) (code uk ui det : Nat) (inj : Bool) : (raise s code uk ui det inj).mail = s.mail := by rw [raise_only_ev]
@[simp] theorem raise_sys (s : State) (code uk ui det : Nat) (inj : Bool) : (raise s code uk ui det inj).sys = s.sys := by rw [raise_only_ev]

/-- `downgrade` writes the event state alone. -/
theorem downgrade_only_ev (s : State) (p kept broken k : Nat) : downgrade s p kept broken k = { s with ev := (downgrade s p kept broken k).ev } := by
  exact raiseP_only_ev _ _ _ _ _ _ _

@[simp] theorem downgrade_now (s : State) (p kept broken k : Nat) : (downgrade s p kept broken k).now = s.now := by rw [downgrade_only_ev]
@[simp] theorem downgrade_free (s : State) (p kept broken k : Nat) : (downgrade s p kept broken k).free = s.free := by rw [downgrade_only_ev]
@[simp] theorem downgrade_out (s : State) (p kept broken k : Nat) : (downgrade s p kept broken k).out = s.out := by rw [downgrade_only_ev]
@[simp] theorem downgrade_pending (s : State) (p kept broken k : Nat) : (downgrade s p kept broken k).pending = s.pending := by rw [downgrade_only_ev]
@[simp] theorem downgrade_arrays (s : State) (p kept broken k : Nat) : (downgrade s p kept broken k).arrays = s.arrays := by rw [downgrade_only_ev]
@[simp] theorem downgrade_dbg (s : State) (p kept broken k : Nat) : (downgrade s p kept broken k).dbg = s.dbg := by rw [downgrade_only_ev]
@[simp] theorem downgrade_vxes (s : State) (p kept broken k : Nat) : (downgrade s p kept broken k).vxes = s.vxes := by rw [downgrade_only_ev]
@[simp] theorem downgrade_seqs (s : State) (p kept broken k : Nat) : (downgrade s p kept broken k).seqs = s.seqs := by rw [downgrade_only_ev]
@[simp] theorem downgrade_negs (s : State) (p kept broken k : Nat) : (downgrade s p kept broken k).negs = s.negs := by rw [downgrade_only_ev]
@[simp] theorem downgrade_reels (s : State) (p kept broken k : Nat) : (downgrade s p kept broken k).reels = s.reels := by rw [downgrade_only_ev]
@[simp] theorem downgrade_watchdogs (s : State) (p kept broken k : Nat) : (downgrade s p kept broken k).watchdogs = s.watchdogs := by rw [downgrade_only_ev]
@[simp] theorem downgrade_mem (s : State) (p kept broken k : Nat) : (downgrade s p kept broken k).mem = s.mem := by rw [downgrade_only_ev]
@[simp] theorem downgrade_optics (s : State) (p kept broken k : Nat) : (downgrade s p kept broken k).optics = s.optics := by rw [downgrade_only_ev]
@[simp] theorem downgrade_eumon (s : State) (p kept broken k : Nat) : (downgrade s p kept broken k).eumon = s.eumon := by rw [downgrade_only_ev]
@[simp] theorem downgrade_exps (s : State) (p kept broken k : Nat) : (downgrade s p kept broken k).exps = s.exps := by rw [downgrade_only_ev]
@[simp] theorem downgrade_sec (s : State) (p kept broken k : Nat) : (downgrade s p kept broken k).sec = s.sec := by rw [downgrade_only_ev]
@[simp] theorem downgrade_clk (s : State) (p kept broken k : Nat) : (downgrade s p kept broken k).clk = s.clk := by rw [downgrade_only_ev]
@[simp] theorem downgrade_fabric (s : State) (p kept broken k : Nat) : (downgrade s p kept broken k).fabric = s.fabric := by rw [downgrade_only_ev]
@[simp] theorem downgrade_power (s : State) (p kept broken k : Nat) : (downgrade s p kept broken k).power = s.power := by rw [downgrade_only_ev]
@[simp] theorem downgrade_cle (s : State) (p kept broken k : Nat) : (downgrade s p kept broken k).cle = s.cle := by rw [downgrade_only_ev]
@[simp] theorem downgrade_host (s : State) (p kept broken k : Nat) : (downgrade s p kept broken k).host = s.host := by rw [downgrade_only_ev]
@[simp] theorem downgrade_mail (s : State) (p kept broken k : Nat) : (downgrade s p kept broken k).mail = s.mail := by rw [downgrade_only_ev]
@[simp] theorem downgrade_sys (s : State) (p kept broken k : Nat) : (downgrade s p kept broken k).sys = s.sys := by rw [downgrade_only_ev]

/-- `addFault` writes the event state alone. -/
theorem addFault_only_ev (s : State) (uk ui code : Nat) (inj : Bool) : addFault s uk ui code inj = { s with ev := (addFault s uk ui code inj).ev } := by
  unfold addFault; split <;> rfl

@[simp] theorem addFault_now (s : State) (uk ui code : Nat) (inj : Bool) : (addFault s uk ui code inj).now = s.now := by rw [addFault_only_ev]
@[simp] theorem addFault_free (s : State) (uk ui code : Nat) (inj : Bool) : (addFault s uk ui code inj).free = s.free := by rw [addFault_only_ev]
@[simp] theorem addFault_out (s : State) (uk ui code : Nat) (inj : Bool) : (addFault s uk ui code inj).out = s.out := by rw [addFault_only_ev]
@[simp] theorem addFault_pending (s : State) (uk ui code : Nat) (inj : Bool) : (addFault s uk ui code inj).pending = s.pending := by rw [addFault_only_ev]
@[simp] theorem addFault_arrays (s : State) (uk ui code : Nat) (inj : Bool) : (addFault s uk ui code inj).arrays = s.arrays := by rw [addFault_only_ev]
@[simp] theorem addFault_dbg (s : State) (uk ui code : Nat) (inj : Bool) : (addFault s uk ui code inj).dbg = s.dbg := by rw [addFault_only_ev]
@[simp] theorem addFault_vxes (s : State) (uk ui code : Nat) (inj : Bool) : (addFault s uk ui code inj).vxes = s.vxes := by rw [addFault_only_ev]
@[simp] theorem addFault_seqs (s : State) (uk ui code : Nat) (inj : Bool) : (addFault s uk ui code inj).seqs = s.seqs := by rw [addFault_only_ev]
@[simp] theorem addFault_negs (s : State) (uk ui code : Nat) (inj : Bool) : (addFault s uk ui code inj).negs = s.negs := by rw [addFault_only_ev]
@[simp] theorem addFault_reels (s : State) (uk ui code : Nat) (inj : Bool) : (addFault s uk ui code inj).reels = s.reels := by rw [addFault_only_ev]
@[simp] theorem addFault_watchdogs (s : State) (uk ui code : Nat) (inj : Bool) : (addFault s uk ui code inj).watchdogs = s.watchdogs := by rw [addFault_only_ev]
@[simp] theorem addFault_mem (s : State) (uk ui code : Nat) (inj : Bool) : (addFault s uk ui code inj).mem = s.mem := by rw [addFault_only_ev]
@[simp] theorem addFault_optics (s : State) (uk ui code : Nat) (inj : Bool) : (addFault s uk ui code inj).optics = s.optics := by rw [addFault_only_ev]
@[simp] theorem addFault_eumon (s : State) (uk ui code : Nat) (inj : Bool) : (addFault s uk ui code inj).eumon = s.eumon := by rw [addFault_only_ev]
@[simp] theorem addFault_exps (s : State) (uk ui code : Nat) (inj : Bool) : (addFault s uk ui code inj).exps = s.exps := by rw [addFault_only_ev]
@[simp] theorem addFault_sec (s : State) (uk ui code : Nat) (inj : Bool) : (addFault s uk ui code inj).sec = s.sec := by rw [addFault_only_ev]
@[simp] theorem addFault_clk (s : State) (uk ui code : Nat) (inj : Bool) : (addFault s uk ui code inj).clk = s.clk := by rw [addFault_only_ev]
@[simp] theorem addFault_fabric (s : State) (uk ui code : Nat) (inj : Bool) : (addFault s uk ui code inj).fabric = s.fabric := by rw [addFault_only_ev]
@[simp] theorem addFault_power (s : State) (uk ui code : Nat) (inj : Bool) : (addFault s uk ui code inj).power = s.power := by rw [addFault_only_ev]
@[simp] theorem addFault_cle (s : State) (uk ui code : Nat) (inj : Bool) : (addFault s uk ui code inj).cle = s.cle := by rw [addFault_only_ev]
@[simp] theorem addFault_host (s : State) (uk ui code : Nat) (inj : Bool) : (addFault s uk ui code inj).host = s.host := by rw [addFault_only_ev]
@[simp] theorem addFault_mail (s : State) (uk ui code : Nat) (inj : Bool) : (addFault s uk ui code inj).mail = s.mail := by rw [addFault_only_ev]
@[simp] theorem addFault_sys (s : State) (uk ui code : Nat) (inj : Bool) : (addFault s uk ui code inj).sys = s.sys := by rw [addFault_only_ev]

/-- `injFired` writes the event state alone. -/
theorem injFired_only_ev (s : State) (d : Nat) : injFired s d = { s with ev := (injFired s d).ev } := by
  rfl

@[simp] theorem injFired_now (s : State) (d : Nat) : (injFired s d).now = s.now := by rw [injFired_only_ev]
@[simp] theorem injFired_free (s : State) (d : Nat) : (injFired s d).free = s.free := by rw [injFired_only_ev]
@[simp] theorem injFired_out (s : State) (d : Nat) : (injFired s d).out = s.out := by rw [injFired_only_ev]
@[simp] theorem injFired_pending (s : State) (d : Nat) : (injFired s d).pending = s.pending := by rw [injFired_only_ev]
@[simp] theorem injFired_arrays (s : State) (d : Nat) : (injFired s d).arrays = s.arrays := by rw [injFired_only_ev]
@[simp] theorem injFired_dbg (s : State) (d : Nat) : (injFired s d).dbg = s.dbg := by rw [injFired_only_ev]
@[simp] theorem injFired_vxes (s : State) (d : Nat) : (injFired s d).vxes = s.vxes := by rw [injFired_only_ev]
@[simp] theorem injFired_seqs (s : State) (d : Nat) : (injFired s d).seqs = s.seqs := by rw [injFired_only_ev]
@[simp] theorem injFired_negs (s : State) (d : Nat) : (injFired s d).negs = s.negs := by rw [injFired_only_ev]
@[simp] theorem injFired_reels (s : State) (d : Nat) : (injFired s d).reels = s.reels := by rw [injFired_only_ev]
@[simp] theorem injFired_watchdogs (s : State) (d : Nat) : (injFired s d).watchdogs = s.watchdogs := by rw [injFired_only_ev]
@[simp] theorem injFired_mem (s : State) (d : Nat) : (injFired s d).mem = s.mem := by rw [injFired_only_ev]
@[simp] theorem injFired_optics (s : State) (d : Nat) : (injFired s d).optics = s.optics := by rw [injFired_only_ev]
@[simp] theorem injFired_eumon (s : State) (d : Nat) : (injFired s d).eumon = s.eumon := by rw [injFired_only_ev]
@[simp] theorem injFired_exps (s : State) (d : Nat) : (injFired s d).exps = s.exps := by rw [injFired_only_ev]
@[simp] theorem injFired_sec (s : State) (d : Nat) : (injFired s d).sec = s.sec := by rw [injFired_only_ev]
@[simp] theorem injFired_clk (s : State) (d : Nat) : (injFired s d).clk = s.clk := by rw [injFired_only_ev]
@[simp] theorem injFired_fabric (s : State) (d : Nat) : (injFired s d).fabric = s.fabric := by rw [injFired_only_ev]
@[simp] theorem injFired_power (s : State) (d : Nat) : (injFired s d).power = s.power := by rw [injFired_only_ev]
@[simp] theorem injFired_cle (s : State) (d : Nat) : (injFired s d).cle = s.cle := by rw [injFired_only_ev]
@[simp] theorem injFired_host (s : State) (d : Nat) : (injFired s d).host = s.host := by rw [injFired_only_ev]
@[simp] theorem injFired_mail (s : State) (d : Nat) : (injFired s d).mail = s.mail := by rw [injFired_only_ev]
@[simp] theorem injFired_sys (s : State) (d : Nat) : (injFired s d).sys = s.sys := by rw [injFired_only_ev]

/-- `raiseSec` writes the event state alone. -/
theorem raiseSec_only_ev (s : State) (code n : Nat) : raiseSec s code n = { s with ev := (raiseSec s code n).ev } := by
  exact raise_only_ev _ _ _ _ _ _

@[simp] theorem raiseSec_now (s : State) (code n : Nat) : (raiseSec s code n).now = s.now := by rw [raiseSec_only_ev]
@[simp] theorem raiseSec_free (s : State) (code n : Nat) : (raiseSec s code n).free = s.free := by rw [raiseSec_only_ev]
@[simp] theorem raiseSec_out (s : State) (code n : Nat) : (raiseSec s code n).out = s.out := by rw [raiseSec_only_ev]
@[simp] theorem raiseSec_pending (s : State) (code n : Nat) : (raiseSec s code n).pending = s.pending := by rw [raiseSec_only_ev]
@[simp] theorem raiseSec_arrays (s : State) (code n : Nat) : (raiseSec s code n).arrays = s.arrays := by rw [raiseSec_only_ev]
@[simp] theorem raiseSec_dbg (s : State) (code n : Nat) : (raiseSec s code n).dbg = s.dbg := by rw [raiseSec_only_ev]
@[simp] theorem raiseSec_vxes (s : State) (code n : Nat) : (raiseSec s code n).vxes = s.vxes := by rw [raiseSec_only_ev]
@[simp] theorem raiseSec_seqs (s : State) (code n : Nat) : (raiseSec s code n).seqs = s.seqs := by rw [raiseSec_only_ev]
@[simp] theorem raiseSec_negs (s : State) (code n : Nat) : (raiseSec s code n).negs = s.negs := by rw [raiseSec_only_ev]
@[simp] theorem raiseSec_reels (s : State) (code n : Nat) : (raiseSec s code n).reels = s.reels := by rw [raiseSec_only_ev]
@[simp] theorem raiseSec_watchdogs (s : State) (code n : Nat) : (raiseSec s code n).watchdogs = s.watchdogs := by rw [raiseSec_only_ev]
@[simp] theorem raiseSec_mem (s : State) (code n : Nat) : (raiseSec s code n).mem = s.mem := by rw [raiseSec_only_ev]
@[simp] theorem raiseSec_optics (s : State) (code n : Nat) : (raiseSec s code n).optics = s.optics := by rw [raiseSec_only_ev]
@[simp] theorem raiseSec_eumon (s : State) (code n : Nat) : (raiseSec s code n).eumon = s.eumon := by rw [raiseSec_only_ev]
@[simp] theorem raiseSec_exps (s : State) (code n : Nat) : (raiseSec s code n).exps = s.exps := by rw [raiseSec_only_ev]
@[simp] theorem raiseSec_sec (s : State) (code n : Nat) : (raiseSec s code n).sec = s.sec := by rw [raiseSec_only_ev]
@[simp] theorem raiseSec_clk (s : State) (code n : Nat) : (raiseSec s code n).clk = s.clk := by rw [raiseSec_only_ev]
@[simp] theorem raiseSec_fabric (s : State) (code n : Nat) : (raiseSec s code n).fabric = s.fabric := by rw [raiseSec_only_ev]
@[simp] theorem raiseSec_power (s : State) (code n : Nat) : (raiseSec s code n).power = s.power := by rw [raiseSec_only_ev]
@[simp] theorem raiseSec_cle (s : State) (code n : Nat) : (raiseSec s code n).cle = s.cle := by rw [raiseSec_only_ev]
@[simp] theorem raiseSec_host (s : State) (code n : Nat) : (raiseSec s code n).host = s.host := by rw [raiseSec_only_ev]
@[simp] theorem raiseSec_mail (s : State) (code n : Nat) : (raiseSec s code n).mail = s.mail := by rw [raiseSec_only_ev]
@[simp] theorem raiseSec_sys (s : State) (code n : Nat) : (raiseSec s code n).sys = s.sys := by rw [raiseSec_only_ev]

/-- One occurrence more of its code, and of no other. -/
theorem record_counts (s : State) (code uk ui det : Nat) (inj : Bool) (part : Option Nat) :
    (record s code uk ui det inj part).ev.counts = vmod s.ev.counts code bump := by
  unfold record; dsimp only; split <;> rfl

theorem reportLost_counts (s : State) (c : Nat) (h : c ≠ 0x10) : vget (reportLost s).ev.counts c 0#32 = vget s.ev.counts c 0#32 := by
  rcases reportLost_cases s with e | e
  · rw [e, record_counts, vget_vmod_ne _ _ _ _ _ (Ne.symm h)]
  · rw [e]

theorem raiseP_count (s : State) (code uk ui det : Nat) (inj : Bool) (part : Option Nat) (h : code ≠ 0x10) (h' : code < 256) :
    vget (raiseP s code uk ui det inj part).ev.counts code 0#32 = bump (vget s.ev.counts code 0#32) := by
  unfold raiseP
  rw [reportLost_counts _ _ h, record_counts, vget_vmod_same _ _ _ _ h']

/-- Raising an event counts it. -/
theorem raise_count (s : State) (code uk ui det : Nat) (inj : Bool) (h : code ≠ 0x10) (h' : code < 256) :
    vget (raise s code uk ui det inj).ev.counts code 0#32 = bump (vget s.ev.counts code 0#32) :=
  raiseP_count _ _ _ _ _ _ _ h h'

theorem raiseP_count_other (s : State) (code c uk ui det : Nat) (inj : Bool) (part : Option Nat) (h : c ≠ 0x10) (h' : c ≠ code) :
    vget (raiseP s code uk ui det inj part).ev.counts c 0#32 = vget s.ev.counts c 0#32 := by
  unfold raiseP
  rw [reportLost_counts _ _ h, record_counts, vget_vmod_ne _ _ _ _ _ (Ne.symm h')]

/-- Raising an event counts no other but EVENTS_LOST. -/
theorem raise_count_other (s : State) (code c uk ui det : Nat) (inj : Bool) (h : c ≠ 0x10) (h' : c ≠ code) :
    vget (raise s code uk ui det inj).ev.counts c 0#32 = vget s.ev.counts c 0#32 :=
  raiseP_count_other _ _ _ _ _ _ _ _ h h'

/-! ### Time -/

@[simp] theorem reelWait_free (n : Nat) (s : State) (r : Nat) : (reelWait n s r).free = s.free := by unfold reelWait; repeat (first | rfl | split)
@[simp] theorem seqStall_free (n : Nat) (s : State) (d : Nat) : (seqStall n s d).free = s.free := by unfold seqStall; split <;> rfl
@[simp] theorem drainPort_free (t dt : Nat) (s : State) (q : Nat) : (drainPort t dt s q).free = s.free := by
  unfold drainPort; split <;> rfl
@[simp] theorem timeCounters_free (s : State) (dt n : Nat) : (timeCounters s dt n).free = s.free := by
  have h1 (l : List Nat) (u : State) : (l.foldl (reelWait dt) u).free = u.free :=
    foldl_keeps (fun u : State => u.free) (reelWait dt) (fun u r => reelWait_free dt u r) l u
  have h2 (l : List Nat) (u : State) : (l.foldl (seqStall n) u).free = u.free :=
    foldl_keeps (fun u : State => u.free) (seqStall n) (fun u d => seqStall_free n u d) l u
  unfold timeCounters
  dsimp only
  rw [h2, h1]
@[simp] theorem elapse_free (s : State) (dt : Nat) : (elapse s dt).free = s.free := by
  have h (l : List Nat) (u : State) : (l.foldl (drainPort s.now dt) u).free = u.free :=
    foldl_keeps (fun u : State => u.free) (drainPort s.now dt) (fun u q => drainPort_free s.now dt u q) l u
  unfold elapse
  dsimp only
  rw [h, timeCounters_free]
@[simp] theorem advanceTo_free (s : State) (t : Nat) : (advanceTo s t).free = s.free := by
  unfold advanceTo; split
  · rfl
  · exact elapse_free _ _

@[simp] theorem reelWait_pending (n : Nat) (s : State) (r : Nat) : (reelWait n s r).pending = s.pending := by unfold reelWait; repeat (first | rfl | split)
@[simp] theorem seqStall_pending (n : Nat) (s : State) (d : Nat) : (seqStall n s d).pending = s.pending := by unfold seqStall; split <;> rfl
@[simp] theorem drainPort_pending (t dt : Nat) (s : State) (q : Nat) : (drainPort t dt s q).pending = s.pending := by
  unfold drainPort; split <;> rfl
@[simp] theorem timeCounters_pending (s : State) (dt n : Nat) : (timeCounters s dt n).pending = s.pending := by
  have h1 (l : List Nat) (u : State) : (l.foldl (reelWait dt) u).pending = u.pending :=
    foldl_keeps (fun u : State => u.pending) (reelWait dt) (fun u r => reelWait_pending dt u r) l u
  have h2 (l : List Nat) (u : State) : (l.foldl (seqStall n) u).pending = u.pending :=
    foldl_keeps (fun u : State => u.pending) (seqStall n) (fun u d => seqStall_pending n u d) l u
  unfold timeCounters
  dsimp only
  rw [h2, h1]
@[simp] theorem elapse_pending (s : State) (dt : Nat) : (elapse s dt).pending = s.pending := by
  have h (l : List Nat) (u : State) : (l.foldl (drainPort s.now dt) u).pending = u.pending :=
    foldl_keeps (fun u : State => u.pending) (drainPort s.now dt) (fun u q => drainPort_pending s.now dt u q) l u
  unfold elapse
  dsimp only
  rw [h, timeCounters_pending]
@[simp] theorem advanceTo_pending (s : State) (t : Nat) : (advanceTo s t).pending = s.pending := by
  unfold advanceTo; split
  · rfl
  · exact elapse_pending _ _

@[simp] theorem reelWait_arrays (n : Nat) (s : State) (r : Nat) : (reelWait n s r).arrays = s.arrays := by unfold reelWait; repeat (first | rfl | split)
@[simp] theorem seqStall_arrays (n : Nat) (s : State) (d : Nat) : (seqStall n s d).arrays = s.arrays := by unfold seqStall; split <;> rfl
@[simp] theorem drainPort_arrays (t dt : Nat) (s : State) (q : Nat) : (drainPort t dt s q).arrays = s.arrays := by
  unfold drainPort; split <;> rfl
@[simp] theorem timeCounters_arrays (s : State) (dt n : Nat) : (timeCounters s dt n).arrays = s.arrays := by
  have h1 (l : List Nat) (u : State) : (l.foldl (reelWait dt) u).arrays = u.arrays :=
    foldl_keeps (fun u : State => u.arrays) (reelWait dt) (fun u r => reelWait_arrays dt u r) l u
  have h2 (l : List Nat) (u : State) : (l.foldl (seqStall n) u).arrays = u.arrays :=
    foldl_keeps (fun u : State => u.arrays) (seqStall n) (fun u d => seqStall_arrays n u d) l u
  unfold timeCounters
  dsimp only
  rw [h2, h1]
@[simp] theorem elapse_arrays (s : State) (dt : Nat) : (elapse s dt).arrays = s.arrays := by
  have h (l : List Nat) (u : State) : (l.foldl (drainPort s.now dt) u).arrays = u.arrays :=
    foldl_keeps (fun u : State => u.arrays) (drainPort s.now dt) (fun u q => drainPort_arrays s.now dt u q) l u
  unfold elapse
  dsimp only
  rw [h, timeCounters_arrays]
@[simp] theorem advanceTo_arrays (s : State) (t : Nat) : (advanceTo s t).arrays = s.arrays := by
  unfold advanceTo; split
  · rfl
  · exact elapse_arrays _ _

@[simp] theorem reelWait_dbg (n : Nat) (s : State) (r : Nat) : (reelWait n s r).dbg = s.dbg := by unfold reelWait; repeat (first | rfl | split)
@[simp] theorem seqStall_dbg (n : Nat) (s : State) (d : Nat) : (seqStall n s d).dbg = s.dbg := by unfold seqStall; split <;> rfl
@[simp] theorem drainPort_dbg (t dt : Nat) (s : State) (q : Nat) : (drainPort t dt s q).dbg = s.dbg := by
  unfold drainPort; split <;> rfl
@[simp] theorem timeCounters_dbg (s : State) (dt n : Nat) : (timeCounters s dt n).dbg = s.dbg := by
  have h1 (l : List Nat) (u : State) : (l.foldl (reelWait dt) u).dbg = u.dbg :=
    foldl_keeps (fun u : State => u.dbg) (reelWait dt) (fun u r => reelWait_dbg dt u r) l u
  have h2 (l : List Nat) (u : State) : (l.foldl (seqStall n) u).dbg = u.dbg :=
    foldl_keeps (fun u : State => u.dbg) (seqStall n) (fun u d => seqStall_dbg n u d) l u
  unfold timeCounters
  dsimp only
  rw [h2, h1]
@[simp] theorem elapse_dbg (s : State) (dt : Nat) : (elapse s dt).dbg = s.dbg := by
  have h (l : List Nat) (u : State) : (l.foldl (drainPort s.now dt) u).dbg = u.dbg :=
    foldl_keeps (fun u : State => u.dbg) (drainPort s.now dt) (fun u q => drainPort_dbg s.now dt u q) l u
  unfold elapse
  dsimp only
  rw [h, timeCounters_dbg]
@[simp] theorem advanceTo_dbg (s : State) (t : Nat) : (advanceTo s t).dbg = s.dbg := by
  unfold advanceTo; split
  · rfl
  · exact elapse_dbg _ _

@[simp] theorem reelWait_vxes (n : Nat) (s : State) (r : Nat) : (reelWait n s r).vxes = s.vxes := by unfold reelWait; repeat (first | rfl | split)
@[simp] theorem seqStall_vxes (n : Nat) (s : State) (d : Nat) : (seqStall n s d).vxes = s.vxes := by unfold seqStall; split <;> rfl
@[simp] theorem drainPort_vxes (t dt : Nat) (s : State) (q : Nat) : (drainPort t dt s q).vxes = s.vxes := by
  unfold drainPort; split <;> rfl
@[simp] theorem timeCounters_vxes (s : State) (dt n : Nat) : (timeCounters s dt n).vxes = s.vxes := by
  have h1 (l : List Nat) (u : State) : (l.foldl (reelWait dt) u).vxes = u.vxes :=
    foldl_keeps (fun u : State => u.vxes) (reelWait dt) (fun u r => reelWait_vxes dt u r) l u
  have h2 (l : List Nat) (u : State) : (l.foldl (seqStall n) u).vxes = u.vxes :=
    foldl_keeps (fun u : State => u.vxes) (seqStall n) (fun u d => seqStall_vxes n u d) l u
  unfold timeCounters
  dsimp only
  rw [h2, h1]
@[simp] theorem elapse_vxes (s : State) (dt : Nat) : (elapse s dt).vxes = s.vxes := by
  have h (l : List Nat) (u : State) : (l.foldl (drainPort s.now dt) u).vxes = u.vxes :=
    foldl_keeps (fun u : State => u.vxes) (drainPort s.now dt) (fun u q => drainPort_vxes s.now dt u q) l u
  unfold elapse
  dsimp only
  rw [h, timeCounters_vxes]
@[simp] theorem advanceTo_vxes (s : State) (t : Nat) : (advanceTo s t).vxes = s.vxes := by
  unfold advanceTo; split
  · rfl
  · exact elapse_vxes _ _

@[simp] theorem reelWait_negs (n : Nat) (s : State) (r : Nat) : (reelWait n s r).negs = s.negs := by unfold reelWait; repeat (first | rfl | split)
@[simp] theorem seqStall_negs (n : Nat) (s : State) (d : Nat) : (seqStall n s d).negs = s.negs := by unfold seqStall; split <;> rfl
@[simp] theorem drainPort_negs (t dt : Nat) (s : State) (q : Nat) : (drainPort t dt s q).negs = s.negs := by
  unfold drainPort; split <;> rfl
@[simp] theorem timeCounters_negs (s : State) (dt n : Nat) : (timeCounters s dt n).negs = s.negs := by
  have h1 (l : List Nat) (u : State) : (l.foldl (reelWait dt) u).negs = u.negs :=
    foldl_keeps (fun u : State => u.negs) (reelWait dt) (fun u r => reelWait_negs dt u r) l u
  have h2 (l : List Nat) (u : State) : (l.foldl (seqStall n) u).negs = u.negs :=
    foldl_keeps (fun u : State => u.negs) (seqStall n) (fun u d => seqStall_negs n u d) l u
  unfold timeCounters
  dsimp only
  rw [h2, h1]
@[simp] theorem elapse_negs (s : State) (dt : Nat) : (elapse s dt).negs = s.negs := by
  have h (l : List Nat) (u : State) : (l.foldl (drainPort s.now dt) u).negs = u.negs :=
    foldl_keeps (fun u : State => u.negs) (drainPort s.now dt) (fun u q => drainPort_negs s.now dt u q) l u
  unfold elapse
  dsimp only
  rw [h, timeCounters_negs]
@[simp] theorem advanceTo_negs (s : State) (t : Nat) : (advanceTo s t).negs = s.negs := by
  unfold advanceTo; split
  · rfl
  · exact elapse_negs _ _

@[simp] theorem reelWait_watchdogs (n : Nat) (s : State) (r : Nat) : (reelWait n s r).watchdogs = s.watchdogs := by unfold reelWait; repeat (first | rfl | split)
@[simp] theorem seqStall_watchdogs (n : Nat) (s : State) (d : Nat) : (seqStall n s d).watchdogs = s.watchdogs := by unfold seqStall; split <;> rfl
@[simp] theorem drainPort_watchdogs (t dt : Nat) (s : State) (q : Nat) : (drainPort t dt s q).watchdogs = s.watchdogs := by
  unfold drainPort; split <;> rfl
@[simp] theorem timeCounters_watchdogs (s : State) (dt n : Nat) : (timeCounters s dt n).watchdogs = s.watchdogs := by
  have h1 (l : List Nat) (u : State) : (l.foldl (reelWait dt) u).watchdogs = u.watchdogs :=
    foldl_keeps (fun u : State => u.watchdogs) (reelWait dt) (fun u r => reelWait_watchdogs dt u r) l u
  have h2 (l : List Nat) (u : State) : (l.foldl (seqStall n) u).watchdogs = u.watchdogs :=
    foldl_keeps (fun u : State => u.watchdogs) (seqStall n) (fun u d => seqStall_watchdogs n u d) l u
  unfold timeCounters
  dsimp only
  rw [h2, h1]
@[simp] theorem elapse_watchdogs (s : State) (dt : Nat) : (elapse s dt).watchdogs = s.watchdogs := by
  have h (l : List Nat) (u : State) : (l.foldl (drainPort s.now dt) u).watchdogs = u.watchdogs :=
    foldl_keeps (fun u : State => u.watchdogs) (drainPort s.now dt) (fun u q => drainPort_watchdogs s.now dt u q) l u
  unfold elapse
  dsimp only
  rw [h, timeCounters_watchdogs]
@[simp] theorem advanceTo_watchdogs (s : State) (t : Nat) : (advanceTo s t).watchdogs = s.watchdogs := by
  unfold advanceTo; split
  · rfl
  · exact elapse_watchdogs _ _

@[simp] theorem reelWait_mem (n : Nat) (s : State) (r : Nat) : (reelWait n s r).mem = s.mem := by unfold reelWait; repeat (first | rfl | split)
@[simp] theorem seqStall_mem (n : Nat) (s : State) (d : Nat) : (seqStall n s d).mem = s.mem := by unfold seqStall; split <;> rfl
@[simp] theorem drainPort_mem (t dt : Nat) (s : State) (q : Nat) : (drainPort t dt s q).mem = s.mem := by
  unfold drainPort; split <;> rfl
@[simp] theorem timeCounters_mem (s : State) (dt n : Nat) : (timeCounters s dt n).mem = s.mem := by
  have h1 (l : List Nat) (u : State) : (l.foldl (reelWait dt) u).mem = u.mem :=
    foldl_keeps (fun u : State => u.mem) (reelWait dt) (fun u r => reelWait_mem dt u r) l u
  have h2 (l : List Nat) (u : State) : (l.foldl (seqStall n) u).mem = u.mem :=
    foldl_keeps (fun u : State => u.mem) (seqStall n) (fun u d => seqStall_mem n u d) l u
  unfold timeCounters
  dsimp only
  rw [h2, h1]
@[simp] theorem elapse_mem (s : State) (dt : Nat) : (elapse s dt).mem = s.mem := by
  have h (l : List Nat) (u : State) : (l.foldl (drainPort s.now dt) u).mem = u.mem :=
    foldl_keeps (fun u : State => u.mem) (drainPort s.now dt) (fun u q => drainPort_mem s.now dt u q) l u
  unfold elapse
  dsimp only
  rw [h, timeCounters_mem]
@[simp] theorem advanceTo_mem (s : State) (t : Nat) : (advanceTo s t).mem = s.mem := by
  unfold advanceTo; split
  · rfl
  · exact elapse_mem _ _

@[simp] theorem reelWait_optics (n : Nat) (s : State) (r : Nat) : (reelWait n s r).optics = s.optics := by unfold reelWait; repeat (first | rfl | split)
@[simp] theorem seqStall_optics (n : Nat) (s : State) (d : Nat) : (seqStall n s d).optics = s.optics := by unfold seqStall; split <;> rfl
@[simp] theorem drainPort_optics (t dt : Nat) (s : State) (q : Nat) : (drainPort t dt s q).optics = s.optics := by
  unfold drainPort; split <;> rfl
@[simp] theorem timeCounters_optics (s : State) (dt n : Nat) : (timeCounters s dt n).optics = s.optics := by
  have h1 (l : List Nat) (u : State) : (l.foldl (reelWait dt) u).optics = u.optics :=
    foldl_keeps (fun u : State => u.optics) (reelWait dt) (fun u r => reelWait_optics dt u r) l u
  have h2 (l : List Nat) (u : State) : (l.foldl (seqStall n) u).optics = u.optics :=
    foldl_keeps (fun u : State => u.optics) (seqStall n) (fun u d => seqStall_optics n u d) l u
  unfold timeCounters
  dsimp only
  rw [h2, h1]
@[simp] theorem elapse_optics (s : State) (dt : Nat) : (elapse s dt).optics = s.optics := by
  have h (l : List Nat) (u : State) : (l.foldl (drainPort s.now dt) u).optics = u.optics :=
    foldl_keeps (fun u : State => u.optics) (drainPort s.now dt) (fun u q => drainPort_optics s.now dt u q) l u
  unfold elapse
  dsimp only
  rw [h, timeCounters_optics]
@[simp] theorem advanceTo_optics (s : State) (t : Nat) : (advanceTo s t).optics = s.optics := by
  unfold advanceTo; split
  · rfl
  · exact elapse_optics _ _

@[simp] theorem reelWait_ev (n : Nat) (s : State) (r : Nat) : (reelWait n s r).ev = s.ev := by unfold reelWait; repeat (first | rfl | split)
@[simp] theorem seqStall_ev (n : Nat) (s : State) (d : Nat) : (seqStall n s d).ev = s.ev := by unfold seqStall; split <;> rfl
@[simp] theorem drainPort_ev (t dt : Nat) (s : State) (q : Nat) : (drainPort t dt s q).ev = s.ev := by
  unfold drainPort; split <;> rfl
@[simp] theorem timeCounters_ev (s : State) (dt n : Nat) : (timeCounters s dt n).ev = s.ev := by
  have h1 (l : List Nat) (u : State) : (l.foldl (reelWait dt) u).ev = u.ev :=
    foldl_keeps (fun u : State => u.ev) (reelWait dt) (fun u r => reelWait_ev dt u r) l u
  have h2 (l : List Nat) (u : State) : (l.foldl (seqStall n) u).ev = u.ev :=
    foldl_keeps (fun u : State => u.ev) (seqStall n) (fun u d => seqStall_ev n u d) l u
  unfold timeCounters
  dsimp only
  rw [h2, h1]
@[simp] theorem elapse_ev (s : State) (dt : Nat) : (elapse s dt).ev = s.ev := by
  have h (l : List Nat) (u : State) : (l.foldl (drainPort s.now dt) u).ev = u.ev :=
    foldl_keeps (fun u : State => u.ev) (drainPort s.now dt) (fun u q => drainPort_ev s.now dt u q) l u
  unfold elapse
  dsimp only
  rw [h, timeCounters_ev]
@[simp] theorem advanceTo_ev (s : State) (t : Nat) : (advanceTo s t).ev = s.ev := by
  unfold advanceTo; split
  · rfl
  · exact elapse_ev _ _

@[simp] theorem reelWait_eumon (n : Nat) (s : State) (r : Nat) : (reelWait n s r).eumon = s.eumon := by unfold reelWait; repeat (first | rfl | split)
@[simp] theorem seqStall_eumon (n : Nat) (s : State) (d : Nat) : (seqStall n s d).eumon = s.eumon := by unfold seqStall; split <;> rfl
@[simp] theorem drainPort_eumon (t dt : Nat) (s : State) (q : Nat) : (drainPort t dt s q).eumon = s.eumon := by
  unfold drainPort; split <;> rfl
@[simp] theorem timeCounters_eumon (s : State) (dt n : Nat) : (timeCounters s dt n).eumon = s.eumon := by
  have h1 (l : List Nat) (u : State) : (l.foldl (reelWait dt) u).eumon = u.eumon :=
    foldl_keeps (fun u : State => u.eumon) (reelWait dt) (fun u r => reelWait_eumon dt u r) l u
  have h2 (l : List Nat) (u : State) : (l.foldl (seqStall n) u).eumon = u.eumon :=
    foldl_keeps (fun u : State => u.eumon) (seqStall n) (fun u d => seqStall_eumon n u d) l u
  unfold timeCounters
  dsimp only
  rw [h2, h1]
@[simp] theorem elapse_eumon (s : State) (dt : Nat) : (elapse s dt).eumon = s.eumon := by
  have h (l : List Nat) (u : State) : (l.foldl (drainPort s.now dt) u).eumon = u.eumon :=
    foldl_keeps (fun u : State => u.eumon) (drainPort s.now dt) (fun u q => drainPort_eumon s.now dt u q) l u
  unfold elapse
  dsimp only
  rw [h, timeCounters_eumon]
@[simp] theorem advanceTo_eumon (s : State) (t : Nat) : (advanceTo s t).eumon = s.eumon := by
  unfold advanceTo; split
  · rfl
  · exact elapse_eumon _ _

@[simp] theorem reelWait_exps (n : Nat) (s : State) (r : Nat) : (reelWait n s r).exps = s.exps := by unfold reelWait; repeat (first | rfl | split)
@[simp] theorem seqStall_exps (n : Nat) (s : State) (d : Nat) : (seqStall n s d).exps = s.exps := by unfold seqStall; split <;> rfl
@[simp] theorem drainPort_exps (t dt : Nat) (s : State) (q : Nat) : (drainPort t dt s q).exps = s.exps := by
  unfold drainPort; split <;> rfl
@[simp] theorem timeCounters_exps (s : State) (dt n : Nat) : (timeCounters s dt n).exps = s.exps := by
  have h1 (l : List Nat) (u : State) : (l.foldl (reelWait dt) u).exps = u.exps :=
    foldl_keeps (fun u : State => u.exps) (reelWait dt) (fun u r => reelWait_exps dt u r) l u
  have h2 (l : List Nat) (u : State) : (l.foldl (seqStall n) u).exps = u.exps :=
    foldl_keeps (fun u : State => u.exps) (seqStall n) (fun u d => seqStall_exps n u d) l u
  unfold timeCounters
  dsimp only
  rw [h2, h1]
@[simp] theorem elapse_exps (s : State) (dt : Nat) : (elapse s dt).exps = s.exps := by
  have h (l : List Nat) (u : State) : (l.foldl (drainPort s.now dt) u).exps = u.exps :=
    foldl_keeps (fun u : State => u.exps) (drainPort s.now dt) (fun u q => drainPort_exps s.now dt u q) l u
  unfold elapse
  dsimp only
  rw [h, timeCounters_exps]
@[simp] theorem advanceTo_exps (s : State) (t : Nat) : (advanceTo s t).exps = s.exps := by
  unfold advanceTo; split
  · rfl
  · exact elapse_exps _ _

@[simp] theorem reelWait_sec (n : Nat) (s : State) (r : Nat) : (reelWait n s r).sec = s.sec := by unfold reelWait; repeat (first | rfl | split)
@[simp] theorem seqStall_sec (n : Nat) (s : State) (d : Nat) : (seqStall n s d).sec = s.sec := by unfold seqStall; split <;> rfl
@[simp] theorem drainPort_sec (t dt : Nat) (s : State) (q : Nat) : (drainPort t dt s q).sec = s.sec := by
  unfold drainPort; split <;> rfl
@[simp] theorem timeCounters_sec (s : State) (dt n : Nat) : (timeCounters s dt n).sec = s.sec := by
  have h1 (l : List Nat) (u : State) : (l.foldl (reelWait dt) u).sec = u.sec :=
    foldl_keeps (fun u : State => u.sec) (reelWait dt) (fun u r => reelWait_sec dt u r) l u
  have h2 (l : List Nat) (u : State) : (l.foldl (seqStall n) u).sec = u.sec :=
    foldl_keeps (fun u : State => u.sec) (seqStall n) (fun u d => seqStall_sec n u d) l u
  unfold timeCounters
  dsimp only
  rw [h2, h1]
@[simp] theorem elapse_sec (s : State) (dt : Nat) : (elapse s dt).sec = s.sec := by
  have h (l : List Nat) (u : State) : (l.foldl (drainPort s.now dt) u).sec = u.sec :=
    foldl_keeps (fun u : State => u.sec) (drainPort s.now dt) (fun u q => drainPort_sec s.now dt u q) l u
  unfold elapse
  dsimp only
  rw [h, timeCounters_sec]
@[simp] theorem advanceTo_sec (s : State) (t : Nat) : (advanceTo s t).sec = s.sec := by
  unfold advanceTo; split
  · rfl
  · exact elapse_sec _ _

@[simp] theorem reelWait_cle (n : Nat) (s : State) (r : Nat) : (reelWait n s r).cle = s.cle := by unfold reelWait; repeat (first | rfl | split)
@[simp] theorem seqStall_cle (n : Nat) (s : State) (d : Nat) : (seqStall n s d).cle = s.cle := by unfold seqStall; split <;> rfl
@[simp] theorem drainPort_cle (t dt : Nat) (s : State) (q : Nat) : (drainPort t dt s q).cle = s.cle := by
  unfold drainPort; split <;> rfl
@[simp] theorem timeCounters_cle (s : State) (dt n : Nat) : (timeCounters s dt n).cle = s.cle := by
  have h1 (l : List Nat) (u : State) : (l.foldl (reelWait dt) u).cle = u.cle :=
    foldl_keeps (fun u : State => u.cle) (reelWait dt) (fun u r => reelWait_cle dt u r) l u
  have h2 (l : List Nat) (u : State) : (l.foldl (seqStall n) u).cle = u.cle :=
    foldl_keeps (fun u : State => u.cle) (seqStall n) (fun u d => seqStall_cle n u d) l u
  unfold timeCounters
  dsimp only
  rw [h2, h1]
@[simp] theorem elapse_cle (s : State) (dt : Nat) : (elapse s dt).cle = s.cle := by
  have h (l : List Nat) (u : State) : (l.foldl (drainPort s.now dt) u).cle = u.cle :=
    foldl_keeps (fun u : State => u.cle) (drainPort s.now dt) (fun u q => drainPort_cle s.now dt u q) l u
  unfold elapse
  dsimp only
  rw [h, timeCounters_cle]
@[simp] theorem advanceTo_cle (s : State) (t : Nat) : (advanceTo s t).cle = s.cle := by
  unfold advanceTo; split
  · rfl
  · exact elapse_cle _ _

@[simp] theorem reelWait_host (n : Nat) (s : State) (r : Nat) : (reelWait n s r).host = s.host := by unfold reelWait; repeat (first | rfl | split)
@[simp] theorem seqStall_host (n : Nat) (s : State) (d : Nat) : (seqStall n s d).host = s.host := by unfold seqStall; split <;> rfl
@[simp] theorem drainPort_host (t dt : Nat) (s : State) (q : Nat) : (drainPort t dt s q).host = s.host := by
  unfold drainPort; split <;> rfl
@[simp] theorem timeCounters_host (s : State) (dt n : Nat) : (timeCounters s dt n).host = s.host := by
  have h1 (l : List Nat) (u : State) : (l.foldl (reelWait dt) u).host = u.host :=
    foldl_keeps (fun u : State => u.host) (reelWait dt) (fun u r => reelWait_host dt u r) l u
  have h2 (l : List Nat) (u : State) : (l.foldl (seqStall n) u).host = u.host :=
    foldl_keeps (fun u : State => u.host) (seqStall n) (fun u d => seqStall_host n u d) l u
  unfold timeCounters
  dsimp only
  rw [h2, h1]
@[simp] theorem elapse_host (s : State) (dt : Nat) : (elapse s dt).host = s.host := by
  have h (l : List Nat) (u : State) : (l.foldl (drainPort s.now dt) u).host = u.host :=
    foldl_keeps (fun u : State => u.host) (drainPort s.now dt) (fun u q => drainPort_host s.now dt u q) l u
  unfold elapse
  dsimp only
  rw [h, timeCounters_host]
@[simp] theorem advanceTo_host (s : State) (t : Nat) : (advanceTo s t).host = s.host := by
  unfold advanceTo; split
  · rfl
  · exact elapse_host _ _

@[simp] theorem reelWait_mail (n : Nat) (s : State) (r : Nat) : (reelWait n s r).mail = s.mail := by unfold reelWait; repeat (first | rfl | split)
@[simp] theorem seqStall_mail (n : Nat) (s : State) (d : Nat) : (seqStall n s d).mail = s.mail := by unfold seqStall; split <;> rfl
@[simp] theorem drainPort_mail (t dt : Nat) (s : State) (q : Nat) : (drainPort t dt s q).mail = s.mail := by
  unfold drainPort; split <;> rfl
@[simp] theorem timeCounters_mail (s : State) (dt n : Nat) : (timeCounters s dt n).mail = s.mail := by
  have h1 (l : List Nat) (u : State) : (l.foldl (reelWait dt) u).mail = u.mail :=
    foldl_keeps (fun u : State => u.mail) (reelWait dt) (fun u r => reelWait_mail dt u r) l u
  have h2 (l : List Nat) (u : State) : (l.foldl (seqStall n) u).mail = u.mail :=
    foldl_keeps (fun u : State => u.mail) (seqStall n) (fun u d => seqStall_mail n u d) l u
  unfold timeCounters
  dsimp only
  rw [h2, h1]
@[simp] theorem elapse_mail (s : State) (dt : Nat) : (elapse s dt).mail = s.mail := by
  have h (l : List Nat) (u : State) : (l.foldl (drainPort s.now dt) u).mail = u.mail :=
    foldl_keeps (fun u : State => u.mail) (drainPort s.now dt) (fun u q => drainPort_mail s.now dt u q) l u
  unfold elapse
  dsimp only
  rw [h, timeCounters_mail]
@[simp] theorem advanceTo_mail (s : State) (t : Nat) : (advanceTo s t).mail = s.mail := by
  unfold advanceTo; split
  · rfl
  · exact elapse_mail _ _

@[simp] theorem reelWait_sys (n : Nat) (s : State) (r : Nat) : (reelWait n s r).sys = s.sys := by unfold reelWait; repeat (first | rfl | split)
@[simp] theorem seqStall_sys (n : Nat) (s : State) (d : Nat) : (seqStall n s d).sys = s.sys := by unfold seqStall; split <;> rfl
@[simp] theorem drainPort_sys (t dt : Nat) (s : State) (q : Nat) : (drainPort t dt s q).sys = s.sys := by
  unfold drainPort; split <;> rfl
@[simp] theorem timeCounters_sys (s : State) (dt n : Nat) : (timeCounters s dt n).sys = s.sys := by
  have h1 (l : List Nat) (u : State) : (l.foldl (reelWait dt) u).sys = u.sys :=
    foldl_keeps (fun u : State => u.sys) (reelWait dt) (fun u r => reelWait_sys dt u r) l u
  have h2 (l : List Nat) (u : State) : (l.foldl (seqStall n) u).sys = u.sys :=
    foldl_keeps (fun u : State => u.sys) (seqStall n) (fun u d => seqStall_sys n u d) l u
  unfold timeCounters
  dsimp only
  rw [h2, h1]
@[simp] theorem elapse_sys (s : State) (dt : Nat) : (elapse s dt).sys = s.sys := by
  have h (l : List Nat) (u : State) : (l.foldl (drainPort s.now dt) u).sys = u.sys :=
    foldl_keeps (fun u : State => u.sys) (drainPort s.now dt) (fun u q => drainPort_sys s.now dt u q) l u
  unfold elapse
  dsimp only
  rw [h, timeCounters_sys]
@[simp] theorem advanceTo_sys (s : State) (t : Nat) : (advanceTo s t).sys = s.sys := by
  unfold advanceTo; split
  · rfl
  · exact elapse_sys _ _

/-- Time stands at the moment that is passed to it, or where it stood. -/
@[simp] theorem elapse_now (s : State) (dt : Nat) : (elapse s dt).now = s.now + dt := rfl
@[simp] theorem elapse_clk (s : State) (dt : Nat) : (elapse s dt).clk = stuElapse s.clk dt := rfl
@[simp] theorem advanceTo_now (s : State) (t : Nat) : (advanceTo s t).now = max s.now t := by
  unfold advanceTo; split
  · omega
  · rw [elapse_now]; omega

/-- A sequencer's stall counters are all that time moves in it. -/
theorem seqOf_seqStall_mem (n : Nat) (s : State) (d k : Nat) : (seqOf (seqStall n s d) k).mem = (seqOf s k).mem := by
  unfold seqStall; split
  · by_cases h : d = k
    · subst h
      by_cases hd : d < 8
      · simp [seqOf, updSeq, vget_vmod_same, hd]
      · simp [seqOf, vget, hd]
    · simp [seqOf, updSeq, vget_vmod_ne, h]
  · rfl

/-- Time leaves every storage as it is. -/
theorem StorageCanonical.elapse {s : State} (h : StorageCanonical s) (dt : Nat) : StorageCanonical (elapse s dt) := by
  refine ⟨by rw [elapse_arrays]; exact h.1, fun k => ?_⟩
  have e : (seqOf (Sys2Proof.Machine.elapse s dt) k).mem = (seqOf s k).mem := by
    have h1 (l : List Nat) (u : State) : (seqOf (l.foldl (reelWait dt) u) k).mem = (seqOf u k).mem :=
      foldl_keeps (fun u : State => (seqOf u k).mem) (reelWait dt) (fun u r => by unfold reelWait; repeat (first | rfl | split)) l u
    have h2 (n : Nat) (l : List Nat) (u : State) : (seqOf (l.foldl (seqStall n) u) k).mem = (seqOf u k).mem :=
      foldl_keeps (fun u : State => (seqOf u k).mem) (seqStall n) (fun u d => seqOf_seqStall_mem n u d k) l u
    have h3 (l : List Nat) (u : State) : (seqOf (l.foldl (drainPort s.now dt) u) k).mem = (seqOf u k).mem := by
      refine foldl_keeps (fun u : State => (seqOf u k).mem) (drainPort s.now dt) (fun u q => ?_) l u
      unfold drainPort; split <;> rfl
    have h4 (u : State) (t : Nat) (c : ClockS) (o : List Output) :
        (seqOf { u with now := t, clk := c, out := o } k).mem = (seqOf u k).mem := rfl
    have h5 (u : State) (w : PowerS) : (seqOf { u with power := w } k).mem = (seqOf u k).mem := rfl
    unfold Sys2Proof.Machine.elapse timeCounters
    dsimp only
    rw [h4, h3, h5, h2, h1]
  have hk := h.2 k
  rw [elapse_vxes, elapse_mem]
  refine ⟨hk.1, ?_, hk.2.2⟩
  have : (Sys2Proof.Machine.elapse s dt).seqs[k] = seqOf (Sys2Proof.Machine.elapse s dt) k := by simp [seqOf, vget]
  rw [this, e]
  exact (h.vget_die k).2.1

theorem StorageCanonical.advanceTo {s : State} (h : StorageCanonical s) (t : Nat) : StorageCanonical (advanceTo s t) := by
  unfold Sys2Proof.Machine.advanceTo; split
  · exact h
  · exact h.elapse _

/-- An event changes no storage. -/
theorem StorageCanonical.raise {s : State} (h : StorageCanonical s) (code uk ui det : Nat) (inj : Bool) :
    StorageCanonical (raise s code uk ui det inj) :=
  h.congr (raise_arrays ..) (raise_vxes ..) (raise_seqs ..) (by rw [raise_mem]) (by rw [raise_mem]) (by rw [raise_mem])

end Sys2Proof.Machine
end

