-- ==== Sys2Proof/WellFormed.lean ====
section
/-! DEFINITION. Which commands have a form that the spec gives: a VXE word carries its row's opcode, message data fits its
length field, a place names storage that exists. What a well-formed command may ask for wrongly is the machine's to refuse. -/

namespace Sys2Proof

/-- The OP field of a VXE word (R125, R126). -/
def opIs (w : BitVec 64) (op : Nat) : Bool := decide (w.toNat % 256 = op)

/-- Message data fits the 16-bit LEN field (R545); what lies above 1,024 bytes is dropped by the machine, not here. -/
def lengthOk (data : List Byte) : Bool := decide (data.length < 65536)

/-- A check names a tray of its array: 256 trays a row (R74). -/
def traysOk (mism : List (Nat × Nat)) : Bool := mism.all (fun (p : Nat × Nat) => decide (p.2 < 256))

/-- An observed word or granule starts on a multiple of its 8-byte word (R224, R260). -/
def obsOk : ReadObs → Bool
  | .clean => true
  | .corrected o => decide (o % 8 = 0)
  | .uncorrectable o => decide (o % 8 = 0)
  | .integrity o => decide (o % 8 = 0)

/-- A slice names storage or a unit that exists (R726, R731): 8 dies of 384 macros, 256 store regions, 512 HBM channels of 16
banks, 2 flash stacks, 64 arrays, 16 CLE lanes, 512 lanes. -/
def sliceOk : Slice → Bool
  | .sram d m => decide (d < 8 ∧ m < 384)
  | .storeBank r _ _ => decide (r < 256)
  | .hbmRow c b _ => decide (c < 512 ∧ b < 16)
  | .flashBlock k b => decide (k < 2 ∧ b < 262144)
  | .array a => decide (a < 64)
  | .cleLane i => decide (i < 16)
  | .lane l => decide (l < 512)

/-- A scrubbed line starts on a multiple of its 64 bytes (R260, R270). -/
def placeOk : ScrubAt → Bool
  | .line off => decide (off % 64 = 0)
  | .spare .. => true

/-- A wire test names each link once (R27). -/
def wiresOk (wires : List WireCount) : Bool := decide (wires.map (fun w => w.1)).Nodup

/-- The form of a command. -/
def Instr.wellFormed (i : Instr) : Bool :=
  match i with
  | .registerWrite _ _ _ _ data => lengthOk data
  | .linkTransfer _ _ => true
  | .pass _ _ _ _ _ _ _ mism rd fd => traysOk mism && obsOk fd && obsOk rd
  | .rowRerun _ mism rd => mism.all (fun t => decide (t < 256)) && obsOk rd
  | .passComplete _ mism rd => traysOk mism && obsOk rd
  | .requestedDrain _ _ _ => true
  | .requestedDrainCapture _ _ => true
  | .arrayHaltRequest _ _ _ => true
  | .arrayHalted _ => true
  | .arrayResume _ => true
  | .trayImageWrite _ _ => true
  | .arraySeedWrite _ _ _ => true
  | .arrayProofRunDone _ _ => true
  | .vxeNop _ w _ => opIs w 0
  | .add _ w _ => opIs w 1
  | .sub _ w _ => opIs w 2
  | .mul _ w _ => opIs w 3
  | .fma _ w _ => opIs w 4
  | .div _ w _ => opIs w 5
  | .sqrt _ w _ => opIs w 6
  | .rsqrt _ w _ => opIs w 7
  | .max _ w _ => opIs w 8
  | .min _ w _ => opIs w 9
  | .neg _ w _ => opIs w 0xA
  | .abs _ w _ => opIs w 0xB
  | .cpsgn _ w _ => opIs w 0xC
  | .cvt _ w _ => opIs w 0xD
  | .cmpeq _ w _ => opIs w 0x20
  | .cmpne _ w _ => opIs w 0x21
  | .cmplt _ w _ => opIs w 0x22
  | .cmple _ w _ => opIs w 0x23
  | .cmpgt _ w _ => opIs w 0x24
  | .cmpge _ w _ => opIs w 0x25
  | .mand _ w _ => opIs w 0x28
  | .mor _ w _ => opIs w 0x29
  | .mxor _ w _ => opIs w 0x2A
  | .mnot _ w _ => opIs w 0x2B
  | .mload _ w _ => opIs w 0x2C
  | .mstore _ w _ => opIs w 0x2D
  | .iadd _ w _ => opIs w 0x30
  | .isub _ w _ => opIs w 0x31
  | .imul _ w _ => opIs w 0x32
  | .idiv _ w _ => opIs w 0x33
  | .iand _ w _ => opIs w 0x34
  | .ior _ w _ => opIs w 0x35
  | .rsum _ w _ => opIs w 0x40
  | .rmax _ w _ => opIs w 0x41
  | .rmin _ w _ => opIs w 0x42
  | .rargmax _ w _ => opIs w 0x43
  | .rargmin _ w _ => opIs w 0x44
  | .scan _ w _ => opIs w 0x48
  | .scanmax _ w _ => opIs w 0x49
  | .act _ w _ => opIs w 0x50
  | .dact _ w _ => opIs w 0x51
  | .vxeCopy _ w _ => opIs w 0x58
  | .trans _ w _ => opIs w 0x59
  | .optam _ w _ => opIs w 0x60
  | .optmom _ w _ => opIs w 0x61
  | .optsgd _ w _ => opIs w 0x62
  | .vilcon _ w _ _ _ => opIs w 0x70
  | .vxeSeedWrite _ _ _ => true
  | .drawCounterImageWrite _ _ _ => true
  | .seqNop _ rc => true
  | .jump _ _ rc => true
  | .loop _ _ rc => true
  | .endloop _ rc => true
  | .call _ _ rc => true
  | .ret _ rc => true
  | .stepend _ rc => true
  | .halt _ rc => true
  | .wait _ _ _ rc => true
  | .waitSatisfied _ => true
  | .signal _ _ _ rc => true
  | .clear _ _ rc => true
  | .setx _ _ _ rc => true
  | .setmb _ _ rc => true
  | .kernel _ _ _ _ _ rc => true
  | .move _ _ _ _ _ _ _ _ _ rc => true
  | .coll _ _ _ _ _ rc => true
  | .sched _ _ _ _ _ _ rc => true
  | .operationComplete _ _ => true
  | .load _ _ => true
  | .admissionEnd _ => true
  | .unload _ _ => true
  | .run _ _ => true
  | .stop _ _ => true
  | .suspend _ _ => true
  | .suspendDone _ => true
  | .resume _ _ => true
  | .reelCopy _ _ _ => true
  | .send _ rd _ => obsOk rd
  | .recv _ _ => true
  | .fill _ _ => true
  | .iodReelDescriptor _ _ _ => true
  | .reelWatchdogTimeout _ => true
  | .proofRunStart sl => sliceOk sl
  | .proofRunDone sl _ _ => sliceOk sl
  | .pageRetireWrite _ _ _ _ => true
  | .scrubRead _ at_ rd _ _ => placeOk at_ && obsOk rd
  | .scrubBehind _ => true
  | .flashRelocate _ b _ _ _ target => decide (b ≠ target)
  | .flashBlockAged _ _ => true
  | .laserEnable _ _ => true
  | .laserDisable _ _ => true
  | .lsrOkAssert _ => true
  | .lsrOkDeassert _ => true
  | .laserEnableTimeout _ => true
  | .laserDisableEnd _ => true
  | .laserGraceExpiry _ => true
  | .lsrOkWhileOff _ => true
  | .laneTrained _ _ => true
  | .laneTrainingTimeout _ => true
  | .focusLoopUpdate _ _ _ _ => true
  | .lockLost _ _ => true
  | .heaterLimit _ _ => true
  | .pilotWindow _ _ _ => true
  | .laneIdMarker _ _ => true
  | .markerMissing _ => true
  | .relockAttemptDone _ _ _ => true
  | .laneProofRunDone _ _ => true
  | .laneCodewords _ => true
  | .requalifyLane _ _ _ => true
  | .resweep _ _ _ _ => true
  | .powerSample _ _ => true
  | .tripNotice _ _ => true
  | .shroudOpen => true
  | .shroudClose => true
  | .rxPowerLoss _ => true
  | .beaconWord _ _ => true
  | .safelightBackstop _ _ => true
  | .safelightExit _ => true
  | .heldRelease _ _ _ => true
  | .calibrationStage _ _ => true
  | .calibrationCommit _ => true
  | .calibrationWritten => true
  | .discoveryRecord _ _ => true
  | .discoveryRecordTimeout _ => true
  | .discoveryStart _ _ => true
  | .discoveryRoundA => true
  | .discoveryRoundB => true
  | .discoveryFinish => true
  | .discoveryDone => true
  | .memberLost _ => true
  | .codewordReceived _ _ => true
  | .controlPair _ _ => true
  | .cellRoute _ _ => true
  | .cellReceive _ => true
  | .ackTimer _ _ => true
  | .ackReceived _ => true
  | .nakTimer _ _ => true
  | .nakReceived _ => true
  | .resendTimer _ _ _ _ => true
  | .rtsReceived _ _ _ _ _ _ _ _ => true
  | .rtsRepeat _ => true
  | .grantReceived _ _ _ _ _ _ _ => true
  | .breadReceived _ _ _ _ _ _ _ _ _ => true
  | .rateIncrease _ _ => true
  | .barrier _ => true
  | .allreduce _ _ _ => true
  | .reducescatter _ _ _ => true
  | .allgather _ _ _ => true
  | .broadcast _ _ _ => true
  | .norm _ _ _ => true
  | .permute _ _ _ => true
  | .kvring _ _ _ => true
  | .callBegin _ => true
  | .agreeReceived _ _ _ _ _ => true
  | .agreeRepeat _ => true
  | .cleStepDone _ _ _ => true
  | .cleLaneSelfcheckDone _ _ => true
  | .permuteFetchRequest _ _ _ _ _ _ _ => true
  | .completionRoundEnd _ _ => true
  | .callEnd _ => true
  | .straggler _ _ => true
  | .abortReceived _ _ _ _ => true
  | .abortRepeat _ _ => true
  | .abortAckReceived _ _ _ => true
  | .collAbortWrite _ _ => true
  | .callContextWrite _ _ _ => true
  | .hostLaneLock _ => true
  | .hostLinkUp _ => true
  | .hostLinkDown _ => true
  | .hostTrainingFault _ => true
  | .hostTrainingRetry _ => true
  | .mkpduReceived _ _ => true
  | .macsecLost _ => true
  | .frameReceived _ _ _ _ _ => true
  | .hostRequestNak _ => true
  | .windowDescriptorWrite _ _ _ => true
  | .windowOpen _ _ => true
  | .windowClose _ _ => true
  | .windowCloseDone _ => true
  | .rdmaAckReceived _ _ => true
  | .readResponseReceived _ _ bytes _ => decide (bytes.length ≤ 4096)
  | .rdmaNakReceived _ => true
  | .rdmaAckTimeout _ => true
  | .cnpReceived _ => true
  | .windowRateIncrease _ => true
  | .pfcFrame _ _ _ => true
  | .read _ _ => true
  | .write _ _ data _ => lengthOk data
  | .stageWrite _ _ _ data _ => lengthOk data
  | .describe _ _ => true
  | .blkrd _ _ => true
  | .blkwr _ _ _ _ => true
  | .blkdata _ _ data _ => lengthOk data
  | .blkack _ _ _ => true
  | .blkackTimer _ => true
  | .blkabort _ _ => true
  | .transferStalled _ => true
  | .sessOpen _ _ data => lengthOk data
  | .sessConfirm _ _ data => lengthOk data
  | .sessionConfirmTimeout _ => true
  | .sessClose _ _ => true
  | .sessionIdleTimeout _ => true
  | .envelope _ _ => true
  | .spdm _ _ m => lengthOk m
  | .getVersion _ _ _ _ => true
  | .getCapabilities _ _ _ _ rest => lengthOk rest
  | .negotiateAlgorithms _ _ _ _ rest => lengthOk rest
  | .getDigests _ _ _ _ => true
  | .getCertificate _ _ _ _ rest => lengthOk rest
  | .challenge _ _ _ _ rest => lengthOk rest
  | .getMeasurements _ _ _ _ rest => lengthOk rest
  | .aonDeviceTimeout => true
  | .shutterOpen _ _ => true
  | .shutterAbort _ _ => true
  | .exposureClose _ _ _ => true
  | .exposurePrepared _ => true
  | .exposureCommit _ => true
  | .exposureExpired _ => true
  | .mailboxPost _ _ _ => true
  | .mailboxRelease _ _ => true
  | .noticeClear _ _ => true
  | .receiverReady _ => true
  | .wakeFailed _ => true
  | .proposalBody _ _ _ => true
  | .countersign _ _ _ _ => true
  | .proposalReject _ _ => true
  | .proposalExpiry _ => true
  | .claim _ _ => true
  | .claimingExpiry => true
  | .zeroisePartition _ _ => true
  | .zeroiseHostLink _ _ => true
  | .zeroiseAll _ => true
  | .zeroiseRewriteDone _ => true
  | .dieClearDone _ => true
  | .refclkLost => true
  | .refclkRestored => true
  | .stepPulse => true
  | .stepLost => true
  | .epochWrite _ _ => true
  | .alignmentComplete => true
  | .inputValid _ => true
  | .inputUndervoltage _ => true
  | .inputOvervoltage _ => true
  | .regulatorFault _ => true
  | .powerBudgetUpdate _ _ _ _ _ => true
  | .sensorSample _ => true
  | .slewHoldEnd _ => true
  | .throttleRise _ => true
  | .thermalHold _ => true
  | .thermtrip _ _ => true
  | .performancePointWrite _ _ _ => true
  | .performancePointDone _ => true
  | .powerStateP0 _ => true
  | .powerStateP1 _ => true
  | .powerStateP2 _ => true
  | .powerStateP3 _ => true
  | .powerStateChangeDone _ wires => wiresOk wires
  | .islandSleep _ => true
  | .islandWake _ => true
  | .resetIsland _ _ => true
  | .resetDie _ _ => true
  | .resetPackage _ => true
  | .resetCold _ => true
  | .resetRecovery _ => true
  | .recoveryArmLapse => true
  | .latchedResetRun => true
  | .rstNAssert _ => true
  | .bootStart wires _ _ => wiresOk wires
  | .bootDone => true
  | .watchdogWrite => true
  | .mgpReset => true
  | .firmwareStage _ _ => true
  | .firmwareCommit _ => true
  | .firmwareWritten => true
  | .functionEnable _ _ => true
  | .functionDisable _ _ => true
  | .functionChangeDone _ wires => wiresOk wires
  | .i3cWake => true
  | .i3cReset => true
  | .i3cAttn => true
  | .i3cStatusRead => true
  | .entdaa _ => true
  | .rstdaa => true
  | .getpid => true
  | .getbcr => true
  | .getdcr => true
  | .getstatus => true
  | .bypass => true
  | .idcode => true
  | .samplePreload _ _ => true
  | .extest => true
  | .clamp => true
  | .highz => true
  | .requalifyUnit _ _ _ _ => true
  | .injectionArm _ _ _ => true
  | .serviceNormal _ => true
  | .serviceRequested _ => true
  | .serviceInService _ => true
  | .svcBtnAssert => true
  | .svcBtnHold5s => true
  | .svcBtnHold10s => true
  | .svcBtnRelease => true
  | .leaveReset _ => true
  | .inputRemoved => true
  | .sharedCounterSnapshot => true
  | .breadRepeat _ => true

end Sys2Proof
end

