-- ==== Sys2Proof/Laws/PerInstr.lean ====
section
/-! SUPPORT. What holds of every command as syntax: the opcode table gives it no bits, so no word spells it. -/

namespace Sys2Proof.Laws.NoWordSpellsIt

/-- No word of the opcode table's bits spells the command, whatever its form. -/
def Statement (i : Instr) : Prop := ∀ nbits w : Nat, decodeTableWord nbits w ≠ some i

theorem statement_of (i : Instr) : Statement i := fun _ _ h => by simp [decodeTableWord] at h

theorem registerWrite (a : Asker) (index : U16) (sub : U8) (inst : BitVec 12) (data : List Byte) : Statement (.registerWrite a index sub inst data) := statement_of _
theorem linkTransfer (l : Fin 56) (crcOk : Bool) : Statement (.linkTransfer l crcOk) := statement_of _
theorem pass (die : Fin 8) (a : Fin 8) (w : BitVec 64) (slots : BitVec 18) (sigc : Fin 32) (sige : Bool) (n : Nat) (mism : List (Nat × Nat)) (rd : ReadObs) (fd : ReadObs) : Statement (.pass die a w slots sigc sige n mism rd fd) := statement_of _
theorem rowRerun (arr : Fin 64) (mism : List Nat) (rd : ReadObs) : Statement (.rowRerun arr mism rd) := statement_of _
theorem passComplete (arr : Fin 64) (mism : List (Nat × Nat)) (rd : ReadObs) : Statement (.passComplete arr mism rd) := statement_of _
theorem requestedDrain (arr : Fin 64) (n : Nat) (rd : ReadObs) : Statement (.requestedDrain arr n rd) := statement_of _
theorem requestedDrainCapture (arr : Fin 64) (aborted : Bool) : Statement (.requestedDrainCapture arr aborted) := statement_of _
theorem arrayHaltRequest (a : Asker) (n : Nat) (rd : ReadObs) : Statement (.arrayHaltRequest a n rd) := statement_of _
theorem arrayHalted (arr : Fin 64) : Statement (.arrayHalted arr) := statement_of _
theorem arrayResume (a : Asker) : Statement (.arrayResume a) := statement_of _
theorem trayImageWrite (a : Asker) (img : BitVec 640) : Statement (.trayImageWrite a img) := statement_of _
theorem arraySeedWrite (a : Asker) (arr : Fin 64) (seed : U32) : Statement (.arraySeedWrite a arr seed) := statement_of _
theorem arrayProofRunDone (arr : Fin 64) (passed : Bool) : Statement (.arrayProofRunDone arr passed) := statement_of _
theorem vxeNop (die : Fin 8) (w : BitVec 64) (rd : ReadObs) : Statement (.vxeNop die w rd) := statement_of _
theorem add (die : Fin 8) (w : BitVec 64) (rd : ReadObs) : Statement (.add die w rd) := statement_of _
theorem sub (die : Fin 8) (w : BitVec 64) (rd : ReadObs) : Statement (.sub die w rd) := statement_of _
theorem mul (die : Fin 8) (w : BitVec 64) (rd : ReadObs) : Statement (.mul die w rd) := statement_of _
theorem fma (die : Fin 8) (w : BitVec 64) (rd : ReadObs) : Statement (.fma die w rd) := statement_of _
theorem div (die : Fin 8) (w : BitVec 64) (rd : ReadObs) : Statement (.div die w rd) := statement_of _
theorem sqrt (die : Fin 8) (w : BitVec 64) (rd : ReadObs) : Statement (.sqrt die w rd) := statement_of _
theorem rsqrt (die : Fin 8) (w : BitVec 64) (rd : ReadObs) : Statement (.rsqrt die w rd) := statement_of _
theorem max (die : Fin 8) (w : BitVec 64) (rd : ReadObs) : Statement (.max die w rd) := statement_of _
theorem min (die : Fin 8) (w : BitVec 64) (rd : ReadObs) : Statement (.min die w rd) := statement_of _
theorem neg (die : Fin 8) (w : BitVec 64) (rd : ReadObs) : Statement (.neg die w rd) := statement_of _
theorem abs (die : Fin 8) (w : BitVec 64) (rd : ReadObs) : Statement (.abs die w rd) := statement_of _
theorem cpsgn (die : Fin 8) (w : BitVec 64) (rd : ReadObs) : Statement (.cpsgn die w rd) := statement_of _
theorem cvt (die : Fin 8) (w : BitVec 64) (rd : ReadObs) : Statement (.cvt die w rd) := statement_of _
theorem cmpeq (die : Fin 8) (w : BitVec 64) (rd : ReadObs) : Statement (.cmpeq die w rd) := statement_of _
theorem cmpne (die : Fin 8) (w : BitVec 64) (rd : ReadObs) : Statement (.cmpne die w rd) := statement_of _
theorem cmplt (die : Fin 8) (w : BitVec 64) (rd : ReadObs) : Statement (.cmplt die w rd) := statement_of _
theorem cmple (die : Fin 8) (w : BitVec 64) (rd : ReadObs) : Statement (.cmple die w rd) := statement_of _
theorem cmpgt (die : Fin 8) (w : BitVec 64) (rd : ReadObs) : Statement (.cmpgt die w rd) := statement_of _
theorem cmpge (die : Fin 8) (w : BitVec 64) (rd : ReadObs) : Statement (.cmpge die w rd) := statement_of _
theorem mand (die : Fin 8) (w : BitVec 64) (rd : ReadObs) : Statement (.mand die w rd) := statement_of _
theorem mor (die : Fin 8) (w : BitVec 64) (rd : ReadObs) : Statement (.mor die w rd) := statement_of _
theorem mxor (die : Fin 8) (w : BitVec 64) (rd : ReadObs) : Statement (.mxor die w rd) := statement_of _
theorem mnot (die : Fin 8) (w : BitVec 64) (rd : ReadObs) : Statement (.mnot die w rd) := statement_of _
theorem mload (die : Fin 8) (w : BitVec 64) (rd : ReadObs) : Statement (.mload die w rd) := statement_of _
theorem mstore (die : Fin 8) (w : BitVec 64) (rd : ReadObs) : Statement (.mstore die w rd) := statement_of _
theorem iadd (die : Fin 8) (w : BitVec 64) (rd : ReadObs) : Statement (.iadd die w rd) := statement_of _
theorem isub (die : Fin 8) (w : BitVec 64) (rd : ReadObs) : Statement (.isub die w rd) := statement_of _
theorem imul (die : Fin 8) (w : BitVec 64) (rd : ReadObs) : Statement (.imul die w rd) := statement_of _
theorem idiv (die : Fin 8) (w : BitVec 64) (rd : ReadObs) : Statement (.idiv die w rd) := statement_of _
theorem iand (die : Fin 8) (w : BitVec 64) (rd : ReadObs) : Statement (.iand die w rd) := statement_of _
theorem ior (die : Fin 8) (w : BitVec 64) (rd : ReadObs) : Statement (.ior die w rd) := statement_of _
theorem rsum (die : Fin 8) (w : BitVec 64) (rd : ReadObs) : Statement (.rsum die w rd) := statement_of _
theorem rmax (die : Fin 8) (w : BitVec 64) (rd : ReadObs) : Statement (.rmax die w rd) := statement_of _
theorem rmin (die : Fin 8) (w : BitVec 64) (rd : ReadObs) : Statement (.rmin die w rd) := statement_of _
theorem rargmax (die : Fin 8) (w : BitVec 64) (rd : ReadObs) : Statement (.rargmax die w rd) := statement_of _
theorem rargmin (die : Fin 8) (w : BitVec 64) (rd : ReadObs) : Statement (.rargmin die w rd) := statement_of _
theorem scan (die : Fin 8) (w : BitVec 64) (rd : ReadObs) : Statement (.scan die w rd) := statement_of _
theorem scanmax (die : Fin 8) (w : BitVec 64) (rd : ReadObs) : Statement (.scanmax die w rd) := statement_of _
theorem act (die : Fin 8) (w : BitVec 64) (rd : ReadObs) : Statement (.act die w rd) := statement_of _
theorem dact (die : Fin 8) (w : BitVec 64) (rd : ReadObs) : Statement (.dact die w rd) := statement_of _
theorem vxeCopy (die : Fin 8) (w : BitVec 64) (rd : ReadObs) : Statement (.vxeCopy die w rd) := statement_of _
theorem trans (die : Fin 8) (w : BitVec 64) (rd : ReadObs) : Statement (.trans die w rd) := statement_of _
theorem optam (die : Fin 8) (w : BitVec 64) (rd : ReadObs) : Statement (.optam die w rd) := statement_of _
theorem optmom (die : Fin 8) (w : BitVec 64) (rd : ReadObs) : Statement (.optmom die w rd) := statement_of _
theorem optsgd (die : Fin 8) (w : BitVec 64) (rd : ReadObs) : Statement (.optsgd die w rd) := statement_of _
theorem vilcon (die : Fin 8) (w : BitVec 64) (n : Nat) (fault : Option (Fin 3 × U32)) (rd : ReadObs) : Statement (.vilcon die w n fault rd) := statement_of _
theorem vxeSeedWrite (a : Asker) (die : Fin 8) (seed : U32) : Statement (.vxeSeedWrite a die seed) := statement_of _
theorem drawCounterImageWrite (a : Asker) (die : Fin 8) (img : List Byte) : Statement (.drawCounterImageWrite a die img) := statement_of _
theorem seqNop (die : Fin 8) (rd : ReadObs) : Statement (.seqNop die rd) := statement_of _
theorem jump (die : Fin 8) (off : U32) (rd : ReadObs) : Statement (.jump die off rd) := statement_of _
theorem loop (die : Fin 8) (n : U32) (rd : ReadObs) : Statement (.loop die n rd) := statement_of _
theorem endloop (die : Fin 8) (rd : ReadObs) : Statement (.endloop die rd) := statement_of _
theorem call (die : Fin 8) (off : U32) (rd : ReadObs) : Statement (.call die off rd) := statement_of _
theorem ret (die : Fin 8) (rd : ReadObs) : Statement (.ret die rd) := statement_of _
theorem stepend (die : Fin 8) (rd : ReadObs) : Statement (.stepend die rd) := statement_of _
theorem halt (die : Fin 8) (rd : ReadObs) : Statement (.halt die rd) := statement_of _
theorem wait (die : Fin 8) (c : Fin 32) (least : U16) (rd : ReadObs) : Statement (.wait die c least rd) := statement_of _
theorem waitSatisfied (die : Fin 8) : Statement (.waitSatisfied die) := statement_of _
theorem signal (die : Fin 8) (c : Fin 32) (peer : Fin 8) (rd : ReadObs) : Statement (.signal die c peer rd) := statement_of _
theorem clear (die : Fin 8) (c : Fin 32) (rd : ReadObs) : Statement (.clear die c rd) := statement_of _
theorem setx (die : Fin 8) (x : Fin 16) (v : U32) (rd : ReadObs) : Statement (.setx die x v rd) := statement_of _
theorem setmb (die : Fin 8) (v : U16) (rd : ReadObs) : Statement (.setmb die v rd) := statement_of _
theorem kernel (die : Fin 8) (off count : U32) (sigc : Fin 32) (sige : Bool) (rd : ReadObs) : Statement (.kernel die off count sigc sige rd) := statement_of _
theorem move (die : Fin 8) (reel : Fin 8) (desc stride : U32) (src dst : Bool) (sigc : Fin 32) (sige pf : Bool) (rd : ReadObs) : Statement (.move die reel desc stride src dst sigc sige pf rd) := statement_of _
theorem coll (die : Fin 8) (group : U8) (desc : U32) (sigc : Fin 32) (sige : Bool) (rd : ReadObs) : Statement (.coll die group desc sigc sige rd) := statement_of _
theorem sched (die : Fin 8) (st sn : U8) (mb : U16) (fwd bwd : U32) (rd : ReadObs) : Statement (.sched die st sn mb fwd bwd rd) := statement_of _
theorem operationComplete (die : Fin 8) (op : Nat) : Statement (.operationComplete die op) := statement_of _
theorem load (a : Asker) (p : Fin 8) : Statement (.load a p) := statement_of _
theorem admissionEnd (p : Fin 8) : Statement (.admissionEnd p) := statement_of _
theorem unload (a : Asker) (p : Fin 8) : Statement (.unload a p) := statement_of _
theorem run (a : Asker) (p : Fin 8) : Statement (.run a p) := statement_of _
theorem stop (a : Asker) (p : Fin 8) : Statement (.stop a p) := statement_of _
theorem suspend (a : Asker) (p : Fin 8) : Statement (.suspend a p) := statement_of _
theorem suspendDone (p : Fin 8) : Statement (.suspendDone p) := statement_of _
theorem resume (a : Asker) (p : Fin 8) : Statement (.resume a p) := statement_of _
theorem reelCopy (r : Fin 68) (rd : ReadObs) (peer : PeerSays) : Statement (.reelCopy r rd peer) := statement_of _
theorem send (r : Fin 68) (rd : ReadObs) (peer : PeerSays) : Statement (.send r rd peer) := statement_of _
theorem recv (r : Fin 68) (peer : PeerSays) : Statement (.recv r peer) := statement_of _
theorem fill (r : Fin 68) (peer : PeerSays) : Statement (.fill r peer) := statement_of _
theorem iodReelDescriptor (a : Asker) (r : Fin 4) (d : BitVec 512) : Statement (.iodReelDescriptor a r d) := statement_of _
theorem reelWatchdogTimeout (r : Fin 68) : Statement (.reelWatchdogTimeout r) := statement_of _
theorem proofRunStart (sl : Slice) : Statement (.proofRunStart sl) := statement_of _
theorem proofRunDone (sl : Slice) (passed path : Bool) : Statement (.proofRunDone sl passed path) := statement_of _
theorem pageRetireWrite (a : Asker) (e : Fin 16) (k : Fin 8) (page : U32) : Statement (.pageRetireWrite a e k page) := statement_of _
theorem scrubRead (u : Fin 24) (at_ : ScrubAt) (rd : ReadObs) (progress : Fin 101) (held : Bool) : Statement (.scrubRead u at_ rd progress held) := statement_of _
theorem scrubBehind (u : Fin 24) : Statement (.scrubBehind u) := statement_of _
theorem flashRelocate (st : Fin 2) (b : Fin 262144) (why : RelocReason) (len : Fin 16777217) (fin : RelocEnd) (target : Fin 262144) : Statement (.flashRelocate st b why len fin target) := statement_of _
theorem flashBlockAged (st : Fin 2) (b : Fin 262144) : Statement (.flashBlockAged st b) := statement_of _
theorem laserEnable (a : Asker) (n : Fin 16) : Statement (.laserEnable a n) := statement_of _
theorem laserDisable (a : Asker) (n : Fin 16) : Statement (.laserDisable a n) := statement_of _
theorem lsrOkAssert (n : Fin 16) : Statement (.lsrOkAssert n) := statement_of _
theorem lsrOkDeassert (n : Fin 16) : Statement (.lsrOkDeassert n) := statement_of _
theorem laserEnableTimeout (n : Fin 16) : Statement (.laserEnableTimeout n) := statement_of _
theorem laserDisableEnd (n : Fin 16) : Statement (.laserDisableEnd n) := statement_of _
theorem laserGraceExpiry (n : Fin 16) : Statement (.laserGraceExpiry n) := statement_of _
theorem lsrOkWhileOff (n : Fin 16) : Statement (.lsrOkWhileOff n) := statement_of _
theorem laneTrained (l : Fin 512) (trim : Fin 201) : Statement (.laneTrained l trim) := statement_of _
theorem laneTrainingTimeout (l : Fin 512) : Statement (.laneTrainingTimeout l) := statement_of _
theorem focusLoopUpdate (e : Fin 32) (i : Fin 240) (feedback detuning : Int) : Statement (.focusLoopUpdate e i feedback detuning) := statement_of _
theorem lockLost (e : Fin 32) (i : Fin 240) : Statement (.lockLost e i) := statement_of _
theorem heaterLimit (e : Fin 32) (i : Fin 240) : Statement (.heaterLimit e i) := statement_of _
theorem pilotWindow (e : Fin 32) (i : Fin 240) (line : Option (Fin 16)) : Statement (.pilotWindow e i line) := statement_of _
theorem laneIdMarker (l : Fin 512) (m : U64) : Statement (.laneIdMarker l m) := statement_of _
theorem markerMissing (l : Fin 512) : Statement (.markerMissing l) := statement_of _
theorem relockAttemptDone (l : Fin 512) (seen : Option (Fin 16)) (before : Option (Fin 16)) : Statement (.relockAttemptDone l seen before) := statement_of _
theorem laneProofRunDone (l : Fin 512) (ok : Bool) : Statement (.laneProofRunDone l ok) := statement_of _
theorem laneCodewords (l : Fin 512) : Statement (.laneCodewords l) := statement_of _
theorem requalifyLane (a : Asker) (e : Fin 32) (mask : U16) : Statement (.requalifyLane a e mask) := statement_of _
theorem resweep (e : Fin 32) (fm fr fd : Int) : Statement (.resweep e fm fr fd) := statement_of _
theorem powerSample (die : Fin 8) (mw : Nat) : Statement (.powerSample die mw) := statement_of _
theorem tripNotice (die : Fin 8) (mw : Nat) : Statement (.tripNotice die mw) := statement_of _
theorem shroudOpen : Statement (.shroudOpen) := statement_of _
theorem shroudClose : Statement (.shroudClose) := statement_of _
theorem rxPowerLoss (q : Fin 48) : Statement (.rxPowerLoss q) := statement_of _
theorem beaconWord (q : Fin 48) (w : U32) : Statement (.beaconWord q w) := statement_of _
theorem safelightBackstop (q : Fin 48) (launch : U16) : Statement (.safelightBackstop q launch) := statement_of _
theorem safelightExit (q : Fin 48) : Statement (.safelightExit q) := statement_of _
theorem heldRelease (n : Fin 16) (bad0 bad1 : Option (Fin 16)) : Statement (.heldRelease n bad0 bad1) := statement_of _
theorem calibrationStage (a : Asker) (img : List Byte) : Statement (.calibrationStage a img) := statement_of _
theorem calibrationCommit (a : Asker) : Statement (.calibrationCommit a) := statement_of _
theorem calibrationWritten : Statement (.calibrationWritten) := statement_of _
theorem discoveryRecord (q : Fin 48) (rec_ : BitVec 256) : Statement (.discoveryRecord q rec_) := statement_of _
theorem discoveryRecordTimeout (q : Fin 48) : Statement (.discoveryRecordTimeout q) := statement_of _
theorem discoveryStart (a : Asker) (t : U64) : Statement (.discoveryStart a t) := statement_of _
theorem discoveryRoundA : Statement (.discoveryRoundA) := statement_of _
theorem discoveryRoundB : Statement (.discoveryRoundB) := statement_of _
theorem discoveryFinish : Statement (.discoveryFinish) := statement_of _
theorem discoveryDone : Statement (.discoveryDone) := statement_of _
theorem memberLost (q : Fin 48) : Statement (.memberLost q) := statement_of _
theorem codewordReceived (l : Fin 512) (d : Decoded) : Statement (.codewordReceived l d) := statement_of _
theorem controlPair (q : Fin 48) (c : ControlPair) : Statement (.controlPair q c) := statement_of _
theorem cellRoute (q : Fin 48) (c : BitVec 512) : Statement (.cellRoute q c) := statement_of _
theorem cellReceive (c : BitVec 512) : Statement (.cellReceive c) := statement_of _
theorem ackTimer (ep : Fin 16) (slot : Fin 4096) : Statement (.ackTimer ep slot) := statement_of _
theorem ackReceived (c : BitVec 512) : Statement (.ackReceived c) := statement_of _
theorem nakTimer (ep : Fin 16) (slot : Fin 4096) : Statement (.nakTimer ep slot) := statement_of _
theorem nakReceived (c : BitVec 512) : Statement (.nakReceived c) := statement_of _
theorem resendTimer (ep : Fin 16) (peer : U16) (peerEp : Fin 16) (slot : Fin 4096) : Statement (.resendTimer ep peer peerEp slot) := statement_of _
theorem rtsReceived (ep : Fin 16) (peer : U16) (peerEp : Fin 16) (tag : U16) (nt : U32) (efmt : Fin 8) (eint : Bool) (sig : U64) : Statement (.rtsReceived ep peer peerEp tag nt efmt eint sig) := statement_of _
theorem rtsRepeat (who : RtsFrom) : Statement (.rtsRepeat who) := statement_of _
theorem grantReceived (ep : Fin 16) (peer : U16) (peerEp : Fin 16) (tag : U16) (slot : Fin 4096) (first : Fin 16777216) (size : Bool) : Statement (.grantReceived ep peer peerEp tag slot first size) := statement_of _
theorem breadReceived (peer : U16) (peerEp : Fin 16) (slot : Fin 4096) (first : Fin 16777216) (addr : U64) (lay : Fin 4) (efmt : Fin 8) (pitch : U16) (rd : ReadObs) : Statement (.breadReceived peer peerEp slot first addr lay efmt pitch rd) := statement_of _
theorem rateIncrease (member : U16) (vc : Fin 5) : Statement (.rateIncrease member vc) := statement_of _
theorem barrier (i : Fin 64) : Statement (.barrier i) := statement_of _
theorem allreduce (i : Fin 64) (peers : List (List Byte)) (rd : ReadObs) : Statement (.allreduce i peers rd) := statement_of _
theorem reducescatter (i : Fin 64) (peers : List (List Byte)) (rd : ReadObs) : Statement (.reducescatter i peers rd) := statement_of _
theorem allgather (i : Fin 64) (peers : List (List Byte)) (rd : ReadObs) : Statement (.allgather i peers rd) := statement_of _
theorem broadcast (i : Fin 64) (data : List Byte) (rd : ReadObs) : Statement (.broadcast i data rd) := statement_of _
theorem norm (i : Fin 64) (peers : List (List Byte)) (rd : ReadObs) : Statement (.norm i peers rd) := statement_of _
theorem permute (i : Fin 64) (blocks : List (List (List Byte))) (rd : ReadObs) : Statement (.permute i blocks rd) := statement_of _
theorem kvring (i : Fin 64) (recv : List (List Byte)) (rd : ReadObs) : Statement (.kvring i recv rd) := statement_of _
theorem callBegin (i : Fin 64) : Statement (.callBegin i) := statement_of _
theorem agreeReceived (i : Fin 64) (peer : U16) (call : U32) (sig : U64) (ok : Bool) : Statement (.agreeReceived i peer call sig ok) := statement_of _
theorem agreeRepeat (i : Fin 64) : Statement (.agreeRepeat i) := statement_of _
theorem cleStepDone (i : Fin 64) (residue : Option (Fin 16)) (replayOk : Bool) : Statement (.cleStepDone i residue replayOk) := statement_of _
theorem cleLaneSelfcheckDone (l : Fin 16) (passed : Bool) : Statement (.cleLaneSelfcheckDone l passed) := statement_of _
theorem permuteFetchRequest (i : Fin 64) (peer : U16) (slot : Fin 4096) (first : Fin 16777216) (rank : Fin 8) (blk : U32) (rd : ReadObs) : Statement (.permuteFetchRequest i peer slot first rank blk rd) := statement_of _
theorem completionRoundEnd (i : Fin 64) (rd : ReadObs) : Statement (.completionRoundEnd i rd) := statement_of _
theorem callEnd (i : Fin 64) : Statement (.callEnd i) := statement_of _
theorem straggler (i : Fin 64) (peer : Fin 8192) : Statement (.straggler i peer) := statement_of _
theorem abortReceived (i : Fin 64) (peer : U16) (call : U32) (status : Fin 8) : Statement (.abortReceived i peer call status) := statement_of _
theorem abortRepeat (i : Fin 64) (peer : U16) : Statement (.abortRepeat i peer) := statement_of _
theorem abortAckReceived (i : Fin 64) (peer : U16) (call : U32) : Statement (.abortAckReceived i peer call) := statement_of _
theorem collAbortWrite (a : Asker) (i : Fin 64) : Statement (.collAbortWrite a i) := statement_of _
theorem callContextWrite (a : Asker) (i : Fin 64) (img : BitVec 2048) : Statement (.callContextWrite a i img) := statement_of _
theorem hostLaneLock (n : Fin 2) : Statement (.hostLaneLock n) := statement_of _
theorem hostLinkUp (n : Fin 2) : Statement (.hostLinkUp n) := statement_of _
theorem hostLinkDown (n : Fin 2) : Statement (.hostLinkDown n) := statement_of _
theorem hostTrainingFault (n : Fin 2) : Statement (.hostTrainingFault n) := statement_of _
theorem hostTrainingRetry (n : Fin 2) : Statement (.hostTrainingRetry n) := statement_of _
theorem mkpduReceived (n : Fin 2) (sak : Bool) : Statement (.mkpduReceived n sak) := statement_of _
theorem macsecLost (n : Fin 2) : Statement (.macsecLost n) := statement_of _
theorem frameReceived (n : Fin 2) (kind : FrameKind) (macsecOk : Bool) (fixed lost : Nat) : Statement (.frameReceived n kind macsecOk fixed lost) := statement_of _
theorem hostRequestNak (w : Fin 256) : Statement (.hostRequestNak w) := statement_of _
theorem windowDescriptorWrite (a : Asker) (w : Fin 256) (d : BitVec 512) : Statement (.windowDescriptorWrite a w d) := statement_of _
theorem windowOpen (a : Asker) (w : Fin 256) : Statement (.windowOpen a w) := statement_of _
theorem windowClose (a : Asker) (w : Fin 256) : Statement (.windowClose a w) := statement_of _
theorem windowCloseDone (w : Fin 256) : Statement (.windowCloseDone w) := statement_of _
theorem rdmaAckReceived (w : Fin 256) (psn : BitVec 24) : Statement (.rdmaAckReceived w psn) := statement_of _
theorem readResponseReceived (w : Fin 256) (psn : BitVec 24) (bytes : List Byte) (ce : Bool) : Statement (.readResponseReceived w psn bytes ce) := statement_of _
theorem rdmaNakReceived (w : Fin 256) : Statement (.rdmaNakReceived w) := statement_of _
theorem rdmaAckTimeout (w : Fin 256) : Statement (.rdmaAckTimeout w) := statement_of _
theorem cnpReceived (w : Fin 256) : Statement (.cnpReceived w) := statement_of _
theorem windowRateIncrease (w : Fin 256) : Statement (.windowRateIncrease w) := statement_of _
theorem pfcFrame (n : Fin 2) (prio : Fin 8) (quanta : U16) : Statement (.pfcFrame n prio quanta) := statement_of _
theorem read (a : Asker) (r : Req) : Statement (.read a r) := statement_of _
theorem write (a : Asker) (r : Req) (data : List Byte) (obs : WriteObs) : Statement (.write a r data obs) := statement_of _
theorem stageWrite (a : Asker) (e : Fin 16) (r : Req) (data : List Byte) (obs : WriteObs) : Statement (.stageWrite a e r data obs) := statement_of _
theorem describe (a : Asker) (r : Req) : Statement (.describe a r) := statement_of _
theorem blkrd (a : Asker) (r : Req) : Statement (.blkrd a r) := statement_of _
theorem blkwr (a : Asker) (r : Req) (total : U32) (obs : WriteObs) : Statement (.blkwr a r total obs) := statement_of _
theorem blkdata (a : Asker) (r : Req) (data : List Byte) (obs : WriteObs) : Statement (.blkdata a r data obs) := statement_of _
theorem blkack (a : Asker) (r : Req) (map : U64) : Statement (.blkack a r map) := statement_of _
theorem blkackTimer (id : U16) : Statement (.blkackTimer id) := statement_of _
theorem blkabort (a : Asker) (r : Req) : Statement (.blkabort a r) := statement_of _
theorem transferStalled (id : U16) : Statement (.transferStalled id) := statement_of _
theorem sessOpen (addr : Nat) (r : Req) (data : List Byte) : Statement (.sessOpen addr r data) := statement_of _
theorem sessConfirm (addr : Nat) (r : Req) (data : List Byte) : Statement (.sessConfirm addr r data) := statement_of _
theorem sessionConfirmTimeout (id : U32) : Statement (.sessionConfirmTimeout id) := statement_of _
theorem sessClose (id : U32) (r : Req) : Statement (.sessClose id r) := statement_of _
theorem sessionIdleTimeout (id : U32) : Statement (.sessionIdleTimeout id) := statement_of _
theorem envelope (bs : List Byte) (obs : WriteObs) : Statement (.envelope bs obs) := statement_of _
theorem spdm (id : U32) (r : Req) (m : List Byte) : Statement (.spdm id r m) := statement_of _
theorem getVersion (id : U32) (r : Req) (p1 p2 : U8) : Statement (.getVersion id r p1 p2) := statement_of _
theorem getCapabilities (id : U32) (r : Req) (p1 p2 : U8) (rest : List Byte) : Statement (.getCapabilities id r p1 p2 rest) := statement_of _
theorem negotiateAlgorithms (id : U32) (r : Req) (p1 p2 : U8) (rest : List Byte) : Statement (.negotiateAlgorithms id r p1 p2 rest) := statement_of _
theorem getDigests (id : U32) (r : Req) (p1 p2 : U8) : Statement (.getDigests id r p1 p2) := statement_of _
theorem getCertificate (id : U32) (r : Req) (p1 p2 : U8) (rest : List Byte) : Statement (.getCertificate id r p1 p2 rest) := statement_of _
theorem challenge (id : U32) (r : Req) (p1 p2 : U8) (rest : List Byte) : Statement (.challenge id r p1 p2 rest) := statement_of _
theorem getMeasurements (id : U32) (r : Req) (p1 p2 : U8) (rest : List Byte) : Statement (.getMeasurements id r p1 p2 rest) := statement_of _
theorem aonDeviceTimeout : Statement (.aonDeviceTimeout) := statement_of _
theorem shutterOpen (a : Asker) (e : Fin 16) : Statement (.shutterOpen a e) := statement_of _
theorem shutterAbort (a : Asker) (e : Fin 16) : Statement (.shutterAbort a e) := statement_of _
theorem exposureClose (a : Asker) (e : Fin 16) (t : U64) : Statement (.exposureClose a e t) := statement_of _
theorem exposurePrepared (e : Fin 16) : Statement (.exposurePrepared e) := statement_of _
theorem exposureCommit (e : Fin 16) : Statement (.exposureCommit e) := statement_of _
theorem exposureExpired (e : Fin 16) : Statement (.exposureExpired e) := statement_of _
theorem mailboxPost (a : Asker) (c : Fin 64) (data : List Byte) : Statement (.mailboxPost a c data) := statement_of _
theorem mailboxRelease (a : Asker) (c : Fin 64) : Statement (.mailboxRelease a c) := statement_of _
theorem noticeClear (a : Asker) (c : Fin 64) : Statement (.noticeClear a c) := statement_of _
theorem receiverReady (sep : Bool) : Statement (.receiverReady sep) := statement_of _
theorem wakeFailed (c : Fin 64) : Statement (.wakeFailed c) := statement_of _
theorem proposalBody (a : Asker) (k : Fin 4) (body : List Byte) : Statement (.proposalBody a k body) := statement_of _
theorem countersign (a : Asker) (k : Fin 4) (cred : U8) (sig : BitVec 768) : Statement (.countersign a k cred sig) := statement_of _
theorem proposalReject (a : Asker) (k : Fin 4) : Statement (.proposalReject a k) := statement_of _
theorem proposalExpiry (k : Fin 4) : Statement (.proposalExpiry k) := statement_of _
theorem claim (a : Asker) (entries : BitVec 1792) : Statement (.claim a entries) := statement_of _
theorem claimingExpiry : Statement (.claimingExpiry) := statement_of _
theorem zeroisePartition (a : Asker) (p : Fin 8) : Statement (.zeroisePartition a p) := statement_of _
theorem zeroiseHostLink (a : Asker) (n : Fin 2) : Statement (.zeroiseHostLink a n) := statement_of _
theorem zeroiseAll (a : Asker) : Statement (.zeroiseAll a) := statement_of _
theorem zeroiseRewriteDone (p : Fin 8) : Statement (.zeroiseRewriteDone p) := statement_of _
theorem dieClearDone (k : Fin 8) : Statement (.dieClearDone k) := statement_of _
theorem refclkLost : Statement (.refclkLost) := statement_of _
theorem refclkRestored : Statement (.refclkRestored) := statement_of _
theorem stepPulse : Statement (.stepPulse) := statement_of _
theorem stepLost : Statement (.stepLost) := statement_of _
theorem epochWrite (a : Asker) (e : U64) : Statement (.epochWrite a e) := statement_of _
theorem alignmentComplete : Statement (.alignmentComplete) := statement_of _
theorem inputValid (mv : U16) : Statement (.inputValid mv) := statement_of _
theorem inputUndervoltage (mv : U16) : Statement (.inputUndervoltage mv) := statement_of _
theorem inputOvervoltage (mv : U16) : Statement (.inputOvervoltage mv) := statement_of _
theorem regulatorFault (r : Fin 210) : Statement (.regulatorFault r) := statement_of _
theorem powerBudgetUpdate (mv : U16) (ma power : U32) (projected : Nat) (dies : Vector (U16 × U16 × U16) 8) : Statement (.powerBudgetUpdate mv ma power projected dies) := statement_of _
theorem sensorSample (temps : Vector Int 932) : Statement (.sensorSample temps) := statement_of _
theorem slewHoldEnd (k : Fin 8) : Statement (.slewHoldEnd k) := statement_of _
theorem throttleRise (k : Fin 8) : Statement (.throttleRise k) := statement_of _
theorem thermalHold (k : Fin 8) : Statement (.thermalHold k) := statement_of _
theorem thermtrip (uk : Fin 21) (ui : Fin 4096) : Statement (.thermtrip uk ui) := statement_of _
theorem performancePointWrite (a : Asker) (k : Fin 8) (point : U8) : Statement (.performancePointWrite a k point) := statement_of _
theorem performancePointDone (k : Fin 8) : Statement (.performancePointDone k) := statement_of _
theorem powerStateP0 (a : Asker) : Statement (.powerStateP0 a) := statement_of _
theorem powerStateP1 (a : Asker) : Statement (.powerStateP1 a) := statement_of _
theorem powerStateP2 (a : Asker) : Statement (.powerStateP2 a) := statement_of _
theorem powerStateP3 (a : Asker) : Statement (.powerStateP3 a) := statement_of _
theorem powerStateChangeDone (idle : Vector U16 8) (wires : List WireCount) : Statement (.powerStateChangeDone idle wires) := statement_of _
theorem islandSleep (sep : Bool) : Statement (.islandSleep sep) := statement_of _
theorem islandWake (sep : Bool) : Statement (.islandWake sep) := statement_of _
theorem resetIsland (a : Asker) (i : U8) : Statement (.resetIsland a i) := statement_of _
theorem resetDie (a : Asker) (k : Fin 8) : Statement (.resetDie a k) := statement_of _
theorem resetPackage (a : Asker) : Statement (.resetPackage a) := statement_of _
theorem resetCold (a : Asker) : Statement (.resetCold a) := statement_of _
theorem resetRecovery (a : Asker) : Statement (.resetRecovery a) := statement_of _
theorem recoveryArmLapse : Statement (.recoveryArmLapse) := statement_of _
theorem latchedResetRun : Statement (.latchedResetRun) := statement_of _
theorem rstNAssert (ns : Nat) : Statement (.rstNAssert ns) := statement_of _
theorem bootStart (wires : List WireCount) (calOk imgOk : Bool) : Statement (.bootStart wires calOk imgOk) := statement_of _
theorem bootDone : Statement (.bootDone) := statement_of _
theorem watchdogWrite : Statement (.watchdogWrite) := statement_of _
theorem mgpReset : Statement (.mgpReset) := statement_of _
theorem firmwareStage (a : Asker) (img : List Byte) : Statement (.firmwareStage a img) := statement_of _
theorem firmwareCommit (a : Asker) : Statement (.firmwareCommit a) := statement_of _
theorem firmwareWritten : Statement (.firmwareWritten) := statement_of _
theorem functionEnable (a : Asker) (f : Fin 10) : Statement (.functionEnable a f) := statement_of _
theorem functionDisable (a : Asker) (f : Fin 10) : Statement (.functionDisable a f) := statement_of _
theorem functionChangeDone (f : Fin 10) (wires : List WireCount) : Statement (.functionChangeDone f wires) := statement_of _
theorem i3cWake : Statement (.i3cWake) := statement_of _
theorem i3cReset : Statement (.i3cReset) := statement_of _
theorem i3cAttn : Statement (.i3cAttn) := statement_of _
theorem i3cStatusRead : Statement (.i3cStatusRead) := statement_of _
theorem entdaa (addr : BitVec 7) : Statement (.entdaa addr) := statement_of _
theorem rstdaa : Statement (.rstdaa) := statement_of _
theorem getpid : Statement (.getpid) := statement_of _
theorem getbcr : Statement (.getbcr) := statement_of _
theorem getdcr : Statement (.getdcr) := statement_of _
theorem getstatus : Statement (.getstatus) := statement_of _
theorem bypass : Statement (.bypass) := statement_of _
theorem idcode : Statement (.idcode) := statement_of _
theorem samplePreload (lands preload : BitVec 41) : Statement (.samplePreload lands preload) := statement_of _
theorem extest : Statement (.extest) := statement_of _
theorem clamp : Statement (.clamp) := statement_of _
theorem highz : Statement (.highz) := statement_of _
theorem requalifyUnit (a : Asker) (uk : U8) (ui : BitVec 12) (passed : Bool) : Statement (.requalifyUnit a uk ui passed) := statement_of _
theorem injectionArm (a : Asker) (d : Fin 17) (mode : Fin 4) : Statement (.injectionArm a d mode) := statement_of _
theorem serviceNormal (a : Asker) : Statement (.serviceNormal a) := statement_of _
theorem serviceRequested (a : Asker) : Statement (.serviceRequested a) := statement_of _
theorem serviceInService (a : Asker) : Statement (.serviceInService a) := statement_of _
theorem svcBtnAssert : Statement (.svcBtnAssert) := statement_of _
theorem svcBtnHold5s : Statement (.svcBtnHold5s) := statement_of _
theorem svcBtnHold10s : Statement (.svcBtnHold10s) := statement_of _
theorem svcBtnRelease : Statement (.svcBtnRelease) := statement_of _
theorem leaveReset (u : ResetUnit) : Statement (.leaveReset u) := statement_of _
theorem inputRemoved : Statement (.inputRemoved) := statement_of _
theorem sharedCounterSnapshot : Statement (.sharedCounterSnapshot) := statement_of _
theorem breadRepeat (r : Fin 68) : Statement (.breadRepeat r) := statement_of _

end Sys2Proof.Laws.NoWordSpellsIt
end

