-- ==== Sys2Proof/Laws/Reads.lean ====
section
/-! SUPPORT. What a read of a protected storage can do where nothing is wrong with it (R258, R261): nothing. So a sequencer
whose program has come to an instruction issues it. -/

namespace Sys2Proof.Machine

/-- No point of a quiet state fires (R735). -/
theorem injArmed_quiet {s : State} (h : Quiet s) (d uk ui : Nat) : injArmed s d uk ui = none := by
  unfold injArmed pointTarget
  by_cases hd : d < 17
  · have e : s.ev.points[d].armed = false := h.1 ⟨d, hd⟩
    simp [vget, hd, e]
  · simp [vget, hd, InjPoint.reset]

theorem fireReads_quiet {s : State} (h : Quiet s) (pl : Place) (l : List (Nat × Nat × Nat × Nat)) : fireReads pl l s = (s, none) := by
  induction l with
  | nil => rfl
  | cons x l ih =>
    obtain ⟨d, uk, ui, o⟩ := x
    simp only [fireReads, injArmed_quiet h]
    exact ih

/-- A read of a quiet state in which nothing is observed gives its data and changes nothing. -/
theorem readCheck_quiet {s : State} (h : Quiet s) (pl : Place) (off len : Nat) : readCheck s pl off len .clean = (s, none) := by
  unfold readCheck readChecked
  simp [badsIn, h.2, fireReads_quiet h]

theorem readRuns_quiet {s : State} (h : Quiet s) (pl : Place) (l : List (Nat × Nat)) : readRuns pl l .clean s = (s, none) := by
  induction l with
  | nil => rfl
  | cons x l ih =>
    obtain ⟨o, n⟩ := x
    simp only [readRuns, readCheck_quiet h]
    exact ih

/-- A die that issues an instruction gives it its effect. -/
theorem issueAt_issues {s : State} {die : Nat} {is_ : SeqF → Bool} (h : Issues s die is_) (k : State → State) :
    issueAt s die is_ .clean k = k s := by
  unfold issueAt fetchIssue fetchCheck
  rw [readRuns_quiet h.2.2]
  simp [h.1, h.2.1]

/-- Where issue is held, an instruction does nothing. -/
theorem issueAt_held {s : State} {die : Nat} (h : canIssue s die = false) (is_ : SeqF → Bool) (rd : ReadObs) (k : State → State) :
    issueAt s die is_ rd k = s := by
  unfold issueAt fetchIssue
  simp [h]

/-- A VXE word whose turn it is reads what it reads and withholds nothing, in a quiet state. -/
theorem vxeReadCheck_quiet {s : State} (h : Quiet s) (die : Nat) (w : BitVec 64) : vxeReadCheck s die w .clean = (s, false) := by
  unfold vxeReadCheck
  dsimp only
  split <;> simp [readCheck_quiet h, readRuns_quiet h, vxeBad, h.2]

/-- A word whose turn it is, in a quiet state: the VXE takes its body's result, is one word on in its kernel, and stops where
the body faulted (R126, R132). -/
theorem vxeRun_quiet {s : State} (h : Quiet s) {die op : Nat} {w : BitVec 64} (hat : vxeAt s die op w = true)
    (body : VxeF → VxeS → VxeRes) :
    vxeRun s die op w .clean body =
      if (body (vxeF w) (vxeOf s die)).fault = 0#16 then updVxe s die (fun _ => retire (body (vxeF w) (vxeOf s die)).v)
      else faultVxe (updVxe (updVxe s die (fun _ => retire (body (vxeF w) (vxeOf s die)).v)) die (fun x =>
        { x with faultWord := x.faultWord ||| (body (vxeF w) (vxeOf s die)).fault
                 faultOff := BitVec.ofNat 32 (kernelOffset (vxeOf s die)) })) die := by
  have e (u : State) (hu : u.mem.bad = []) (v : VxeS) : clearBad u die v w = u := by
    unfold clearBad updMem
    dsimp only
    rw [hu, List.filter_nil, ← hu]
  have e1 := e (updVxe s die (fun _ => retire (body (vxeF w) (vxeOf s die)).v)) h.2 (vxeOf s die)
  unfold vxeRun
  rw [if_pos hat, vxeReadCheck_quiet h]
  simp only [e1]
  simp

end Sys2Proof.Machine
end

