-- ==== Sys2Proof/Laws/Writes.lean ====
section
/-! SUPPORT. What a command does that is sent as its own row or that a sequencer issues, said once: a direct write is checked
and applied, or answered with the failing check; an instruction that may issue finds nothing that holds its die. -/

namespace Sys2Proof.Machine

/-- A direct write of an object that no operation of its own takes (R542): applied and answered 0, or answered with the check
that fails. -/
theorem writeAs_direct (s : State) (who : Ident) (x : ObjRef) (data : List Byte) (obs : WriteObs) (h : Serving s) (hg : isGroup x = false)
    (h1 : layoutOf x.index ≠ 0xC810) (h2 : layoutOf x.index ≠ 0xD510) (h3 : x.index ≠ 0x2F00) (h4 : x.index ≠ 0xD000) :
    writeAs s (.direct who) 0 x data obs =
      if checkDirect s (afterCommits s) (identNat who) x data = 0 then answered (applyObj s (identNat who) x data obs) who 0
      else answered s who (checkDirect s (afterCommits s) (identNat who) x data) := by
  obtain ⟨a, b, c, d, e, f, -⟩ := h
  simp only [writeAs, whoOf, a, attempt, b, gateOf, waitObject, needsSep, mgpUp, c, d, e, f]
  by_cases hc : checkDirect s (afterCommits s) (identNat who) x data = 0
  · simp [h4, h2, execRequest, wakeFor, f, d, needsSep, waitObject, runWrite, answersFirst, h3, objOf, writeObject, hg, writeDirect,
      checkWrite, h1, respond, answered, hc, namesObject]
  · simp [h4, h2, execRequest, wakeFor, f, d, needsSep, waitObject, runWrite, answersFirst, h3, objOf, writeObject, hg, writeDirect,
      checkWrite, respond, answered, hc, namesObject]

/-- Where issue is free, nothing holds it. -/
theorem canIssue_hold {s : State} {d : Nat} (h : canIssue s d = true) : (seqOf s d).hold = .none := by
  simp only [canIssue, Bool.and_eq_true, decide_eq_true_eq] at h
  simp_all

theorem canIssue_st {s : State} {d : Nat} (h : canIssue s d = true) : (seqOf s d).st ≠ .stalled := by
  simp only [canIssue, Bool.and_eq_true, decide_eq_true_eq] at h
  simp [h.1.1]

/-- Where issue is free, the hold that an issue clears is not there. -/
theorem unhold_issue {s : State} {d : Nat} (h : canIssue s d = true) : unhold (seqOf s d) = seqOf s d := by
  have hh := canIssue_hold h
  have hs := canIssue_st h
  unfold unhold
  rw [← hh]
  simp [hs]

/-- An instruction that only passes moves the program counter by one instruction. -/
theorem issue_step (s : State) (die : Nat) (h : canIssue s die = true) :
    updSeq s die (fun q => pcNext (unhold q)) = updSeq s die (fun q => { q with pc := q.pc + 16#32 }) := by
  apply updSeq_congr
  rw [unhold_issue h]
  rfl

/-! ### Answers -/

@[simp] theorem answered_out (s : State) (who : Ident) (c : Nat) : (answered s who c).out = s.out ++ [.status (identNat who) c] := rfl
@[simp] theorem heard_storage (s : State) (id : U32) : StorageCanonical (heard s id) ↔ StorageCanonical s := Iff.rfl

/-- An answer sent to a session changes no storage. -/
theorem StorageCanonical.answered {s : State} (h : StorageCanonical s) (who : Ident) (c : Nat) : StorageCanonical (answered s who c) := h

end Sys2Proof.Machine
end

