-- ==== Sys2Proof/Tests/Slice0.lean ====
section
/-! SUPPORT. Tests of the model: the forms that well-formedness refuses, small numeric cases worked out by hand from the
spec, and for every statement a state and operands that meet its hypotheses, with what the command leaves there. -/

namespace Sys2Proof.Tests

set_option Elab.async false

open Sys2Proof.Machine

/-! ### States to start from -/

/-- What an outcome's next state shows; a fault and a refusal show nothing. -/
def nextIs (r : Host.Outcome State Fault Refusal) (f : State → Bool) : Bool :=
  match r with
  | .next t => f t
  | _ => false

/-- The T1 ready and serving, with nothing done yet. -/
def base : State := { State.reset with
  sys := { SystemS.reset with boot := .ready, mgp := .up, sep := .up }
  power := { PowerS.reset with convertersOn := true, inputValid := true } }

theorem base_serving : Serving base ∧ Quiet base := by unfold Serving Quiet; decide +kernel

/-- Partition 0 holds dies 0 and 1 and runs its negative on both. -/
def two (st : LoadState) (q : SeqState) : State :=
  updSeq (updSeq (updNeg { base with sec := { SecurityS.reset with partMap := ((Vector.replicate 8 0xFF#8).set 0 0#8).set 1 0#8 } } 0
    (fun n => { n with dieMask := 3#8, state := st })) 0 (fun x => { x with st := q })) 1 (fun x => { x with st := q })

/-- The 16 bytes of a sequencer instruction (R186). -/
def seqWord (cls op unit sigc : Nat) (sige : Bool) (arg0 arg1 : Nat) : List Byte :=
  leBytes 16 (cls + op * 2 ^ 4 + unit * 2 ^ 8 + sigc * 2 ^ 16 + sige.toNat * 2 ^ 21 + arg0 * 2 ^ 32 + arg1 * 2 ^ 64)

/-- Die 0 runs a program of two words, and has come to the first of them at 16. -/
def prog (w : List Byte) : State := updSeq (two .running .running) 0 (fun q => { q with
  pc := 16#32, progLen := 48, kernBase := 64, descBase := 128, collBase := 1024, mem := memStore Mem.empty 16 w })

/-! ### Well-formedness -/

theorem wf_opcode : Instr.wellFormed (.add 0 0x02#64 .clean) = false ∧ Instr.wellFormed (.add 0 0x01#64 .clean) = true ∧
    Instr.wellFormed (.vilcon 0 0x71#64 0 none .clean) = false ∧ Instr.wellFormed (.optsgd 0 0x62#64 .clean) = true := by
  decide

theorem wf_length : (∀ d : List Byte, d.length = 65535 → Instr.wellFormed (.write (.plain 0) ⟨1, 0#16, 0#16, 0#8, 0#12, 0#8⟩ d noObs) = true) ∧
    (∀ d : List Byte, d.length = 65536 → Instr.wellFormed (.write (.plain 0) ⟨1, 0#16, 0#16, 0#8, 0#12, 0#8⟩ d noObs) = false ∧
      Instr.wellFormed (.spdm 0#32 ⟨1, 0#16, 0#16, 0#8, 0#12, 0#8⟩ d) = false) := by
  refine ⟨fun d h => ?_, fun d h => ⟨?_, ?_⟩⟩ <;> simp [Instr.wellFormed, lengthOk, h]

theorem wf_trays : Instr.wellFormed (.pass 0 0 0#64 0#18 0 false 0 [(0, 256)] .clean) = false ∧
    Instr.wellFormed (.pass 0 0 0#64 0#18 0 false 0 [(0, 255)] .clean) = true ∧
    Instr.wellFormed (.passComplete 0 [(0, 256)] .clean) = false ∧ Instr.wellFormed (.rowRerun 0 [256] .clean) = false := by
  decide

theorem wf_places : Instr.wellFormed (.scrubRead 0 (.line 16) .clean 0) = false ∧
    Instr.wellFormed (.scrubRead 0 (.line 64) (.corrected 12) 0) = false ∧ Instr.wellFormed (.scrubRead 0 (.line 64) (.corrected 8) 0) = true ∧
    Instr.wellFormed (.rowRerun 0 [] (.uncorrectable 4)) = false ∧ Instr.wellFormed (.rowRerun 0 [] (.integrity 4)) = false ∧
    Instr.wellFormed (.flashRelocate 0 5 .soft 0 .done 5) = false ∧ Instr.wellFormed (.flashRelocate 0 5 .soft 0 .done 6) = true := by
  decide

theorem wf_slices : Instr.wellFormed (.proofRunStart (.sram 8 0)) = false ∧ Instr.wellFormed (.proofRunStart (.sram 7 384)) = false ∧
    Instr.wellFormed (.proofRunStart (.storeBank 256 0 0)) = false ∧ Instr.wellFormed (.proofRunStart (.hbmRow 511 16 0)) = false ∧
    Instr.wellFormed (.proofRunStart (.flashBlock 2 0)) = false ∧ Instr.wellFormed (.proofRunStart (.array 64)) = false ∧
    Instr.wellFormed (.proofRunStart (.cleLane 16)) = false ∧ Instr.wellFormed (.proofRunStart (.lane 512)) = false ∧
    Instr.wellFormed (.proofRunStart (.lane 511)) = true := by
  decide

theorem wf_lists : Instr.wellFormed (.bootStart [(3, 1, 0), (3, 0, 1)] true true) = false ∧
    Instr.wellFormed (.bootStart [(3, 1, 0), (4, 1, 0)] true true) = true ∧
    Instr.wellFormed (.powerStateChangeDone (Vector.replicate 8 0#16) [(3, 1, 0), (3, 1, 0)]) = false ∧
    Instr.wellFormed (.functionChangeDone 0 [(3, 1, 0), (3, 1, 0)]) = false := by
  decide

/-! ### The block -/

theorem queue_witness :
    (match step { base with pending := [.shroudOpen, .shroudClose] } with
      | .next t => t.pending.length == 1 && t.optics.shroudOpen
      | _ => false) = true ∧
    (match step base with
      | .next t => t.now == 1
      | _ => false) = true := by
  refine ⟨?_, ?_⟩ <;> decide +kernel

/-- 2D00h:02, LOCATE, takes 0 and 1 from the Operator. -/
theorem write_witness :
    isGroup (objAt 0x2D00 2 0) = false ∧ layoutOf 0x2D00 = 0x2D00 ∧
    checkDirect base (afterCommits base) (identNat .operator) (objAt 0x2D00 2 0) [1#8] = 0 ∧
    nextIs (exec (.registerWrite (.direct .operator) 0x2D00#16 2#8 0#12 [1#8]) base)
      (fun t => t.ev.locate && t.out == [.status 0x50 0]) = true ∧
    checkDirect base (afterCommits base) (identNat .operator) (objAt 0x2D00 2 0) [2#8] = abRANGE ∧
    nextIs (exec (.registerWrite (.direct .operator) 0x2D00#16 2#8 0#12 [2#8]) base)
      (fun t => !t.ev.locate && t.out == [.status 0x50 7]) = true ∧
    nextIs (exec (.registerWrite (.direct (.driver 0)) 0x2D00#16 2#8 0#12 [1#8]) base)
      (fun t => !t.ev.locate && t.out == [.status 0x20 9]) = true := by
  decide +kernel

/-! ### Matrix arrays -/

/-- The ends of R79: the largest value takes nothing more, the least goes no lower, and infinities meet in NaN. -/
theorem tray_add_ends :
    ((trayAdd { Tray.fresh with value := BitVec.ofInt 560 (2 ^ 559 - 2) } { TreeSum.zero with v := 1 } false).1.value.toInt = 2 ^ 559 - 1) ∧
    ((trayAdd { Tray.fresh with value := BitVec.ofInt 560 (2 ^ 559 - 2) } { TreeSum.zero with v := 1 } false).1.sat = false) ∧
    ((trayAdd { Tray.fresh with value := BitVec.ofInt 560 (2 ^ 559 - 1) } { TreeSum.zero with v := 1 } false).1.sat = true) ∧
    ((trayAdd { Tray.fresh with value := BitVec.ofInt 560 (-(2 ^ 559)) } { TreeSum.zero with v := -1 } false).1.value.toInt = -(2 ^ 559)) ∧
    ((trayAdd { Tray.fresh with value := BitVec.ofInt 560 (1 - 2 ^ 559) } { TreeSum.zero with v := -1 } false).1.sat = false) ∧
    ((trayAdd { Tray.fresh with pinf := true } { TreeSum.zero with ninf := true } false).1.nan = true) ∧
    ((trayAdd { Tray.fresh with pinf := true } { TreeSum.zero with ninf := true } false).1.invr = true) := by decide +kernel

/-- One drain for each line of R86. -/
theorem drain_cases :
    drainTray .bf16 .rne 0 { Tray.fresh with nan := true, invr := true } = (nanCode .bf16, stINV) ∧
    drainTray .bf16 .rne 0 { Tray.fresh with pinf := true } = (0x7F80, 0#8) ∧
    drainTray .bf16 .rne 0 { Tray.fresh with ninf := true } = (0xFF80, 0#8) ∧
    drainTray .bf16 .rne 0 { Tray.fresh with sat := true, value := BitVec.ofInt 560 (-1) } = (0xFF80, stOVF ||| stINX) ∧
    drainTray .bf16 .rne 0 Tray.fresh = (0x8000, 0#8) ∧
    drainTray .bf16 .rne 0 { Tray.fresh with neg0 := false } = (0, 0#8) ∧
    drainTray .bf16 .rne 0 { Tray.fresh with value := BitVec.ofInt 560 (2 ^ 266) } = (0x3F80, 0#8) := by decide +kernel

/-- An array of die 0 whose one row chunk is still to come; a whole pass of one row, one chunk. -/
def running0 : State := updArr base 0 (fun a => { a with
  st := .running, pass := some { newPass 0#64 1 2 3 7 with at_ := 1 } })

def passDone : State := updSeq running0 0 (fun q => { q with
  st := .running, nextOp := 8
  ops := [{ id := 7, body := .pass 0 0#64 1 2 3, reads := [], writes := [], sigc := 5, sige := true, started := true }] })

theorem pass_starts_witness :
    spells (seqOf (prog (seqWord 3 0 3 4 true 0x3081 0)) 0) 16 (fun f => isPass 3 0#64 0x3081#18 f && hasSig 4 true f) = true ∧
    (let s := prog (seqWord 3 0 3 4 true 0x3081 0)
     canIssue s 0 && (seqOf s 0).ops == [] && (arrOf s 3).st == .idle && (arrOf s 3).halt == .running && !(arrOf s 3).proofRun &&
      islandRuns s (arrIsland 3) && s.mem.bad == []) = true ∧
    nextIs (exec (.pass 0 3 0#64 0x3081#18 4 true 0 [] .clean) (prog (seqWord 3 0 3 4 true 0x3081 0))) (fun t => (arrOf t 3).st == .running &&
      (arrOf t 3).pass == some { newPass 0#64 1 2 3 0 with loads := false } && (seqOf t 0).pc == 32#32 &&
      (seqOf t 0).ops.map (fun o => (o.id, o.sigc, o.sige, o.started)) == [(0, 4, true, true)]) = true := by decide +kernel

theorem pass_completes_witness :
    ((arrOf passDone 0).pass.any (fun p => chunksLeft p == 0 && p.reruns == [] && !p.open_ && p.op == 7) &&
      (arrOf passDone 0).halt == .running && passDone.ev.proofs == [] && (seqOf passDone 0).hold == .none &&
      partOfDie passDone 0 == none) = true ∧
    nextIs (exec (.passComplete 0 [] .clean) passDone) (fun t => (arrOf t 0).st == .idle && (arrOf t 0).pass == none &&
      (seqOf t 0).ops == [] && (seqOf t 0).ctrs[5] == 1#16) = true := by decide +kernel

/-- A run counter of zero and one that is not, each under a requested drain; and a poisoned run that waits for its rerun. -/
def drained (n : BitVec 40) (open_ : Bool) : State := updArr running0 0 (fun a => { a with
  run := n, drainReq := true, pass := a.pass.map (fun p => { p with open_ := open_ }) })

def poisoned0 (word : BitVec 64) (len : Nat) : State := updArr running0 0 (fun a => { a with pass := a.pass.map (fun p => { p with
  word := word, at_ := 1, reruns := [{ row := 0, start := 0, len := len, d := 9#48, fromPark := false, toDest := false, tray := 3, inj := false, persist := false }] }) })

theorem requested_drain_witness :
    nextIs (exec (.requestedDrain 0 0 .clean) running0) (fun t => (arrOf t 0).drainReq &&
      (arrOf t 0).pass == (arrOf running0 0).pass.map (fun p => { p with loads := false })) = true ∧
    nextIs (exec (.requestedDrainCapture 0 false) (drained 0#40 false)) (fun t => !(arrOf t 0).drainReq) = true ∧
    nextIs (exec (.requestedDrainCapture 0 false) (drained 1#40 true)) (fun t => !(arrOf t 0).drainReq && (arrOf t 0).run == 0#40) = true ∧
    drainAborts (drained 1#40 true) 0 (passF 0#64) = false := by decide +kernel

/-- In dot mode, with the mismatch again in tray 0 and without it. -/
theorem row_rerun_witness :
    (arrOf (poisoned0 0x2000#64 1) 0).pass.any (fun p => !p.open_ && p.reruns.length == 1) = true ∧
    nextIs (exec (.rowRerun 0 [0] .clean) (poisoned0 0x2000#64 1)) (fun t => (arrOf t 0).st == .faulted && (arrOf t 0).pass == none) = true ∧
    nextIs (exec (.rowRerun 0 [] .clean) (poisoned0 0#64 0)) (fun t => (arrOf t 0).pass.any (fun p => p.reruns == [] && p.poisoned == none) &&
      t.ev.counts[5] == 1#32) = true := by decide +kernel

/-- R548: a write that acts on a unit out of service is answered DEVICE. -/
theorem test_write_unit_down :
    nextIs (exec (.arraySeedWrite (.direct .operator) 63 5#32) (updArr base 63 (fun a => { a with st := .outOfService })))
      (fun t => t.out == [.status 0x50 0x19] && (arrOf t 63).seed == 0#32) = true := by decide +kernel

/-- The debug identity's array of die 1, halted. -/
def debug1 (h : HaltCtl) (st : ArrState) : State := updArr { base with
  dbg := { arraySel := 9#8, traySel := 255#8 }, sec := { SecurityS.reset with debugEn := 2#8 } } 9 (fun a => { a with halt := h, st := st })

theorem array_control_witness :
    objHeld base (objAt 0x8400 1 63) = false ∧ (arrOf base 63).st ≠ .outOfService ∧
    nextIs (exec (.arraySeedWrite (.direct .operator) 63 5#32) (updArr base 63 (fun a => { a with dIndex := 8#48 })))
      (fun t => (arrOf t 63).seed == 5#32 && (arrOf t 63).dIndex == 0#48 && t.out == [.status 0x50 0]) = true ∧
    nextIs (exec (.arrayHaltRequest (.direct .debug) 0 .clean) (debug1 .running .idle))
      (fun t => (arrOf t 9).halt == .halting && t.out == [.status 0x40 0]) = true ∧
    nextIs (exec (.arrayHalted 9) (debug1 .halting .running)) (fun t => (arrOf t 9).halt == .halted && (arrOf t 9).st == .halted) = true ∧
    nextIs (exec (.arrayResume (.direct .debug)) (debug1 .halted .halted))
      (fun t => (arrOf t 9).halt == .running && (arrOf t 9).st == .idle && t.out == [.status 0x40 0]) = true ∧
    nextIs (exec (.trayImageWrite (.direct .debug) (1#640 + 2#640 ^ 564 + 7#640 * 2#640 ^ 576 + 2#640 ^ 616)) (debug1 .halted .halted))
      (fun t => (vget (arrOf t 9).trays 255 Tray.fresh).value == 1#560 && (vget (arrOf t 9).trays 255 Tray.fresh).sat &&
        (vget (arrOf t 9).trays 255 Tray.fresh).res == 1#7 && (arrOf t 9).run == 7#40 && (arrOf t 9).long &&
        t.out == [.status 0x40 0]) = true := by decide +kernel

def proving (persist : Bool) : State := updEv (updArr base 9 (fun a => { a with proofRun := true }))
  (fun e => { e with proofs := [{ slice := .array 9, at_ := 0, inj := false, persist := persist, running := true }] })

theorem array_proof_witness :
    nextIs (exec (.arrayProofRunDone 9 false) (proving false)) (fun t => (arrOf t 9).st == .faulted) = true ∧
    nextIs (exec (.arrayProofRunDone 9 true) (proving false)) (fun t => (arrOf t 9).st == .idle && !(arrOf t 9).proofRun &&
      t.ev.proofs == [] && t.ev.counts[1] == 1#32) = true := by decide +kernel

/-! ### Numbers and the vector engine -/

/-- Halfway cases of R40 in BF16: to even, below and above; and the other modes of R41 and R43. -/
theorem rounding_ties : convert .fp32 .bf16 .rne 0 0x3F808000 = (0x3F80, stINX) ∧ convert .fp32 .bf16 .rne 0 0x3F818000 = (0x3F82, stINX) ∧
    convert .fp32 .bf16 .rne 0 0x3F808001 = (0x3F81, stINX) ∧ convert .fp32 .bf16 .rz 0 0x3F80FFFF = (0x3F80, stINX) ∧
    convert .fp32 .bf16 .sr 0x7FFF 0x3F808000 = (0x3F80, stINX) ∧ convert .fp32 .bf16 .sr 0x8000 0x3F808000 = (0x3F81, stINX) := by
  decide +kernel

/-- The top and the bottom of F8A (R31 to R33, R42, R48): 240 is its largest value, 2^-9 its least. -/
theorem f8a_ends : convert .fp32 .f8a .rne 0 0x43700000 = (0x77, 0#8) ∧ convert .fp32 .f8a .rne 0 0x43740000 = (0x77, stINX ||| stOVF) ∧
    convert .fp32 .f8a .rne 0 0x43780000 = (0x78, stINX ||| stOVF) ∧ convert .fp32 .f8a .rz 0 0x43960000 = (0x77, stINX ||| stOVF) ∧
    convert .fp32 .f8a .rne 0 0x3B000000 = (1, 0#8) ∧ convert .fp32 .f8a .rne 0 0x3A800000 = (0, stINX ||| stUNF) ∧
    convert .fp32 .f8a .rne 0 0xBA800001 = (0x81, stINX ||| stUNF) := by decide +kernel

/-- Invalid operations and passed NaNs (R35, R36, R48, R52), and the compares with NaN and zeros (R53, R54). -/
theorem special_operands : roundExact .fp32 .rne 0 (subExact (.inf false) (.inf false)) = (0x7FC00000, stINV) ∧
    roundExact .fp32 .rne 0 (mulExact (.inf true) (.fin false 0 0)) = (0x7FC00000, stINV) ∧
    convert .f8b .fp32 .rne 0 0xFF = (0x7FC00000, 0#8) ∧ roundExact .fp32 .rne 0 (sqrtExact (.fin true 0 0)) = (0x80000000, 0#8) ∧
    roundExact .fp32 .rne 0 (addExact (.fin true 0 0) (.fin true 0 0)) = (0x80000000, 0#8) ∧
    roundExact .fp32 .rne 0 (addExact (.fin true 1 0) (.fin false 1 0)) = (0, 0#8) ∧
    cmpNum .nan .nan = none ∧ maxNum (.fin true 0 0) (.fin false 0 0) = .fin false 0 0 ∧ maxNum .nan (.inf false) = .nan := by
  decide +kernel

/-- One third, its square root and its reciprocal square root, rounded once (R52). -/
theorem rounded_once : roundExact .fp32 .rne 0 (divExact (.fin false 1 0) (.fin false 3 0)) = (0x3EAAAAAB, stINX) ∧
    roundExact .fp32 .rne 0 (sqrtExact (.fin false 2 0)) = (0x3FB504F3, stINX) ∧
    roundExact .fp32 .rne 0 (rsqrtExact (.fin false 4 0)) = (0x3F000000, 0#8) ∧
    roundExact .fp32 .rne 0 (fmaExact (readNum .fp32 0x3F800001) (readNum .fp32 0x3F800001) (readNum .fp32 0xBF800002)) =
      (0x28800000, 0#8) := by decide +kernel

/-- The split of 3EAAAAABh of R56. -/
theorem split_of_a_third : splitFp32 0x3EAAAAAB = (readNum .bf16 0x3EAA, readNum .bf16 0x3AAA, readNum .bf16 0x36AB) := by
  decide +kernel

/-- DST 1, SA 2, SB 3, SC 4, unmasked, FP32, RNE, on die 3 with sheet 2 in FP32 and two valid tables in pair 0. -/
def vxeWord : BitVec 64 := 0x0408D100#64

/-- The VXE of die 3 runs a kernel whose next word has an opcode and the fields of `vxeWord`. -/
def engine (op : Nat) : State := updSeq (updVxe base 3 (fun v => { v with
  st := .running, kernel := some { op := 0, offset := 8, count := 3, done := 1 }
  sheets := v.sheets.set 2 { fmt := 4#3, int := false, status := 0#8 }
  mem := memStore (memStore Mem.empty 0x180003 [0x5A#8]) 0x190003 [0x5A#8] })) 3
  (fun q => { q with mem := memStore Mem.empty 16 (leBytes 8 (vxeWord.toNat + op)) })

theorem vxe_witness : ([0, 1, 2, 3, 4, 5, 6, 7, 8, 9, 0xA, 0xB, 0xC, 0xD, 0x20, 0x21, 0x22, 0x23, 0x24, 0x25, 0x28, 0x29, 0x2A, 0x2B,
      0x2C, 0x2D, 0x30, 0x31, 0x32, 0x33, 0x34, 0x35, 0x40, 0x41, 0x42, 0x43, 0x44, 0x48, 0x49, 0x50, 0x51, 0x58, 0x59, 0x60, 0x61, 0x62,
      0x70].all (fun op => vxeAt (engine op) 3 op (vxeWord + BitVec.ofNat 64 op))) = true ∧ (engine 0).mem.bad = [] ∧ vxeF vxeWord =
      { op := 0, dst := 1, sa := 2, sb := 3, sc := 4, msk := 0, zm := false, dfmt := 4, dint := false, rmode := 0, seg := 0,
        dir := false, excl := false, tpair := 0, scal := 0 } := by decide +kernel

theorem vxe_operands_witness :
    srcTag (vxeOf (engine 0) 3) (vxeF vxeWord) (vxeF vxeWord).sa = ((vxeF vxeWord).dfmt, false) ∧
    (tableAt (vxeOf (engine 0) 3) 0).valid = true ∧ (tableAt (vxeOf (engine 0) 3) 1).valid = true ∧ (tableAt (vxeOf base 3) 0).valid = false ∧
    maskBit (vxeOf (engine 0) 3) 0 255 255 = true ∧ signedOf 32 (srcRaw (vxeOf (engine 0) 3) (vxeF vxeWord) 3 255 255) = 0 ∧
    signedOf 32 (srcRaw (vxeOf (updVxe base 3 (fun v => { v with xs := Vector.replicate 16 1#32 })) 3) (vxeF vxeWord) 6 0 0) ≠ 0 ∧
    (vget (vxeOf (engine 0) 3).xs 0 0#32).toNat + 8192 ≤ 6291456 ∧
    6291456 < (vget (vxeOf (updVxe base 3 (fun v => { v with xs := Vector.replicate 16 6283265#32 })) 3).xs 0 0#32).toNat + 8192 ∧
    runningNeg (two .running .running) 1 = some 0 ∧ dieStopped (seqOf (two .running .running) 1) = false := by decide +kernel

theorem vxe_nop_and_vilcon :
    nextIs (exec (.vxeNop 3 vxeWord .clean) (engine 0)) (fun t => (vxeOf t 3).retired == 1#64 &&
      (vxeOf t 3).kernel == some { op := 0, offset := 8, count := 3, done := 2 }) = true ∧
    (vilconF (vxeWord + 0x70#64)).ws = 1 ∧
    nextIs (exec (.vxeSeedWrite (.direct .operator) 3 7#32) base) (fun t => (vxeOf t 3).seed == 7#32 && t.out == [.status 0x50 0]) = true ∧
    vxeShown base 3 = .idle ∧ objHeld base (objAt 0x8500 5 3) = false := by decide +kernel

/-- The scan of R139 over the numbers 1, 2 and 3, and with a new segment at the last. -/
theorem scan_line : (scanLine (fun a b => num32 (addExact a b) 0#8) (.fin false 0 0) (.fin false 0 0) true
      [⟨true, false, .fin false 1 0⟩, ⟨true, false, .fin false 2 0⟩, ⟨true, true, .fin false 3 0⟩]).map (fun x => roundExact .fp32 .rne 0 (exactOf x.2.1)) =
    [(0x3F800000, 0#8), (0x40400000, 0#8), (0x40400000, 0#8)] := by decide +kernel

/-! ### Sequencers and negatives -/

def atDie0 (f : SeqS → SeqS) : State := updSeq base 0 f

theorem control_witness :
    (canIssue (prog (seqWord 0 0 0 0 false 0 0)) 0 && (prog []).mem.bad == [] &&
      [(0, 0, isNop), (1, 0xFFFFFFF0, isJump 0xFFFFFFF0#32), (2, 2, isLoop 2#32), (3, 0, isEndloop), (4, 160, isCall 160#32), (5, 0, isRet),
       (6, 0, isStepend), (7, 0, isHalt)].all (fun x => spells (seqOf (prog (seqWord 0 x.1 0 0 false x.2.1 0)) 0) 16 x.2.2)) = true ∧
    nextIs (exec (.seqNop 0) (prog (seqWord 0 0 0 0 false 0 0))) (fun t => (seqOf t 0).pc == 32#32) = true ∧
    nextIs (exec (.seqNop 0) (prog (seqWord 0 1 0 0 false 0 0))) (fun t => (seqOf t 0).pc == 16#32) = true ∧
    nextIs (exec (.jump 0 0xFFFFFFF0#32) (prog (seqWord 0 1 0 0 false 0xFFFFFFF0 0))) (fun t => (seqOf t 0).pc == 0xFFFFFFF0#32) = true ∧
    nextIs (exec (.loop 0 2#32) (prog (seqWord 0 2 0 0 false 2 0))) (fun t => (seqOf t 0).loops == [{ start := 32, left := 2 }]) = true ∧
    nextIs (exec (.endloop 0) (updSeq (prog (seqWord 0 3 0 0 false 0 0)) 0 (fun q => { q with loops := [{ start := 48, left := 2 }] })))
      (fun t => (seqOf t 0).pc == 48#32 && (seqOf t 0).loops == [{ start := 48, left := 1 }]) = true ∧
    nextIs (exec (.endloop 0) (updSeq (prog (seqWord 0 3 0 0 false 0 0)) 0 (fun q => { q with loops := [{ start := 48, left := 1 }] })))
      (fun t => (seqOf t 0).pc == 32#32 && (seqOf t 0).loops == []) = true ∧
    nextIs (exec (.call 0 160#32) (prog (seqWord 0 4 0 0 false 160 0))) (fun t => (seqOf t 0).pc == 160#32 && (seqOf t 0).calls == [.call 32]) = true ∧
    nextIs (exec (.ret 0) (updSeq (prog (seqWord 0 5 0 0 false 0 0)) 0 (fun q => { q with calls := [.call 0] })))
      (fun t => (seqOf t 0).pc == 0#32 && (seqOf t 0).calls == []) = true := by decide +kernel

/-- A word of the program that cannot be read takes the sequencer out of service. -/
theorem fetch_witness :
    (fetchCheck (prog (seqWord 0 0 0 0 false 0 0)) 0 16 (.uncorrectable 8)).2.isSome = true ∧
    nextIs (exec (.seqNop 0 (.uncorrectable 8)) (prog (seqWord 0 0 0 0 false 0 0))) (fun t => (seqOf t 0).st == .outOfService) = true := by
  decide +kernel

def withCtr (w : List Byte) (v : U16) : State := updSeq (prog w) 0 (fun q => { q with ctrs := q.ctrs.set 31 v })

theorem counters_witness :
    (spells (seqOf (prog (seqWord 1 0 31 0 false 1 0)) 0) 16 (isWait 31 1#16) && spells (seqOf (prog (seqWord 1 1 31 0 false 0 0)) 0) 16 (isSignal 31 0) &&
      spells (seqOf (prog (seqWord 1 2 31 0 false 0 0)) 0) 16 (isClear 31) && spells (seqOf (prog (seqWord 2 1 0 0 false 65535 0)) 0) 16 (isSetmb 0xFFFF#16)) = true ∧
    nextIs (exec (.wait 0 31 1#16) (withCtr (seqWord 1 0 31 0 false 1 0) 1#16)) (fun t => (seqOf t 0).hold == .none && (seqOf t 0).pc == 32#32) = true ∧
    nextIs (exec (.wait 0 31 1#16) (prog (seqWord 1 0 31 0 false 1 0))) (fun t => (seqOf t 0).hold == .wait 31 1 && (seqOf t 0).st == .stalled) = true ∧
    (let s := updSeq (withCtr [] 1#16) 0 (fun q => { q with st := .stalled, hold := .wait 31 1 })
     issueStopped s 0 = false ∧ nextIs (exec (.waitSatisfied 0) s) (fun t => (seqOf t 0).hold == .none && (seqOf t 0).st == .running) = true) ∧
    sameNeg (prog []) 0 0 = true ∧
    nextIs (exec (.signal 0 31 0) (withCtr (seqWord 1 1 31 0 false 0 0) 0xFFFE#16)) (fun t => (seqOf t 0).ctrs[31] == 0xFFFF#16) = true ∧
    nextIs (exec (.signal 0 31 0) (withCtr (seqWord 1 1 31 0 false 0 0) 0xFFFF#16)) (fun t => (seqOf t 0).ctrs[31] == 0xFFFF#16) = true ∧
    nextIs (exec (.clear 0 31) (withCtr (seqWord 1 2 31 0 false 0 0) 5#16)) (fun t => (seqOf t 0).ctrs[31] == 0#16) = true ∧
    nextIs (exec (.setmb 0 0xFFFF#16) (prog (seqWord 2 1 0 0 false 65535 0))) (fun t => (seqOf t 0).mb == 0xFFFF#16) = true := by decide +kernel

/-- The negative of partition 0 has one group, in slot 63. -/
def grouped (w : List Byte) : State :=
  updSlot (updNeg (prog w) 0 (fun n => { n with groups := [63] })) 63 (fun g => { g with owner := 0#8, st := .idle, dmask := 3, dims := 1 })

theorem issue_witness :
    nextIs (exec (.setx 0 15 9#32) (prog (seqWord 2 0 15 0 false 9 0))) (fun t => (vxeOf t 0).xs[15] == 9#32) = true ∧
    islandRuns (prog []) 8 = true ∧
    nextIs (exec (.kernel 0 0#32 3#32 1 true) (prog (seqWord 4 0 0 1 true 0 3))) (fun t => (vxeOf t 0).st == .running &&
      (vxeOf t 0).kernel == some { op := 0, offset := 0, count := 3, done := 0 } && (seqOf t 0).ops.length == 1) = true ∧
    nextIs (exec (.move 0 7 0#32 64#32 true false 2 false false) (updSeq (prog (seqWord 5 0 7 2 false 0 (64 + 2 ^ 32))) 0
      (fun q => { q with mb := 2#16 }))) (fun t =>
      (reelOf t 7).st == .moving && (reelOf t 7).queue.map (fun m => (m.srcAdd, m.dstAdd, m.started)) == [(128, 0, true)]) = true ∧
    groupSlotOf (grouped []) 0 0 = some 63 ∧
    nextIs (exec (.coll 0 0#8 4#32 2 false) (grouped (seqWord 6 0 0 2 false 4 0))) (fun t =>
      (slotOf t 63).regs == [{ die := 0, desc := 4, op := 0 }] && (seqOf t 0).pc == 32#32) = true := by
  decide +kernel

/-- Three stages, two microbatches, at the first stage: R194's order of calls. -/
theorem schedule_witness :
    (List.range 5).map (fun j => schedCall { s := 0, stages := 3, m := 2, fwd := 0, bwd := 0, calls := j, ret := 0 }) =
      [some (0, false), some (1, false), some (0, true), some (1, true), none] ∧
    (List.range 4).map (fun j => schedCall { s := 2, stages := 3, m := 2, fwd := 0, bwd := 0, calls := j, ret := 0 }) =
      [some (0, false), some (0, true), some (1, false), some (1, true)] ∧
    nextIs (exec (.sched 0 2#8 3#8 2#16 160#32 320#32) (prog (seqWord 7 0 0 0 false (2 + 3 * 2 ^ 8 + 2 * 2 ^ 16) (160 + 320 * 2 ^ 32))))
      (fun t => (seqOf t 0).pc == 160#32 && (seqOf t 0).mb == 0#16) = true := by
  decide +kernel

def kernelDone : State := updVxe (atDie0 (fun q => { q with
    st := .running, nextOp := 1
    ops := [{ id := 0, body := .kernel 0 3, reads := [], writes := [], sigc := 31, sige := true, started := true }] })) 0
  (fun v => { v with st := .running, kernel := some { op := 0, offset := 0, count := 3, done := 3 } })

theorem operation_complete_witness :
    partOfDie kernelDone 0 = none ∧
    nextIs (exec (.operationComplete 0 0) kernelDone) (fun t => (seqOf t 0).ops == [] && (seqOf t 0).ctrs[31] == 1#16 &&
      (vxeOf t 0).st == .idle && (vxeOf t 0).kernel == none) = true := by decide +kernel

def twoBusy (w : List Byte) : State := updSeq (prog w) 0 (fun x => { x with
  ops := [{ id := 0, body := .kernel 0 3, reads := [], writes := [], sigc := 0, sige := false, started := true }] })

theorem step_end_witness :
    partOfDie (prog []) 0 = some 0 ∧ canIssue (twoBusy []) 0 = true ∧
    nextIs (exec (.stepend 0) (prog (seqWord 0 6 0 0 false 0 0))) (fun t => (seqOf t 0).steps == 1#64 && (seqOf t 0).pc == 32#32) = true ∧
    nextIs (exec (.stepend 0) (twoBusy (seqWord 0 6 0 0 false 0 0))) (fun t => (seqOf t 0).hold == .stepEnd && (seqOf t 0).st == .stalled) = true ∧
    negDies (prog []) 0 = [0, 1] ∧
    nextIs (exec (.halt 0) (prog (seqWord 0 7 0 0 false 0 0))) (fun t => (seqOf t 0).halted && (negOf t 0).state == .running) = true ∧
    nextIs (exec (.halt 0) (updSeq (prog (seqWord 0 7 0 0 false 0 0)) 1 (fun x => { x with halted := true })))
      (fun t => (seqOf t 0).halted && (negOf t 0).state == .admitted) = true := by decide +kernel

theorem commands_witness :
    objHeld base (objAt 0x8700 3 0) = false ∧ steadyP0 base = true ∧ base.ev.service = .normal ∧
    nextIs (exec (.load (.direct (.driver 0)) 0) base) (fun t => (negOf t 0).state == .checking && t.out == [.status 0x20 0]) = true ∧
    nextIs (exec (.stop (.direct (.driver 0)) 0) (two .running .running)) (fun t => (negOf t 0).state == .stopping && t.out == [.status 0x20 0]) = true ∧
    nextIs (exec (.unload (.direct (.driver 0)) 0) (two .admitted .idle)) (fun t => (negOf t 0).state == .empty && t.out == [.status 0x20 0]) = true ∧
    nextIs (exec (.run (.direct (.driver 0)) 0) (two .failed .failed)) (fun t => (negOf t 0).state == .running &&
      (seqOf t 1).st == .running && t.out == [.status 0x20 0]) = true ∧
    nextIs (exec (.suspend (.direct (.driver 0)) 0) (two .running .running)) (fun t => (negOf t 0).state == .suspending &&
      t.out == [.status 0x20 0]) = true := by decide +kernel

def savedCtx : SeqCtx :=
  { pc := 48#32, loops := [], calls := [], mb := 3#16, ctrs := Vector.replicate 32 7#16, steps := 4#64, prefetch := 0 }

def twoSaved : State := updSeq (updSeq (two .suspended .suspended) 0 (fun x => { x with ctx := some savedCtx })) 1
  (fun x => { x with ctx := some savedCtx })

theorem suspend_witness :
    nextIs (exec (.suspendDone 0) (two .suspending .running)) (fun t => (negOf t 0).state == .suspended &&
      (seqOf t 1).st == .suspended && (seqOf t 1).ctx.any (fun c => c.pc == 0#32)) = true ∧
    partOfDie twoSaved 1 = some 0 ∧
    nextIs (exec (.resume (.direct (.driver 0)) 0) twoSaved) (fun t => (negOf t 0).state == .running &&
      (seqOf t 1).st == .running && (seqOf t 1).pc == 48#32 && (seqOf t 0).mb == 3#16 && t.out == [.status 0x20 0]) = true := by
  decide +kernel

/-- An image of zeros at the start of pair 0: its magic is wrong, code 01h. -/
def checking (changed : Bool) : State := updNeg (two .checking .idle) 0 (fun n => { n with
  imgAddr := 0x0400000000000000#64, imgLen := 4096#32, invChanged := changed })

theorem admission_refused_witness :
    (imageOf (checking false) 0).any (fun m => (admitImage (checking false) 0 m).any (fun c => c.1 == 1)) = true ∧
    nextIs (exec (.admissionEnd 0) (checking false)) (fun t => (negOf t 0).state == .empty && (negOf t 0).refCode == 1#8) = true ∧
    nextIs (exec (.admissionEnd 0) (checking true)) (fun t => (negOf t 0).state == .empty && (negOf t 0).refCode == 0x1F#8) = true := by
  decide +kernel

/-- The smallest image that R181 admits: a header, two directory entries, a declaration that gives die 0 16 bytes of
sequencer memory, and a program of one HALT; its digest is the SHA-384 of R167. -/
def smallest : List Host.Cell :=
  [(0, 1#8), (1, 58#8), (2, 78#8), (3, 125#8), (4, 1#8), (6, 161#8), (8, 80#8), (9, 9#8), (12, 1#8), (13, 2#8), (16, 77#8)] ++
  (List.range 48).zipWith (fun i b => (24 + i, BitVec.ofNat 8 b)) [142, 19, 1, 155, 136, 110, 189, 224, 199, 150, 115, 222, 22, 229, 166, 103, 216, 16, 62, 155, 71, 153, 76, 233, 73, 207, 183, 118, 106, 71, 243, 6, 241, 231, 30, 100, 47, 251, 249, 191, 107, 197, 147, 206, 203, 49, 105, 157] ++
  [(256, 1#8), (257, 255#8), (261, 5#8), (264, 64#8), (265, 4#8), (272, 2#8), (276, 64#8), (277, 9#8), (280, 16#8), (1348, 16#8), (2368, 112#8)]

def admissible : State := { updNeg (checking false) 0 (fun n => { n with imgLen := 2384#32 }) with
  mem := { MemS.reset with hbm := MemS.reset.hbm.set 0 { cells := smallest, fill := none } } }

theorem admission_witness :
    memWf (vget admissible.mem.hbm 0 Mem.empty) = true ∧
    nextIs (exec (.admissionEnd 0) admissible) (fun t => (negOf t 0).state == .admitted && (negOf t 0).refCode == 0#8 &&
      (negOf t 0).dieMask == 1#8 && (negOf t 0).negId == 77#64 && memLoad (seqOf t 0).mem 0 == 0x70#8 && (seqOf t 0).progLen == 16) = true := by
  refine ⟨?_, ?_⟩ <;> decide +kernel

/-! ### Reels, tiers and base links -/

theorem link_witness :
    nextIs (exec (.linkTransfer 55 true) base) (fun t => (linkOf t 55).successive == 0) = true ∧
    nextIs (exec (.linkTransfer 55 false) (updLink base 55 (fun x => { x with successive := 6 })))
      (fun t => (linkOf t 55).successive == 7 && (linkOf t 55).replays == 1#64 && !(linkOf t 55).failed) = true ∧
    nextIs (exec (.linkTransfer 39 false) (updLink base 39 (fun x => { x with successive := 7 })))
      (fun t => (linkOf t 39).failed && (linkOf t 39).replays == 1#64 && (linkOf t 39).successive == 0) = true := by
  refine ⟨?_, ?_, ?_⟩ <;> decide +kernel

/-- A descriptor from its first word (KIND, EFMT, TAG, PEER), SRC, DST and NT. -/
def desc (w0 src dst nt : Nat) : BitVec 512 := BitVec.ofNat 512 (w0 + src * 2 ^ 64 + dst * 2 ^ 128 + nt * 2 ^ 256)

def mv (d : BitVec 512) : Move :=
  { desc := d, srcAdd := 0, dstAdd := 0, owner := 0x10, part := 0, die := 0, op := 0, started := true, limits := watchdogReset,
    phase := .waiting, flow := 0, rtsAt := 0, seqno := 0, tile := 0, since := 0, access := none, parts := [] }

/-- Die 0 and its pair and store belong to partition 0, and reel 0 runs a move. -/
def reel0 (m : Move) : State := updReel { base with sec := { SecurityS.reset with partMap := (Vector.replicate 8 0xFF#8).set 0 0#8 } } 0
  (fun x => { x with st := .moving, queue := [m] })

/-- Two tiles of F8A from the pair to the store of the same die. -/
def copy2 : Move := mv (desc 0 0x0400000000000000 0x0410000000000000 2)
def fill2 : Move := mv (desc 3 0 0x0410000000000000 2)

theorem reel_tiles_witness :
    (moveKind copy2 = 0 ∧ moveKind fill2 = 3 ∧ runningMove (reel0 copy2) 0 = some copy2 ∧ reelServes (reel0 copy2) 0 = true ∧
      (descF copy2.desc).nt = 2 ∧ (descF copy2.desc).dlay = 0 ∧ (descF copy2.desc).slay = 0 ∧ (descF copy2.desc).statw = false ∧
      tileBytes (descF copy2.desc).efmt = 65536) ∧
    addrF (dstAddr copy2 0) = some ⟨.store, 0, true, 0, 0⟩ ∧ addrOwn (reel0 copy2) ⟨.store, 0, true, 0, 0⟩ = true ∧
    addrF (srcAddr copy2 0) = some ⟨.hbm, 0, true, 0, 0⟩ ∧ addrOwn (reel0 copy2) ⟨.hbm, 0, true, 0, 0⟩ = true ∧
    tileAsked (reel0 copy2) 0 copy2 0 = false ∧ accessRuns (reel0 copy2) 0 (dstAddr copy2 0) 65536 = true ∧
    accessRuns (reel0 copy2) 0 (srcAddr copy2 0) 65536 = true ∧
    accessCheck (reel0 copy2) 0 0 (dstAddr copy2 0) 65536 true = none ∧ accessCheck (reel0 copy2) 0 0 (srcAddr copy2 0) 65536 false = none := by
  refine ⟨?_, ?_, ?_, ?_, ?_, ?_, ?_, ?_, ?_, ?_⟩ <;> decide +kernel

/-- A receive from member 5, endpoint 2, and a send to it, of one tile. -/
def recv1 : Move := mv (desc (2 + 5 * 2 ^ 32 + 2 * 2 ^ 48) 0 0x0410000000000000 1)
def send1 : Move := mv (desc (1 + 5 * 2 ^ 32 + 2 * 2 ^ 48) 0x0400000000000000 0 1)
def sendFlow : FlowOut :=
  { ep := 0, peer := 5, peerEp := 2, slot := 0, vc := 2, use := .reel 0 0, first := 0, next := 0, low := 0, cells := [], shown := [],
    resentAt := [], timer := 100000, timerAt := 0, expiries := 0, stalled := false, tree := none, acked := [] }
def sending : State := updFabric (reel0 { send1 with phase := .matched }) (fun x => { x with flowsOut := [sendFlow] })

theorem fabric_moves_witness :
    fenced (reel0 recv1) 5 = false ∧ isOwn (reel0 send1) 5 = false ∧ (descF send1.desc).peer = 5 ∧
    nextIs (exec (.recv 0) (reel0 recv1)) (fun t => (reelOf t 0).st == .waiting && (runningMove t 0).any (fun m => m.phase == .offered) &&
      t.mem.moves == 1) = true ∧
    nextIs (exec (.send 0 .clean) (reel0 send1)) (fun t => (runningMove t 0).any (fun m => m.phase == .offered &&
      m.access == some { cause := 4, addr := 0x0400000000000000, since := 0 })) = true ∧
    accessRuns sending 0 (srcAddr send1 0) 65536 = true ∧
    accessCheck sending 0 0 (srcAddr send1 0) 65536 false = none ∧ addrF (srcAddr send1 0) = some ⟨.hbm, 0, true, 0, 0⟩ ∧
    fitsWindow sendFlow (cellsFor 65536) = true ∧
    sending.fabric.flowsOut.find? (fun o => decide (o.use = .reel 0 0)) = some sendFlow ∧
    accessCause (reel0 copy2) copy2 < 5 ∧
    nextIs (exec (.reelWatchdogTimeout 0) (reel0 copy2)) (fun t => (reelOf t 0).lastStatus == 5#8 &&
      (reelOf t 0).failAddr.toNat == accessAddr (reel0 copy2) copy2) = true := by
  refine ⟨?_, ?_, ?_, ?_, ?_, ?_, ?_, ?_, ?_, ?_, ?_, ?_⟩ <;> decide +kernel

theorem iod_witness :
    descReserved (desc 3 0 0x0410000000000000 1) = false ∧ descLayoutBad (desc 3 0 0x0410000000000000 1) = false ∧ iodOutside (reel0 recv1) 0 (desc 3 0 0x0410000000000000 1) = false ∧
    iodFull (reel0 recv1) 67 0 = false ∧ (reelOf (reel0 recv1) 67).st ≠ .outOfService ∧
    nextIs (exec (.iodReelDescriptor (.direct (.driver 0)) 3 (desc 3 0 0x0410000000000000 1)) (reel0 recv1)) (fun t =>
      (reelOf t 67).queue.map (fun m => (m.desc, m.part)) == [(desc 3 0 0x0410000000000000 1, 0)] && t.out == [.status 0x20 0]) = true := by
  decide +kernel

def queued (sl : Slice) (run : Bool) : State := updEv base (fun e => { e with
  proofs := [{ slice := sl, at_ := 0, inj := false, persist := false, running := run }] })

theorem repair_witness :
    proofNext (queued (.hbmRow 511 15 3) false) (.hbmRow 511 15 3) = true ∧
    nextIs (exec (.proofRunStart (.hbmRow 511 15 3)) (queued (.hbmRow 511 15 3) false)) (fun t => t.now == 10000 &&
      t.ev.proofs.all (fun p => p.running)) = true ∧
    freeSpare 32 (chanOf base 511).maps (chanOf base 511).deadSpares 15 = some 0 ∧
    nextIs (exec (.proofRunDone (.hbmRow 511 15 3) false false) (queued (.hbmRow 511 15 3) true)) (fun t =>
      (chanOf t 511).maps == [{ bank := 15, row := 3, spare := 0 }] && t.ev.proofs == []) = true := by
  refine ⟨?_, ?_, ?_, ?_⟩ <;> decide +kernel

theorem patrol_witness :
    scrubsPause base = false ∧ rowHeld base (.hbmRow 0 0 0) false = false ∧
    nextIs (exec (.scrubRead 7 (.line 0) .clean 99) base) (fun t => (vget t.mem.scrubs 7 ScrubS.reset).progress == 99#8 &&
      t.mem.storePasses == 0#64) = true ∧
    nextIs (exec (.scrubRead 7 (.line 0) .clean 99 true) (queued (.storeBank 224 0 0) true)) (fun t => (vget t.mem.scrubs 7 ScrubS.reset).skipped == [0]) = true ∧
    nextIs (exec (.scrubRead 7 (.line 0) .clean 100) base) (fun t => (vget t.mem.scrubs 7 ScrubS.reset).progress == 0#8 &&
      t.mem.storePasses == 1#64) = true ∧
    nextIs (exec (.scrubRead 8 (.line 0) .clean 100) base) (fun t => t.mem.hbmPasses == 1#64 && t.mem.storePasses == 0#64) = true := by
  decide +kernel

/-- Block 262143 of stack 1 is soft for the third time; and the block that a relocation goes to, or the one erased, fails. -/
theorem relocation_witness :
    (let s := updFlash base 1 (fun f => setBlock f 262143 { soft := 2, erases := 7, retired := false, due := false, written := 5 })
     nextIs (exec (.flashBlockAged 1 262143) s) (fun t => (blockRec (flashOf t 1) 262143).due && t.now == 2592000000000005) = true ∧
     (s.ev.proofs.filter (fun q => decide (sliceTester q.slice = (4, 0)))).length < 256 ∧
     nextIs (exec (.flashRelocate 1 262143 .soft 4096 .done 9) s) (fun t => (blockRec (flashOf t 1) 262143).retired &&
       (blockRec (flashOf t 1) 262143).erases == 8 && (blockRec (flashOf t 1) 262143).soft == 3) = true ∧
     nextIs (exec (.flashRelocate 1 262143 .soft 4096 .programFails 9) s) (fun t => (blockRec (flashOf t 1) 9).retired &&
       !(blockRec (flashOf t 1) 262143).retired) = true ∧
     nextIs (exec (.flashRelocate 1 262143 .soft 4096 .eraseFails 9) s) (fun t => !(blockRec (flashOf t 1) 9).retired &&
       (blockRec (flashOf t 1) 262143).retired) = true) := by decide +kernel

theorem scrub_behind_witness :
    nextIs (exec (.scrubBehind 0) base) (fun t => (vget t.mem.scrubs 0 ScrubS.reset).behind && t.now == scrubLimit 0 &&
      t.ev.counts[0x39] == 1#32) = true := by decide +kernel

/-! ### Light -/

def laser15 (st : LaserState) : State := updLaser base 15 (fun l => { l with st := st, en := decide (st = .on ∨ st = .enabling), changedAt := 7 })

theorem laser_enable_witness :
    hasRight base 0x50 rFABRIC = true ∧ objHeld base (objAt 0x9000 1 15) = false ∧
    nextIs (exec (.laserEnable (.direct .operator) 15) base) (fun t => (laserOf t 15).st == .enabling && (laserOf t 15).en && t.out == [.status 0x50 0]) = true ∧
    nextIs (exec (.laserEnable (.direct .operator) 15) (laser15 .held)) (fun t => (laserOf t 15).pending && (laserOf t 15).st == .held) = true ∧
    nextIs (exec (.laserDisable (.direct .operator) 15) (laser15 .on)) (fun t => (laserOf t 15).st == .disabling && !(laserOf t 15).en &&
      t.out == [.status 0x50 0]) = true := by
  refine ⟨?_, ?_, ?_, ?_, ?_⟩ <;> decide +kernel

theorem laser_timers_witness :
    nextIs (exec (.lsrOkAssert 15) (laser15 .enabling)) (fun t => (laserOf t 15).st == .on && (laserOf t 15).ok) = true ∧
    nextIs (exec (.lsrOkAssert 15) (updLaser (laser15 .enabling) 15 (fun l => { l with trimTest := true }))) (fun t =>
      (laserOf t 15).st == .on && (engOf t 30).st == .dark && (engOf t 31).st == .dark) = true ∧
    nextIs (exec (.lsrOkAssert 15) (updLaser (laser15 .fault) 15 (fun l => { l with en := true, graceFrom := some 3 }))) (fun t =>
      (laserOf t 15).st == .on && (laserOf t 15).graceFrom == none) = true ∧
    nextIs (exec (.laserEnableTimeout 15) (laser15 .enabling)) (fun t => (laserOf t 15).st == .fault && t.now == 50000007) = true ∧
    nextIs (exec (.laserDisableEnd 15) (laser15 .disabling)) (fun t => (laserOf t 15).st == .off && t.now == 500007) = true ∧
    nextIs (exec (.laserDisableEnd 15) (updLaser (laser15 .disabling) 15 (fun l => { l with pending := true })))
      (fun t => (laserOf t 15).st == .enabling) = true ∧
    nextIs (exec (.lsrOkDeassert 15) (laser15 .on)) (fun t => (laserOf t 15).st == .fault && (laserOf t 15).graceFrom == some 0 &&
      (laserOf t 15).en) = true ∧
    nextIs (exec (.laserGraceExpiry 15) (updLaser (laser15 .fault) 15 (fun l => { l with graceFrom := some 3, en := true })))
      (fun t => !(laserOf t 15).en && t.now == 100000003) = true ∧
    nextIs (exec (.lsrOkWhileOff 15) base) (fun t => (laserOf t 15).ok && t.ev.counts[0x48] == 1#32) = true := by
  refine ⟨?_, ?_, ?_, ?_, ?_, ?_, ?_, ?_, ?_⟩ <;> decide +kernel

/-- Port 46 is lit by engine 31 with laser 15 on. -/
def lit (st : EngState) (safe : Bool) : State := updOptPort (updEng (laser15 .on) 31 (fun e => { e with st := st, port := some 46 })) 46
  (fun p => { p with safelight := safe })

theorem backstop_witness :
    engineOfPort (lit .safe true) 46 = some 31 ∧ portLit (lit .safe true) 46 = true ∧
    nextIs (exec (.safelightBackstop 46 502#16) (lit .safe true)) (fun t => (laserOf t 15).st == .held && !(laserOf t 15).en &&
      t.optics.backstops == 1#32 && (optPortOf t 46).backstopRead) = true ∧
    nextIs (exec (.safelightBackstop 46 501#16) (lit .safe true)) (fun t => (laserOf t 15).st == .on && t.optics.backstops == 0#32 &&
      (optPortOf t 46).backstopRead) = true ∧
    nextIs (exec (.heldRelease 15 none none) (updLaser (laser15 .held) 15 (fun l => { l with pending := true })))
      (fun t => (laserOf t 15).st == .enabling && (laserOf t 15).en && t.now == 1000000000) = true := by
  refine ⟨?_, ?_, ?_, ?_, ?_⟩ <;> decide +kernel

/-- Ring 47 of engine 31 serves lane 15 and receives; ring 15 does not. -/
def ring (i : Nat) (f : RingS → RingS) : State := updLane (updRing (lit .inService false) 31 i f) 511 (fun l => { l with st := .inService })

theorem loop_witness :
    loopRuns 0 (ringOf (ring 47 (fun r => { r with loop := .acquire })) 31 47) = true ∧
    nextIs (exec (.focusLoopUpdate 31 47 5 60) (ring 47 (fun r => { r with loop := .acquire }))) (fun t => (ringOf t 31 47).feedback == 5 &&
      (ringOf t 31 47).detuning == 60) = true ∧
    nextIs (exec (.lockLost 31 47) (ring 47 (fun r => { r with loop := .locked, offFrom := some 4 }))) (fun t => (laneOf t 511).st == .relocking &&
      (engOf t 31).lockLosses == 1#32 && t.now == 10004) = true ∧
    nextIs (exec (.heaterLimit 31 47) (ring 47 (fun r => { r with limitFrom := some 4 }))) (fun t => (ringOf t 31 47).limitRaised &&
      t.now == 10000004 && t.ev.counts[0x49] == 1#32) = true := by
  refine ⟨?_, ?_, ?_, ?_⟩ <;> decide +kernel

/-- A feedback equal to the feedforward holds the heater at its lower limit. -/
theorem loop_limit_witness : ∃ feedback : Int, clampHeater (feedback -
    forwardOf (ring 47 (fun r => { r with loop := .acquire })) 31 47 (ringOf (ring 47 (fun r => { r with loop := .acquire })) 31 47)) = 0 := by
  refine ⟨forwardOf (ring 47 (fun r => { r with loop := .acquire })) 31 47 (ringOf (ring 47 (fun r => { r with loop := .acquire })) 31 47), ?_⟩
  rw [Int.sub_self]
  rfl

theorem pilot_witness :
    ringReceives 15 = false ∧ ringLane 15 = 15 ∧ (laserOf (ring 15 (fun r => { r with loop := .locked, noTone := 1 })) 15).st = .on ∧
    nextIs (exec (.pilotWindow 31 15 (some 15)) (ring 15 (fun r => { r with loop := .locked, noTone := 1 }))) (fun t => (ringOf t 31 15).noTone == 0) = true ∧
    nextIs (exec (.pilotWindow 31 15 (some 14)) (ring 15 (fun r => { r with loop := .locked }))) (fun t => (laneOf t 511).st == .relocking &&
      (engOf t 31).mislocks == 1#32 && (laneOf t 510).st != .inService) = true ∧
    nextIs (exec (.pilotWindow 31 15 none) (ring 15 (fun r => { r with loop := .locked }))) (fun t => (ringOf t 31 15).noTone == 1) = true := by
  decide +kernel

def marked : State := updPort (ring 15 id) 46 (fun p => { p with port := 46#8, member := 0x1234#16 })
def goodMark : U64 := BitVec.ofNat 64 (0xA5 * 2 ^ 56 + 15 + 30 * 2 ^ 4 + 46 * 2 ^ 9 + 0x1234 * 2 ^ 15)

theorem marker_witness :
    (engOf marked 31).port = some 46 ∧ bits goodMark.toNat 63 56 = 0xA5 ∧ bits goodMark.toNat 3 0 = 15 ∧ bits goodMark.toNat 14 9 = 46 ∧
    bits goodMark.toNat 30 15 = 0x1234 ∧
    engineFits 30 46 = true ∧
    nextIs (exec (.laneIdMarker 511 goodMark) marked) (fun t => (laneOf t 511).st == .inService && (laneOf t 511).heard) = true ∧
    nextIs (exec (.laneIdMarker 511 (goodMark - 1#64)) marked) (fun t => (laneOf t 511).st == .relocking) = true ∧
    nextIs (exec (.laneIdMarker 511 (goodMark + 32768#64)) (updPort marked 46 (fun p => { p with outcome := 5#8, heard := true })))
      (fun t => (portOf t 46).dark && (portOf t 46).outcome == 0#8) = true ∧
    nextIs (exec (.markerMissing 511) marked) (fun t => (laneOf t 511).st == .relocking) = true := by
  refine ⟨?_, ?_, ?_, ?_, ?_, ?_, ?_, ?_, ?_, ?_⟩ <;> decide +kernel

/-- Engine 31 with its sixteen lanes in service. -/
def sixteen : State := setLanes (lit .inService false) 31 .inService

theorem resweep_witness :
    (engOf sixteen 31).resweepLane < 16 ∧ ((lanesOf 31).all (fun l => decide ((laneOf sixteen l).st = .inService))) = true ∧
    nextIs (exec (.resweep 31 1 2 3) sixteen) (fun t => (ringOf t 31 0).feedback == 1 && (ringOf t 31 (rxRing 46 0)).feedback == 2 &&
      (ringOf t 31 32).feedback == 3 && (engOf t 31).resweepLane == 1 && t.now == 3750000000) = true ∧
    base.optics.calib.inForce ≠ none ∧ (31 : Nat) / 8 = (7 : Nat) / 2 ∧
    (vget (updDieP base 7 (fun d => { d with notices := [5, 6] })).power.dies 7 DiePowerS.reset).notices = 5 :: [6] := by
  refine ⟨?_, ?_, ?_, ?_, ?_, ?_⟩ <;> decide +kernel

def lane511 (f : LaneS → LaneS) : State := updLane (lit .training false) 511 f

theorem training_witness :
    nextIs (exec (.laneTrained 511 200) (lane511 (fun l => { l with st := .training }))) (fun t => (laneOf t 511).st == .inService &&
      (laneOf t 511).trim == 200#8 && (engOf t 31).st == .inService) = true ∧
    nextIs (exec (.laneTrainingTimeout 511) (lane511 (fun l => { l with st := .training, trainFrom := 5 }))) (fun t =>
      (laneOf t 511).st == .failed && (laneOf t 511).fail == 4#8 && t.now == 100000005) = true := by
  refine ⟨?_, ?_⟩ <;> decide +kernel

def relocking (attempt : Nat) (named : Bool) : State := updRing (lane511 (fun l => { l with
    st := .relocking, relock := some { rings := [15], receive := false, attempt := attempt, limited := false, named := named }, home := .inService }))
  31 15 (fun r => { r with heater := 100000000 })

theorem relock_witness :
    0 ≤ relockHeater (relocking 2 true) 31 15 15 (some 15) ∧ relockHeater (relocking 2 true) 31 15 15 (some 15) ≤ heaterMax ∧
    nextIs (exec (.relockAttemptDone 511 (some 15) (some 15)) (relocking 1 true)) (fun t => t.ev.proofs == (queued (.lane 511) false).ev.proofs &&
      (engOf t 31).attempts == 1#32) = true := by decide +kernel

theorem lane_proof_witness :
    nextIs (exec (.laneProofRunDone 511 true) { relocking 0 true with ev := (queued (.lane 511) true).ev }) (fun t => (laneOf t 511).st == .inService &&
      (laneOf t 511).transient == 1#32 && t.ev.proofs == []) = true ∧
    nextIs (exec (.laneProofRunDone 511 false) { relocking 0 true with ev := (queued (.lane 511) true).ev }) (fun t => (laneOf t 511).st == .failed &&
      (laneOf t 511).fail == 5#8) = true ∧
    nextIs (exec (.laneCodewords 511) (lane511 (fun l => { l with st := .inService, badAt := List.replicate 17 (0, false) }))) (fun t =>
      (laneOf t 511).st == .relocking && t.ev.proofs.length == 1) = true ∧
    nextIs (exec (.laneCodewords 511) (lane511 (fun l => { l with st := .inService, badAt := List.replicate 16 (0, false) }))) (fun t =>
      (laneOf t 511).st == .inService) = true ∧
    nextIs (exec (.requalifyLane (.direct .operator) 31 0x8000#16) (lane511 (fun l => { l with st := .failed }))) (fun t =>
      (laneOf t 511).st == .requalifying && t.ev.proofs.length == 1 && t.out == [.status 0x50 0]) = true := by
  refine ⟨?_, ?_, ?_, ?_, ?_⟩ <;> decide +kernel

theorem safelight_witness :
    nextIs (exec .shroudOpen (lit .inService false)) (fun t => t.optics.shroudOpen && (optPortOf t 46).safelight) = true ∧
    nextIs (exec .shroudClose (updOptics base (fun o => { o with shroudOpen := true }))) (fun t => !t.optics.shroudOpen && t.ev.counts[0x0F] == 1#32) = true ∧
    nextIs (exec (.rxPowerLoss 46) (lit .training false)) (fun t => (optPortOf t 46).safelight && (optPortOf t 46).noLight && (engOf t 31).st == .safe &&
      t.optics.entries == 1#32) = true ∧
    nextIs (exec (.beaconWord 46 0x19C5A#32) (lit .safe true)) (fun t => (optPortOf t 46).recvReady == 1 && !(optPortOf t 46).noLight) = true ∧
    nextIs (exec (.beaconWord 46 0x29C5A#32) (updOptPort (lit .inService false) 46 (fun p => { p with recvHold := 3 })))
      (fun t => (optPortOf t 46).safelight) = true ∧
    nextIs (exec (.safelightExit 46) (updOptPort (lit .safe true) 46 (fun p => { p with noLight := false, recvReady := 4 })))
      (fun t => !(optPortOf t 46).safelight && (engOf t 31).st == .training && t.now == 1000000000) = true := by
  refine ⟨?_, ?_, ?_, ?_, ?_, ?_⟩ <;> decide +kernel

theorem calibration_witness :
    hasRight base 0x50 rCALIB = true ∧ objHeld base (objAt 0x2800 3 0) = false ∧ objHeld base (objAt 0x2800 5 0) = false ∧
    nextIs (exec (.calibrationCommit (.direct .operator)) (updCalib base (fun c => { c with staged := some [1#8], state := .staged })))
      (fun t => t.optics.calib.state == .invalid && t.out == [.status 0x50 0]) = true ∧
    nextIs (exec .calibrationWritten (updCalib base (fun c => { c with staged := some [1#8, 2#8, 3#8, 4#8, 5#8, 6#8, 7#8, 8#8], state := .committing })))
      (fun t => t.optics.calib.stored == .user [1#8, 2#8, 3#8, 4#8, 5#8, 6#8, 1#8, 8#8] && t.optics.calib.commits == 1#16 &&
        t.ev.counts[0x4A] == 1#32) = true := by decide +kernel

theorem calibration_stage_witness : ∃ img : List Byte, img.length = 145664 := ⟨List.replicate 145664 0#8, List.length_replicate⟩

/-! ### The fabric -/

/-- Member 0 with port 0 lit and matched: engine 0, laser 0, lane 0 in service. -/
def wired : State :=
  let s1 := updLaser base 0 (fun l => { l with st := .on })
  let s2 := updEng s1 0 (fun e => { e with st := .inService, port := some 0 })
  let s3 := updLane s2 0 (fun l => { l with st := .inService })
  updFabric s3 (fun x => { x with member := 0#16, ports := x.ports.set 0 { PortS.reset with outcome := 5#8, ready := true } })

theorem discovery_write_witness :
    objHeld wired (objAt 0x2A00 7 0) = false ∧ anyHeld wired = false ∧
    nextIs (exec (.discoveryStart (.direct .operator) 500#64) wired) (fun t => t.fabric.discAt == some 500 && t.out == [.status 0x50 0]) = true := by
  decide +kernel

theorem discovery_rounds_witness :
    nextIs (exec .discoveryRoundA (updFabric base (fun x => { x with discAt := some 500 }))) (fun t => t.fabric.discState == 1#8 &&
      (engOf t 31).port == some 45) = true ∧
    nextIs (exec .discoveryRoundB (updFabric base (fun x => { x with discAt := some 500, discState := 1#8 }))) (fun t => t.fabric.discState == 2#8 &&
      (engOf t 29).port == some 47) = true ∧
    nextIs (exec .discoveryFinish (updFabric base (fun x => { x with discAt := some 500, discState := 2#8 }))) (fun t =>
      t.fabric.discPlaced && t.fabric.discState == 2#8) = true ∧
    nextIs (exec .discoveryDone (updFabric base (fun x => { x with discAt := some 500, discState := 2#8, discPlaced := true })))
      (fun t => t.fabric.discState == 3#8 && t.ev.counts[0x50] == 1#32) = true := by
  refine ⟨?_, ?_, ?_, ?_⟩ <;> decide +kernel

/-- A record of member 1, port 0, serial 9. -/
def rec1 : BitVec 256 := BitVec.ofNat 256 (1 + 9 * 2 ^ 64)

theorem records_witness :
    portLit wired 0 = true ∧ outcomeOf wired 0 rec1.toNat = 4 ∧ expected wired 0 = some (1, 0) ∧
    nextIs (exec (.discoveryRecord 0 rec1) wired) (fun t => (portOf t 0).outcome == 4#8 && (portOf t 0).member == 1#16 &&
      (portOf t 0).serial == 9#64 && (portOf t 0).heard && (portOf t 0).dark) = true ∧
    nextIs (exec (.discoveryRecord 0 (rec1 + 1#256)) wired) (fun t => (portOf t 0).outcome == 3#8 && (portOf t 0).dark) = true ∧
    nextIs (exec (.discoveryRecordTimeout 0) wired) (fun t => (portOf t 0).outcome == 1#8 && (portOf t 0).dark && t.now == 100000000) = true ∧
    (List.range 48).all (fun p => !(portLit wired p) || decide (p = 0)) = true ∧
    nextIs (exec (.memberLost 0) (updOptPort wired 0 (fun p => { p with safelight := true }))) (fun t => (portOf t 0).lostRaised && t.ev.counts[0x54] == 1#32) = true := by
  refine ⟨?_, ?_, ?_, ?_, ?_, ?_, ?_, ?_⟩ <;> decide +kernel

def cell (dmem dep smem typ seq : Nat) (payload : Nat) : CellF :=
  { dmem := dmem, dep := dep, smem := smem, sep := 2, vc := 2, typ := typ, cm := 1, last := false, esc := false, ecl := 0, flow := 7,
    seq := seq, retx := false, acknow := false, crc := 0, payload := payload }

def toOne : BitVec 512 := mkCell (cell 1 3 4 1 0 0)

theorem routing_witness :
    portCarries wired 0 = true ∧ isOwn wired 1 = false ∧ isOwn wired 0 = true ∧
    fenceActs (updFabric wired (fun x => { x with fences := [1#32] })) 1 = true ∧
    nextIs (exec (.cellRoute 0 (mkCell (cell 0 3 4 1 0 0))) wired) (fun t => t.out == [.credit 0 2 0]) = true ∧
    nextIs (exec (.cellRoute 0 toOne) (updFabric wired (fun x => { x with fences := [1#32] }))) (fun t => t.fabric.dropRoute == 1#64) = true ∧ fenceActs wired 1 = false ∧ (cellF toOne).typ = 1 ∧ (cellF toOne).vc = 2 ∧
    route wired (cellF toOne) (dimOfPort 0) = .out 0 0 ∧
    nextIs (exec (.cellRoute 0 toOne) wired) (fun t => queueLen t 0 2 == 1 && t.fabric.forwarded == 1#64) = true ∧
    route wired (cellF (mkCell (cell 0x2002 3 4 1 0 0))) (dimOfPort 0) = .unreachable ∧
    nextIs (exec (.cellRoute 0 (mkCell (cell 0x2002 3 4 1 0 0))) wired) (fun t => t.fabric.dropRoute == 1#64 && t.ev.counts[0x61] == 1#32) = true ∧
    nextIs (exec (.controlPair 0 (.credits 4 2 56)) wired) (fun t => creditOf t 0 4 2 == 64) = true ∧
    nextIs (exec (.codewordReceived 0 .corrected) wired) (fun t => t.fabric.corrected == 1#64) = true ∧
    nextIs (exec (.codewordReceived 0 .uncorrectable) wired) (fun t => t.fabric.uncorr == 1#64 && (laneOf t 0).badAt == [(0, false)]) = true := by
  decide +kernel

/-- A flow open at endpoint 3, slot 7, from endpoint 2 of member 4. -/
def flow (base_ : Nat) (got : List Nat) : FlowIn :=
  { newFlowIn base 3 7 4 2 .mgp with first := 0xFFFFFF, base := base_, got := got, unacked := 1 }
/-- The cells of sequence FFFFFFh and 0 of that flow, with their CRC. -/
def cellF1 : BitVec 512 := 0xe339124700ffffff00000000000000000000000000000000000000000000000000000000000000000000000000000000000000000000000000708a2000430000#512
def cell0 : BitVec 512 := 0xf9dcf52e0000000000000000000000000000000000000000000000000000000000000000000000000000000000000000000000000000000000708a2000430000#512
def receiving (i : FlowIn) : State := updFabric wired (fun x => { x with flowsIn := [i] })

theorem receive_witness :
    ingressClosed wired = false ∧ (cellF cellF1).seq = 0xFFFFFF ∧ (cellF cellF1).flow = 7 ∧ cellGood cellF1 = true ∧ cellGood (cellF1 + 1#512) = false ∧
    flowB (flow 0 []) = 0xFFFFFF ∧ flowB (flow 1 []) = 0 ∧
    nextIs (exec (.cellReceive cellF1) (receiving (flow 0 []))) (fun t => (flowInOf t 3 7).any (fun i => i.base == 1)) = true ∧
    nextIs (exec (.cellReceive (cellF1 + 1#512)) (receiving (flow 0 []))) (fun t => t.fabric.dropCheck == 1#64) = true ∧
    ((cellF cell0).seq + 1 = flowB (flow 2 [])) ∧
    nextIs (exec (.cellReceive cell0) (receiving (flow 2 []))) (fun t => t.fabric.dups == 1#64) = true := by decide +kernel

theorem timers_witness :
    nextIs (exec (.ackTimer 3 7) (receiving (flow 1 []))) (fun t => t.now == 4000 && (flowInOf t 3 7).any (fun i => i.unacked == 0)) = true ∧
    hasGap (flow 1 [3]) = true ∧
    nextIs (exec (.nakTimer 3 7) (receiving (flow 1 [3]))) (fun t => t.now == 20000 && (flowInOf t 3 7).any (fun i => i.missAt == 20000)) = true := by
  refine ⟨?_, ?_, ?_⟩ <;> decide +kernel

/-- A flow out of endpoint 3 to endpoint 2 of member 4, slot 7, with three cells sent and none acknowledged. -/
def flowOut : FlowOut := { newFlowOut base 3 4 2 7 2 0xFFFFFF .answer with next := 3, cells := [(0, toOne), (1, toOne), (2, toOne)] }
def sender : State := updFabric wired (fun x => { x with
  flowsOut := [flowOut], rates := [{ member := 4, vc := 2, rate := 2049000000, cutAt := none, echoAt := 0, ceilingAt := none, held := 0 }] })

theorem acknowledged_witness :
    fencedOff sender (mkCell (cell 0 3 4 3 0 1)) = false ∧ controlOk sender (mkCell (cell 0 3 4 3 0 1)) 3 = true ∧ flowOutOf sender (cellF (mkCell (cell 0 3 4 3 0 1))) = some flowOut ∧
    (bits (cellF (mkCell (cell 0 3 4 3 0 1))).payload 23 0 + 2 ^ 24 - (flowOut.first + flowOut.low) % 2 ^ 24) % 2 ^ 24 = 2 ∧
    nextIs (exec (.ackReceived (mkCell (cell 0 3 4 3 0 1))) sender) (fun t => t.fabric.flowsOut.map (fun o => (o.low, o.cells.length)) == [(2, 1)]) = true ∧
    controlOk sender (mkCell (cell 0 3 4 4 0 0xFFFFFF)) 4 = true ∧
    nextIs (exec (.nakReceived (mkCell (cell 0 3 4 4 0 0xFFFFFF))) sender) (fun t => t.fabric.resent == 1#64) = true ∧
    nextIs (exec (.resendTimer 3 4#16 2 7) sender) (fun t => t.now == 100000 && t.fabric.flowsOut.map (fun o => (o.timer, o.expiries)) == [(200000, 1)]) = true ∧
    nextIs (exec (.rateIncrease 4#16 2) sender) (fun t => t.now == 16000 && t.fabric.rates.map (fun r => r.rate) == [2050000000]) = true := by
  refine ⟨?_, ?_, ?_, ?_, ?_, ?_, ?_, ?_, ?_⟩ <;> decide +kernel

def posted : State := updReel (updMove (reel0 recv1) 0 (fun m => { m with phase := .offered })) 0 (fun x => { x with st := .waiting })

theorem rendezvous_witness :
    ingressClosed posted = false ∧ grantedFlow posted 0 5 2 0 = none ∧ matchRecv posted 0 5 0 = some 0 ∧ freeSlot posted 0 = some 0 ∧
    nextIs (exec (.rtsReceived 0 5#16 2 0#16 1#32 0 false) posted) (fun t => (runningMove t 0).any (fun m => m.phase == .matched) &&
      t.fabric.flowsIn.length == 1) = true ∧
    nextIs (exec (.rtsRepeat (.reel 0)) (reel0 { send1 with phase := .offered })) (fun t => (runningMove t 0).any (fun m => m.rtsAt == 100000)) = true ∧
    grantedSend (reel0 { send1 with phase := .offered }) 0 5 2 0 = some 0 ∧
    nextIs (exec (.grantReceived 0 5#16 2 0#16 9 4 false) (reel0 { send1 with phase := .offered })) (fun t =>
      (runningMove t 0).any (fun m => m.phase == .matched && m.flow == 9) && t.fabric.flowsOut.map (fun o => (o.slot, o.first, o.vc)) == [(9, 4, 2)]) = true := by
  refine ⟨?_, ?_, ?_, ?_, ?_, ?_, ?_, ?_⟩ <;> decide +kernel

theorem rendezvous_size_witness :
    nextIs (exec (.rtsReceived 0 5#16 2 0#16 2#32 0 false) posted) (fun t => (reelOf t 0).lastStatus == 9#8) = true := by decide +kernel

/-- A grant of all of store die 0 to die 3 of the package at position 1. -/
def granted : State := { reel0 recv1 with
  sec := { (reel0 recv1).sec with grants := [BitVec.ofNat 256 (1 + 2 ^ 5 + 2 ^ 13 + 2 ^ 16 + 1073741824 * 2 ^ 128)] } }

theorem board_load_witness :
    addrF 0x0410000000000000 = some ⟨.store, 0, true, 0, 0⟩ ∧ boardAdmits granted 1 3 1 0 0 (tileSpan 0 0 0) false = true ∧
    boardAdmits granted 1 4 1 0 0 (tileSpan 0 0 0) false = false ∧
    nextIs (exec (.breadReceived 5#16 4 0 0 0x0410000000000000#64 0 0 0#16 .clean) granted) (fun t => t.fabric.flowsOut == []) = true ∧
    peerAccess granted 5 3 0x0410000000000000 ⟨.store, 0, true, 0, 0⟩ (tileSpan 0 0 0) false = 0 ∧
    nextIs (exec (.breadReceived 5#16 3 6 0 0x0410000000000000#64 3 0 0#16 .clean) granted) (fun t =>
      t.fabric.flowsOut.any (fun o => sameFlowOut o 0 5 3 6)) = true ∧
    (updFabric (reel0 copy2) (fun x => { x with flowsIn := [newFlowIn base 0 0 5 2 (.load 0 0)] })).fabric.flowsIn.find? (fun i =>
      decide (i.use = .load 0 copy2.seqno)) = some (newFlowIn base 0 0 5 2 (.load 0 0)) := by decide +kernel

/-! ### Collectives -/

/-- A spare that has assumed address 0: a member of a group of two members across dimension 0, die 0 of each, in slot 63 with its COLL registered. The call's
descriptor has a first word, a count, a source, a destination and AUX with BLK. -/
def coll0 (w0 count src dst aux : Nat) (st : GroupState) : State :=
  let d := w0 + count * 2 ^ 64 + src * 2 ^ 128 + dst * 2 ^ 192 + aux * 2 ^ 384
  let s0 := updSeq base 0 (fun q => { q with
    st := .running, nextOp := 1, mem := memStore Mem.empty 2048 (leBytes 64 d)
    ops := [{ id := 0, body := .coll 0 0, reads := [], writes := [], sigc := 0, sige := false, started := true }] })
  let s1 := updSlot s0 63 (fun g => { g with
    owner := 0#8, gid := 5#32, dims := 1, dmask := 1, st := st, regs := [{ die := 0, desc := 0, op := 0 }], call := 9#32, agreed := true })
  { s1 with
    fabric := { FabricS.reset with assumed := 0#16 }
    sec := { SecurityS.reset with partMap := (Vector.replicate 8 0xFF#8).set 0 0#8 } }

def srcStore : Nat := 0x0410000000000000
def dstStore : Nat := 0x0410000000000040

theorem call_begins_witness :
    partnerNow (coll0 0 0 0 0 0 .idle) (slotOf (coll0 0 0 0 0 0 .idle) 63) = some 1 ∧
    groupFenced (coll0 0 0 0 0 0 .idle) (slotOf (coll0 0 0 0 0 0 .idle) 63) = false ∧
    heldAbort (slotOf (coll0 0 0 0 0 0 .idle) 63) = none ∧ (slotOf (coll0 0 0 0 0 0 .idle) 63).agrees = [] ∧
    callMaps (coll0 0 0 0 0 0 .idle) (slotOf (coll0 0 0 0 0 0 .idle) 63) = (coll0 0 0 0 0 0 .idle, none) ∧
    nextIs (exec (.callBegin 63) (coll0 0 0 0 0 0 .idle)) (fun t => (slotOf t 63).st == .agreeing && (slotOf t 63).call == 9#32 && (slotOf t 63).ok) = true := by
  refine ⟨by decide +kernel, by decide +kernel, by decide +kernel, by decide +kernel, ?_, by decide +kernel⟩
  exact if_neg (by decide +kernel)

def agreeing : State := updSlot (coll0 0 0 0 0 0 .agreeing) 63 (fun g => { g with sig := 77, ok := true })

theorem agreement_witness :
    (slotOf agreeing 63).dimAt + 1 = (setBits 13 (slotOf agreeing 63).dims).length ∧
    nextIs (exec (.agreeReceived 63 1#16 9#32 77#64 true) agreeing) (fun t => (slotOf t 63).st == .running && (slotOf t 63).call == 9#32) = true ∧
    nextIs (exec (.agreeReceived 63 1#16 9#32 78#64 true) agreeing) (fun t => (slotOf t 63).last == 1#8 && (slotOf t 63).call == 10#32) = true ∧
    nextIs (exec (.agreeRepeat 63) agreeing) (fun t => (slotOf t 63).agreeAt == 100000) = true ∧
    nextIs (exec (.straggler 63 0) agreeing) (fun t => (slotOf t 63).awaited == 1#16 && (slotOf t 63).stragRaised && t.ev.counts[0x70] == 1#32) = true := by
  refine ⟨?_, ?_, ?_, ?_, ?_⟩ <;> decide +kernel

theorem aborts_witness :
    spreads 4 = true ∧ (callDesc agreeing (slotOf agreeing 63)).op = 0 ∧
    nextIs (exec (.abortReceived 63 1#16 9#32 4) agreeing) (fun t => (slotOf t 63).last == 5#8 && (slotOf t 63).call == 10#32) = true ∧
    nextIs (exec (.abortReceived 63 1#16 10#32 2) agreeing) (fun t => (slotOf t 63).aborts == [{ call := 10, status := 2 }]) = true ∧
    nextIs (exec (.abortRepeat 63 1#16) (updSlot agreeing 63 (fun g => { g with abortsOut := [{ peer := 1, call := 8, status := 2, sent := 99, at_ := 4 }] })))
      (fun t => (slotOf t 63).abortsOut == [{ peer := 1, call := 8, status := 2, sent := 100, at_ := 1000004 }]) = true ∧
    nextIs (exec (.abortAckReceived 63 1#16 8#32) (updSlot agreeing 63 (fun g => { g with
      st := .ending, abortsOut := [{ peer := 1, call := 8, status := 2, sent := 99, at_ := 4 }] })))
      (fun t => (slotOf t 63).abortsOut == [] && (slotOf t 63).st == .idle) = true ∧
    nextIs (exec (.collAbortWrite (.direct (.driver 0)) 63) agreeing) (fun t => (slotOf t 63).last == 6#8 && t.out.getLast? == some (.status 0x20 0)) = true := by
  refine ⟨?_, ?_, ?_, ?_, ?_, ?_, ?_⟩ <;> decide +kernel

/-- The CLE has offered member 1 the flow of the call; its tag is 5·2^7·0 + 9 with the group's number. -/
def offering : State := updSlot agreeing 63 (fun g => { g with offers := [(1, 7)] })

theorem call_flows_witness :
    lookupNat 1 (slotOf offering 63).offers = some 7 ∧ slotOfTag offering 1 (cleTag (slotOf offering 63)) = some 63 ∧
    nextIs (exec (.rtsRepeat (.call 63 1#16)) offering) (fun t => t.now == 100007) = true ∧
    nextIs (exec (.grantReceived 8 1#16 8 (BitVec.ofNat 16 (cleTag (slotOf offering 63))) 4 5 false) offering) (fun t =>
      t.fabric.flowsOut.map (fun o => (o.ep, o.peer, o.slot, o.first, o.vc)) == [(8, 1, 4, 5, 1)]) = true ∧
    (negOf (updNeg agreeing 0 (fun n => { n with state := .suspended })) 0).state = .suspended ∧ (slotOf agreeing 63).owner = 0#8 := by
  refine ⟨?_, ?_, ?_, ?_, ?_, ?_⟩ <;> decide +kernel

/-- An image of call 9 at step 3: bytes 0 to 251, and their CRC-32C. -/
def ctx9 : BitVec 2048 := BitVec.ofNat 2048 (9 + 3 * 2 ^ 32 + 0x1D39B1E7 * 2 ^ 2016)

def crcBytes (c : U32) (l : List Byte) : U32 := l.foldl (fun c b => crcStep 8 (c ^^^ b.zeroExtend 32)) c

theorem crc_eq (l : List Byte) : crc32c l = ~~~(crcBytes 0xFFFFFFFF#32 l) := rfl

theorem crc_bytes_append (c : U32) (a b : List Byte) : crcBytes c (a ++ b) = crcBytes (crcBytes c a) b := List.foldl_append

def ctxBody : List (List Byte) := [[9#8, 0#8, 0#8, 0#8, 3#8] ++ List.replicate 45 0#8, List.replicate 50 0#8, List.replicate 50 0#8,
  List.replicate 50 0#8, List.replicate 52 0#8]

theorem crc_five {x0 x1 x2 x3 x4 x5 : U32} {a b c d e : List Byte} (ha : crcBytes x0 a = x1) (hb : crcBytes x1 b = x2)
    (hc : crcBytes x2 c = x3) (hd : crcBytes x3 d = x4) (he : crcBytes x4 e = x5) : crcBytes x0 [a, b, c, d, e].flatten = x5 := by
  subst ha hb hc hd he
  simp [crc_bytes_append]

theorem ctx_crc : crc32c (ctxBody.flatten) = 0x1D39B1E7#32 := by
  have h : crcBytes 0xFFFFFFFF#32 ctxBody.flatten = 0xE2C64E18#32 :=
    crc_five (x1 := 0x570AD479#32) (x2 := 0x2C43A492#32) (x3 := 0xA03865BC#32) (x4 := 0x9E5C2D67#32)
      (by decide +kernel) (by decide +kernel) (by decide +kernel) (by decide +kernel) (by decide +kernel)
  rw [crc_eq, h]
  decide

theorem context_witness :
    contextGood (slotOf agreeing 63) (leBytes 256 ctx9.toNat) = true ∧ reservedBad (objAt 0x9200 0x0C 63) (leBytes 256 ctx9.toNat) = false := by
  refine ⟨?_, by decide +kernel⟩
  have h : (leBytes 256 ctx9.toNat).take 252 = ctxBody.flatten := by decide +kernel
  unfold contextGood
  rw [h, ctx_crc]
  decide +kernel

/-- ALLREDUCE of two FP32 sums by RING: member 0 has 1 and 2, member 1 has 3 and 4. -/
def allreduce2 : State :=
  let s := coll0 (1 + 4 * 2 ^ 6 + 4 * 2 ^ 9 + 1 * 2 ^ 14) 2 srcStore dstStore 0 .running
  { s with mem := { MemS.reset with store := MemS.reset.store.set 0 (memStore Mem.empty 0 (leBytes 8 0x400000003F800000)) } }

theorem allreduce_witness :
    runsOp allreduce2 63 1 = true ∧ peersHere 2 0 8 [[], leBytes 8 0x4080000040400000] = true ∧
    (readSources allreduce2 (slotOf allreduce2 63) .clean).2.1 = none ∧
    nextIs (exec (.allreduce 63 [[], leBytes 8 0x4080000040400000] .clean) allreduce2) (fun t => (slotOf t 63).done &&
      placeLoadN t (.store 0) 64 8 == leBytes 8 0x40C0000040800000) = true := by decide +kernel

/-- The same with op, count and formats of another operation. -/
def other (op count : Nat) : State :=
  let s := coll0 (op + 4 * 2 ^ 6 + 4 * 2 ^ 9) count srcStore dstStore 0 .running
  { s with mem := allreduce2.mem }

theorem gathers_witness :
    nextIs (exec (.reducescatter 63 [[], leBytes 8 0x4080000040400000] .clean) (other 2 2)) (fun t => (slotOf t 63).done &&
      placeLoadN t (.store 0) 64 8 == leBytes 8 0x40800000) = true ∧
    nextIs (exec (.allgather 63 [[], leBytes 4 7] .clean) (other 3 1)) (fun t => (slotOf t 63).done &&
      placeLoadN t (.store 0) 64 8 == leBytes 8 0x73F800000) = true ∧
    nextIs (exec (.kvring 63 [leBytes 4 7] .clean) (other 7 1)) (fun t => (slotOf t 63).done && placeLoadN t (.store 0) 64 4 == leBytes 4 7) = true ∧
    nextIs (exec (.kvring 63 [] .clean) (updSlot (other 7 1) 63 (fun g => { g with dims := 0 }))) (fun t => (slotOf t 63).done &&
      placeLoadN t (.store 0) 64 4 == leBytes 4 0x3F800000) = true ∧
    nextIs (exec (.barrier 63) (other 0 0)) (fun t => (slotOf t 63).done) = true := by decide +kernel

/-- BROADCAST from rank 1, the other member's. -/
theorem broadcast_witness :
    nextIs (exec (.broadcast 63 (leBytes 4 7) .clean) (let s := coll0 (4 + 4 * 2 ^ 6 + 4 * 2 ^ 9 + 2 ^ 32) 1 0 dstStore 0 .running; { s with mem := allreduce2.mem }))
      (fun t => (slotOf t 63).done && placeLoadN t (.store 0) 64 4 == leBytes 4 7) = true ∧
    (callDesc (other 4 1) (slotOf (other 4 1) 63)).mcen = false ∧ rankOf (other 4 1) (slotOf (other 4 1) 63) 0 = (callDesc (other 4 1) (slotOf (other 4 1) 63)).root ∧
    nextIs (exec (.broadcast 63 [] .clean) (other 4 1)) (fun t => (slotOf t 63).done &&
      placeLoadN t (.store 0) 64 4 == leBytes 4 0x3F800000) = true := by decide +kernel

/-- NORM without park records, of the peer's S = 4: the norm is 2, and with an infinite CLIP the scale is 1. -/
def norm4 : State := coll0 5 0 0 dstStore 0x7F800000 .running

theorem norm_witness :
    runsOp norm4 63 5 = true ∧ (readRecords norm4 (slotOf norm4 63) .clean).2.1 = none ∧
    nextIs (exec (.norm 63 [[], leBytes 71 (2 ^ 268)] .clean) norm4) (fun t => (slotOf t 63).done && (slotOf t 63).gscale == 0x3F800000#32 &&
      placeLoadN t (.store 0) 64 16 == leBytes 16 (0x40800000 + 0x40000000 * 2 ^ 32 + 0x3F800000 * 2 ^ 64)) = true := by decide +kernel

/-- PERMUTE of one block per rank where each rank keeps its own: the map at the store's offset 128 is (rank 0, block 0). -/
def permute (phase : Nat) : State :=
  updSlot (coll0 (6 + 4 * 2 ^ 6 + 4 * 2 ^ 9) 1 srcStore dstStore (0x0410000000000080 + 1 * 2 ^ 64) .running) 63 (fun g => { g with phase := phase })

theorem permute_witness :
    runsOp (permute 3) 63 6 = true ∧ movingOf (rankOf (permute 3) (slotOf (permute 3) 63) 0) (dieMap (permute 3) (slotOf (permute 3) 63) 0) = [] ∧
    nextIs (exec (.permute 63 [] .clean) (permute 3)) (fun t => (slotOf t 63).phase == 4) = true ∧
    (otherMembers (permute 3) (slotOf (permute 3) 63)).contains 1 = true ∧
    nextIs (exec (.permuteFetchRequest 63 1#16 4 5 0 0#32 .clean) (permute 3)) (fun t =>
      t.fabric.flowsOut.any (fun o => sameFlowOut o 8 1 8 4)) = true ∧
    (let s := updSlot (coll0 6 0 srcStore dstStore (0x0410000000000080 + 1 * 2 ^ 64) .running) 63 (fun g => { g with phase := 4 })
     dieMap s (slotOf s 63) 0 = [] ∧ runsOp s 63 6 = true ∧ nextIs (exec (.completionRoundEnd 63 .clean) s) (fun t => (slotOf t 63).done) = true) ∧
    nextIs (exec (.completionRoundEnd 63 .clean) (permute 4)) (fun t => (slotOf t 63).phase == 5 && (slotOf t 63).done) = true := by decide +kernel

theorem collective_steps_witness :
    (replayLane norm4 15).isSome = true ∧
    nextIs (exec (.cleStepDone 63 none true) norm4) (fun t => (slotOf t 63).step == 1#16) = true ∧
    nextIs (exec (.cleStepDone 63 (some 15) true) norm4) (fun t => (slotOf t 63).step == 1#16 && t.cle.replays == 1#32 && t.ev.proofs.length == 1) = true ∧
    nextIs (exec (.cleStepDone 63 (some 15) false) norm4) (fun t => (slotOf t 63).last == 3#8 && (slotOf t 63).call == 10#32) = true ∧
    nextIs (exec (.cleLaneSelfcheckDone 15 true) { norm4 with ev := (queued (.cleLane 15) true).ev }) (fun t => t.ev.proofs == [] && t.cle.lanes[15]) = true ∧
    nextIs (exec (.cleLaneSelfcheckDone 15 false) { norm4 with ev := (queued (.cleLane 15) true).ev }) (fun t => t.ev.proofs == [] && !t.cle.lanes[15]) = true ∧
    callFlowsDone (updSlot norm4 63 (fun g => { g with done := true })) 63 = true ∧
    nextIs (exec (.callEnd 63) (updSlot norm4 63 (fun g => { g with done := true }))) (fun t => (slotOf t 63).last == 0#8 && (slotOf t 63).call == 10#32 &&
      (slotOf t 63).st == .idle && t.cle.completed == 1#64 && (seqOf t 0).ops == []) = true := by decide +kernel

/-! ### Host ports and windows -/

/-- Base with host port 1 in a state. -/
def port1 (st : HostState) (locked : Bool) : State :=
  updHport base 1
    (fun p => { p with st := st, locked := locked })

theorem host_ports_witness :
    portRuns (port1 .training true) 1 = true ∧
    nextIs (exec (.hostLaneLock 1) (port1 .training false)) (fun t => (hportOf t 1).locked) = true ∧
    nextIs (exec (.hostTrainingFault 1) (port1 .training true)) (fun t => (hportOf t 1).st == .fault && t.now == 60000000000) = true ∧
    nextIs (exec (.hostLinkUp 1) (port1 .training true)) (fun t => (hportOf t 1).st == .enrollment && t.ev.counts[0x80] == 1#32) = true ∧
    nextIs (exec (.hostLinkUp 1) (let s := port1 .training true; { s with sec := { s.sec with hostKeys := #v[false, true] } }))
      (fun t => (hportOf t 1).st == .linkUp) = true ∧
    nextIs (exec (.hostTrainingRetry 1) (port1 .fault false)) (fun t => (hportOf t 1).st == .training && t.now == 10000000000) = true ∧
    nextIs (exec (.mkpduReceived 1 true) (port1 .linkUp true)) (fun t => (hportOf t 1).st == .secured && (hportOf t 1).sak) = true ∧
    nextIs (exec (.hostLinkDown 1) (port1 .secured true)) (fun t => (hportOf t 1).st == .training && t.ev.counts[0x83] == 1#32) = true ∧
    nextIs (exec (.frameReceived 1 .rocev2 false) (port1 .secured true)) (fun t => (hportOf t 1).frames == 1#64 && (hportOf t 1).refused == 1#64) = true ∧
    nextIs (exec (.frameReceived 1 .eumonSession true) (port1 .enrollment true)) (fun t => (hportOf t 1).refused == 0#64) = true := by
  refine ⟨?_, ?_, ?_, ?_, ?_, ?_, ?_, ?_, ?_, ?_⟩ <;> decide +kernel

/-- Port 1 SECURED and window 255 on it, readable and writable, 64 KiB long, with operations outstanding. -/
def win255 (st : WindowState) (owner : U8) (ops : List RdmaOp) : State :=
  updWin (port1 .secured true) 255 (fun x => { x with
    desc := BitVec.ofNat 512 (7 + 5 * 2 ^ 40 + 65536 * 2 ^ 160), st := st, owner := owner, ops := ops, cnpAt := 7 })

def read1 : RdmaOp := { psn := 9, packets := 1, write := false, reel := 0, move := 0, tile := 0, byte_ := 0, winOff := 0, len := 4, data := [], sentAt := 3, late := false }
def write1 : RdmaOp := { psn := 8, packets := 1, write := true, reel := 0, move := 0, tile := 0, byte_ := 0, winOff := 0, len := 2, data := [1, 2], sentAt := 2, late := false }

theorem secured_port_witness :
    nextIs (exec (.macsecLost 1) (win255 .open_ 7#8 [read1])) (fun t => (hportOf t 1).st == .linkUp && (winOf t 255).st == .error && (winOf t 255).ops == []) = true ∧
    nextIs (exec (.pfcFrame 1 7 3) (win255 .open_ 7#8 [])) (fun t => vget (hportOf t 1).pauses 7 0 == 2) = true := by
  refine ⟨?_, ?_⟩ <;> decide +kernel

/-- The same window with a descriptor that neither reads nor writes. -/
def closed0 : State := updWin (win255 .closed 0xFF#8 []) 255 (fun x => { x with desc := 1#512 })

theorem window_serving : Serving (win255 .closed 0xFF#8 []) := by unfold Serving; decide +kernel

theorem windows_witness :
    (objHeld (win255 .closed 0xFF#8 []) (objAt 0x9300 1 255) = false ∧
      objHeld (win255 .closed 0xFF#8 []) (objAt 0x9300 2 255) = false ∧ descOpens (winOf (win255 .closed 0xFF#8 []) 255).desc = true ∧
      descOpens (winOf closed0 255).desc = false) ∧
    nextIs (exec (.windowDescriptorWrite (.direct (.driver 7)) 255 7#512) (win255 .error 7#8 [])) (fun t => (winOf t 255).desc == 7#512) = true ∧
    nextIs (exec (.windowOpen (.direct (.driver 7)) 255) (win255 .closed 0xFF#8 [])) (fun t => (winOf t 255).st == .open_ && (winOf t 255).owner == 7#8 &&
      (winOf t 255).psn == 5 && t.out.getLast? == some (.status 0x27 0)) = true ∧
    nextIs (exec (.windowOpen (.direct (.driver 7)) 255) closed0) (fun t => (winOf t 255).st == .closed) = true ∧
    nextIs (exec (.windowClose (.direct (.driver 7)) 255) (win255 .open_ 7#8 [])) (fun t => (winOf t 255).st == .closing) = true ∧
    nextIs (exec (.windowCloseDone 255) (win255 .closing 7#8 [])) (fun t => (winOf t 255).st == .closed && (winOf t 255).owner == 0xFF#8) = true ∧
    portOpen (win255 .open_ 7#8 [write1, read1]) 255 = true ∧
    nextIs (exec (.rdmaAckReceived 255 8#24) (win255 .open_ 7#8 [write1, read1])) (fun t => (winOf t 255).ops == [read1]) = true ∧
    nextIs (exec (.readResponseReceived 255 9#24 [1, 2, 3, 4] true) (win255 .open_ 7#8 [write1, read1])) (fun t => (winOf t 255).ops == [write1] &&
      (winOf t 255).echoAt == some 0) = true ∧
    nextIs (exec (.rdmaNakReceived 255) (win255 .closing 7#8 [write1])) (fun t => (winOf t 255).st == .error && (winOf t 255).ops == []) = true ∧
    nextIs (exec (.cnpReceived 255) (win255 .open_ 7#8 [])) (fun t => (winOf t 255).rate == 50000#32) = true ∧
    nextIs (exec (.windowRateIncrease 255) (updWin (win255 .open_ 7#8 []) 255 (fun x => { x with rate := 500#32 }))) (fun t =>
      (winOf t 255).rate == 1750#32 && t.now == 55007) = true ∧
    winSends (win255 .open_ 7#8 [write1, read1]) 255 = true ∧
    nextIs (exec (.rdmaAckTimeout 255) (win255 .open_ 7#8 [write1, read1])) (fun t => (winOf t 255).retrans == 2#32 && t.now == 131002) = true := by
  refine ⟨?_, ?_, ?_, ?_, ?_, ?_, ?_, ?_, ?_, ?_, ?_, ?_, ?_, ?_⟩ <;> decide +kernel

/-- A READ answered while its move runs: the bytes join the move's tile. -/
theorem read_part_witness :
    let s := updReel (win255 .open_ 0#8 [read1]) 0 (fun x => { x with st := .moving, queue := [copy2] })
    runningMove s 0 = some copy2 ∧ copy2.seqno = read1.move ∧ copy2.tile = read1.tile ∧
    nextIs (exec (.readResponseReceived 255 9#24 [1, 2, 3, 4] false) s) (fun t => (runningMove t 0).any (fun m => m.parts == [(0, [1, 2, 3, 4])])) = true := by
  decide +kernel

/-! ### The Eumon protocol -/

/-- The Operator's confirmed session FFFFFFFFh. -/
def sess : Session := { id := 0xFFFFFFFF#32, cred := 63, ident := 0x50, confirmed := true, openedAt := 0, lastAt := 0, th1 := [], th2 := [], kh := [1], kd := [2], hpub := [], ctrHigh := 5, ctrSeen := [5], ctrOut := 7, kept := [] }
def inSess (l : List Session) : State := { base with eumon := { EumonS.reset with sessions := l }, now := 9 }

def reqTo (gen : Fin 16) (index : U16) (sub : U8) (inst : BitVec 12) : Req := { gen := gen, seq := 3, index := index, sub := sub, inst := inst, exp := 0 }

/-- What a session has been sent last: the type and the status of the answer in its envelope. -/
def lastAnswer (t : State) : Nat × Nat :=
  match t.out.getLast? with
  | some (.message _ b) => (leNat ((b.drop 25).take 1), leNat ((b.drop 36).take 4))
  | _ => (0, 0)

theorem locate_asks (m : EMsg) (h : m ∈ [msgOf (reqTo 2 0x2D00 2 0) 1 0 [], msgOf (reqTo 2 0x2D00 2 0) 2 0 [1], msgOf (reqTo 2 0x2D00 1 0) 2 16 [1],
      msgOf (reqTo 2 0x2D00 2 0) 3 0 [], msgOf (reqTo 3 0 0 0) 0x23 0 [], msgOf (reqTo 3 0 0 0) 0x30 0 (spdmReq 0x10 0x84 0 0 []),
      msgOf (reqTo 2 0x2D00 2 0) 0x11 0 [], msgOf (reqTo 2 0xC000 2 0) 0x12 0 (leBytes 4 1025)]) :
    Asks (inSess [sess]) 0xFFFFFFFF#32 sess m := by
  simp only [List.mem_cons, List.not_mem_nil, or_false] at h
  rcases h with rfl | rfl | rfl | rfl | rfl | rfl | rfl | rfl <;> unfold Asks Serving <;> decide +kernel

theorem requests_witness :
    isGroup (objAt 0x2D00 2 0) = false ∧
    nextIs (exec (.read (.session 0xFFFFFFFF) (reqTo 2 0x2D00 2 0)) (inSess [sess])) (fun t => lastAnswer t == (0x81, 0) && t.eumon.served == 1#64) = true ∧
    nextIs (exec (.read (.session 0xFFFFFFFF) (reqTo 2 0x2D00 77 0)) (inSess [sess])) (fun t => lastAnswer t == (0x81, 2)) = true ∧
    layoutOf 0x2D00 ≠ 0xC810 ∧ layoutOf 0x2D00 ≠ 0xD510 ∧
    nextIs (exec (.write (.session 0xFFFFFFFF) (reqTo 2 0x2D00 2 0) [1] noObs) (inSess [sess])) (fun t => lastAnswer t == (0x82, 0) && t.ev.locate) = true ∧
    nextIs (exec (.write (.session 0xFFFFFFFF) (reqTo 2 0x2D00 2 0) [2] noObs) (inSess [sess])) (fun t => lastAnswer t == (0x82, 7) && !t.ev.locate) = true ∧
    existence (objAt 0x2D00 2 0) = 0 ∧
    nextIs (exec (.describe (.session 0xFFFFFFFF) (reqTo 2 0x2D00 2 0)) (inSess [sess])) (fun t => lastAnswer t == (0x83, 0)) = true := by
  decide +kernel

/-- Slot 15 open to the Operator. -/
def staging : State := updExp (inSess [sess]) 15 (fun y => { y with st := .open_, owner := 0x50 })

theorem staging_witness :
    rivals staging 15 (objAt 0x2D00 1 0) = [] ∧ commitHolds staging 15 (objAt 0x2D00 1 0) = false ∧
    (putStaged (expOf staging 15).writes { obj := objAt 0x2D00 1 0, data := [1], obs := noObs }).length ≤ 1024 ∧
    stagedBytes (putStaged (expOf staging 15).writes { obj := objAt 0x2D00 1 0, data := [1], obs := noObs }) ≤ 524288 ∧
    nextIs (exec (.stageWrite (.session 0xFFFFFFFF) 15 (reqTo 2 0x2D00 1 0) [1] noObs) staging) (fun t => lastAnswer t == (0x82, 0) &&
      (expOf t 15).writes.length == 1) = true ∧
    nextIs (exec (.stageWrite (.session 0xFFFFFFFF) 14 (reqTo 2 0x2D00 1 0) [1] noObs) staging) (fun t => lastAnswer t == (0x82, 0x12)) = true := by
  decide +kernel

/-- A block read of 2D00h:02 and a block write open transfers. -/
theorem transfers_open_witness :
    transferRoom (heard (inSess [sess]) 0xFFFFFFFF) (.session 0xFFFFFFFF) = true ∧ isGroup (objAt 0x2D00 2 0) = false ∧
    checkRead (heard (inSess [sess]) 0xFFFFFFFF) 0x50 (objAt 0x2D00 2 0) = 0 ∧
    readValue (heard (inSess [sess]) 0xFFFFFFFF) 0x50 (some 63) (objAt 0x2D00 2 0) (rowOf (objAt 0x2D00 2 0)) ≠ [] := by decide +kernel

/-- A transfer of 1,025 bytes: two segments, the second of one byte. -/
def xfer (write : Bool) (segs : List (Nat × List Byte)) : Transfer := { id := 65535, asker := .session 0xFFFFFFFF, write := write, obj := objAt 0xC000 2 0, exp := 0, gen := 2, seq := 3, total := 1025, segs := segs, copy := if write then [] else List.replicate 1025 7, block := 0, blockFrom := some 3, lastAt := 4, ended := none }
def carrying (y : Transfer) : State := { base with eumon := { EumonS.reset with sessions := [sess], transfers := [y] }, now := 9 }
/-- Segment n of a transfer in generation 2. -/
def segReq (n : Nat) : Req := { gen := 2, seq := 4, index := 0xFFFF, sub := BitVec.ofNat 8 n, inst := 0, exp := 0 }

theorem segments_witness :
    silent (carrying (xfer true [])) = false ∧
    liveTransfer (heard (carrying (xfer true [])) 0xFFFFFFFF) (.session 0xFFFFFFFF) (msgOf (segReq 1) 0x13 0 [1]) = some (xfer true []) ∧
    blockNo (msgOf (segReq 1) 0x13 0 [1]) < segCount 1025 ∧
    heldMap { xfer true [] with segs := assignNat 1 [1] [] } 0 ≠ fullMap 1025 0 ∧
    nextIs (exec (.blkdata (.session 0xFFFFFFFF) (segReq 1) [1] noObs) (carrying (xfer true []))) (fun t =>
      (findTransfer t 65535).any (fun y => y.segs == [(1, [1])] && y.blockFrom == some 9)) = true ∧
    nextIs (exec (.blkdata (.session 0xFFFFFFFF) (segReq 1) [1, 2] noObs) (carrying (xfer true []))) (fun t =>
      (findTransfer t 65535).any (fun y => y.ended == some (0x17, 9)) && lastAnswer t == (0x16, 0x17)) = true ∧
    nextIs (exec (.blkabort (.session 0xFFFFFFFF) (segReq 0)) (carrying (xfer true []))) (fun t =>
      (findTransfer t 65535).any (fun y => y.ended == some (0x17, 9))) = true ∧
    liveTransfer (heard (carrying (xfer false [])) 0xFFFFFFFF) (.session 0xFFFFFFFF) (msgOf (segReq 0) 0x14 0 (leBytes 8 2)) = some (xfer false []) ∧
    (blockSegs 1025 0).filter (fun n => !(2 : Nat).testBit (n - 64 * 0)) ≠ [] ∧
    nextIs (exec (.blkack (.session 0xFFFFFFFF) (segReq 0) 2) (carrying (xfer false []))) (fun t => t.out.length == 1 &&
      (findTransfer t 65535).any (fun y => y.lastAt == 9)) = true ∧
    nextIs (exec (.blkackTimer 0xFFFF) (carrying (xfer true [(1, [1])]))) (fun t => t.now == 2000003 && lastAnswer t == (0x14, 0)) = true ∧
    nextIs (exec (.transferStalled 0xFFFF) (carrying (xfer true [(1, [1])]))) (fun t => t.now == 5000000004 &&
      (findTransfer t 65535).any (fun y => y.ended == some (0x17, 5000000004))) = true := by
  refine ⟨?_, ?_, ?_, ?_, ?_, ?_, ?_, ?_, ?_, ?_, ?_, ?_⟩ <;> decide +kernel

/-- A session opened and not confirmed, of credential slot 63, which the second state fills with an Operator's entry. -/
def opened : Session := { sess with confirmed := false, ident := idNone, openedAt := 2 }
def withCred : State :=
  let s := inSess [opened]
  { s with sec := { s.sec with creds := s.sec.creds.set 63 (leBytes 112 2) } }

theorem sessions_witness :
    (outstanding base (.plain 7) < 16 ∧ leNat ((leBytes 131 63).take 1) < 64 ∧ leNat (((leBytes 131 63).drop 1).take 1) = 0) ∧
    ((inSess [opened]).eumon.sessions.find? (fun x => decide (x.id = BitVec.ofNat 32 (leNat ((leBytes 100 0xFFFFFFFF).take 4))) && !x.confirmed)) =
      some opened ∧
    confirmBy (inSess [opened]) opened = none ∧ (confirmBy withCred opened).any (fun p => p.2 == 0x50) = true ∧
    nextIs (exec (.sessConfirm 7 (reqTo 3 0 0 0) (leBytes 100 0xFFFFFFFF)) (inSess [opened])) (fun t => t.eumon.sessions == [] && t.eumon.served == 1#64) = true ∧
    nextIs (exec (.sessionConfirmTimeout 0xFFFFFFFF) (inSess [opened])) (fun t => t.now == 5000000002 && t.eumon.sessions == []) = true ∧
    nextIs (exec (.sessionIdleTimeout 0xFFFFFFFF) (inSess [sess])) (fun t => t.now == 30000000000 && t.eumon.sessions == []) = true ∧
    nextIs (exec (.sessClose 0xFFFFFFFF (reqTo 3 0 0 0)) (inSess [sess])) (fun t => t.eumon.sessions == [] && t.eumon.served == 1#64) = true := by
  refine ⟨?_, ?_, ?_, ?_, ?_, ?_, ?_, ?_⟩ <;> decide +kernel

/-- A WRITE of 1 to 2D00h:02 in an envelope with counter 6. -/
def envHdr (ctr : Nat) : List Byte := leBytes 24 (3 + 0x24 * 2 ^ 8 + 0xFFFFFFFF * 2 ^ 32 + ctr * 2 ^ 64 + 17 * 2 ^ 128)
def envBody : List Byte := msgBytes 2 2 3 0x2D00 2 0 0 0 [1]
def env (ctr : Nat) : List Byte := envHdr ctr ++ envBody ++ hmac384 [1] (envHdr ctr ++ envBody)

theorem envelope_witness :
    counterFresh sess 6 = true ∧ (parseMsg envBody).any (fun m => m.mtype == 2 && m.data == [1]) = true ∧
    counterFresh sess 5 = false ∧ envelopeSession (inSess []) 0xFFFFFFFF 6 (envHdr 6 ++ envBody) [] = none ∧
    nextIs (exec (.envelope (env 6) noObs) (inSess [sess])) (fun t => t.ev.locate && t.eumon.envDropped == 0#64) = true ∧
    nextIs (exec (.envelope (envHdr 6 ++ envBody ++ List.replicate 48 0) noObs) (inSess [])) (fun t => !t.ev.locate && t.eumon.envDropped == 1#64) = true ∧
    nextIs (exec (.envelope [1] noObs) (inSess [sess])) (fun t => t.eumon.dropped == 1#64) = true := by
  refine ⟨?_, ?_, ?_, ?_, ?_, ?_, ?_⟩ <;> decide +kernel

/-- A request that waits at the AON while the MGP is being reset. -/
def heldReq : Waiting := { owed := { asker := .session 0xFFFFFFFF, msg := msgOf (reqTo 2 0x2D00 2 0) 1 0 [], rtype := 0x81 }, who := 0x50, cred := some 63, obs := noObs, aon := true, since := 5 }
def mgpDown : State :=
  let s := inSess [sess]
  { s with sys := { s.sys with mgp := .resetting }, eumon := { s.eumon with waiting := [heldReq] } }

theorem aon_witness : heldByAon mgpDown = some heldReq ∧ mgpUp mgpDown = false ∧
    nextIs (exec .aonDeviceTimeout mgpDown) (fun t => t.now == 50000005 && t.eumon.waiting == [] && lastAnswer t == (0x81, 0x19)) = true := by
  refine ⟨?_, ?_, ?_⟩ <;> decide +kernel

theorem spdm_witness :
    nextIs (exec (.getVersion 0xFFFFFFFF (reqTo 3 0 0 0) 0 0) (inSess [sess])) (fun t => lastAnswer t == (0xB0, 0)) = true ∧
    nextIs (exec (.negotiateAlgorithms 0xFFFFFFFF (reqTo 3 0 0 0) 0 0 []) (inSess [sess])) (fun t => t.sec.spdmNegotiated == [0xFFFFFFFF#32]) = true ∧
    spdmAnswer (inSess [sess]) 0xFFFFFFFF 0 (spdmReq 0x13 0x81 0 0 []) = spdmUnexpected := by
  decide +kernel

/-! ### Exposures, proposals and keys -/

/-- Slot 15 in a state for an owner, with writes. -/
def exposure (st : ExpState) (owner : U8) (ws : List Staged) : State :=
  updExp base 15 (fun y => { y with st := st, owner := owner, writes := ws, commitTime := 0 })
def interval7 : Staged := { obj := objAt 0x2C00 2 0, data := leBytes 4 7, obs := noObs }
def noSuchSheet : Staged := { obj := objAt 0x2A00 4 0, data := [], obs := noObs }

theorem exposures_witness :
    (objHeld base (objAt 0xC81F 1 0) = false ∧ objHeld base (objAt 0xC81F 2 0) = false ∧ expHolds (expOf base 15) = false ∧ slotsHeld base 0x27 < 4) ∧
    nextIs (exec (.shutterOpen (.direct (.driver 7)) 15) base) (fun t => (expOf t 15).st == .open_ && (expOf t 15).owner == 0x27#8) = true ∧
    nextIs (exec (.shutterAbort (.direct (.driver 7)) 15) (exposure .open_ 0x27 [interval7])) (fun t => (expOf t 15).st == .aborted &&
      (expOf t 15).abort == 0x18#32 && (expOf t 15).writes == []) = true ∧
    nextIs (exec (.exposureClose (.direct (.driver 7)) 15 4096) (exposure .open_ 0x27 [interval7])) (fun t => (expOf t 15).st == .preparing &&
      (expOf t 15).request == 4096#64 && t.out.length == 0) = true ∧
    nextPreparing (exposure .preparing 0x50 [interval7]) 15 = true ∧
    commitAt (exposure .preparing 0x50 [interval7]) 0 0 = 20480 ∧ committing (exposure .preparing 0x50 [interval7]) = [] ∧
    nextIs (exec (.exposurePrepared 15) (exposure .preparing 0x50 [interval7])) (fun t => (expOf t 15).st == .committing &&
      (expOf t 15).commitTime == 20480#64) = true ∧
    prepCheck (exposure .preparing 0x50 [noSuchSheet]) 0x50 (checksOf (exposure .preparing 0x50 [noSuchSheet]) 0x50 [noSuchSheet]) noSuchSheet = 0x14 ∧
    nextIs (exec (.exposurePrepared 15) (exposure .preparing 0x50 [noSuchSheet])) (fun t => (expOf t 15).st == .aborted &&
      (expOf t 15).abort == 0x14#32 && (expOf t 15).failObj == 0x42A00#64) = true ∧
    nextIs (exec (.exposureExpired 15) (exposure .open_ 0x50 [interval7])) (fun t => (expOf t 15).st == .aborted && (expOf t 15).abort == 0x13#32) = true ∧
    nextCommit (exposure .committing 0x50 [interval7]) 15 = true := by
  refine ⟨?_, ?_, ?_, ?_, ?_, ?_, ?_, ?_, ?_, ?_, ?_, ?_⟩ <;> decide +kernel

theorem foldl_same {A B : Type} (f : A → B → A) (s : A) : ∀ l : List B, (∀ x ∈ l, f s x = s) → l.foldl f s = s
  | [], _ => rfl
  | x :: l, h => by
    rw [List.foldl_cons, h x (List.mem_cons_self ..)]
    exact foldl_same f s l (fun y hy => h y (List.mem_cons_of_mem _ hy))

theorem vget_replicate {A : Type} (n i : Nat) (a : A) : vget (Vector.replicate n a) i a = a := by
  unfold vget; split <;> simp

/-- Lanes at reset neither return nor leave the count. -/
theorem lanes_reset (s : State) (h : s.optics.lanes = Vector.replicate 512 LaneS.reset) : commitLanes s = s := by
  refine foldl_same _ s _ (fun l _ => ?_)
  simp only [laneOf, h, vget_replicate]
  rfl

/-- The Operator's exposure that writes 7 to 2C00h:02 commits at step time 0. -/
def committingOne : State := exposure .committing 0x50 [interval7]

theorem writes_optics : (applyWrites committingOne 15).optics = committingOne.optics := by rfl
theorem committing_optics : committingOne.optics = OpticsS.reset := by rfl
theorem lanes_rest : commitLanes (applyWrites committingOne 15) = applyWrites committingOne 15 :=
  lanes_reset _ (by rw [writes_optics, committing_optics]; simp only [OpticsS.reset])

def ridden : State := returnUnits (leaveUnits (applyWrites committingOne 15) (fun _ _ => true))
def closing : State := updExp (noteInventory committingOne ridden) 15 (fun y => { y with st := .committed, writes := [] })

theorem commit_is : commitSlot committingOne 15 = commitProposals { closing with exps := { closing.exps with commits := bump closing.exps.commits } } 15 0 := by
  unfold commitSlot ridersOf
  rw [lanes_rest]
  rfl

theorem commit_witness :
    reachCommit committingOne 0 = committingOne ∧ (expOf committingOne 15).commitTime.toNat = 0 ∧ nextCommit committingOne 15 = true ∧
    (commitSlot committingOne 15).eumon.waiting = [] ∧ (expOf (commitSlot committingOne 15) 15).st = .committed ∧
    (commitSlot committingOne 15).cle.interval = 7#32 := by
  refine ⟨?_, by decide +kernel, by decide +kernel, ?_⟩
  · unfold reachCommit advanceToStep
    rw [if_pos (Nat.zero_le _), if_pos (Nat.zero_le _)]
  rw [commit_is]
  decide +kernel

/-- Pair 7 is of partition 7's die, whose driver retires its last page in slot 15. -/
def pair7 : State := { exposure .open_ 0x27 [] with sec := { SecurityS.reset with partMap := (Vector.replicate 8 0xFF#8).set 7 7#8 } }

theorem retire_witness :
    ownerOf pair7 0x8C00 7 = some 7 ∧ 24575 < pageEnd (afterCommits pair7) 7 ∧ rivals pair7 15 (objAt 0x8C00 1 7) = [] ∧
    commitHolds pair7 15 (objAt 0x8C00 1 7) = false ∧
    nextIs (exec (.pageRetireWrite (.direct (.driver 7)) 15 7 24575) pair7) (fun t => (expOf t 15).writes.length == 1 &&
      t.out == [.status 0x27 0]) = true := by
  refine ⟨?_, ?_, ?_, ?_, ?_⟩ <;> decide +kernel

/-- A body of one item that writes a value to D100h:05, and slot 3 holding it. -/
def bodyOf (v : Nat) : List Byte := leBytes 80 (0x5D2C8A01 + 2 ^ 32 + (0xD100 + 5 * 2 ^ 16 + 2 * 2 ^ 40) * 2 ^ 512 + v * 2 ^ 576)
def proposed (gen : U64) (expiry : U64) : State := updProp base 3 (fun p => { p with body := bodyOf 511, st := .proposed, generation := gen, expiry := expiry })
def directOwed : Owed := { asker := .direct .securityOfficer, msg := msgOf (reqTo 2 0xD513 4 0) 2 0 [], rtype := 0x82 }

theorem proposals_witness :
    (bodyItems (bodyOf 511) = some [{ obj := objAt 0xD100 5 0, data := [255, 1] }] ∧ (bodyOf 511).length = 80 ∧
      dualControl (objAt 0xD100 5 0) = true) ∧
    proposalMap (proposed 0 1000) [{ obj := objAt 0xD100 5 0, data := [255, 1] }] = SecurityS.reset.partMap ∧
    guardCheck (proposed 0 1000) SecurityS.reset.partMap { obj := objAt 0xD100 5 0, data := [255, 1] } = 0 ∧
    proposalWaits (proposed 0 1000) 3 = false ∧ expHolds (expOf (proposed 0 1000) 0) = false ∧
    nextIs (exec (.proposalBody (.direct .operator) 3 (bodyOf 511)) base) (fun t => (propOf t 3).st == .proposed && (propOf t 3).proposer == 0x50#8 &&
      (propOf t 3).expiry == 600000000000#64 && t.ev.counts[0x90] == 1#32) = true ∧
    nextIs (exec (.proposalReject (.direct .securityOfficer) 3) (proposed 0 1000)) (fun t => (propOf t 3).st == .rejected) = true ∧
    nextIs (exec (.countersign (.direct .securityOfficer) 3 63 0) (proposed 0 0)) (fun t => (propOf t 3).st == .expired &&
      t.out == [.status 0x51 0x13]) = true ∧
    nextIs (exec (.proposalExpiry 3) (proposed 0 1000)) (fun t => (propOf t 3).st == .expired) = true ∧
    (propOf (runProposal (proposed 1 1000) 3 directOwed) 3).abort = 0x11#32 ∧
    (propOf (runProposal (proposed 0 1000) 3 directOwed) 3).st = .committing ∧
    (expOf (runProposal (proposed 0 1000) 3 directOwed) 0).writes = [{ obj := objAt 0xD100 5 0, data := [255, 1], obs := noObs }] := by
  refine ⟨?_, ?_, ?_, ?_, ?_, ?_, ?_, ?_, ?_, ?_, ?_, ?_⟩ <;> decide +kernel

/-- Where no exposure holds a write, nothing is held. -/
theorem nothing_held (s : State) (hs : s.exps.slots = Vector.replicate 16 ExpSlot.reset) (x : ObjRef) : objHeld s x = false := by
  unfold objHeld
  rw [hs, Vector.any_eq_false]
  intro i hi
  simp [stagedIn, ExpSlot.reset]

theorem proposal_objects_witness (sub : Nat) :
    objHeld base (objAt 0xD513 sub 0) = false ∧ objHeld (proposed 0 1000) (objAt 0xD513 sub 0) = false :=
  ⟨nothing_held _ rfl _, nothing_held _ rfl _⟩

/-- The entries of a claim: a Security Officer's and an Operator's, with different keys. -/
def entries : BitVec 1792 := BitVec.ofNat 1792 (3 + 5 * 2 ^ 32 + 2 * 2 ^ 896 + 6 * 2 ^ 928)
def claiming : State :=
  let s := inSess [{ sess with ident := idCLAIM }]
  { s with sec := { s.sec with ownership := .claiming, claimFrom := 3 } }

theorem claim_witness :
    objHeld claiming (objAt 0xD000 3 0) = false ∧
    (let a := (leBytes 224 entries.toNat).take 112; let b := (leBytes 224 entries.toNat).drop 112
     credRole a = 3 ∧ credRole b = 2 ∧ credKey a ≠ credKey b ∧ credReserved a = false ∧ credReserved b = false) ∧
    nextIs (exec (.claim (.direct .claim) entries) claiming) (fun t => t.sec.ownership == .owned && t.sec.generation == 1#64 &&
      t.eumon.sessions == [] && credRole (vget t.sec.creds 1 []) == 2) = true ∧
    nextIs (exec .claimingExpiry claiming) (fun t => t.sec.ownership == .unowned && t.now == 600000000003) = true := by
  decide +kernel

/-- Die 7 and its pair belong to partition 7, whose pair is rewritten, and dies 0 and 7 are cleared. -/
def keyed : State := { base with
  sec := { SecurityS.reset with partMap := (Vector.replicate 8 0xFF#8).set 7 7#8, hbmKeys := Vector.replicate 8 true, flashKeys := Vector.replicate 8 true
                                hostKeys := Vector.replicate 2 true, rewriting := (Vector.replicate 8 false).set 7 true, clearing := 0x81#8 }
  mem := { MemS.reset with hbm := (Vector.replicate 8 Mem.empty).set 7 (memStore Mem.empty 5 [9]) } }

theorem zeroise_witness :
    objHeld keyed (objAt 0xD400 4 0) = false ∧ (hportOf (port1 .linkUp true) 1).st ≠ .secured ∧
    nextIs (exec (.zeroisePartition (.direct .securityOfficer) 7) keyed) (fun t => !t.sec.flashKeys[7] && !t.sec.hbmKeys[7] && t.sec.hbmKeys[6] &&
      t.sec.rewriting[7] && t.out == [.status 0x51 0]) = true ∧
    nextIs (exec (.zeroiseHostLink (.direct .securityOfficer) 1) (port1 .linkUp true)) (fun t => (hportOf t 1).st == .enrollment &&
      t.ev.counts[0x95] == 1#32) = true ∧
    nextIs (exec (.zeroiseAll (.direct .securityOfficer)) keyed) (fun t => !t.sec.flashKeys[0] && !t.sec.hostKeys[1]) = true ∧
    partOfDie keyed 7 = some 7 ∧
    (let s := { keyed with sec := { keyed.sec with clearing := 1#8 } }
     s.sec.rewriting[7] = true ∧ s.sec.clearing.toNat.testBit 7 = false ∧
     nextIs (exec (.zeroiseRewriteDone 7) s) (fun t => t.sec.hbmKeys[7] && !t.sec.rewriting[7] && (vget t.mem.hbm 7 Mem.empty).cells == []) = true) ∧
    keyed.sec.clearing.toNat.testBit 7 = true ∧
    nextIs (exec (.dieClearDone 7) keyed) (fun t => t.sec.clearing == 1#8 && t.sec.hbmKeys[7] && (vget t.mem.hbm 7 Mem.empty).cells == []) = true := by
  decide +kernel

/-! ### Mailboxes, service, the management bus and the test access port -/

/-- Channel 7, from driver 7 to the MGP, with WAKE, in a state. -/
def channel7 (st : ChannelState) (notice : U8) : State := updCh base 7 (fun m => { m with st := st, msg := if st = .empty then [] else [5], notice := notice, wakeFrom := 4 })
def withMgp (s : State) (c : CoreState) : State := { s with sys := { s.sys with mgp := c } }

theorem mailboxes_witness :
    (silent base = false ∧ chSender (chOf base 7) = identNat (.driver 7) ∧ chReceiver (chOf base 7) = identNat .mgp ∧ chWake (chOf base 7) = true) ∧
    nextIs (exec (.mailboxPost (.direct (.driver 7)) 7 [1, 2]) base) (fun t => (chOf t 7).st == .full && (chOf t 7).msg == [1, 2] &&
      t.out == [.interrupt 1 7, .status 0x27 0]) = true ∧
    nextIs (exec (.mailboxPost (.direct (.driver 7)) 7 (List.replicate 256 3)) (withMgp base .asleep)) (fun t => (chOf t 7).st == .waking &&
      t.sys.mgp == .waking) = true ∧
    nextIs (exec (.noticeClear (.direct (.driver 7)) 7) (channel7 .empty 2)) (fun t => (chOf t 7).notice == 0#8 && t.out == [.status 0x27 0]) = true ∧
    nextIs (exec (.mailboxRelease (.direct .mgp) 7) (channel7 .full 0)) (fun t => (chOf t 7).st == .empty && (chOf t 7).msg == []) = true ∧
    nextIs (exec (.receiverReady false) (withMgp (channel7 .waking 0) .waking)) (fun t => t.sys.mgp == .up && (chOf t 7).st == .full &&
      (chOf t 7).msg == [5] && (chOf t 6).st == .empty) = true ∧
    nextIs (exec (.wakeFailed 7) (channel7 .waking 0)) (fun t => (chOf t 7).st == .empty && (chOf t 7).notice == 2#8 && t.now == 50000004) = true := by
  refine ⟨?_, ?_, ?_, ?_, ?_, ?_, ?_⟩ <;> decide +kernel

theorem channel_objects_witness (sub : Nat) : objHeld base (objAt 0xC007 sub 0) = false := nothing_held _ rfl _

def service (b : ServiceState) : State := { base with ev := { base.ev with service := b } }
/-- Instance 63 of unit kind 06h on the fault list. -/
def faulty : State := { base with ev := { base.ev with faults := [{ ukind := 0x06, uinst := 63, code := 3, time := 0, inj := false, leaves := false }] } }
/-- Point 0Ch aims at array 3, where injection is enabled. -/
def injecting : State :=
  { base with sec := { base.sec with injEn := 0x1FF#16 }, ev := { base.ev with points := base.ev.points.set 12 { InjPoint.reset with target := 0x301#64 } } }

theorem service_witness :
    nextIs (exec (.serviceRequested (.direct .operator)) base) (fun t => t.ev.service == .requested && t.ev.counts[0x0B] == 1#32) = true ∧
    allEmpty base = true ∧ nextIs (exec (.serviceInService (.direct .operator)) (service .requested)) (fun t => t.ev.service == .inService) = true ∧
    allEmpty (two .running .running) = false ∧
    nextIs (exec (.serviceInService (.direct .operator)) (two .running .running)) (fun t => t.out == [.status 0x50 0x0A]) = true ∧
    nextIs (exec (.serviceNormal (.direct .operator)) (service .inService)) (fun t => t.ev.service == .normal && t.ev.counts[0x0D] == 1#32) = true ∧
    onFaultList faulty 6 63 = true ∧ unitExists 6 63 = 0 ∧ unitExists 6 0 = 0 ∧
    nextIs (exec (.requalifyUnit (.direct .operator) 6 63 true) faulty) (fun t => !onFaultList t 6 63 && t.ev.returning == [(6#8, 63#12)] &&
      t.ev.counts[1] == 1#32) = true ∧
    nextIs (exec (.requalifyUnit (.direct .operator) 6 63 false) faulty) (fun t => onFaultList t 6 63 && t.ev.counts[2] == 1#32) = true ∧
    targetReach injecting 0x50 (pointOf injecting 12).target.toNat = true ∧
    nextIs (exec (.injectionArm (.direct .operator) 12 3) injecting) (fun t => (pointOf t 12).armed && (pointOf t 12).mode == 3#8) = true := by
  decide +kernel

/-- The button held since a moment. -/
def held (from_ : Nat) (sv : ServiceState) : State :=
  { base with ev := { base.ev with buttonFrom := some from_, buttonFromRelease := true, service := sv }, now := 3000000004 }
def armed : State := { base with sys := { base.sys with armedAt := some 0 } }

theorem button_witness :
    nextIs (exec .svcBtnAssert base) (fun t => t.ev.buttonFrom == some 0 && t.ev.presses == 1#32 && t.now == 20000000) = true ∧
    recoveryArmed armed = true ∧ nextIs (exec .svcBtnAssert armed) (fun t => t.sys.running == some .recovery && t.sys.afterBoot) = true ∧
    nextIs (exec .svcBtnHold5s (held 4 .normal)) (fun t => t.sec.ownership == .claiming && t.now == 5000000004) = true ∧
    nextIs (exec .svcBtnHold10s (held 4 .normal)) (fun t => t.sys.running == some .recovery && t.now == 10000000004) = true ∧
    nextIs (exec .svcBtnRelease (held 4 .requested)) (fun t => t.ev.service == .normal && t.ev.buttonFrom == none) = true ∧
    nextIs (exec .svcBtnRelease (held 5 .requested)) (fun t => t.ev.service == .requested) = true ∧
    nextIs (exec .svcBtnRelease (held 5 .normal)) (fun t => t.ev.service == .requested && t.ev.counts[0x0B] == 1#32) = true ∧
    nextIs (exec .sharedCounterSnapshot base) (fun _ => true) = true := by
  refine ⟨?_, ?_, ?_, ?_, ?_, ?_, ?_, ?_, ?_⟩ <;> decide +kernel

def onBus : State := { base with sys := { base.sys with i3cAddr := some 0x7E#7, rstN := false } }
def asleep : State := { onBus with power := { onBus.power with st := .p3, convertersOn := false } }

theorem bus_witness :
    base.sys.i3cAddr = none ∧ nextIs (exec (.entdaa 0x7E) base) (fun t => t.sys.i3cAddr == some 0x7E#7 && t.out.length == 1) = true ∧
    nextIs (exec .rstdaa onBus) (fun t => t.sys.i3cAddr == none) = true ∧
    nextIs (exec .i3cStatusRead onBus) (fun t => t.out == [.bus [BitVec.ofNat 8 (bootCode onBus)]]) = true ∧
    nextIs (exec .i3cAttn onBus) (fun t => t.sys.attn) = true ∧
    nextIs (exec .i3cWake asleep) (fun t => t.power.target == some .p0 && t.power.convertersOn && t.sys.bootDue) = true ∧
    nextIs (exec .i3cReset onBus) (fun t => t.sys.cause == 3#8 && t.sys.running == some .package && t.sys.bootDue) = true ∧
    nextIs (exec .idcode base) (fun t => t.sys.jtag.ir == .idcode && t.out == [.tdo 0x11048B47]) = true ∧
    nextIs (exec (.samplePreload 0x10001#41 (-1)) { base with sys := { base.sys with attn := true } }) (fun t => t.sys.jtag.cells == 0x1FFFFFFFFFF#41 && t.out.any (fun o => match o with
      | .tdo n => n &&& (1 + 2 ^ 16 + 2 ^ 32 + 2 ^ 37) == 2 ^ 16 + 2 ^ 32
      | _ => false)) = true ∧
    nextIs (exec .extest onBus) (fun t => t.sys.jtag.ir == .bypass && t.out == []) = true ∧
    nextIs (exec .extest { base with sys := { base.sys with rstN := true } }) (fun t => t.sys.jtag.ir == .extest) = true := by
  refine ⟨?_, ?_, ?_, ?_, ?_, ?_, ?_, ?_, ?_, ?_, ?_⟩ <;> decide +kernel

/-! ### Clocks, power and heat -/

/-- Step time at a value, in a sync state. -/
def clock (stepTime : U64) (sync : SyncState) (errs : List Int) : State :=
  { base with clk := { ClockS.reset with stepTime := stepTime, sync := sync, errs := errs, lastPulse := 3 }, now := 200000 }
def holdover : State := { base with clk := { ClockS.reset with refHoldover := true } }
def epochDue : State := { clock 5 .unset [] with clk := { ClockS.reset with epoch := some (1048576, 100000) } }

theorem clocks_witness :
    nextIs (exec .refclkLost (clock 5 .aligning [])) (fun t => t.clk.refHoldover && t.clk.sync == .holdover && t.ev.counts[0xA0] == 1#32) = true ∧
    nextIs (exec .refclkRestored holdover) (fun t => !t.clk.refHoldover && t.ev.counts[0xA1] == 1#32) = true ∧
    objHeld base (objAt 0x2E00 2 0) = false ∧
    nextIs (exec (.epochWrite (.direct .operator) 1048576) base) (fun t => t.clk.epoch == some (1048576, 0) && t.out == [.status 0x50 0]) = true ∧
    nextIs (exec .stepPulse epochDue) (fun t => t.clk.stepTime == 1048576#64 && t.clk.sync == .locked && t.clk.epoch == none) = true ∧
    nextIs (exec .stepPulse (clock 1048560 .holdover [])) (fun t => t.clk.pulseErr == -16 && t.clk.sync == .locked && t.clk.slew == -16) = true ∧
    nextIs (exec .stepPulse (clock 17 .locked [])) (fun t => t.clk.slips == 1#32 && t.clk.sync == .locked && t.ev.counts[0xA3] == 1#32) = true ∧
    nextIs (exec .stepPulse (clock 20 .locked [18, 19])) (fun t => t.clk.sync == .aligning && t.clk.halve == 20) = true ∧
    nextIs (exec .stepPulse (clock 1048476 .locked [-99, -98])) (fun t => t.clk.sync == .aligning && t.clk.forward == some (1048576, 100)) = true ∧
    nextIs (exec .stepLost (clock 5 .locked [])) (fun t => t.clk.sync == .holdover && t.now == 4194307 && t.ev.counts[0xA2] == 1#32) = true ∧
    nextIs (exec .alignmentComplete (clock 5 .aligning [])) (fun t => t.clk.sync == .locked) = true := by
  refine ⟨?_, ?_, ?_, ?_, ?_, ?_, ?_, ?_, ?_, ?_, ?_⟩ <;> decide +kernel

/-- A forward step of 7 ns, 4 ns ahead. -/
def stepping : State := { base with clk := { ClockS.reset with stepTime := 1020, sync := .aligning, forward := some (1024, 7) } }

theorem forward_witness : stepNow stepping < 1024 ∧
    nextIs (exec .alignmentComplete stepping) (fun t => t.clk.sync == .locked && t.clk.stepTime == 1031#64) = true := by decide +kernel

/-- Die 7 with settings of its power control. -/
def die7 (f : DiePowerS → DiePowerS) : State := updDieP base 7 f
def toward (a b : PowerSt) : State := { base with power := { base.power with st := a, target := some b } }

theorem points_witness :
    objHeld base (objAt 0x9500 1 7) = false ∧
    nextIs (exec (.performancePointWrite (.direct .operator) 7 6) base) (fun t => (dieP t 7).point == 6#8 && (dieP t 7).changing) = true ∧
    nextIs (exec (.performancePointDone 7) (die7 (fun d => { d with point := 6, changing := true }))) (fun t => !(dieP t 7).changing && (dieP t 7).point == 6#8) = true ∧
    nextIs (exec (.performancePointDone 7) (die7 (fun d => { d with point := 6, changing := true, pendingPoint := 2 }))) (fun t =>
      (dieP t 7).changing && (dieP t 7).point == 2#8) = true ∧
    objHeld base (objAt 0x2E10 1 0) = false ∧
    changeOk base .p0 .p1 = true ∧ changeOk base .p0 .p2 = true ∧ changeOk base .p0 .p3 = true ∧ changeOk base .p0 .p0 = false ∧ changeOk base .p1 .p0 = true ∧
    nextIs (exec (.powerStateP3 (.direct .operator)) base) (fun t => t.power.target == some .p3 && t.out == [.status 0x50 0]) = true ∧
    nextIs (exec (.powerStateP2 (.direct .operator)) (toward .p0 .p1)) (fun t => t.power.pending == 2#8) = true ∧
    nextIs (exec (.islandSleep true) base) (fun t => t.sys.sep == .asleep) = true ∧
    nextIs (exec (.islandWake false) (withMgp base .asleep)) (fun t => t.sys.mgp == .waking) = true := by decide +kernel

theorem states_witness :
    nextIs (exec (.powerStateChangeDone (Vector.replicate 8 900) []) (toward .p0 .p1)) (fun t => t.power.st == .p1 && t.power.target == none &&
      t.power.dies[7].idle == 900#16) = true ∧
    nextIs (exec (.powerStateChangeDone (Vector.replicate 8 0) []) (toward .p1 .p2)) (fun t => t.power.st == .p2) = true ∧
    nextIs (exec (.powerStateChangeDone (Vector.replicate 8 0) []) (toward .p2 .p3)) (fun t => t.power.st == .p3 && !t.power.convertersOn) = true := by
  decide +kernel

/-- The package before its input is valid. -/
def dark : State := State.reset
def hot : State := die7 (fun d => { d with storeHotFrom := some 9 })

theorem limits_witness :
    nextIs (exec (.inputValid 40000) dark) (fun t => t.power.convertersOn && t.sys.bootDue && t.sys.boot == .rom) = true ∧
    nextIs (exec (.inputUndervoltage 37999) base) (fun t => t.power.stop == .inputFault && !t.power.convertersOn) = true ∧
    nextIs (exec (.inputOvervoltage 60001) base) (fun t => t.power.stop == .inputFault) = true ∧
    regulatorOn base 209 = true ∧ nextIs (exec (.regulatorFault 209) base) (fun t => !regulatorOn t 209) = true ∧
    nextIs (exec (.powerBudgetUpdate 48000 80000 39000 39000 (Vector.replicate 8 (4000, 300, 200))) base) (fun t => t.now == 1000000 && t.power.mv == 48000#16 &&
      (dieP t 7).frac == 11#8) = true ∧
    mayRise (die7 (fun d => { d with frac := 8 }) |> fun s => dieP s 7) = true ∧
    nextIs (exec (.throttleRise 7) (die7 (fun d => { d with frac := 8 }))) (fun t => (dieP t 7).frac == 9#8 && t.now == 1000000) = true ∧
    nextIs (exec (.slewHoldEnd 7) (die7 (fun d => { d with slewUntil := some 50 }))) (fun t => (dieP t 7).slewUntil == none && t.now == 50) = true ∧
    nextIs (exec (.thermalHold 7) hot) (fun t => (dieP t 7).storeHold && (dieP t 7).frac == 0#8 && t.now == 1000009) = true ∧
    unitExists 20 63 = 0 ∧
    base.power.sensorInj = [] ∧ base.ev.points[12].armed = false := by
  refine ⟨?_, ?_, ?_, ?_, ?_, ?_, ?_, ?_, ?_, ?_, ?_, ?_, ?_⟩ <;> decide +kernel

/-! ### Resets, boot, firmware and functions -/

def withSys (f : SystemS → SystemS) : State := { base with sys := f base.sys }

theorem resets_witness :
    objHeld base (objAt 0x2F00 1 0) = false ∧ allEmpty base = true ∧ (∀ r < 68, runningMove base r = none) ∧ base.sys.resetting.contains 77 = false ∧
    dieInReset base 7 = false ∧
    nextIs (exec (.resetPackage (.direct .operator)) base) (fun t => t.sys.bootDue && t.sys.boot == .rom && t.sys.cause == 2#8 &&
      t.out == [.status 0x50 0]) = true ∧
    nextIs (exec (.resetCold (.direct .operator)) base) (fun t => t.sys.bootDue && t.sys.running == some .cold) = true ∧
    nextIs (exec (.resetIsland (.direct .operator) 77) base) (fun t => t.sys.resetting == [77] && t.out == [.status 0x50 0]) = true ∧
    nextIs (exec (.resetDie (.direct .operator) 7) base) (fun t => dieInReset t 7) = true ∧
    nextIs (exec (.resetRecovery (.direct .securityOfficer)) base) (fun t => t.sys.armedAt == some 0 && t.out == [.status 0x51 0]) = true ∧
    nextIs (exec .recoveryArmLapse armed) (fun t => t.sys.armedAt == none && t.now == 60000000000) = true := by decide +kernel

/-- TRIPPED with a PACKAGE reset latched, and sensor 0 at 70 °C in the second. -/
def latched : State := { withSys (fun y => { y with latched := some .package }) with power := { base.power with stop := .tripped, convertersOn := false } }
def latchedHot : State := { latched with power := { latched.power with sensors := latched.power.sensors.set 0 { hist := [700], valid := true } } }

theorem latched_witness : latched.sys.latched = some .package ∧ cool latched = true ∧
    nextIs (exec .latchedResetRun latched) (fun t => t.sys.running == some .package && t.sys.latched == none && t.sys.bootDue) = true := by
  have h : cool latched = true := by
    have e : latched.power.sensors = Vector.replicate 1024 SensorS.reset := rfl
    unfold cool
    rw [e, Vector.all_eq_true]
    intro i hi
    simp [SensorS.reset]
  refine ⟨rfl, h, ?_⟩
  have e : exec .latchedResetRun latched = .next (runReset latched .package latched.sys.latchedCause) := by
    show Host.Outcome.next (if cool latched then runReset latched .package latched.sys.latchedCause else latched) = _
    rw [if_pos h]
  rw [e]
  decide +kernel

theorem hot_witness : latchedHot.sys.latched = some .package ∧ cool latchedHot = false := by
  refine ⟨rfl, ?_⟩
  unfold cool
  rw [Vector.all_eq_false]
  exact ⟨0, by decide, by decide +kernel⟩

theorem boot_witness :
    nextIs (exec (.rstNAssert 9999) base) (fun t => !t.sys.rstN) = true ∧
    nextIs (exec (.rstNAssert 1000000) base) (fun t => t.sys.running == some .package && t.sys.rstN && t.sys.cause == 1#8) = true ∧
    nextIs (exec (.bootStart [] true true) (withSys (fun y => { y with bootDue := true, boot := .rom }))) (fun t => t.sys.booting && t.sys.boots == 1#32 &&
      !t.sys.bootDue) = true ∧
    nextIs (exec .bootDone (withSys (fun y => { y with booting := true, boot := .rom, mgp := .resetting }))) (fun t => t.sys.boot == .ready && t.sys.mgp == .up &&
      t.now == 2750000000 && t.ev.counts[0xB0] == 1#32) = true ∧
    nextIs (exec (.leaveReset (.island 84)) (withSys (fun y => { y with resetting := [84], mgp := .resetting }))) (fun t => t.sys.mgp == .up && t.sys.resetting == []) = true ∧
    nextIs (exec (.leaveReset (.island 85)) (withSys (fun y => { y with resetting := [119, 85], sep := .resetting }))) (fun t => t.sys.sep == .up &&
      t.sys.resetting == [119]) = true ∧
    nextIs (exec .inputRemoved base) (fun t => !t.power.convertersOn && !t.power.inputValid && t.sys.boot == .rom) = true := by
  refine ⟨?_, ?_, ?_, ?_, ?_, ?_, ?_⟩ <;> decide +kernel

theorem watchdog_witness :
    nextIs (exec .watchdogWrite { base with now := 5 }) (fun t => t.sys.wdAt == 5) = true ∧
    nextIs (exec .mgpReset base) (fun t => t.sys.mgp == .resetting && t.sys.mgpResets == 1#32 && t.now == 500000000 && !t.sys.mgpFailed) = true ∧
    nextIs (exec .mgpReset (withSys (fun y => { y with mgpResetAt := [0, 1] }))) (fun t => t.sys.mgpFailed && t.ev.counts[0xB2] == 1#32) = true := by
  refine ⟨?_, ?_, ?_⟩ <;> decide +kernel

/-- An image of 256 bytes of zeros, and its being written. -/
def image0 : List Byte := List.replicate 256 0
def writing : State := withSys (fun y => { y with fwImage := some [0, 0, 0, 0, 1, 0, 0, 0, 9], fwState := .writing })

theorem firmware_witness :
    nextIs (exec (.firmwareStage (.direct .operator) image0) base) (fun t => t.sys.fwState == .staged && t.out == [.status 0x50 0]) = true ∧
    nextIs (exec (.firmwareCommit (.direct .operator)) base) (fun t => t.sys.fwState == .invalid && t.out == [.status 0x50 0]) = true ∧
    nextIs (exec .firmwareWritten writing) (fun t => t.sys.fwState == .written && t.sys.fwImage == writing.sys.fwImage && t.sys.fwFloor == 9#16 && t.ev.counts[0xB3] == 1#32) = true := by
  decide +kernel

theorem firmware_objects_witness (sub : Nat) : objHeld base (objAt 0x2F20 sub 0) = false := nothing_held _ rfl _

def function (f : Nat) (st : FuncState) : State := updFunc base f (fun _ => { st := st, pending := 0xFF })

theorem functions_witness :
    objHeld base (objAt 0x9600 1 7) = false ∧ partOfDie base 7 = none ∧
    nextIs (exec (.functionEnable (.direct .operator) 9) (function 9 .disabled)) (fun t => (funcOf t 9).st == .enabling && t.out == [.status 0x50 0]) = true ∧
    nextIs (exec (.functionDisable (.direct .operator) 7) base) (fun t => (funcOf t 7).st == .disabling && (seqOf t 7).st == .outOfService) = true ∧
    nextIs (exec (.functionDisable (.direct .operator) 7) (function 7 .enabling)) (fun t => (funcOf t 7).pending == 0#8) = true ∧
    nextIs (exec (.functionChangeDone 7 []) (function 7 .enabling)) (fun t => (funcOf t 7).st == .enabled) = true ∧
    nextIs (exec (.functionChangeDone 7 []) (function 7 .disabling)) (fun t => (funcOf t 7).st == .disabled && (seqOf t 7).st == .outOfService) = true := by
  decide +kernel

/-! ### Every step -/

/-- A store whose one byte equals what an unlisted address reads as is not in the one canonical form; that of a written byte is. -/
theorem canonical_witness :
    memWf (memStore Mem.empty 5 [9]) = true ∧ memWf (memStore (memStore Mem.empty 5 [9]) 5 [0]) = true ∧
    (memStore (memStore Mem.empty 5 [9]) 5 [0]).cells = [] ∧ memWf { cells := [(5, 0#8)], fill := none } = false ∧
    memWf { cells := [(5, 1#8), (4, 1#8)], fill := none } = false ∧ memWf State.reset.mem.store[7] = true := by decide +kernel

end Sys2Proof.Tests
end

namespace Sys2Proof.Machine

/-! ### What leaves the base links alone

The base links stand in `State.sys`. What ends operations and moves, stops units and maps out channels writes other parts
of the state, so a link that has failed stays as `failLink` left it. -/

/-- What every step of a fold leaves in `sys`, the fold leaves. -/
theorem foldl_sys {B : Type} {f : State → B → State} (h : ∀ t b, (f t b).sys = t.sys) (l : List B) (s : State) :
    (l.foldl f s).sys = s.sys := foldl_keeps State.sys f h l s

/-! #### Places and moves -/

@[simp] theorem updPlace_sys (s : State) (pl : Place) (f : Mem → Mem) : (updPlace s pl f).sys = s.sys := by
  cases pl <;> rfl

@[simp] theorem placeStore_sys (s : State) (pl : Place) (a : Nat) (vs : List Byte) : (placeStore s pl a vs).sys = s.sys := by
  simp [placeStore]

@[simp] theorem scramble_sys (s : State) (r : Region) : (scramble s r).sys = s.sys := by simp [scramble]

@[simp] theorem scrambleAny_sys (s : State) (r : Region) : (scrambleAny s r).sys = s.sys := by
  unfold scrambleAny; split <;> simp

@[simp] theorem countMove_sys (s : State) : (countMove s).sys = s.sys := rfl

@[simp] theorem updMove_sys (s : State) (r : Nat) (f : Move → Move) : (updMove s r f).sys = s.sys := rfl

@[simp] theorem closeMoveFlows_sys (s : State) (reel move : Nat) : (closeMoveFlows s reel move).sys = s.sys := rfl

@[simp] theorem startIod_sys (s : State) (r : Nat) : (startIod s r).sys = s.sys := by
  unfold startIod; split
  · rfl
  · split <;> simp

@[simp] theorem withdrawMoves_sys (s : State) (die : Nat) : (withdrawMoves s die).sys = s.sys :=
  foldl_sys (fun t r => updReel_sys t (8 * die + r) _) _ _

/-! #### Steps that fail -/

@[simp] theorem haltIssue_sys (s : State) (die reason : Nat) : (haltIssue s die reason).sys = s.sys := by simp [haltIssue]

@[simp] theorem settleNeg_sys (s : State) (p : Nat) : (settleNeg s p).sys = s.sys := by
  unfold settleNeg; dsimp only; split
  · rw [updNeg_sys, foldl_sys (fun t d => updSeq_sys t d _), foldl_sys scrambleAny_sys]
  · rfl

@[simp] theorem failStep_sys (s : State) (die reason : Nat) (withheld : Bool) : (failStep s die reason withheld).sys = s.sys := by
  unfold failStep; split
  · split <;> simp
  · dsimp only
    rw [settleNeg_sys, foldl_sys (fun _ _ => by split <;> simp), haltIssue_sys, setCause_sys]
    split <;> simp

/-! #### Operations -/

@[simp] theorem registerColl_sys (s : State) (die g desc op : Nat) : (registerColl s die g desc op).sys = s.sys := by
  unfold registerColl; split <;> rfl

@[simp] theorem startOp_sys (s : State) (die : Nat) (o : OpRec) : (startOp s die o).sys = s.sys := by
  unfold startOp; split
  case h_1 | h_2 | h_3 => simp [apply_ite State.sys]
  case h_4 => simp

@[simp] theorem startReady_sys (s : State) (die : Nat) : (startReady s die).sys = s.sys := by
  unfold startReady; split
  · rfl
  · refine foldl_sys (fun t _ => ?_) _ _
    dsimp only; split
    · split <;> simp
    · rfl

@[simp] theorem issueOp_sys (s : State) (die : Nat) (b : OpBody) (collR collW : List Region) (sigc : Nat) (sige : Bool) :
    (issueOp s die b collR collW sigc sige).sys = s.sys := by
  unfold issueOp; dsimp only; rw [startReady_sys]; split <;> simp

@[simp] theorem issueWord_sys (s : State) (die : Nat) (w : Issue) : (issueWord s die w).sys = s.sys := by
  cases w with
  | op b sigc sige => unfold issueWord; dsimp only; split <;> simp
  | setx x v => unfold issueWord; dsimp only; split <;> simp

@[simp] theorem checkStopped_sys (s : State) (p : Nat) : (checkStopped s p).sys = s.sys := by
  unfold checkStopped; dsimp only; split <;> simp

@[simp] theorem endStep_sys (s : State) (die : Nat) : (endStep s die).sys = s.sys := by
  unfold endStep; dsimp only; split <;> simp

/-- The settling of the negative that a die serves, if it serves one. -/
theorem settleNeg_of_die_sys (s : State) (die : Nat) :
    (match partOfDie s die with | some p => settleNeg s p | none => s).sys = s.sys := by
  split <;> simp

@[simp] theorem afterOps_sys (s : State) (die : Nat) : (afterOps s die).sys = s.sys := by
  unfold afterOps; dsimp only
  refine (settleNeg_of_die_sys _ die).trans ?_
  split
  · split <;> simp
  · split <;> simp
  · simp

@[simp] theorem abortOp_sys (s : State) (die id reason : Nat) (withheld : Bool) : (abortOp s die id reason withheld).sys = s.sys := by
  simp [abortOp]

/-- A move that ends, however it ends and whoever issued it. -/
@[simp] theorem endMove_sys (s : State) (r status failAddr : Nat) : (endMove s r status failAddr).sys = s.sys := by
  unfold endMove; split
  · rfl
  · have scrambled (t : State) (l : List Region) : (l.foldl scramble t).sys = t.sys := foldl_sys scramble_sys l t
    simp [apply_ite State.sys, scrambled]

@[simp] theorem endMovesOver_sys (s : State) (l : Nat) : (endMovesOver s l).sys = s.sys := by
  refine foldl_sys (fun t r => ?_) _ _
  split
  · split <;> simp
  · rfl

/-! #### Light engines -/

@[simp] theorem updRing_sys (s : State) (e i : Nat) (f : RingS → RingS) : (updRing s e i f).sys = s.sys := rfl

@[simp] theorem setLoops_sys (s : State) (e : Nat) (rs : List Nat) (st : LoopState) : (setLoops s e rs st).sys = s.sys :=
  foldl_sys (fun t i => updRing_sys t e i _) _ _

@[simp] theorem releasePartner_sys (s : State) (l : Nat) : (releasePartner s l).sys = s.sys :=
  foldl_sys (fun _ _ => by split <;> simp) _ _

@[simp] theorem failLane_sys (s : State) (l reason : Nat) (inj : Bool) : (failLane s l reason inj).sys = s.sys := by
  simp [failLane]

@[simp] theorem unlight_sys (s : State) (q : Nat) : (unlight s q).sys = s.sys := rfl

@[simp] theorem dropRelock_sys (s : State) (l : Nat) : (dropRelock s l).sys = s.sys := by
  unfold dropRelock; split
  · rfl
  · exact foldl_sys (fun t i => updRing_sys t (l / 16) i _) _ _

@[simp] theorem setLanes_sys (s : State) (e : Nat) (st : LaneState) : (setLanes s e st).sys = s.sys := by
  unfold setLanes; dsimp only
  exact foldl_sys (fun _ _ => by split <;> simp) _ _

@[simp] theorem updRings_sys (s : State) (e : Nat) (f : Nat → RingS → RingS) : (updRings s e f).sys = s.sys := rfl

@[simp] theorem dropCells_sys (s : State) (q : Nat) : (dropCells s q).sys = s.sys := rfl

@[simp] theorem engineDark_sys (s : State) (e : Nat) (st : EngState) : (engineDark s e st).sys = s.sys := by
  unfold engineDark; dsimp only; split <;> simp

@[simp] theorem stopEngine_sys (s : State) (e : Nat) (inj : Bool) : (stopEngine s e inj).sys = s.sys := by
  have lanes (t : State) (k : Nat) : ((lanesOf e).foldl
      (fun t l => if (laneOf t l).st = .failed then t else failLane t l k inj) t).sys = t.sys :=
    foldl_sys (fun _ _ => by split <;> simp) _ _
  unfold stopEngine; dsimp only
  split <;> simp [lanes]

/-! #### Host ports -/

@[simp] theorem failWindow_sys (s : State) (w : Nat) : (failWindow s w).sys = s.sys := rfl

@[simp] theorem endMovesOf_sys (s : State) (ops : List RdmaOp) (status : Nat) : (endMovesOf s ops status).sys = s.sys := by
  refine foldl_sys (fun t r => ?_) _ _
  split
  · rfl
  · split <;> simp

@[simp] theorem closePort_sys (s : State) (n : Nat) : (closePort s n).sys = s.sys := by
  unfold closePort; dsimp only
  rw [raise_sys, endMovesOf_sys, foldl_sys failWindow_sys, updHport_sys]

@[simp] theorem stopHostPort_sys (s : State) (n : Nat) : (stopHostPort s n).sys = s.sys := by
  unfold stopHostPort; dsimp only; split <;> simp

/-! #### Units that stop -/

@[simp] theorem faultArray_sys (s : State) (a : Nat) (m : Option Nat) : (faultArray s a m).sys = s.sys := by
  unfold faultArray; dsimp only; split <;> simp

@[simp] theorem faultVxe_sys (s : State) (d : Nat) : (faultVxe s d).sys = s.sys := by
  unfold faultVxe; dsimp only; split <;> simp

@[simp] theorem loseUnit_sys (s : State) (p die : Nat) : (loseUnit s p die).sys = s.sys := by
  unfold loseUnit; dsimp only; split <;> simp

@[simp] theorem loseSequencer_sys (s : State) (d : Nat) (m : Option Nat) : (loseSequencer s d m).sys = s.sys := by
  unfold loseSequencer; dsimp only
  refine (settleNeg_of_die_sys _ d).trans ?_
  rw [withdrawMoves_sys, updSeq_sys]
  split
  · split <;> simp
  · rfl

@[simp] theorem stopReel_sys (s : State) (r : Nat) : (stopReel s r).sys = s.sys := by
  unfold stopReel; dsimp only; split <;> simp

@[simp] theorem stopUnit_sys (s : State) (uk ui : Nat) (inj : Bool) : (stopUnit s uk ui inj).sys = s.sys := by
  unfold stopUnit; split
  case h_1 | h_2 => split <;> simp
  all_goals simp

@[simp] theorem unitFaults_sys (s : State) (us : List (Nat × Nat)) (code : Nat) (inj : Bool) :
    (unitFaults s us code inj).sys = s.sys :=
  foldl_sys (fun _ _ => by simp [unitFault]) _ _

@[simp] theorem chanPending_sys (s : State) (c : Nat) : (chanPending s c).sys = s.sys := by
  unfold chanPending; split <;> simp

@[simp] theorem stackPending_sys (s : State) (j : Nat) : (stackPending s j).sys = s.sys :=
  foldl_sys (fun _ _ => chanPending_sys _ _) _ _

/-! ### Base links -/

/-- The failure of a link (R28, R29) writes the link and nothing else of `sys`. -/
theorem failLink_sys (s : State) (l : Nat) (inj : Bool) :
    (failLink s l inj).sys = (updLink s l (fun x => { x with failed := true, successive := 0, injected := inj })).sys := by
  have step (t : State) : (match dieOfLink l with
      | some k => if (runningNeg t k).isSome then failStep t k frLINK false else t
      | none => t).sys = t.sys := by
    split
    · split <;> simp
    · rfl
  have stack (t : State) : (match linkStack l with
      | some j => if inj then t else stackPending t j
      | none => t).sys = t.sys := by
    split
    · split <;> simp
    · rfl
  unfold failLink; dsimp only
  refine (stack _).trans ?_
  rw [unitFaults_sys]
  refine (step _).trans ?_
  rw [endMovesOver_sys, raise_sys]

/-- LINK_TRANSFER of a link in service where no injection point is armed: a good transfer ends the count, a bad one is
counted, and the eighth in succession fails the link (R26, R28). -/
theorem execLinkTransfer_quiet {s : State} {l : Fin 56} (hq : Quiet s) (hup : (linkOf s l).failed = false) (crcOk : Bool) :
    execLinkTransfer l crcOk s = .next (
      if crcOk then updLink s l (fun x => { x with successive := 0 })
      else
        let s1 := updLink s l (fun x => { x with replays := bump x.replays, successive := x.successive + 1 })
        if 7 ≤ (linkOf s l).successive then failLink s1 l false else s1) := by
  have noPoint := injArmed_quiet hq 7 ukLINK l
  cases crcOk with
  | true => simp [execLinkTransfer, hup, noPoint]
  | false => simp [execLinkTransfer, hup, noPoint]

/-- A failed link is what `failLink` wrote first: what it does to the moves, the dies and the units leaves it. -/
theorem linkOf_failLink (s : State) (l : Fin 56) (inj : Bool) :
    linkOf (failLink s l inj) l = { linkOf s l with failed := true, successive := 0, injected := inj } := by
  have h : linkOf (failLink s l inj) l =
      linkOf (updLink s l (fun x => { x with failed := true, successive := 0, injected := inj })) l := by
    unfold linkOf; rw [failLink_sys]
  rw [h, updLink_same _ _ _ l.isLt]

/-- Settles O25: the CRC of the transfer and the count of successive replays decide which of the three cases it is. -/
theorem linkTransfersReplayUpToEight : Obligations.LinkTransfersReplayUpToEight := by
  intro s l hq hup
  have run (crcOk : Bool) : exec (.linkTransfer l crcOk) s = execLinkTransfer l crcOk s := rfl
  refine ⟨?_, fun hfew => ?_, fun hmany => ⟨_, (run false).trans (execLinkTransfer_quiet hq hup false), ?_⟩⟩
  · rw [run, execLinkTransfer_quiet hq hup, if_pos rfl]
  · simp [run, execLinkTransfer_quiet hq hup, Nat.not_le.mpr hfew]
  · simp [hmany, linkOf_failLink]

end Sys2Proof.Machine

namespace Sys2Proof.Machine

/-! ### The vector engine: what one word writes

A word that does not fault writes its own VXE alone. What it writes is a mask plane, or a sheet; both are read back here once, for
every instruction that writes one. -/

/-! #### Bytes, bits and places -/

/-- A list made of equal pieces is read piece by piece. -/
theorem getElem?_flatMap_pieces {A B : Type} {f : A → List B} {n : Nat} (hf : ∀ x, (f x).length = n) (l : List A) (i : Nat) {j : Nat}
    (hj : j < n) : (l.flatMap f)[n * i + j]? = l[i]?.bind (fun x => (f x)[j]?) := by
  induction l generalizing i with
  | nil => simp
  | cons x xs ih =>
    rw [List.flatMap_cons]
    cases i with
    | zero => rw [List.getElem?_append_left (by simp [hf, hj])]; simp
    | succ i =>
      have next : n * (i + 1) + j = n + (n * i + j) := by rw [Nat.mul_succ]; omega
      rw [next, List.getElem?_append_right (by rw [hf]; omega), hf, Nat.add_sub_cancel_left, ih]
      simp

theorem allElems_length : allElems.length = 65536 := by
  rw [allElems, List.length_flatMap]
  simp only [List.length_map, List.length_range, List.map_const', List.sum_replicate_nat]

/-- Slot order (R117): element (r, c) is number 256 r + c. -/
theorem allElems_getElem? {r c : Nat} (hr : r < 256) (hc : c < 256) : allElems[256 * r + c]? = some (r, c) := by
  unfold allElems
  rw [getElem?_flatMap_pieces (by simp) _ _ hc]
  simp [hr, hc]

theorem leNat_testBit (l : List Byte) (i : Nat) : (leNat l).testBit i = (l.getD (i / 8) 0#8).getLsbD (i % 8) := by
  induction l generalizing i with
  | nil => simp [leNat]
  | cons b bs ih =>
    have split : (leNat (b :: bs)).testBit i = if i < 8 then b.toNat.testBit i else (leNat bs).testBit (i - 8) := by
      have := Nat.testBit_two_pow_mul_add (leNat bs) b.isLt i
      rwa [Nat.add_comm] at this
    rw [split]
    by_cases hi : i < 8
    · rw [if_pos hi, Nat.div_eq_of_lt hi, Nat.mod_eq_of_lt hi]
      rfl
    · rw [if_neg hi, ih, show i / 8 = (i - 8) / 8 + 1 by omega, List.getD_cons_succ, show (i - 8) % 8 = i % 8 by omega]

@[simp] theorem leBytes_length (len n : Nat) : (leBytes len n).length = len := by simp [leBytes]

theorem natByte_bit (n k : Nat) {i : Nat} (hi : i < 8) : (natByte n k).getLsbD i = n.testBit (8 * k + i) := by
  rw [natByte, BitVec.getLsbD_ofNat, Nat.testBit_shiftRight]
  simp [hi]

/-- Bit by bit, the bytes of a number are the number. -/
theorem leBytes_bit {len k : Nat} (hk : k < len) (n : Nat) {i : Nat} (hi : i < 8) :
    ((leBytes len n).getD k 0#8).getLsbD i = n.testBit (8 * k + i) := by
  rw [leBytes, List.getD_eq_getElem?_getD, List.getElem?_map, List.getElem?_range hk]
  exact natByte_bit n k hi

theorem leNat_leBytes (len n : Nat) : leNat (leBytes len n) = n % 2 ^ (8 * len) := by
  apply Nat.eq_of_testBit_eq
  intro i
  rw [leNat_testBit, Nat.testBit_mod_two_pow]
  by_cases hi : i / 8 < len
  · rw [leBytes_bit hi n (Nat.mod_lt _ (by decide)), Nat.div_add_mod]
    simp [show i < 8 * len by omega]
  · simp [leBytes, hi, show ¬ i < 8 * len by omega]

/-! #### Mask planes -/

theorem foldr_bits_testBit (l : List Bool) (i : Nat) :
    (l.foldr (fun (b : Bool) n => 2 * n + b.toNat) 0).testBit i = l[i]?.getD false := by
  induction l generalizing i with
  | nil => simp
  | cons b bs ih =>
    rw [List.foldr_cons]
    have hb := b.toNat_lt
    cases i with
    | zero => cases b <;> simp [Nat.testBit_zero]
    | succ i =>
      rw [Nat.testBit_succ, show ∀ m, (2 * m + b.toNat) / 2 = m from fun m => by omega, ih]
      rfl

theorem planeOf_testBit (g : Nat → Nat → Bool) {r c : Nat} (hr : r < 256) (hc : c < 256) :
    (planeOf g).testBit (256 * r + c) = g r c := by
  unfold planeOf
  rw [foldr_bits_testBit, List.getElem?_map, allElems_getElem? hr hc]
  rfl

/-- A write of a plane, read back: the plane written is under MSK and ZM, M0 and every other plane stay (R123, R128). -/
theorem maskBit_putPlane (v : VxeS) (f : VxeF) (g : Nat → Nat → Bool) {k r c : Nat} (hr : r < 256) (hc : c < 256) (hk : k < 8) :
    maskBit (putPlane v f g) k r c =
      if k = f.dst ∧ k ≠ 0 then (if maskBit v f.msk r c then g r c else if f.zm then false else maskBit v k r c)
      else maskBit v k r c := by
  unfold putPlane
  by_cases h0 : f.dst = 0
  · rw [if_pos h0, if_neg (by omega)]
  rw [if_neg h0]
  by_cases hkd : k = f.dst
  · subst hkd
    have hplace : 256 * r + c < 65536 := by omega
    rw [if_pos ⟨rfl, h0⟩]
    simp only [maskBit, vset, vget_vmod_same _ _ _ _ hk, h0, decide_false, Bool.false_or, BitVec.getLsbD_ofNat, planeOf_testBit _ hr hc,
      hplace, decide_true, Bool.true_and]
  · rw [if_neg (fun h => hkd h.1)]
    simp only [maskBit, vset, vget_vmod_ne _ _ _ _ _ (Ne.symm hkd)]

/-- A write of a plane writes the planes alone. -/
theorem putPlane_only_masks (v : VxeS) (f : VxeF) (g : Nat → Nat → Bool) :
    putPlane v f g = { v with masks := (putPlane v f g).masks } := by
  unfold putPlane; split <;> rfl

/-! #### One word of a kernel -/

theorem updVxe_onlyVxe (s : State) (die : Fin 8) (f : VxeS → VxeS) : OnlyVxe s (updVxe s die f) die := by
  unfold OnlyVxe
  rw [updVxe_same _ _ _ die.isLt]
  exact updVxe_congr _ _ _ _ rfl

/-- The word whose turn it is has the opcode that its command gives (R126). -/
theorem vxeAt_op {s : State} {die op : Nat} {w : BitVec 64} (h : vxeAt s die op w = true) : (vxeF w).op = op := by
  simp only [vxeAt, Bool.and_eq_true, decide_eq_true_eq] at h
  exact h.1.2

/-- A word whose body does not fault writes its own VXE alone, and completes (R126). -/
theorem vxeRun_noFault {s : State} {die : Fin 8} {op : Nat} {w : BitVec 64} {body : VxeF → VxeS → VxeRes} {v : VxeS} (hq : Quiet s)
    (hat : vxeAt s die op w = true) (hbody : body (vxeF w) (vxeOf s die) = noFault v) :
    vxeRun s die op w .clean body = updVxe s die (fun _ => retire v) := by
  rw [vxeRun_quiet hq hat, hbody]
  rfl

/-! #### Compares and mask operations -/

/-- The four outcomes of a compare (R53). -/
theorem forall_order {P : Option Ordering → Prop} (unordered : P none) (lt : P (some .lt)) (eq : P (some .eq)) (gt : P (some .gt)) :
    ∀ o, P o
  | none => unordered
  | some .lt => lt
  | some .eq => eq
  | some .gt => gt

theorem compareBody_eq {p q : Option Ordering → Bool} (h : ∀ o, p o = q o) (f : VxeF) (v : VxeS) :
    compareBody p f v = noFault (putPlane v f (fun r c => q (cmpNum (srcNum v f f.sa r c) (srcNum v f f.sb r c)))) := by
  rw [compareBody, funext h]

/-- A word whose effect is one plane: nothing else of the VXE changes but that the word has completed. -/
theorem vxeRun_putPlane {s : State} {die : Fin 8} {op : Nat} {w : BitVec 64} {body : VxeF → VxeS → VxeRes} {g : Nat → Nat → Bool}
    (hq : Quiet s) (hat : vxeAt s die op w = true) (hbody : body (vxeF w) (vxeOf s die) = noFault (putPlane (vxeOf s die) (vxeF w) g)) :
    let v := vxeOf s die
    let t := vxeRun s die op w .clean body
    OnlyVxe s t die ∧ (vxeOf t die).mem = v.mem ∧ (vxeOf t die).sheets = v.sheets ∧ (vxeOf t die).xs = v.xs ∧
      (vxeOf t die).draws = v.draws ∧ (vxeOf t die).retired = bump v.retired ∧
      ∀ k r c : Nat, r < 256 → c < 256 → k < 8 → maskBit (vxeOf t die) k r c =
        if k = (vxeF w).dst ∧ k ≠ 0 then
          (if maskBit v (vxeF w).msk r c then g r c else if (vxeF w).zm then false else maskBit v k r c)
        else maskBit v k r c := by
  dsimp only
  rw [vxeRun_noFault hq hat hbody, updVxe_same _ _ _ die.isLt]
  rw [putPlane_only_masks]
  exact ⟨updVxe_onlyVxe _ _ _, rfl, rfl, rfl, rfl, rfl, fun _ _ _ hr hc hk => maskBit_putPlane _ _ _ hr hc hk⟩

/-- Settles O12: every row of the table is a run of one plane write. -/
theorem vxeComparesAndMasksWritePlanes : Obligations.VxeComparesAndMasksWritePlanes := by
  intro s die w hq v f o a b table p hp hat
  have row : ∃ body : VxeF → VxeS → VxeRes,
      exec p.2.1 s = .next (vxeRun s die p.1 w .clean body) ∧ body f v = noFault (putPlane v f p.2.2) := by
    clear hat
    revert p
    simp only [table, List.forall_mem_cons]
    refine ⟨⟨_, rfl, compareBody_eq (p := fun o => decide (o = some .eq)) (q := fun o => o == some .eq)
        (forall_order rfl rfl rfl rfl) f v⟩,
      ⟨_, rfl, compareBody_eq (p := fun o => decide (o ≠ some .eq)) (q := fun o => !(o == some .eq))
        (forall_order rfl rfl rfl rfl) f v⟩,
      ⟨_, rfl, compareBody_eq (p := fun o => decide (o = some .lt)) (q := fun o => o == some .lt)
        (forall_order rfl rfl rfl rfl) f v⟩,
      ⟨_, rfl, compareBody_eq (p := fun o => decide (o = some .lt ∨ o = some .eq)) (q := fun o => o == some .lt || o == some .eq)
        (forall_order rfl rfl rfl rfl) f v⟩,
      ⟨_, rfl, compareBody_eq (p := fun o => decide (o = some .gt)) (q := fun o => o == some .gt)
        (forall_order rfl rfl rfl rfl) f v⟩,
      ⟨_, rfl, compareBody_eq (p := fun o => decide (o = some .gt ∨ o = some .eq)) (q := fun o => o == some .gt || o == some .eq)
        (forall_order rfl rfl rfl rfl) f v⟩,
      ⟨_, rfl, rfl⟩, ⟨_, rfl, rfl⟩, ⟨_, rfl, rfl⟩, ⟨_, rfl, rfl⟩, by simp⟩
  obtain ⟨body, hrun, hbody⟩ := row
  exact ⟨_, hrun, vxeRun_putPlane hq hat hbody⟩

/-! #### Sheets -/

theorem leNat_lt (l : List Byte) : leNat l < 2 ^ (8 * l.length) := by
  induction l with
  | nil => simp [leNat]
  | cons b bs ih =>
    have hb := b.isLt
    rw [leNat, List.length_cons, Nat.mul_succ, Nat.pow_add]
    omega

/-- A slot holds 32 bits (R117). -/
theorem slotAt_lt (v : VxeS) (k r c : Nat) : slotAt v k r c < 2 ^ 32 := by
  have h := leNat_lt (memLoadN v.mem (0x40000 * k + 1024 * r + 4 * c) 4)
  rwa [memLoadN_length] at h

@[simp] theorem slotsBytes_length (g : Nat → Nat → Nat) : (slotsBytes g).length = 262144 := by
  rw [slotsBytes, List.length_flatMap]
  simp only [leBytes_length, List.map_const', List.sum_replicate_nat, allElems_length]

/-- Byte i of slot (r, c). -/
theorem slotsBytes_get (g : Nat → Nat → Nat) {r c i : Nat} (hr : r < 256) (hc : c < 256) (hi : i < 4) :
    (slotsBytes g).getD (1024 * r + 4 * c + i) 0#8 = (leBytes 4 (g r c)).getD i 0#8 := by
  rw [List.getD_eq_getElem?_getD, List.getD_eq_getElem?_getD, slotsBytes,
    show 1024 * r + 4 * c + i = 4 * (256 * r + c) + i by omega, getElem?_flatMap_pieces (fun _ => leBytes_length _ _) _ _ hi,
    allElems_getElem? hr hc]
  rfl

/-- A run of bytes is the list that the storage holds byte by byte. -/
theorem memLoadN_eq_of_bytes {m : Mem} (h : memWf m = true) {a : Nat} {l : List Byte}
    (hl : ∀ i < l.length, memLoad m (a + i) = l.getD i 0#8) :
    memLoadN m a l.length = l := by
  apply List.ext_getElem (by simp)
  intro i h1 h2
  have := (memLoadN_get h a h2).trans (hl i h2)
  simpa [List.getD_eq_getElem?_getD, h1, h2] using this

@[simp] theorem sheetTag_putSheet_same (v : VxeS) {k : Nat} (hk : k < 6) (g : Nat → Nat → Nat) (fmt : Nat) (int : Bool) (st : Byte) :
    sheetTag (putSheet v k g fmt int st) k = { fmt := BitVec.ofNat 3 fmt, int := int, status := st } := vget_vmod_same _ _ _ _ hk

theorem sheetTag_putSheet_ne (v : VxeS) {j k : Nat} (hjk : j ≠ k) (g : Nat → Nat → Nat) (fmt : Nat) (int : Bool) (st : Byte) :
    sheetTag (putSheet v k g fmt int st) j = sheetTag v j := vget_vmod_ne _ _ _ _ _ (Ne.symm hjk)

section
variable {v : VxeS} (hwf : memWf v.mem = true)
include hwf

/-- The slots of a sheet that has been written. -/
theorem slotAt_putSheet_same (k : Nat) (g : Nat → Nat → Nat) (fmt : Nat) (int : Bool) (st : Byte) {r c : Nat}
    (hr : r < 256) (hc : c < 256) : slotAt (putSheet v k g fmt int st) k r c = g r c % 2 ^ 32 := by
  have read : memLoadN (putSheet v k g fmt int st).mem (0x40000 * k + 1024 * r + 4 * c) 4 = leBytes 4 (g r c) := by
    refine memLoadN_eq_of_bytes (l := leBytes 4 (g r c)) (memStore_wf hwf _ _) (fun i hi => ?_)
    rw [leBytes_length] at hi
    rw [← slotsBytes_get g hr hc hi, Nat.add_assoc, Nat.add_assoc, ← Nat.add_assoc (1024 * r)]
    exact memLoad_memStore_same (by rw [slotsBytes_length]; omega)
  rw [slotAt, read, leNat_leBytes]

/-- A write of a sheet leaves the slots of every other. -/
theorem slotAt_putSheet_ne {j k : Nat} (hjk : j ≠ k) (g : Nat → Nat → Nat) (fmt : Nat) (int : Bool) (st : Byte) {r c : Nat}
    (hr : r < 256) (hc : c < 256) : slotAt (putSheet v k g fmt int st) j r c = slotAt v j r c := by
  unfold slotAt putSheet
  rw [memLoadN_memStore_other hwf (by rw [slotsBytes_length]; omega)]

/-- An instruction that writes every element of DST under its mask writes that sheet and no other (R128). -/
theorem elementwise_sheetWritten {f : VxeF} (hdst : f.dst < 6) (fmt : Nat) (int : Bool) (g : Nat → Nat → Elem) :
    SheetWritten v (elementwise v f fmt int g) f.dst fmt int (fun r c => underMask v f r c (g r c).code) := by
  have tag : sheetTag (elementwise v f fmt int g) f.dst = _ := sheetTag_putSheet_same v hdst _ fmt int _
  refine ⟨fun r c hr hc => ?_, congrArg SheetTag.fmt tag, congrArg SheetTag.int tag, fun j _ hj =>
    ⟨sheetTag_putSheet_ne v hj _ _ _ _, fun r c hr hc => slotAt_putSheet_ne hwf hj _ _ _ _ hr hc⟩, rfl, rfl, rfl⟩
  simp only [elementwise, slotAt_putSheet_same hwf _ _ _ _ _ hr hc, underMask, maskedSlot]
  split
  · rfl
  · rw [Nat.mod_eq_of_lt]
    split
    · decide
    · exact slotAt_lt _ _ _ _

end

/-! #### Sign operations and moves, on storage in the canonical form -/

/-- What NEG, ABS and CPSGN make of an element that takes the sign given: its bits but for the sign where DFMT is its tag (R37), else
its value with that sign, rounded once (R134); so the zero of an INT element takes the sign too (the model's choice, log entry 74). -/
def signedCode (v : VxeS) (die : Nat) (f : VxeF) (neg : Bool) (r c : Nat) : Nat :=
  if srcTag v f f.sa = (f.dfmt, false) then
    srcRaw v f f.sa r c % signBit (fmtD f.dfmt) + (if neg then signBit (fmtD f.dfmt) else 0)
  else (finalRound v die f r c (match srcNum v f f.sa r c with
    | .nan => .nan false
    | .inf _ => .inf neg
    | .fin _ m e => .real neg m e false)).1

/-- The new sign that a sign operation gives an element. -/
def newSign (sgn : Bool → Bool → Bool) (v : VxeS) (f : VxeF) (r c : Nat) : Bool :=
  sgn (srcSign v f f.sa r c) (if usesB f.op then srcSign v f f.sb r c else false)

/-- Draws that have been taken change no sheet and no plane. -/
theorem SheetWritten.drawsCvt {v v' : VxeS} {k fmt : Nat} {int : Bool} {g : Nat → Nat → Nat} (h : SheetWritten v v' k fmt int g)
    (f : VxeF) (old : VxeS) : SheetWritten v (drawsCvt f old v') k fmt int g := by
  unfold Sys2Proof.Machine.drawsCvt drawsAfter
  split
  · exact h
  · split
    · exact h
    · exact h

/-! The 8 KiB of a plane in the staging area (R791). -/

theorem planeOffset_inside {v : VxeS} {f : VxeF} (h : (vget v.xs f.scal 0#32).toNat + 8192 ≤ 6291456) :
    planeOffset v f = some (0x200000 + (vget v.xs f.scal 0#32).toNat) := by
  simp only [planeOffset]
  rw [if_pos h]

theorem planeOffset_outside {v : VxeS} {f : VxeF} (h : 6291456 < (vget v.xs f.scal 0#32).toNat + 8192) : planeOffset v f = none := by
  simp only [planeOffset]
  rw [if_neg (Nat.not_le.mpr h)]

section
variable {s : State} {die : Fin 8} {w : BitVec 64} (hq : Quiet s) (hwf : memWf (vxeOf s die).mem = true)
include hq

/-- A word that writes a sheet and completes. -/
theorem vxeRun_sheetWritten {op k fmt : Nat} {int : Bool} {g : Nat → Nat → Nat} {body : VxeF → VxeS → VxeRes} {v : VxeS}
    (hat : vxeAt s die op w = true) (hbody : body (vxeF w) (vxeOf s die) = noFault v) (hv : SheetWritten (vxeOf s die) v k fmt int g) :
    OnlyVxe s (vxeRun s die op w .clean body) die ∧
      SheetWritten (vxeOf s die) (vxeOf (vxeRun s die op w .clean body) die) k fmt int g := by
  rw [vxeRun_noFault hq hat hbody, updVxe_same _ _ _ die.isLt]
  exact ⟨updVxe_onlyVxe _ _ _, hv⟩

/-- The sign class where DFMT is the tag of A: nothing is drawn (R37, R134). -/
theorem vxeRun_signBody_draws {op : Nat} (sgn : Bool → Bool → Bool) (hat : vxeAt s die op w = true)
    (hsame : srcTag (vxeOf s die) (vxeF w) (vxeF w).sa = ((vxeF w).dfmt, false)) :
    (vxeOf (vxeRun s die op w .clean (signBody die sgn)) die).draws = (vxeOf s die).draws := by
  rw [vxeRun_noFault hq hat (by rw [signBody, if_pos (decide_eq_true hsame)]), updVxe_same _ _ _ die.isLt]
  rfl

include hwf

/-- The sign class (R37, R134). -/
theorem vxeRun_signBody_of_canonical {op : Nat} (sgn : Bool → Bool → Bool) (hat : vxeAt s die op w = true) (hdst : (vxeF w).dst < 6) :
    OnlyVxe s (vxeRun s die op w .clean (signBody die sgn)) die ∧
      SheetWritten (vxeOf s die) (vxeOf (vxeRun s die op w .clean (signBody die sgn)) die) (vxeF w).dst (vxeF w).dfmt (vxeF w).dint
        (fun r c => underMask (vxeOf s die) (vxeF w) r c
          (signedCode (vxeOf s die) die (vxeF w) (newSign sgn (vxeOf s die) (vxeF w) r c) r c)) := by
  by_cases hsame : srcTag (vxeOf s die) (vxeF w) (vxeF w).sa = ((vxeF w).dfmt, false)
  · refine vxeRun_sheetWritten hq hat (by rw [signBody, if_pos (decide_eq_true hsame)]) ?_
    simp only [signedCode, if_pos hsame]
    exact elementwise_sheetWritten hwf hdst _ _ _
  · refine vxeRun_sheetWritten hq hat (by rw [signBody, if_neg (by simpa using hsame)]) (SheetWritten.drawsCvt ?_ _ _)
    simp only [signedCode, if_neg hsame]
    exact elementwise_sheetWritten hwf hdst _ _ _

/-- The class of moves. -/
theorem vxeRun_moveBody_of_canonical {op : Nat} (place : Nat → Nat → Nat × Nat) (hat : vxeAt s die op w = true)
    (hdst : (vxeF w).dst < 6) :
    let tag := srcTag (vxeOf s die) (vxeF w) (vxeF w).sa
    OnlyVxe s (vxeRun s die op w .clean (moveBody place)) die ∧
      SheetWritten (vxeOf s die) (vxeOf (vxeRun s die op w .clean (moveBody place)) die) (vxeF w).dst tag.1 tag.2
        (fun r c => underMask (vxeOf s die) (vxeF w) r c
          (srcRaw (vxeOf s die) (vxeF w) (vxeF w).sa (place r c).1 (place r c).2 % 2 ^ tagBits tag)) :=
  vxeRun_sheetWritten hq hat rfl (elementwise_sheetWritten hwf hdst _ _ _)

/-- NEG, ABS and CPSGN write the signed elements, and draw nothing where they only change a bit (R37, R134). -/
theorem signs_of_canonical (hdst : (vxeF w).dst < 6) :
    let v := vxeOf s die
    let f := vxeF w
    ∀ p ∈ [((0xA : Nat), Instr.neg die w .clean, fun r c => !srcSign v f f.sa r c), (0xB, .abs die w .clean, fun _ _ => false),
        (0xC, .cpsgn die w .clean, srcSign v f f.sb)],
      vxeAt s die p.1 w = true → ∃ t : State, exec p.2.1 s = .next t ∧ OnlyVxe s t die ∧
        SheetWritten v (vxeOf t die) f.dst f.dfmt f.dint (fun r c => underMask v f r c (signedCode v die f (p.2.2 r c) r c)) ∧
        (srcTag v f f.sa = (f.dfmt, false) → (vxeOf t die).draws = v.draws) := by
  intro v f p hp hat
  obtain ⟨sgn, hrun, hsgn⟩ : ∃ sgn,
      exec p.2.1 s = .next (vxeRun s die p.1 w .clean (signBody die sgn)) ∧ newSign sgn v f = p.2.2 := by
    simp only [List.mem_cons, List.not_mem_nil, or_false] at hp
    obtain rfl | rfl | rfl := hp
    · exact ⟨_, rfl, rfl⟩
    · exact ⟨_, rfl, rfl⟩
    · refine ⟨_, rfl, funext fun r => funext fun c => if_pos ?_⟩
      rw [vxeAt_op hat]
      rfl
  obtain ⟨only, written⟩ := vxeRun_signBody_of_canonical hq hwf sgn hat hdst
  rw [← hsgn]
  exact ⟨_, hrun, only, written, vxeRun_signBody_draws hq sgn hat⟩

/-- VXE_COPY and TRANS keep every bit of A and its tag (R117, R134). -/
theorem moves_of_canonical (hdst : (vxeF w).dst < 6) :
    let v := vxeOf s die
    let f := vxeF w
    let tag := srcTag v f f.sa
    ∀ p ∈ [((0x58 : Nat), Instr.vxeCopy die w .clean, fun r c : Nat => (r, c)), (0x59, .trans die w .clean, fun r c => (c, r))],
      vxeAt s die p.1 w = true → ∃ t : State, exec p.2.1 s = .next t ∧ OnlyVxe s t die ∧
        SheetWritten v (vxeOf t die) f.dst tag.1 tag.2
          (fun r c => underMask v f r c (srcRaw v f f.sa (p.2.2 r c).1 (p.2.2 r c).2 % 2 ^ tagBits tag)) := by
  intro v f tag p hp hat
  have hrun : exec p.2.1 s = .next (vxeRun s die p.1 w .clean (moveBody p.2.2)) := by
    simp only [List.mem_cons, List.not_mem_nil, or_false] at hp
    obtain rfl | rfl := hp <;> rfl
  exact ⟨_, hrun, vxeRun_moveBody_of_canonical hq hwf p.2.2 hat hdst⟩

/-- MLOAD (R123, R791): bit (r, c) of the plane is bit c mod 8 of byte 32 r + c / 8 from the scalar's offset on. -/
theorem mload_of_canonical (hat : vxeAt s die 0x2C w = true) :
    let v := vxeOf s die
    let f := vxeF w
    let off := (vget v.xs f.scal 0#32).toNat
    off + 8192 ≤ 6291456 → ∃ t : State, exec (.mload die w .clean) s = .next t ∧ OnlyVxe s t die ∧ (vxeOf t die).mem = v.mem ∧
      ∀ k r c : Nat, r < 256 → c < 256 → k < 8 → maskBit (vxeOf t die) k r c =
        if k = f.dst ∧ k ≠ 0 then (if maskBit v f.msk r c then (memLoad v.mem (0x200000 + off + 32 * r + c / 8)).getLsbD (c % 8)
          else if f.zm then false else maskBit v k r c)
        else maskBit v k r c := by
  intro v f off hin
  have hbody : mloadBody f v = noFault (putPlane v f (fun r c =>
      (leNat (memLoadN v.mem (0x200000 + off) 8192)).testBit (256 * r + c))) := by
    unfold mloadBody; rw [planeOffset_inside hin]
  obtain ⟨only, hmem, -, -, -, -, hplane⟩ := vxeRun_putPlane hq hat hbody
  refine ⟨_, rfl, only, hmem, fun k r c hr hc hk => (hplane k r c hr hc hk).trans ?_⟩
  have bit : (leNat (memLoadN v.mem (0x200000 + off) 8192)).testBit (256 * r + c) =
      (memLoad v.mem (0x200000 + off + 32 * r + c / 8)).getLsbD (c % 8) := by
    rw [leNat_testBit, show (256 * r + c) / 8 = 32 * r + c / 8 by omega, show (256 * r + c) % 8 = c % 8 by omega,
      memLoadN_get hwf _ (by omega), Nat.add_assoc (0x200000 + off)]
  rw [bit]

omit hwf

/-- MSTORE (R123, R791) writes its plane's 8 KiB and nothing else of the storage. -/
theorem mstore_writes (hat : vxeAt s die 0x2D w = true) :
    let v := vxeOf s die
    let f := vxeF w
    let off := (vget v.xs f.scal 0#32).toNat
    off + 8192 ≤ 6291456 → ∃ t : State, exec (.mstore die w .clean) s = .next t ∧ OnlyVxe s t die ∧
      (vxeOf t die).masks = v.masks ∧ (vxeOf t die).sheets = v.sheets ∧
      (∀ r c : Nat, r < 256 → c < 256 →
        (memLoad (vxeOf t die).mem (0x200000 + off + 32 * r + c / 8)).getLsbD (c % 8) = maskBit v f.sa r c) ∧
      ∀ a : Nat, a < 0x200000 + off ∨ 0x200000 + off + 8192 ≤ a → memLoad (vxeOf t die).mem a = memLoad v.mem a := by
  intro v f off hin
  have hbody : mstoreBody f v = noFault { v with mem := memStore v.mem (0x200000 + off) (planeBytes v f.sa) } := by
    unfold mstoreBody; rw [planeOffset_inside hin]
  have hlen : (planeBytes v f.sa).length = 8192 := leBytes_length _ _
  refine ⟨_, congrArg Host.Outcome.next (vxeRun_noFault hq hat hbody), updVxe_onlyVxe _ _ _, ?_⟩
  rw [updVxe_same _ _ _ die.isLt]
  refine ⟨rfl, rfl, fun r c hr hc => ?_, fun a ha => memLoad_memStore_other (by rwa [hlen])⟩
  have hbyte : memLoad (memStore v.mem (0x200000 + off) (planeBytes v f.sa)) (0x200000 + off + 32 * r + c / 8) =
      (planeBytes v f.sa).getD (32 * r + c / 8) 0#8 := by
    rw [Nat.add_assoc (0x200000 + off)]
    exact memLoad_memStore_same (by omega)
  refine (congrArg (BitVec.getLsbD · (c % 8)) hbyte).trans ?_
  rw [planeBytes, leBytes_bit (by omega) _ (Nat.mod_lt _ (by decide)), show 8 * (32 * r + c / 8) + c % 8 = 256 * r + c by omega,
    planeOf_testBit _ hr hc]

/-- MLOAD and MSTORE outside the staging area fault with ADDR and move nothing (R130, R791). -/
theorem plane_outside_faults (hout : 6291456 < (vget (vxeOf s die).xs (vxeF w).scal 0#32).toNat + 8192) :
    let v := vxeOf s die
    ∀ p ∈ [((0x2C : Nat), Instr.mload die w .clean), (0x2D, .mstore die w .clean)],
      vxeAt s die p.1 w = true → ∃ u : State, exec p.2 s = .next (faultVxe u die) ∧ OnlyVxe s u die ∧
        (vxeOf u die).faultWord = v.faultWord ||| fwADDR ∧ (vxeOf u die).faultOff = BitVec.ofNat 32 (kernelOffset v) ∧
        (vxeOf u die).mem = v.mem ∧ (vxeOf u die).masks = v.masks := by
  intro v p hp hat
  obtain ⟨body, hrun, hbody⟩ : ∃ body,
      exec p.2 s = .next (vxeRun s die p.1 w .clean body) ∧ body (vxeF w) v = { v := v, fault := fwADDR } := by
    simp only [List.mem_cons, List.not_mem_nil, or_false] at hp
    obtain rfl | rfl := hp
    · exact ⟨_, rfl, by unfold mloadBody; rw [planeOffset_outside hout]⟩
    · exact ⟨_, rfl, by unfold mstoreBody; rw [planeOffset_outside hout]⟩
  rw [vxeRun_quiet hq hat, hbody, if_neg (show fwADDR ≠ 0#16 by decide), updVxe_twice] at hrun
  refine ⟨_, hrun, updVxe_onlyVxe _ _ _, ?_⟩
  rw [updVxe_same _ _ _ die.isLt]
  exact ⟨rfl, rfl, rfl, rfl⟩

/-- VXE_NOP only completes (R126). -/
theorem vxeNop_completes (hat : vxeAt s die 0 w = true) : exec (.vxeNop die w .clean) s = .next (updVxe s die retire) :=
  congrArg Host.Outcome.next ((vxeRun_noFault hq hat rfl).trans (updVxe_congr _ _ _ _ rfl))

end

/-! #### Storage that is not in the canonical form -/

/-- Storage that is not in the canonical form: its two cells are out of order, so a run read from 0 meets the cell at 40005h first
and passes over the one at 0. -/
def unsorted : Mem := { cells := [(0x40005, 1#8), (0, 1#8)], fill := none }

theorem unsorted_not_canonical : memWf unsorted = false := by decide

/-- Die 0 runs a kernel of one VXE_COPY of sheet 0 to sheet 1, over such storage. -/
def copyUnsorted : State :=
  updSeq (updVxe State.reset 0 (fun v => { v with
      mem := unsorted, st := .running, kernel := some { op := 0, offset := 0, count := 1, done := 0 } })) 0
    (fun q => { q with mem := memStore Mem.empty 0 (leBytes 8 0x158) })

theorem copyUnsorted_quiet : Quiet copyUnsorted := by unfold Quiet; decide +kernel

theorem copyUnsorted_at : vxeAt copyUnsorted 0 0x58 0x158#64 = true := by decide +kernel

theorem copyUnsorted_mem : (vxeOf copyUnsorted 0).mem = unsorted := by decide +kernel

/-- Before the write, sheet 0 reads as zero at its first slot. -/
theorem slotAt_copyUnsorted : slotAt (vxeOf copyUnsorted 0) 0 0 0 = 0 := by decide +kernel

/-- Whatever is written to sheet 1, the cell at 40005h goes or comes to stand after the one at 0, and that one is now read. -/
theorem slotAt_of_written_unsorted {v : VxeS} {vs : List Byte} (h : v.mem = memStore unsorted 0x40000 vs) : slotAt v 0 0 0 ≠ 0 := by
  obtain ⟨l, hl⟩ : ∃ l, memLoadN (memStore unsorted 0x40000 vs) 0 4 = 1#8 :: l := ⟨_, rfl⟩
  have e : slotAt v 0 0 0 = 1 + 256 * leNat l := by rw [slotAt, h, Nat.mul_zero, hl]; rfl
  omega

/-- A VXE_COPY writes the bytes of its sheet. -/
theorem vxeCopy_mem {s t : State} {die : Fin 8} {w : BitVec 64} (hq : Quiet s) (hat : vxeAt s die 0x58 w = true)
    (hrun : exec (.vxeCopy die w .clean) s = .next t) :
    ∃ vs, (vxeOf t die).mem = memStore (vxeOf s die).mem (0x40000 * (vxeF w).dst) vs := by
  have run : exec (.vxeCopy die w .clean) s =
      .next (updVxe s die (fun _ => retire (moveBody (fun r c => (r, c)) (vxeF w) (vxeOf s die)).v)) :=
    congrArg Host.Outcome.next (vxeRun_noFault hq hat rfl)
  obtain rfl := Host.Outcome.next.inj (run.symm.trans hrun)
  exact ⟨_, congrArg VxeS.mem (updVxe_same _ _ _ die.isLt)⟩

/-- Refutes O11: it is stated of every state, and its frame of the sheets that an instruction does not write fails where storage is
not in the canonical form. On canonical storage, which is what O59 speaks of, its clauses are `signs_of_canonical`,
`moves_of_canonical` and `mload_of_canonical`; `mstore_writes`, `plane_outside_faults` and `vxeNop_completes` need no such form. -/
theorem not_vxeSignsAndMoves : ¬ Obligations.VxeSignsAndMoves := by
  intro h
  obtain ⟨-, hcopy, -⟩ := h.2 copyUnsorted 0 0x158#64 copyUnsorted_quiet
  obtain ⟨t, hrun, -, -, -, -, others, -⟩ := hcopy copyUnsorted_at (by decide)
  obtain ⟨-, kept⟩ := others 0 (by decide) (by decide)
  obtain ⟨vs, hmem⟩ := vxeCopy_mem copyUnsorted_quiet copyUnsorted_at hrun
  have written : (vxeOf t (0 : Fin 8)).mem = memStore unsorted 0x40000 vs :=
    hmem.trans (congrArg (memStore · 0x40000 vs) copyUnsorted_mem)
  exact slotAt_of_written_unsorted written ((kept 0 0 (by decide) (by decide)).trans slotAt_copyUnsorted)

end Sys2Proof.Machine

namespace Sys2Proof.Machine

/-! ### Matrix arrays -/

/-! #### The tray -/

/-- A value within the bounds of R79 is held as it is. -/
theorem toInt_ofInt_of_bounds {v : Int} (hlo : trayMin ≤ v) (hhi : v ≤ trayMax) : (BitVec.ofInt 560 v).toInt = v := by
  unfold trayMin at hlo
  unfold trayMax at hhi
  rw [BitVec.toInt_ofInt]
  exact Int.bmod_eq_of_le (by omega) (by omega)

theorem tray_value_bounds (t : Tray) : trayMin ≤ t.value.toInt ∧ t.value.toInt ≤ trayMax := by
  have hlo := BitVec.le_toInt t.value
  have hhi := BitVec.toInt_lt (x := t.value)
  unfold trayMin trayMax
  omega

/-- A residue fits its seven bits (R99). -/
theorem toNat_fold127 (v : Int) : (BitVec.ofNat 7 (fold127 v)).toNat = fold127 v := by
  rw [BitVec.toNat_ofNat, Nat.mod_eq_of_lt]
  unfold fold127
  omega

/-- The fold of a sum is the sum of the folds (R99). -/
theorem fold127_add (a b : Int) : (fold127 a + fold127 b) % 127 = fold127 (a + b) := by
  unfold fold127
  omega

/-- What VALUE comes to in a tray add (R79, R80): SAT keeps it, and the bounds hold it. -/
def valueAfter (t : Tray) (x : TreeSum) : Int :=
  if t.sat then t.value.toInt
  else if trayMax < t.value.toInt + x.v then trayMax
  else if t.value.toInt + x.v < trayMin then trayMin
  else t.value.toInt + x.v

theorem valueAfter_bounds (t : Tray) (x : TreeSum) : trayMin ≤ valueAfter t x ∧ valueAfter t x ≤ trayMax := by
  obtain ⟨hlo, hhi⟩ := tray_value_bounds t
  have ordered : trayMin ≤ trayMax := Int.le_trans hlo hhi
  unfold valueAfter
  split
  · exact ⟨hlo, hhi⟩
  · split
    · exact ⟨ordered, Int.le_refl _⟩
    · split
      · exact ⟨Int.le_refl _, ordered⟩
      · omega

/-- SAT after a tray add (R79): it was set, or the sum passes a bound. -/
def satAfter (t : Tray) (x : TreeSum) : Bool :=
  t.sat || (decide (trayMax < t.value.toInt + x.v) || decide (t.value.toInt + x.v < trayMin))

@[simp] theorem trayAdd_value (t : Tray) (x : TreeSum) (hit : Bool) : (trayAdd t x hit).1.value.toInt = valueAfter t x :=
  toInt_ofInt_of_bounds (valueAfter_bounds t x).1 (valueAfter_bounds t x).2

@[simp] theorem trayAdd_sat (t : Tray) (x : TreeSum) (hit : Bool) : (trayAdd t x hit).1.sat = satAfter t x := by
  simp only [trayAdd, satAfter]
  cases t.sat <;> simp

theorem trayAdd_value_of_sat {t : Tray} (h : t.sat = true) (x : TreeSum) (hit : Bool) : (trayAdd t x hit).1.value = t.value := by
  rw [← BitVec.toInt_inj, trayAdd_value, valueAfter, if_pos h]

/-- The residue of a tray after an add is that of its VALUE (R99). -/
theorem trayAdd_res (t : Tray) (x : TreeSum) (hit : Bool) :
    (trayAdd t x hit).1.res.toNat = fold127 (trayAdd t x hit).1.value.toInt := by
  rw [trayAdd_value]
  exact toNat_fold127 (valueAfter t x)

/-- Where RES is the fold of VALUE and no mismatch is put there, the check of a tray add finds none (R99). -/
theorem trayAdd_no_mismatch {t : Tray} (h : t.res.toNat = fold127 t.value.toInt) (x : TreeSum) : (trayAdd t x false).2 = false := by
  have check : (trayAdd t x false).2 =
      (!(trayAdd t x false).1.sat && (decide ((t.res.toNat + fold127 x.v) % 127 ≠ fold127 (valueAfter t x)) || false)) := rfl
  rw [check, trayAdd_sat]
  cases hs : satAfter t x with
  | true => simp
  | false =>
    have sum : valueAfter t x = t.value.toInt + x.v := by
      simp only [satAfter, Bool.or_eq_false_iff, decide_eq_false_iff_not] at hs
      obtain ⟨hsat, hhi, hlo⟩ := hs
      simp [valueAfter, hsat, hhi, hlo]
    simp [sum, h, fold127_add]

/-- The bounds as R79 writes them. -/
theorem tray_bounds : -(2 : Int) ^ 559 = trayMin ∧ (2 : Int) ^ 559 = trayMax + 1 := by
  unfold trayMin trayMax
  omega

/-- Settles O4: the value and SAT follow the bounds, the side bits gather, and residues add up. -/
theorem trayAddAndItsResidue : Obligations.TrayAddAndItsResidue := by
  unfold Obligations.TrayAddAndItsResidue
  obtain ⟨hmin, hmax⟩ := tray_bounds
  rw [hmin, hmax]
  refine ⟨fun t x hit => ⟨fun hs hlo hhi => ?_, fun hs hhi => ?_, fun hs hlo => ?_, fun hs => ?_, rfl, rfl, rfl, rfl, rfl⟩,
    fun t x h => ⟨trayAdd_no_mismatch h x, trayAdd_res t x⟩⟩
  · simp [valueAfter, satAfter, hs, Int.not_lt.mpr hlo, Int.not_lt.mpr (Int.lt_add_one_iff.mp hhi)]
  · simp [valueAfter, satAfter, hs, Int.add_one_le_iff.mp hhi]
  · have below : ¬ trayMax < t.value.toInt + x.v :=
      Int.not_lt.mpr (Int.le_trans (Int.le_of_lt hlo) (Int.le_trans (tray_value_bounds t).1 (tray_value_bounds t).2))
    simp [valueAfter, satAfter, hs, hlo, below]
  · exact ⟨trayAdd_value_of_sat hs x hit, by simp [satAfter, hs]⟩

/-- Settles O5: R86 asks its questions of the tray in this order. -/
theorem drainOrder : Obligations.DrainOrder := by
  intro f rm rnd t
  have zero : t.value.toInt = 0 ↔ t.value = 0#560 := by rw [← BitVec.toInt_inj, BitVec.toInt_zero]
  unfold drainTray
  refine ⟨?_, ?_, ?_, ?_, ?_, ?_⟩
  · intro hn; simp [hn, stIf]
  · intro hn hp; simp [hn, hp, withSign]
  · intro hn hp hm; simp [hn, hp, hm, withSign]
  · intro hn hp hm hs; simp [hn, hp, hm, hs, withSign]
  · intro hn hp hm hs h0; simp [hn, hp, hm, hs, h0, withSign]
  · intro hn hp hm hs h0; simp [hn, hp, hm, hs, zero, h0]

/-! #### A clock of a row chunk -/

theorem vget_fin {α : Type} {n : Nat} (v : Vector α n) (j : Fin n) (d : α) : vget v j d = v[j] := by simp [vget]

/-- One column's tree sum into its tray, as `clockStep` folds it over the columns. -/
def columnStep (hit : Nat → Bool) (acc : Vector Tray 256 × Option Nat) (js : Nat × TreeSum) : Vector Tray 256 × Option Nat :=
  let added := trayAdd (vget acc.1 js.1 Tray.fresh) js.2 (hit js.1)
  (vset acc.1 js.1 added.1, if acc.2.isNone && added.2 then some js.1 else acc.2)

/-- The first n columns add their sums to their own trays and leave the others. -/
theorem columnSteps_tray (hit : Nat → Bool) (sum : Nat → TreeSum) (v : Vector Tray 256) (n : Nat) {j : Nat} (hj : j < 256) :
    vget (((List.range n).map (fun k => (k, sum k))).foldl (columnStep hit) (v, none)).1 j Tray.fresh =
      if j < n then (trayAdd (vget v j Tray.fresh) (sum j) (hit j)).1 else vget v j Tray.fresh := by
  induction n with
  | zero => rfl
  | succ n ih =>
    rw [List.range_succ, List.map_append, List.foldl_append]
    simp only [List.map_cons, List.map_nil, List.foldl_cons, List.foldl_nil, columnStep, vset]
    obtain hlt | rfl | hgt := Nat.lt_trichotomy j n
    · rw [vget_vmod_ne _ _ _ _ _ (Nat.ne_of_gt hlt), ih, if_pos hlt, if_pos (by omega)]
    · rw [vget_vmod_same _ _ _ _ hj, ih, if_neg (Nat.lt_irrefl j), if_pos (by omega)]
    · rw [vget_vmod_ne _ _ _ _ _ (Nat.ne_of_lt hgt), ih, if_neg (by omega), if_neg (by omega)]

/-- A clock in row mode: the columns' sums, all of the trays as they stood, and the counter's advance. -/
theorem clockStep_rowMode {f : PassF} (h : f.dot = false) (p : PassRun) (r c clock : Nat) (hit : Nat → Bool) (a : ArrayS) :
    (clockStep p f r c clock hit a).1 = advanceRun (chunkWidth f) { a with trays :=
      (((List.range 256).map (fun k => (k, columnSum a p f r c clock k))).foldl (columnStep hit) (a.trays, none)).1 } := by
  unfold clockStep
  rw [h]
  rfl

/-- The run counter is held at its top (R76). -/
theorem advanceRun_run (k : Nat) (a : ArrayS) : (advanceRun k a).run.toNat = min (a.run.toNat + k) (2 ^ 40 - 1) := by
  unfold advanceRun
  dsimp only
  split
  · simp; omega
  · rw [BitVec.toNat_ofNat, Nat.mod_eq_of_lt (by omega)]; omega

@[simp] theorem advanceRun_bufs (k : Nat) (a : ArrayS) : (advanceRun k a).bufs = a.bufs := rfl
@[simp] theorem advanceRun_seed (k : Nat) (a : ArrayS) : (advanceRun k a).seed = a.seed := rfl
@[simp] theorem advanceRun_dIndex (k : Nat) (a : ArrayS) : (advanceRun k a).dIndex = a.dIndex := rfl
@[simp] theorem advanceRun_trays (k : Nat) (a : ArrayS) : (advanceRun k a).trays = a.trays := rfl

/-- Settles O6: the columns are folded one by one, each over its own tray. -/
theorem rowChunkAddsEachColumn : Obligations.RowChunkAddsEachColumn := by
  intro a p f r c clock hit h
  rw [clockStep_rowMode h]
  refine ⟨fun j => ?_, advanceRun_run _ _, by simp, by simp, by simp⟩
  rw [← vget_fin _ j Tray.fresh, ← vget_fin _ j Tray.fresh]
  rw [advanceRun_trays]
  exact (columnSteps_tray hit _ a.trays 256 j.isLt).trans (if_pos j.isLt)

/-! #### What leaves an array's state and pass alone

What is made indeterminate when a step fails lies in an array's buffers, never in its state or its pass. -/

/-- An array's state and the pass that it holds. -/
def passHeld (s : State) (a : Nat) : ArrState × Option PassRun := ((arrOf s a).st, (arrOf s a).pass)

/-- A change of the arrays that keeps the state and the pass of each. -/
theorem updArr_passHeld (s : State) (i : Nat) {f : ArrayS → ArrayS} (h : ∀ x, (f x).st = x.st ∧ (f x).pass = x.pass) (a : Nat) :
    passHeld (updArr s i f) a = passHeld s a := by
  unfold passHeld
  by_cases ha : i = a
  · subst ha
    by_cases hi : i < 64
    · rw [updArr_same _ _ _ hi, (h _).1, (h _).2]
    · simp [arrOf, updArr, vmod, hi]
  · rw [updArr_ne _ _ _ _ ha]

/-- What leaves the arrays as they are. -/
theorem passHeld_of_arrays {s t : State} (h : t.arrays = s.arrays) (a : Nat) : passHeld t a = passHeld s a := by
  unfold passHeld arrOf
  rw [h]

@[simp] theorem updPlace_passHeld (s : State) (pl : Place) (f : Mem → Mem) (a : Nat) : passHeld (updPlace s pl f) a = passHeld s a := by
  cases pl with
  | buf i => exact updArr_passHeld s i (f := fun x => { x with bufs := f x.bufs }) (fun _ => ⟨rfl, rfl⟩) a
  | _ => rfl

@[simp] theorem placeStore_passHeld (s : State) (pl : Place) (o : Nat) (vs : List Byte) (a : Nat) :
    passHeld (placeStore s pl o vs) a = passHeld s a := updPlace_passHeld s pl _ a

@[simp] theorem scramble_passHeld (s : State) (r : Region) (a : Nat) : passHeld (scramble s r) a = passHeld s a :=
  placeStore_passHeld _ _ _ _ _

@[simp] theorem scrambleAny_passHeld (s : State) (r : Region) (a : Nat) : passHeld (scrambleAny s r) a = passHeld s a := by
  unfold scrambleAny
  split
  · rfl
  · exact scramble_passHeld s r a

@[simp] theorem withdrawMoves_arrays (s : State) (die : Nat) : (withdrawMoves s die).arrays = s.arrays :=
  foldl_keeps State.arrays _ (fun t r => updReel_arrays t (8 * die + r) _) _ _

@[simp] theorem haltIssue_arrays (s : State) (die reason : Nat) : (haltIssue s die reason).arrays = s.arrays := by
  simp [haltIssue]

@[simp] theorem settleNeg_passHeld (s : State) (p a : Nat) : passHeld (settleNeg s p) a = passHeld s a := by
  unfold settleNeg
  dsimp only
  split
  · refine (foldl_keeps (passHeld · a) _ (fun t d => passHeld_of_arrays (updSeq_arrays t d _) a) _ _).trans ?_
    exact foldl_keeps (passHeld · a) _ (fun t r => scrambleAny_passHeld t r a) _ _
  · rfl

@[simp] theorem failStep_passHeld (s : State) (die reason : Nat) (withheld : Bool) (a : Nat) :
    passHeld (failStep s die reason withheld) a = passHeld s a := by
  unfold failStep
  split
  · split <;> exact passHeld_of_arrays (by simp) a
  · dsimp only
    refine (settleNeg_passHeld _ _ a).trans ?_
    refine (foldl_keeps (passHeld · a) _ (fun t d => ?_) _ _).trans (passHeld_of_arrays ?_ a)
    · split
      · rfl
      · exact passHeld_of_arrays (haltIssue_arrays _ _ _) a
    · split <;> simp

@[simp] theorem checkStopped_arrays (s : State) (p : Nat) : (checkStopped s p).arrays = s.arrays := by
  unfold checkStopped
  dsimp only
  split <;> rfl

@[simp] theorem endStep_arrays (s : State) (die : Nat) : (endStep s die).arrays = s.arrays := by
  unfold endStep
  dsimp only
  split <;> simp

@[simp] theorem registerColl_arrays (s : State) (die g desc op : Nat) : (registerColl s die g desc op).arrays = s.arrays := by
  unfold registerColl
  split <;> rfl

/-! #### A FAULTED array

It takes no pass (R789), whatever the sequencer of its die starts, issues or ends. -/

/-- An array in FAULTED with no pass. -/
def ArrayFaulted (a : Nat) (s : State) : Prop := passHeld s a = (.faulted, none)

theorem ArrayFaulted.st {a : Nat} {s : State} (h : ArrayFaulted a s) : (arrOf s a).st = .faulted := congrArg Prod.fst h

theorem ArrayFaulted.pass {a : Nat} {s : State} (h : ArrayFaulted a s) : (arrOf s a).pass = none := congrArg Prod.snd h

theorem ArrayFaulted.congr {a : Nat} {s t : State} (h : ArrayFaulted a s) (e : t.arrays = s.arrays) : ArrayFaulted a t :=
  (passHeld_of_arrays e a).trans h

theorem ArrayFaulted.failStep {a : Nat} {s : State} (h : ArrayFaulted a s) (die reason : Nat) (withheld : Bool) :
    ArrayFaulted a (failStep s die reason withheld) := (failStep_passHeld s die reason withheld a).trans h

theorem ArrayFaulted.settleNeg {a : Nat} {s : State} (h : ArrayFaulted a s) (p : Nat) : ArrayFaulted a (settleNeg s p) :=
  (settleNeg_passHeld s p a).trans h

/-- A PASS for it does not start: its step fails. -/
theorem ArrayFaulted.startOp {a : Nat} {s : State} (h : ArrayFaulted a s) (die : Nat) (o : OpRec) : ArrayFaulted a (startOp s die o) := by
  unfold Machine.startOp
  split
  next i w stat strm park _ =>
    dsimp only
    split
    · exact (h.congr rfl : ArrayFaulted a (updSeq s die _)).failStep ..
    · split
      · exact (h.congr rfl : ArrayFaulted a (updSeq s die _)).failStep ..
      · split
        next hnot _ _ =>
          have other : 8 * die + i ≠ a := fun e => hnot (e ▸ h.st)
          unfold ArrayFaulted passHeld
          rw [updSeq_arrOf, updArr_ne _ _ _ _ other]
          exact h
        · exact h
  next off n _ =>
    dsimp only
    split
    · exact (h.congr rfl : ArrayFaulted a (updSeq s die _)).failStep ..
    · split <;> exact h.congr rfl
  next r _ _ _ _ =>
    dsimp only
    split
    · exact (h.congr rfl : ArrayFaulted a (updSeq s die _)).failStep ..
    · exact h.congr rfl
  next g d _ => exact h.congr (registerColl_arrays _ _ _ _ _)

theorem ArrayFaulted.startReady {a : Nat} {s : State} (h : ArrayFaulted a s) (die : Nat) : ArrayFaulted a (startReady s die) := by
  unfold Machine.startReady
  split
  · exact h
  · refine foldl_holds (ArrayFaulted a) _ (fun t _ ht => ?_) _ _ h
    dsimp only
    split
    · split
      · exact ht.startOp die _
      · exact ht
    · exact ht

theorem ArrayFaulted.issueOp {a : Nat} {s : State} (h : ArrayFaulted a s) (die : Nat) (b : OpBody) (collR collW : List Region)
    (sigc : Nat) (sige : Bool) : ArrayFaulted a (issueOp s die b collR collW sigc sige) := by
  unfold Machine.issueOp
  dsimp only
  refine ArrayFaulted.startReady ?_ die
  split <;> exact h.congr rfl

theorem ArrayFaulted.issueWord {a : Nat} {s : State} (h : ArrayFaulted a s) (die : Nat) (w : Issue) :
    ArrayFaulted a (issueWord s die w) := by
  cases w with
  | op b sigc sige =>
    unfold Machine.issueWord
    dsimp only
    split
    · exact (h.congr rfl : ArrayFaulted a (updSeq s die _)).issueOp ..
    · exact h.congr rfl
  | setx x v =>
    unfold Machine.issueWord
    dsimp only
    split <;> exact h.congr rfl

theorem ArrayFaulted.afterOps {a : Nat} {s : State} (h : ArrayFaulted a s) (die : Nat) : ArrayFaulted a (afterOps s die) := by
  unfold Machine.afterOps
  dsimp only
  have settled (t : State) (ht : ArrayFaulted a t) :
      ArrayFaulted a (match partOfDie t die with | some p => Machine.settleNeg t p | none => t) := by
    split
    · exact ht.settleNeg _
    · exact ht
  refine settled _ ?_
  split
  · split
    · exact h.startReady die
    · exact (h.startReady die).issueWord die _
  · split
    · exact (h.startReady die).congr (endStep_arrays _ _)
    · exact h.startReady die
  · exact h.startReady die

theorem ArrayFaulted.abortOp {a : Nat} {s : State} (h : ArrayFaulted a s) (die id reason : Nat) (withheld : Bool) :
    ArrayFaulted a (abortOp s die id reason withheld) :=
  ((h.congr rfl : ArrayFaulted a (updSeq s die (dropOp id))).failStep die reason withheld).afterOps die

/-- A stop in FAULTED ends the array's pass, and nothing that the end of its operation starts undoes it (R101, R261). -/
theorem faultArray_faulted (s : State) {a : Nat} (ha : a < 64) (m : Option Nat) : ArrayFaulted a (faultArray s a m) := by
  have stopped : ArrayFaulted a (updArr s a (fun x => { x with st := .faulted, pass := none, drainReq := false, bufFault := m })) := by
    unfold ArrayFaulted passHeld
    rw [updArr_same _ _ _ ha]
  unfold faultArray
  dsimp only
  split
  · exact stopped.abortOp ..
  · exact stopped

/-- A lasting fault leaves the array FAULTED with no pass (R101, R730). -/
theorem lastingArray_faulted (s : State) {a : Nat} (ha : a < 64) (inj : Bool) : ArrayFaulted a (lastingArray s a inj) :=
  (faultArray_faulted (setCause s inj) ha none).congr (by simp [lastingArray])

/-! #### A pass and its reads -/

/-- The array's reads for a pass in a quiet state give their data and change nothing. -/
theorem passReadCheck_quiet {s : State} (h : Quiet s) (arr : Nat) (p : PassRun) (f : PassF) :
    passReadCheck s arr p f .clean = (s, none) := by
  unfold passReadCheck
  rw [readRuns_quiet h]
  rfl

theorem arrIssues_iff {s : State} {arr : Nat} :
    arrIssues s arr = true ↔ (arrOf s arr).halt = .running ∧ islandRuns s (arrIsland arr) = true := by
  simp [arrIssues]

/-- A pass that runs no row chunk has had its reads: of its stationary slots a dot-mode pass alone has more to come (R62). -/
theorem runPass_zero {s : State} (h : Quiet s) {arr : Nat} {p : PassRun} (hp : (arrOf s arr).pass = some p)
    (hi : arrIssues s arr = true) (mism : List (Nat × Nat)) :
    runPass s arr 0 mism .clean = updArr s arr (fun a => { a with pass := some { p with loads := (passF p.word).dot } }) := by
  unfold runPass
  simp only [hp, hi, if_true, passReadCheck_quiet h, passChunks, setPass]
  exact updArr_congr _ _ _ _ (by simp [hp])

/-- A die whose scoreboard is empty has nothing to start. -/
theorem startReady_empty {s : State} {die : Nat} (h : (seqOf s die).ops = []) : startReady s die = s := by
  unfold startReady
  simp [h]

/-! #### Requested drains -/

/-- REQUESTED_DRAIN before the next row chunk only marks the request (R89). -/
theorem execRequestedDrain_zero {s : State} (h : Quiet s) {arr : Fin 64} {p : PassRun} (hp : (arrOf s arr).pass = some p)
    (hh : (arrOf s arr).halt = .running) (hi : islandRuns s (arrIsland arr) = true) :
    execRequestedDrain arr 0 .clean s = .next (updArr s arr (fun a =>
      { a with drainReq := true, pass := some { p with loads := (passF p.word).dot } })) := by
  unfold execRequestedDrain
  simp [hp, hh, runPass_zero h hp (arrIssues_iff.mpr ⟨hh, hi⟩), updArr_twice]

/-- What the write of a drained row leaves alone: the array's run, and what lies outside arrays and VXEs. -/
structure KeepsRun (arr : Nat) (s t : State) : Prop where
  trays : (arrOf t arr).trays = (arrOf s arr).trays
  run : (arrOf t arr).run = (arrOf s arr).run
  long : (arrOf t arr).long = (arrOf s arr).long
  drainReq : (arrOf t arr).drainReq = (arrOf s arr).drainReq
  mem : t.mem = s.mem
  seqs : t.seqs = s.seqs
  reels : t.reels = s.reels

theorem KeepsRun.refl (arr : Nat) (s : State) : KeepsRun arr s s := ⟨rfl, rfl, rfl, rfl, rfl, rfl, rfl⟩

theorem KeepsRun.trans {arr : Nat} {s t u : State} (h : KeepsRun arr s t) (k : KeepsRun arr t u) : KeepsRun arr s u :=
  ⟨k.trays.trans h.trays, k.run.trans h.run, k.long.trans h.long, k.drainReq.trans h.drainReq, k.mem.trans h.mem,
    k.seqs.trans h.seqs, k.reels.trans h.reels⟩

theorem KeepsRun.updVxe (arr : Nat) (s : State) (d : Nat) (f : VxeS → VxeS) : KeepsRun arr s (updVxe s d f) :=
  ⟨rfl, rfl, rfl, rfl, rfl, rfl, rfl⟩

theorem KeepsRun.updArr {arr : Nat} (ha : arr < 64) (s : State) {f : ArrayS → ArrayS}
    (h : ∀ x, (f x).trays = x.trays ∧ (f x).run = x.run ∧ (f x).long = x.long ∧ (f x).drainReq = x.drainReq) :
    KeepsRun arr s (updArr s arr f) := by
  obtain ⟨ht, hr, hl, hd⟩ := h (arrOf s arr)
  constructor <;> simp [updArr_same _ _ _ ha, *]

/-- Where no location is bad, a write clears none (R262). -/
theorem clear_noBad {t : State} (h : t.mem.bad = []) (p : BadLoc → Bool) :
    updMem t (fun m => { m with bad := m.bad.filter p }) = t := by
  unfold updMem
  dsimp only
  rw [h, List.filter_nil, ← h]

theorem placeStore_noBad {s : State} {pl : Place} {o : Nat} {vs : List Byte}
    (h : (updPlace s pl (fun m => memStore m o vs)).mem.bad = []) :
    placeStore s pl o vs = updPlace s pl (fun m => memStore m o vs) := clear_noBad h _

/-- The write of a run of bytes to the place of an array's drains. -/
theorem KeepsRun.placeStore {arr : Nat} (ha : arr < 64) {s : State} (h : s.mem.bad = []) (f : PassF) (o : Nat) (vs : List Byte) :
    KeepsRun arr s (placeStore s (drainPlace arr f) o vs) := by
  unfold drainPlace
  split
  · rw [placeStore_noBad (s := s) (pl := .vxe (arr / 8)) h]
    exact KeepsRun.updVxe ..
  · rw [placeStore_noBad (s := s) (pl := .buf arr) h]
    exact KeepsRun.updArr ha s (f := fun x => { x with bufs := memStore x.bufs o vs }) (fun _ => ⟨rfl, rfl, rfl, rfl⟩)

theorem KeepsRun.putRuns {arr : Nat} (ha : arr < 64) {s : State} (h : s.mem.bad = []) (f : PassF) (runs : List (Nat × List Byte)) :
    KeepsRun arr s (putRuns s (drainPlace arr f) runs) :=
  foldl_holds (KeepsRun arr s) _
    (fun _ r hk => hk.trans (KeepsRun.placeStore ha ((congrArg MemS.bad hk.mem).trans h) f r.1 r.2)) runs s (.refl arr s)

theorem KeepsRun.drainStatus {arr : Nat} (ha : arr < 64) (s : State) (f : PassF) (r : Nat) (st : Byte) (first : Bool) :
    KeepsRun arr s (drainStatus s arr f r st first) := by
  unfold Machine.drainStatus
  split
  · exact KeepsRun.updVxe ..
  · exact KeepsRun.updArr ha s (fun _ => ⟨rfl, rfl, rfl, rfl⟩)

/-- A row that can be written lands (R86, R102, R103): the array's run stays as it was. -/
theorem KeepsRun.writeDrain {arr : Nat} (ha : arr < 64) {s : State} (h : s.mem.bad = []) {f : PassF}
    (hf : drainAborts s arr f = false) (p : PassRun) (r : Nat) (codes : List Nat) (st : Byte) :
    KeepsRun arr s (writeDrain s arr p f r codes st false) := by
  have whole : (drainRuns f r codes).findSome? (fun x => badPartly s (drainPlace arr f) x.1 x.2.length) = none := by
    simp [badPartly, h]
  unfold Machine.writeDrain
  simp only [hf, whole, Bool.or_false, Bool.false_eq_true, if_false]
  exact ((KeepsRun.putRuns ha h f _).trans (KeepsRun.drainStatus ha _ f r st _)).trans
    (KeepsRun.updArr ha _ (fun _ => ⟨rfl, rfl, rfl, rfl⟩))

/-- A run that is drained and can be written leaves its trays fresh (R87). -/
theorem captureRun_drained {arr : Nat} (ha : arr < 64) {s : State} (h : s.mem.bad = []) {f : PassF} (hpark : f.park = false)
    (hf : drainAborts s arr f = false) (p : PassRun) (r : Nat) (d : BitVec 48) :
    KeepsRun arr (updArr s arr (fun x => freshRun f.dot (countDrain f x))) (captureRun s arr p f r d false) := by
  unfold captureRun
  simp only [hpark, Bool.false_eq_true, if_false]
  obtain ⟨codes, st⟩ := drainRow (arrOf s arr) arr f d
  exact KeepsRun.writeDrain ha (s := updArr s arr _) h hf p _ codes st

/-- REQUESTED_DRAIN_CAPTURE of a run whose counter is zero writes no row (R91). -/
theorem execRequestedDrainCapture_zero {s : State} {arr : Fin 64} {p : PassRun} (hp : (arrOf s arr).pass = some p)
    (hh : (arrOf s arr).halt = .running) (hi : islandRuns s (arrIsland arr) = true) (hd : (arrOf s arr).drainReq = true)
    (hr : (arrOf s arr).run = 0#40) (aborted : Bool) :
    execRequestedDrainCapture arr aborted s = .next (updArr s arr (fun a => { a with drainReq := false })) := by
  unfold execRequestedDrainCapture
  simp [hp, hh, hi, hd, hr]

/-- REQUESTED_DRAIN_CAPTURE of an open, good run drains it, whatever END says (R93). -/
theorem execRequestedDrainCapture_good {s : State} {arr : Fin 64} {p : PassRun} (hp : (arrOf s arr).pass = some p)
    (hh : (arrOf s arr).halt = .running) (hi : islandRuns s (arrIsland arr) = true) (hd : (arrOf s arr).drainReq = true)
    (hr : (arrOf s arr).run ≠ 0#40) (ho : p.open_ = true) (hgood : p.poisoned = none) (aborted : Bool) :
    execRequestedDrainCapture arr aborted s = .next (setPass
      (captureRun (updArr s arr (fun a => { a with drainReq := false })) arr p { passF p.word with park := false }
        (runRow (passF p.word) p) p.d aborted) arr (afterRequested (passF p.word))) := by
  unfold execRequestedDrainCapture
  simp [hp, hh, hi, hd, hr, ho, hgood]

/-! #### Reruns -/

/-- ROW_RERUN between runs, in a quiet state, runs the chunks of the earliest poisoned run again (R100). -/
theorem execRowRerun_quiet {s : State} (h : Quiet s) {arr : Fin 64} {p : PassRun} {x : Poisoned} {rest : List Poisoned}
    (hp : (arrOf s arr).pass = some p) (hi : arrIssues s arr = true) (hd : (arrOf s arr).drainReq = false)
    (ho : p.open_ = false) (hx : p.reruns = x :: rest) (mism : List Nat) :
    execRowRerun arr mism .clean s = .next (finishRerun arr (passF p.word) x
      (rerunChunks arr (passF p.word) x mism (updArr s arr (beginRerun p (passF p.word) x rest)))) := by
  unfold execRowRerun
  simp [hp, hi, hd, ho, hx, passReadCheck_quiet h]

theorem finishRerun_clean {s : State} {arr : Nat} {q : PassRun} (hq : (arrOf s arr).pass = some q) (hgood : q.poisoned = none)
    (f : PassF) (x : Poisoned) :
    finishRerun arr f x s = captureRun (raise s 0x05 ukARRAY arr (x.tray + 256 * x.d.toNat) x.inj) arr q
      { f with park := f.park && !x.toDest } (runRow f q) x.d false := by
  unfold finishRerun
  simp [hq, hgood]

/-- A run poisoned again is a lasting fault of its array (R101). -/
theorem finishRerun_poisoned {s : State} {arr : Nat} (ha : arr < 64) {q : PassRun} (hq : (arrOf s arr).pass = some q)
    (hbad : q.poisoned ≠ none) (f : PassF) (x : Poisoned) : ArrayFaulted arr (finishRerun arr f x s) := by
  obtain ⟨y, hy⟩ := Option.ne_none_iff_exists'.mp hbad
  unfold finishRerun
  simp only [hq, hy]
  exact lastingArray_faulted s ha _

/-- Settles O8: a request marks the array, its capture empties the trays or does nothing, and a rerun ends in a row or in FAULTED. -/
theorem requestedDrainAndRowRerun : Obligations.RequestedDrainAndRowRerun := by
  refine ⟨fun s arr p hp hh hi => ⟨fun hq => execRequestedDrain_zero hq hp hh hi,
    fun hd hr => execRequestedDrainCapture_zero hp hh hi hd hr false, fun hq hd hr ho hgood hab => ?_⟩,
    fun s arr p x rest mism hq hp hh hi hd ho hx q hrun => ?_⟩
  · refine ⟨_, execRequestedDrainCapture_good hp hh hi hd hr ho hgood false, ?_⟩
    have drained := captureRun_drained arr.isLt (s := updArr s arr (fun a => { a with drainReq := false })) hq.2
      (f := { passF p.word with park := false }) rfl hab p (runRow (passF p.word) p) p.d
    have kept := drained.trans (KeepsRun.updArr arr.isLt _
      (f := fun a => { a with pass := a.pass.map (afterRequested (passF p.word)) }) (fun _ => ⟨rfl, rfl, rfl, rfl⟩))
    refine ⟨kept.trays.trans ?_, kept.run.trans ?_, kept.long.trans ?_, kept.drainReq.trans ?_, kept.mem, kept.seqs, kept.reels⟩
    all_goals simp [freshRun, countDrain]
  · have run := execRowRerun_quiet hq hp (arrIssues_iff.mpr ⟨hh, hi⟩) hd ho hx mism
    refine ⟨fun hgood => run.trans (congrArg _ (finishRerun_clean hrun hgood _ x)), fun hbad => ⟨_, run, ?_⟩⟩
    have faulted := finishRerun_poisoned arr.isLt hrun hbad (passF p.word) x
    exact ⟨faulted.st, faulted.pass⟩

/-! #### A pass from its issue to its end -/

/-- The fields of ARG0 that name a pass's slots (R187). -/
theorem passBody_slots (a : Nat) (w : BitVec 64) (slots : BitVec 18) :
    passBody a w slots = .pass a w (slots.toNat % 64) (slots.toNat / 64 % 64) (slots.toNat / 4096 % 64) := by
  simp [passBody, field, bits, Nat.shiftRight_eq_div_pow]

/-- The only operation of a die is a pass that its array takes: it starts. -/
theorem startReady_pass {s : State} {die a stat strm park : Nat} {w : BitVec 64} {o : OpRec} (hops : (seqOf s die).ops = [o])
    (hst : (seqOf s die).st ≠ .suspended) (hnew : o.started = false) (hbody : o.body = .pass a w stat strm park)
    (hidle : (arrOf s (8 * die + a)).st = .idle) (htakes : arrayTakes s die a = true) :
    startReady s die = updSeq (updArr s (8 * die + a) (beginPass w stat strm park o.id)) die (markStarted o) := by
  have starts : startOp s die o = updSeq (updArr s (8 * die + a) (beginPass w stat strm park o.id)) die (markStarted o) := by
    simp [startOp, hbody, hidle, htakes]
  unfold startReady
  simp [hst, hops, hnew, hbody, htakes, clearToStart, List.range_succ, starts]

/-- The record of a pass that has just been issued. -/
def issuedPass (die : Nat) (a : Nat) (w : BitVec 64) (stat strm park id sigc : Nat) (sige : Bool) : OpRec :=
  { id := id, body := .pass a w stat strm park, reads := passReads die a w stat strm park, writes := passWrites die a w park,
    sigc := sigc, sige := sige, started := false }

/-- A sequencer that has put an operation on its scoreboard and gone on. -/
def afterIssue (o : OpRec) (q : SeqS) : SeqS := { q with pc := q.pc + 16#32, ops := q.ops ++ [o], nextOp := q.nextOp + 1 }

theorem canIssue_running {s : State} {d : Nat} (h : canIssue s d = true) : (seqOf s d).st = .running := by
  simp only [canIssue, Bool.and_eq_true, decide_eq_true_eq] at h
  exact h.1.1

/-- On an empty scoreboard a pass has room, and is put there (R190). -/
theorem issueWord_pass {s : State} {die a stat strm park : Nat} (hd : die < 8) (w : BitVec 64) (sigc : Nat) (sige : Bool)
    (hcan : canIssue s die = true) (hops : (seqOf s die).ops = []) :
    issueWord s die (.op (.pass a w stat strm park) sigc sige) =
      startReady (updSeq s die (afterIssue (issuedPass die a w stat strm park (seqOf s die).nextOp sigc sige))) die := by
  have room : hasRoom (seqOf s die) (.pass a w stat strm park) = true := by simp [hasRoom, hops, queueDepth]
  unfold issueWord issueOp
  simp only [room, if_true, issue_step s die hcan, updSeq_twice, updSeq_same _ _ _ hd]
  rfl

/-- An array that takes a pass is free and its island's clock runs (R22, R109, R730). -/
theorem arrayTakes_iff {s : State} {die a : Nat} : arrayTakes s die a = true ↔
    ((arrOf s (8 * die + a)).pass = none ∧ (arrOf s (8 * die + a)).proofRun = false ∧
      (arrOf s (8 * die + a)).halt = .running) ∧ islandRuns s (arrIsland (8 * die + a)) = true := by
  simp [arrayTakes, arrayFree, and_assoc]

/-- The die has issued a pass, and its array has taken it. -/
def passTaken (s : State) (die a : Nat) (w : BitVec 64) (stat strm park : Nat) (o : OpRec) : State :=
  updSeq (updArr (updSeq s die (afterIssue o)) (8 * die + a) (beginPass w stat strm park o.id)) die (markStarted o)

/-- PASS of no row chunks for a free array, on an empty scoreboard: the array takes it and has its reads (R62, R189, R190). -/
theorem execPass_starts {s : State} {die a : Fin 8} {w : BitVec 64} {slots : BitVec 18} {sigc : Fin 32} {sige : Bool}
    (hiss : Issues s die (fun f => isPass a w slots f && hasSig sigc sige f)) (hops : (seqOf s die).ops = [])
    (hidle : (arrOf s (8 * die.val + a.val)).st = .idle) (htakes : arrayTakes s die a = true) {stat strm park : Nat}
    (hslots : passBody a w slots = .pass a w stat strm park) :
    execPass die a w slots sigc sige 0 [] .clean s =
      let o := issuedPass die a w stat strm park (seqOf s die).nextOp sigc sige
      .next (updArr (passTaken s die a w stat strm park o) (8 * die.val + a.val) (fun x =>
        { x with pass := some { newPass w stat strm park o.id with loads := (passF w).dot } })) := by
  obtain ⟨⟨hnone, -, hhalt⟩, hisl⟩ := arrayTakes_iff.mp htakes
  have hlt : 8 * die.val + a.val < 64 := by omega
  generalize ho : issuedPass die a w stat strm park (seqOf s die).nextOp sigc sige = o
  have seq : seqOf (updSeq s die (afterIssue o)) die = afterIssue o (seqOf s die) := updSeq_same _ _ _ die.isLt
  have ops : (seqOf (updSeq s die (afterIssue o)) die).ops = [o] := by rw [seq, afterIssue, hops]; rfl
  have st : (seqOf (updSeq s die (afterIssue o)) die).st ≠ .suspended := by
    rw [seq, afterIssue, canIssue_running hiss.1]
    decide
  have taken : issueWord s die (.op (passBody a w slots) sigc sige) = passTaken s die a w stat strm park o := by
    rw [hslots, issueWord_pass die.isLt w sigc sige hiss.1 hops, ho,
      startReady_pass ops st (by rw [← ho]; rfl) (by rw [← ho]; rfl) hidle htakes]
    rfl
  have arr : arrOf (passTaken s die a w stat strm park o) (8 * die.val + a.val) =
      beginPass w stat strm park o.id (arrOf s (8 * die.val + a.val)) := updArr_same _ _ _ hlt
  have issues : arrIssues (passTaken s die a w stat strm park o) (8 * die.val + a.val) = true :=
    arrIssues_iff.mpr ⟨by rw [arr]; exact hhalt, hisl⟩
  have reads := runPass_zero (s := passTaken s die a w stat strm park o) hiss.2.2 (congrArg ArrayS.pass arr) issues []
  unfold execPass
  rw [issueAt_issues hiss]
  simp only [hnone, taken, Option.isSome_none, Bool.false_eq_true, if_false]
  exact congrArg _ reads

theorem passDone_iff {p : PassRun} : passDone p = true ↔ chunksLeft p = 0 ∧ p.reruns = [] ∧ p.open_ = false := by
  simp [passDone, and_assoc]

/-- PASS_COMPLETE where every row is captured: the array is idle again, and the operation completes (R189). -/
theorem execPassComplete_done {s : State} (hq : Quiet s) {arr : Fin 64} {p : PassRun} (hp : (arrOf s arr).pass = some p)
    (hi : arrIssues s arr = true) (hst : (arrOf s arr).st = .running) (hleft : chunksLeft p = 0) (hre : p.reruns = [])
    (ho : p.open_ = false) (hnone : s.ev.proofs = []) (mism : List (Nat × Nat)) :
    execPassComplete arr mism .clean s = .next (completeOp (updArr s arr (fun x =>
      { x with pass := none, drainReq := false, st := .idle, proofRun := false })) (arr / 8) p.op) := by
  have reads := runPass_zero hq hp hi mism
  have held : arrOf (runPass s arr 0 mism .clean) arr =
      { arrOf s arr with pass := some { p with loads := (passF p.word).dot } } := by rw [reads, updArr_same _ _ _ arr.isLt]
  have issues : arrIssues (runPass s arr 0 mism .clean) arr = true := by
    rw [arrIssues_iff, held]
    exact ⟨(arrIssues_iff.mp hi).1, by rw [reads]; exact (arrIssues_iff.mp hi).2⟩
  have done : passDone { p with loads := (passF p.word).dot } = true := passDone_iff.mpr ⟨hleft, hre, ho⟩
  have ended : endPass arr (runPass s arr 0 mism .clean) = updArr s arr (fun x =>
      { x with pass := none, drainReq := false, st := .idle, proofRun := false }) := by
    unfold endPass
    rw [reads, updArr_twice]
    exact updArr_congr _ _ _ _ (by simp [hst, hnone])
  unfold execPassComplete
  simp only [hp, hleft, held, issues, done, ended, Bool.and_self, if_true]

/-- An operation of a running sequencer is gone once it completes, and its counter has advanced (R188). -/
theorem finishOp_last {q : SeqS} {o : OpRec} (hops : q.ops = [o]) (hst : q.st = .running) :
    finishOp o q = { q with ops := [], ctrs := if o.sige then incrCtr q.ctrs o.sigc else q.ctrs } := by
  have gone : q.ops.filter (fun x => x.id ≠ o.id) = [] := by simp [hops]
  unfold finishOp
  simp only [gone, hst]
  split <;> rfl

/-- A negative with a die that runs does not settle (R202). -/
theorem settleNeg_running {s : State} {p die : Nat} (hd : die < 8) (hmask : (negOf s p).dieMask.toNat.testBit die = true)
    (hst : (seqOf s die).st = .running) : settleNeg s p = s := by
  have runs : (negDies s p).all (fun d => dieStopped (seqOf s d) && (seqOf s d).ops.isEmpty) = false := by
    rw [List.all_eq_false]
    exact ⟨die, by simp [negDies, setBits, hd, hmask], by simp [dieStopped, hst]⟩
  unfold settleNeg
  simp [runs]

/-- The last operation of a die completes, where nothing holds issue and its negative still runs: its counter advances, and no
more happens (R188, R189). -/
theorem completeOp_last {s : State} {die : Nat} (hd : die < 8) {o : OpRec} (hops : (seqOf s die).ops = [o])
    (hst : (seqOf s die).st = .running) (hhold : (seqOf s die).hold = .none)
    (hneg : ∀ q : Nat, partOfDie s die = some q → (negOf s q).dieMask.toNat.testBit die = true) :
    completeOp s die o.id = updSeq s die (fun q => { q with
      ops := [], ctrs := if o.sige then incrCtr q.ctrs o.sigc else q.ctrs }) := by
  refine Eq.trans ?_ (updSeq_congr s die (finishOp o) _ (finishOp_last hops hst))
  have seq : seqOf (updSeq s die (finishOp o)) die = finishOp o (seqOf s die) := updSeq_same _ _ _ hd
  rw [finishOp_last hops hst] at seq
  have nothing : startReady (updSeq s die (finishOp o)) die = updSeq s die (finishOp o) :=
    startReady_empty (congrArg SeqS.ops seq)
  have found : (seqOf s die).ops.find? (fun x => x.id = o.id) = some o := by simp [hops]
  unfold completeOp afterOps
  simp only [found, nothing, congrArg SeqS.hold seq, hhold]
  split
  next q hq => exact settleNeg_running hd (hneg q hq) ((congrArg SeqS.st seq).trans hst)
  next => rfl

/-- Settles O7: the scoreboard's one operation starts on its array, and ends with it. -/
theorem passStartsAndCompletes : Obligations.PassStartsAndCompletes := by
  intro s die a hq hisl
  have hlt : 8 * die.val + a.val < 64 := by omega
  refine ⟨fun w slots sigc sige hiss hops hidle hnone hhalt hproof => ?_,
    fun p o hp hhalt hst hleft hre ho hproofs hops hid hrun hhold hsig hneg => ?_⟩
  · have run := execPass_starts hiss hops hidle (arrayTakes_iff.mpr ⟨⟨hnone, hproof, hhalt⟩, hisl⟩) (passBody_slots a w slots)
    refine ⟨_, run, ?_⟩
    simp [passTaken, beginPass, markStarted, afterIssue, issuedPass, hlt, hhalt, hops]
  · have run := execPassComplete_done (arr := ⟨8 * die.val + a.val, hlt⟩) hq hp (arrIssues_iff.mpr ⟨hhalt, hisl⟩) hst hleft hre ho
      hproofs []
    have die_eq : (8 * die.val + a.val) / 8 = die.val := by omega
    simp only [die_eq, ← hid] at run
    exact run.trans (congrArg _ (completeOp_last (s := updArr s (8 * die.val + a.val) _) die.isLt hops hrun hhold hneg))

/-! #### Writes of the array's objects -/

/-- The checks of a direct write, one by one (R542). -/
theorem checkDirect_passes {s after : State} {who : Nat} {x : ObjRef} {data : List Byte} (hex : existence x = 0)
    (hacc : 2 ≤ (rowOf x).acc) (hmay : mayWrite s who x data = true) (hx : xonly x = false) (hheld : objHeld s x = false)
    (hval : checkValue s after who x data = 0) : checkDirect s after who x data = 0 := by
  unfold checkDirect
  simp [hex, hmay, hx, hheld, hval, Nat.not_lt.mpr hacc]

/-- The checks of a value and of the object's state, one by one (R542). -/
theorem checkValue_passes {s after : State} {who : Nat} {x : ObjRef} {data : List Byte}
    (hlen : (rowOf x).lo ≤ data.length ∧ data.length ≤ (rowOf x).hi ∧ data.length % (rowOf x).mult = 0)
    (hrange : rangeBad s after who x data = false) (hres : reservedBad x data = false) (hst : stateBad s who x data = false)
    (hunit : unitDown s x = false) (hlim : resourceBad s who x data = false) : checkValue s after who x data = 0 := by
  obtain ⟨hlo, hhi, hmult⟩ := hlen
  unfold checkValue
  simp [hrange, hres, hst, hunit, hlim, hmult, Nat.not_lt.mpr hlo, Nat.not_lt.mpr hhi]

/-- An index whose objects no operation of their own takes: no shutter or close, no proposal, no reset, no claim. -/
def plainIndex (index : Nat) : Bool :=
  decide (layoutOf index ≠ 0xC810 ∧ layoutOf index ≠ 0xD510 ∧ index ≠ 0x2F00 ∧ index ≠ 0xD000)

/-- A direct write whose checks pass is applied and answered 0 (R542). -/
theorem writeAs_accepted {s : State} {who : Ident} {index sub inst : Nat} {data : List Byte} {obs : WriteObs} (h : Serving s)
    (hplain : plainIndex index = true) (hg : isGroup (objAt index sub inst) = false)
    (hc : checkDirect s (afterCommits s) (identNat who) (objAt index sub inst) data = 0) :
    writeAs s (.direct who) 0 (objAt index sub inst) data obs =
      answered (applyObj s (identNat who) (objAt index sub inst) data obs) who 0 := by
  obtain ⟨h1, h2, h3, h4⟩ := of_decide_eq_true hplain
  rw [writeAs_direct s who _ data obs h hg h1 h2 h3 h4, if_pos hc]

/-- The bytes of a word are the word. -/
theorem leNat_leBytes_toNat {len : Nat} (x : BitVec (8 * len)) : leNat (leBytes len x.toNat) = x.toNat := by
  rw [leNat_leBytes, BitVec.toNat_mod_cancel]

/-- While the T1 serves requests, no island is in reset. -/
theorem serving_resetting {s : State} (h : Serving s) : s.sys.resetting = [] := by
  obtain ⟨-, -, -, -, -, -, hreset⟩ := h
  exact hreset

/-- A value of at most 8 bytes is read as a whole. -/
theorem leNat_take_leBytes {len n : Nat} (hlen : len ≤ 8) (hn : n < 2 ^ (8 * len)) : leNat ((leBytes len n).take 8) = n := by
  rw [List.take_of_length_le (by simpa using hlen), leNat_leBytes, Nat.mod_eq_of_lt hn]

/-! The object 8400h:01 of an array (R97, R106). -/

theorem existence_arraySeed (arr : Fin 64) : existence (objAt 0x8400 1 arr) = 0 := by
  simp [existence, objAt, layoutOf, objRows, objInfo, rows8400, objRow, ninstOf, Nat.not_lt.mpr (Nat.le_of_lt_succ arr.isLt)]

theorem rowOf_arraySeed (arr : Nat) : rowOf (objAt 0x8400 1 arr) = objRow 1 3 3 4 4 1 0 := by
  simp [rowOf, objInfo, objAt, layoutOf, objRows, rows8400, objRow]

/-- A seed passes its checks where the array is in service and no pass runs or waits there. -/
theorem checkDirect_arraySeed {s after : State} {arr : Fin 64} {who : Nat} {seed : U32}
    (hmay : mayWrite s who (objAt 0x8400 1 arr) (leBytes 4 seed.toNat) = true) (hheld : objHeld s (objAt 0x8400 1 arr) = false)
    (hshown : arrShown s arr ≠ .running) (hout : (arrOf s arr).st ≠ .outOfService) (hreset : s.sys.resetting = []) :
    checkDirect s after who (objAt 0x8400 1 arr) (leBytes 4 seed.toNat) = 0 := by
  refine checkDirect_passes (existence_arraySeed arr) (by rw [rowOf_arraySeed]; decide) hmay rfl hheld ?_
  refine checkValue_passes ?_ rfl rfl ?_ ?_ rfl
  · rw [rowOf_arraySeed]; simp [objRow]
  · exact decide_eq_false hshown
  · have down : unitDown s (objAt 0x8400 1 arr) =
        (s.sys.resetting.contains (arrIsland arr) || decide ((arrOf s arr).st = .outOfService)) := rfl
    simp [down, hreset, hout]

/-! The debug objects E100h:03 and E100h:04 of the selected array (R107, R109, R111, R112). -/

theorem unitDown_debug {s : State} (h : s.sys.resetting = []) (sub : Nat) : unitDown s (objAt 0xE100 sub 0) = false := by
  simp [unitDown, aonObject, objAt, h]

/-- The halt control takes 0 and 1. -/
theorem checkDirect_halt {s after : State} {who : Nat} {b : Byte} (hb : b = 0#8 ∨ b = 1#8)
    (hmay : mayWrite s who (objAt 0xE100 3 0) [b] = true) (hheld : objHeld s (objAt 0xE100 3 0) = false)
    (hreset : s.sys.resetting = []) : checkDirect s after who (objAt 0xE100 3 0) [b] = 0 := by
  refine checkDirect_passes rfl (by decide) hmay rfl hheld (checkValue_passes (by rw [List.length_singleton]; decide) ?_ rfl rfl
    (unitDown_debug hreset 3) rfl)
  obtain rfl | rfl := hb <;> rfl

theorem bits_eq_div (n hi lo : Nat) : bits n hi lo = n / 2 ^ lo % 2 ^ (hi + 1 - lo) := by
  rw [bits, Nat.shiftRight_eq_div_pow]

/-- A tray image passes its checks where the array is halted and its reserved bits are zero. -/
theorem checkDirect_trayImage {s after : State} {who : Nat} {img : BitVec 640}
    (hmay : mayWrite s who (objAt 0xE100 4 0) (leBytes 80 img.toNat) = true) (hheld : objHeld s (objAt 0xE100 4 0) = false)
    (hshown : arrShown s s.dbg.arraySel.toNat = .halted) (hhi : bits img.toNat 639 617 = 0) (hmid : bits img.toNat 575 573 = 0)
    (hreset : s.sys.resetting = []) : checkDirect s after who (objAt 0xE100 4 0) (leBytes 80 img.toNat) = 0 := by
  have whole : leNat (leBytes 80 img.toNat) = img.toNat := leNat_leBytes_toNat (len := 80) img
  refine checkDirect_passes rfl (by decide) hmay rfl hheld (checkValue_passes ?_ rfl ?_ ?_ (unitDown_debug hreset 4) rfl)
  · rw [leBytes_length]; decide
  · simp [reservedBad, objAt, layoutOf, whole, hhi, hmid]
  · simp [stateBad, objAt, layoutOf, hshown]

/-- A new seed resets D (R97). -/
theorem execArraySeedWrite_accepted {s : State} {arr : Fin 64} {who : Ident} {seed : U32} (h : Serving s)
    (hc : checkDirect s (afterCommits s) (identNat who) (objAt 0x8400 1 arr) (leBytes 4 seed.toNat) = 0) :
    execArraySeedWrite (.direct who) arr seed s = .next (answered
      (updArr s arr (fun a => { a with seed := seed, dIndex := 0#48 })) who 0) := by
  have value : BitVec.ofNat 32 (leNat ((leBytes 4 seed.toNat).take 8)) = seed := by
    rw [leNat_take_leBytes (by decide) seed.isLt, BitVec.ofNat_toNat, BitVec.setWidth_eq]
  have applied : applyObj s (identNat who) (objAt 0x8400 1 arr) (leBytes 4 seed.toNat) noObs = updArr s arr (fun a =>
      setArraySeed a (BitVec.ofNat 32 (leNat ((leBytes 4 seed.toNat).take 8)))) := rfl
  have notGroup : isGroup (objAt 0x8400 1 arr) = false := by
    have : ¬ 0xF00 ≤ arr.val := by omega
    simp [isGroup, objAt, ninstOf, this]
  rw [value] at applied
  unfold execArraySeedWrite writeNum
  rw [writeAs_accepted h (by decide) notGroup hc, applied]
  rfl

/-- A halt is requested after the row chunks that still issue (R109). -/
theorem execArrayHaltRequest_accepted {s : State} {arr : Nat} {who : Ident} (h : Serving s) (hsel : s.dbg.arraySel.toNat = arr)
    (hrun : (arrOf s arr).halt = .running) {n : Nat} {rd : ReadObs}
    (hc : checkDirect s (afterCommits s) (identNat who) (objAt 0xE100 3 0) [1#8] = 0) :
    execArrayHaltRequest (.direct who) n rd s = .next (answered
      (updArr (runPass s arr n [] rd) arr (fun a => { a with halt := .halting })) who 0) := by
  have applied : applyObj s (identNat who) (objAt 0xE100 3 0) [1#8] { passed := false, chunks := n, rd := rd } =
      haltArray s s.dbg.arraySel.toNat n rd := rfl
  unfold execArrayHaltRequest
  rw [writeAs_accepted h (by decide) rfl hc, applied, hsel, haltArray, if_pos hrun]

/-- A halted array goes on (R112), where its die has nothing to start. -/
theorem execArrayResume_accepted {s : State} {arr : Nat} {who : Ident} (h : Serving s) (hsel : s.dbg.arraySel.toNat = arr)
    (hst : (arrOf s arr).st = .halted) (hops : (seqOf s (arr / 8)).ops = [])
    (hc : checkDirect s (afterCommits s) (identNat who) (objAt 0xE100 3 0) [0#8] = 0) :
    execArrayResume (.direct who) s = .next (answered (updArr s arr (fun a =>
      { a with halt := .running, st := if a.pass.isSome then .running else .idle })) who 0) := by
  have applied : applyObj s (identNat who) (objAt 0xE100 3 0) (leBytes 1 0) noObs = resumeArray s s.dbg.arraySel.toNat := rfl
  have resumed : resumeArray s arr = updArr s arr (fun a =>
      { a with halt := .running, st := if a.pass.isSome then .running else .idle }) := by
    unfold resumeArray
    exact (startReady_empty (s := updArr s arr _) hops).trans (updArr_congr _ _ _ _ (by simp [hst]))
  unfold execArrayResume writeNum
  rw [writeAs_accepted (data := leBytes 1 0) h (by decide) rfl hc, applied, hsel, resumed]

/-- A tray image replaces its tray but RES, the run counter and LONG (R111). -/
theorem execTrayImageWrite_accepted {s : State} {arr : Nat} {who : Ident} (h : Serving s) (hsel : s.dbg.arraySel.toNat = arr)
    {img : BitVec 640} (hc : checkDirect s (afterCommits s) (identNat who) (objAt 0xE100 4 0) (leBytes 80 img.toNat) = 0) :
    execTrayImageWrite (.direct who) img s = .next (answered
      (updArr s arr (fun a => writeTrayImage a s.dbg.traySel.toNat img.toNat)) who 0) := by
  have whole : leNat (leBytes 80 img.toNat) = img.toNat := leNat_leBytes_toNat (len := 80) img
  have applied : applyObj s (identNat who) (objAt 0xE100 4 0) (leBytes 80 img.toNat) noObs = updArr s s.dbg.arraySel.toNat (fun a =>
      writeTrayImage a s.dbg.traySel.toNat (leNat (leBytes 80 img.toNat))) := rfl
  rw [whole] at applied
  unfold execTrayImageWrite writeNum
  rw [writeAs_accepted h (by decide) rfl hc, applied, hsel]

/-! #### Proof runs -/

/-- A failed proof run leaves the array FAULTED (R730). -/
theorem execArrayProofRunDone_failed {s : State} {arr : Fin 64} {q : ProofReq}
    (hq : s.ev.proofs.find? (fun x => decide (x.slice = .array arr)) = some q) (hp : (arrOf s arr).pass = none) :
    ∃ t : State, execArrayProofRunDone arr false s = .next t ∧ ArrayFaulted arr t := by
  unfold execArrayProofRunDone
  simp only [hq, hp, Option.isSome_none, Bool.false_eq_true, if_false, Bool.false_and]
  exact ⟨_, rfl, lastingArray_faulted _ arr.isLt _⟩

/-- A passed one frees the array and reports the transient (R730), where its die has nothing to start. -/
theorem execArrayProofRunDone_passed {s : State} {arr : Fin 64} {q : ProofReq}
    (hq : s.ev.proofs.find? (fun x => decide (x.slice = .array arr)) = some q) (hp : (arrOf s arr).pass = none)
    (honce : q.persist = false) (hops : (seqOf s (arr / 8)).ops = []) :
    execArrayProofRunDone arr true s = .next (raise (updArr
      (updEv s (fun e => { e with proofs := e.proofs.filter (fun x => decide (x.slice ≠ .array arr)) })) arr
      (fun a => { a with proofRun := false })) 0x01 ukARRAY arr 5 q.inj) := by
  unfold execArrayProofRunDone
  simp only [hq, hp, honce, Option.isSome_none, Bool.false_eq_true, if_false, Bool.not_false, Bool.and_self, if_true]
  refine congrArg _ (startReady_empty ?_)
  unfold seqOf
  rw [raise_seqs]
  exact hops

/-- Settles O9: each command's checks pass, and what it does is said above. -/
theorem arrayControl : Obligations.ArrayControl := by
  intro s arr who
  refine ⟨fun seed hs hmay hheld hshown hout => ?_, fun n rd hs hsel hmay hheld hrun => ?_, fun hs hsel hmay hheld hst hops => ?_,
    fun img hs hsel hmay hheld hst hhi hmid => ?_, fun hh hd => ?_, fun q hq hp => ⟨?_, fun honce hops => ?_⟩⟩
  · exact execArraySeedWrite_accepted hs (checkDirect_arraySeed hmay hheld hshown hout (serving_resetting hs))
  · exact execArrayHaltRequest_accepted hs hsel hrun (checkDirect_halt (.inr rfl) hmay hheld (serving_resetting hs))
  · exact execArrayResume_accepted hs hsel hst hops (checkDirect_halt (.inl rfl) hmay hheld (serving_resetting hs))
  · have shown : arrShown s s.dbg.arraySel.toNat = .halted := by simp [arrShown, hsel, hst]
    exact execTrayImageWrite_accepted hs hsel (checkDirect_trayImage hmay hheld shown
      (by rw [bits_eq_div, hhi, Nat.zero_mod]) ((bits_eq_div _ _ _).trans hmid) (serving_resetting hs))
  · exact congrArg _ (if_pos ⟨hh, hd⟩)
  · obtain ⟨t, run, faulted⟩ := execArrayProofRunDone_failed hq hp
    exact ⟨t, run, faulted.st⟩
  · exact execArrayProofRunDone_passed hq hp honce hops

end Sys2Proof.Machine

namespace Sys2Proof.Machine

/-! ### Reels, cells and the moves that pass tiles

The rules of a reel's running move, of the verdict that a reel keeps of its last move, and of the cells that leave an endpoint;
from them the tiles of chapter 6 and the rendezvous of chapter 10. -/

/-! #### The running move -/

theorem runningMove_iff {s : State} {r : Nat} {m : Move} :
    runningMove s r = some m ↔ ∃ rest, (reelOf s r).queue = m :: rest ∧ m.started = true := by
  unfold runningMove
  rw [Option.filter_eq_some_iff]
  constructor
  · rintro ⟨hq, hm⟩
    obtain ⟨rest, hq⟩ := List.head?_eq_some_iff.mp hq
    exact ⟨rest, hq, hm⟩
  · rintro ⟨rest, hq, hm⟩
    exact ⟨by rw [hq, List.head?_cons], hm⟩

/-- A reel that runs a move is one of the 68. -/
theorem runningMove_lt {s : State} {r : Nat} {m : Move} (h : runningMove s r = some m) : r < 68 := by
  obtain ⟨rest, hq, -⟩ := runningMove_iff.mp h
  refine Nat.lt_of_not_le (fun hr => ?_)
  have absent : (reelOf s r).queue = [] := by
    unfold reelOf vget
    rw [dif_neg (Nat.not_lt.mpr hr)]
    rfl
  exact List.cons_ne_nil m rest (hq.symm.trans absent)

theorem runningMove_started {s : State} {r : Nat} {m : Move} (h : runningMove s r = some m) : m.started = true :=
  (runningMove_iff.mp h).choose_spec.2

/-- What leaves the queue of a reel leaves its running move. -/
theorem runningMove_of_queue {s t : State} {r : Nat} (h : (reelOf t r).queue = (reelOf s r).queue) :
    runningMove t r = runningMove s r := by
  unfold runningMove
  rw [h]

theorem runningMove_of_reels {s t : State} (h : t.reels = s.reels) (r : Nat) : runningMove t r = runningMove s r :=
  runningMove_of_queue (by unfold reelOf; rw [h])

@[simp] theorem updFabric_runningMove (s : State) (f : FabricS → FabricS) (r : Nat) :
    runningMove (updFabric s f) r = runningMove s r := rfl

@[simp] theorem countMove_runningMove (s : State) (r : Nat) : runningMove (countMove s) r = runningMove s r := rfl

/-- A change of a reel that keeps its queue. -/
theorem updReel_runningMove {s : State} {r : Nat} (hr : r < 68) {f : ReelS → ReelS} (h : (f (reelOf s r)).queue = (reelOf s r).queue) :
    runningMove (updReel s r f) r = runningMove s r :=
  runningMove_of_queue (by rw [updReel_same _ _ _ hr, h])

theorem updMove_reel {s : State} {r : Nat} (hr : r < 68) (f : Move → Move) :
    reelOf (updMove s r f) r = { reelOf s r with queue := match (reelOf s r).queue with
      | [] => []
      | m :: ms => f m :: ms } := updReel_same _ _ _ hr

/-- A change of the running move. -/
theorem updMove_runningMove {s : State} {r : Nat} {m : Move} (h : runningMove s r = some m) {f : Move → Move}
    (hf : (f m).started = true) : runningMove (updMove s r f) r = some (f m) := by
  obtain ⟨rest, hq, -⟩ := runningMove_iff.mp h
  refine runningMove_iff.mpr ⟨rest, ?_, hf⟩
  rw [updMove_reel (runningMove_lt h), hq]

/-- The access that a move waits on from now, or the same that it waited on (R207). -/
def waitOn (now cause addr : Nat) (m : Move) : Access :=
  match m.access with
  | some x => if x.cause = cause ∧ x.addr = addr then x else { cause := cause, addr := addr, since := now }
  | none => { cause := cause, addr := addr, since := now }

theorem waitOn_names (now cause addr : Nat) (m : Move) : (waitOn now cause addr m).cause = cause ∧ (waitOn now cause addr m).addr = addr := by
  unfold waitOn
  split
  · split
    · assumption
    · exact ⟨rfl, rfl⟩
  · exact ⟨rfl, rfl⟩

theorem reelWaits_runningMove {s : State} {r : Nat} {m : Move} (h : runningMove s r = some m) (cause addr : Nat) :
    runningMove (reelWaits s r cause addr) r = some { m with access := some (waitOn s.now cause addr m) } := by
  have kept : runningMove (updReel s r (fun x => if x.st = .moving then { x with st := .waiting } else x)) r = some m :=
    (updReel_runningMove (runningMove_lt h) (by split <;> rfl)).trans h
  refine (updMove_runningMove kept (runningMove_started (m := m) h)).trans ?_
  unfold waitOn
  cases m.access with
  | none => rfl
  | some x => dsimp only [updReel_now]; split <;> rfl

theorem reelMoves_runningMove {s : State} {r : Nat} {m : Move} (h : runningMove s r = some m) :
    runningMove (reelMoves s r) r = some { m with access := none } := by
  have kept : runningMove (updReel s r (fun x => if x.st = .waiting then { x with st := .moving } else x)) r = some m :=
    (updReel_runningMove (runningMove_lt h) (by split <;> rfl)).trans h
  exact updMove_runningMove kept (runningMove_started (m := m) h)

/-- A move that waits makes its reel wait. -/
theorem reelWaits_st {s : State} {r : Nat} (hr : r < 68) (cause addr : Nat) (h : (reelOf s r).st = .moving) :
    (reelOf (reelWaits s r cause addr) r).st = .waiting := by
  unfold reelWaits
  rw [updMove_reel hr, updReel_same _ _ _ hr]
  simp [h]

/-- The move whose tile is done stands before its next one. -/
def nextTile (now : Nat) (m : Move) : Move := { m with tile := m.tile + 1, since := now, parts := [], access := none }

theorem nextTile_runningMove {s : State} {r : Nat} {m : Move} (h : runningMove s r = some m) :
    runningMove (updMove (reelMoves s r) r (fun y => { y with tile := y.tile + 1, since := s.now, parts := [] })) r =
      some (nextTile s.now m) :=
  updMove_runningMove (reelMoves_runningMove h) (runningMove_started (m := m) h)

/-! #### The verdict of the last move

What ends operations, starts them and fails steps may withdraw a reel's moves and start others; the status and the address of
the last move that ended there stay as `endMove` left them (R251, R255). -/

/-- The status of a reel's last move and the address that it failed at (8800h:02 and 8800h:03). -/
def reelVerdict (s : State) (r : Nat) : U8 × U64 := ((reelOf s r).lastStatus, (reelOf s r).failAddr)

theorem reelVerdict_of_reels {s t : State} (h : t.reels = s.reels) (r : Nat) : reelVerdict t r = reelVerdict s r := by
  unfold reelVerdict reelOf
  rw [h]

/-- A change of a reel that is not the end of a move. -/
theorem updReel_verdict (s : State) (i : Nat) (f : ReelS → ReelS) (r : Nat)
    (h : ∀ x, (f x).lastStatus = x.lastStatus ∧ (f x).failAddr = x.failAddr := by exact fun _ => ⟨rfl, rfl⟩) :
    reelVerdict (updReel s i f) r = reelVerdict s r := by
  unfold reelVerdict
  by_cases hr : i = r
  · subst hr
    by_cases hi : i < 68
    · rw [updReel_same _ _ _ hi, (h _).1, (h _).2]
    · simp [reelOf, updReel, vmod, hi]
  · rw [updReel_ne _ _ _ _ hr]

@[simp] theorem updMove_verdict (s : State) (i : Nat) (f : Move → Move) (r : Nat) : reelVerdict (updMove s i f) r = reelVerdict s r :=
  updReel_verdict s i _ r

@[simp] theorem updPlace_reels (s : State) (pl : Place) (f : Mem → Mem) : (updPlace s pl f).reels = s.reels := by
  cases pl <;> rfl

@[simp] theorem placeStore_reels (s : State) (pl : Place) (a : Nat) (vs : List Byte) : (placeStore s pl a vs).reels = s.reels := by
  simp [placeStore]

@[simp] theorem scramble_reels (s : State) (r : Region) : (scramble s r).reels = s.reels := by simp [scramble]

@[simp] theorem scrambleAny_reels (s : State) (r : Region) : (scrambleAny s r).reels = s.reels := by
  unfold scrambleAny; split <;> simp

@[simp] theorem settleNeg_reels (s : State) (p : Nat) : (settleNeg s p).reels = s.reels := by
  unfold settleNeg
  dsimp only
  split
  · exact (foldl_keeps State.reels _ (fun t d => updSeq_reels t d _) _ _).trans (foldl_keeps State.reels _ scrambleAny_reels _ _)
  · rfl

@[simp] theorem checkStopped_reels (s : State) (p : Nat) : (checkStopped s p).reels = s.reels := by
  unfold checkStopped
  dsimp only
  split <;> rfl

@[simp] theorem endStep_reels (s : State) (die : Nat) : (endStep s die).reels = s.reels := by
  unfold endStep
  dsimp only
  split <;> simp

@[simp] theorem registerColl_reels (s : State) (die g desc op : Nat) : (registerColl s die g desc op).reels = s.reels := by
  unfold registerColl
  split <;> rfl

@[simp] theorem withdrawMoves_verdict (s : State) (die r : Nat) : reelVerdict (withdrawMoves s die) r = reelVerdict s r :=
  foldl_keeps (reelVerdict · r) _ (fun t i => updReel_verdict t (8 * die + i) _ r) _ _

@[simp] theorem haltIssue_verdict (s : State) (die reason r : Nat) : reelVerdict (haltIssue s die reason) r = reelVerdict s r :=
  (withdrawMoves_verdict _ die r).trans (reelVerdict_of_reels rfl r)

@[simp] theorem failStep_verdict (s : State) (die reason : Nat) (withheld : Bool) (r : Nat) :
    reelVerdict (failStep s die reason withheld) r = reelVerdict s r := by
  have halted (u : State) (h : u.reels = s.reels) : reelVerdict (haltIssue u die reason) r = reelVerdict s r :=
    (haltIssue_verdict u die reason r).trans (reelVerdict_of_reels h r)
  unfold failStep
  split
  · split
    · exact halted _ rfl
    · exact reelVerdict_of_reels rfl r
  · dsimp only
    refine (reelVerdict_of_reels (settleNeg_reels _ _) r).trans ?_
    refine (foldl_keeps (reelVerdict · r) _ (fun t d => ?_) _ _).trans (halted _ ?_)
    · split
      · rfl
      · exact haltIssue_verdict t d frPEER r
    · split <;> simp

@[simp] theorem startOp_verdict (s : State) (die : Nat) (o : OpRec) (r : Nat) : reelVerdict (startOp s die o) r = reelVerdict s r := by
  have failed (reason : Nat) (withheld : Bool) : reelVerdict (failStep (updSeq s die (dropOp o.id)) die reason withheld) r = reelVerdict s r :=
    (failStep_verdict ..).trans (reelVerdict_of_reels rfl r)
  unfold startOp
  split
  case h_1 =>
    dsimp only
    split
    · exact failed ..
    · split
      · exact failed ..
      · split <;> exact reelVerdict_of_reels rfl r
  case h_2 =>
    dsimp only
    split
    · exact failed ..
    · split <;> exact reelVerdict_of_reels rfl r
  case h_3 =>
    dsimp only
    split
    · exact failed ..
    · exact (reelVerdict_of_reels rfl r).trans ((updReel_verdict _ _ _ r).trans (reelVerdict_of_reels rfl r))
  case h_4 => exact reelVerdict_of_reels (registerColl_reels ..) r

@[simp] theorem startReady_verdict (s : State) (die r : Nat) : reelVerdict (startReady s die) r = reelVerdict s r := by
  unfold startReady
  split
  · rfl
  · refine foldl_keeps (reelVerdict · r) _ (fun t _ => ?_) _ _
    dsimp only
    split
    · split <;> simp
    · rfl

@[simp] theorem issueOp_verdict (s : State) (die : Nat) (b : OpBody) (collR collW : List Region) (sigc : Nat) (sige : Bool) (r : Nat) :
    reelVerdict (issueOp s die b collR collW sigc sige) r = reelVerdict s r := by
  unfold issueOp
  dsimp only
  rw [startReady_verdict]
  split
  · exact (updReel_verdict _ _ _ r).trans (reelVerdict_of_reels rfl r)
  · exact reelVerdict_of_reels rfl r

@[simp] theorem issueWord_verdict (s : State) (die : Nat) (w : Issue) (r : Nat) : reelVerdict (issueWord s die w) r = reelVerdict s r := by
  cases w with
  | op b sigc sige =>
    unfold issueWord
    dsimp only
    split
    · exact (issueOp_verdict ..).trans (reelVerdict_of_reels rfl r)
    · exact reelVerdict_of_reels rfl r
  | setx x v =>
    unfold issueWord
    dsimp only
    split <;> exact reelVerdict_of_reels rfl r

@[simp] theorem afterOps_verdict (s : State) (die r : Nat) : reelVerdict (afterOps s die) r = reelVerdict s r := by
  have settled (t : State) : reelVerdict (match partOfDie t die with | some p => settleNeg t p | none => t) r = reelVerdict t r := by
    split
    · exact reelVerdict_of_reels (settleNeg_reels _ _) r
    · rfl
  unfold afterOps
  dsimp only
  refine (settled _).trans ?_
  split
  · split
    · exact startReady_verdict s die r
    · exact (issueWord_verdict ..).trans (startReady_verdict s die r)
  · split
    · exact (reelVerdict_of_reels (endStep_reels _ _) r).trans (startReady_verdict s die r)
    · exact startReady_verdict s die r
  · exact startReady_verdict s die r

@[simp] theorem abortOp_verdict (s : State) (die id reason : Nat) (withheld : Bool) (r : Nat) :
    reelVerdict (abortOp s die id reason withheld) r = reelVerdict s r :=
  (afterOps_verdict _ die r).trans ((failStep_verdict ..).trans (reelVerdict_of_reels rfl r))

@[simp] theorem startIod_verdict (s : State) (i r : Nat) : reelVerdict (startIod s i) r = reelVerdict s r := by
  unfold startIod
  split
  · rfl
  · split
    · rfl
    · exact (updMove_verdict ..).trans ((updReel_verdict _ _ _ r).trans (reelVerdict_of_reels rfl r))

/-- A move that fails leaves its status and the address of its access at its reel (R251, R255). -/
theorem endMove_failed {s : State} {r status : Nat} {m : Move} (h : runningMove s r = some m) (hs : status ≠ 0) (addr : Nat) :
    reelVerdict (endMove s r status addr) r = (BitVec.ofNat 8 status, BitVec.ofNat 64 addr) := by
  obtain ⟨rest, hq, -⟩ := runningMove_iff.mp h
  have scrambled (t : State) (l : List Region) : (l.foldl scramble t).reels = t.reels := foldl_keeps State.reels _ scramble_reels l t
  have ended (f : ReelS → ReelS) (hf : ∀ x, (f x).lastStatus = BitVec.ofNat 8 status ∧ (f x).failAddr = BitVec.ofNat 64 addr) :
      reelVerdict (updReel (closeMoveFlows s r m.seqno) r f) r = (BitVec.ofNat 8 status, BitVec.ofNat 64 addr) := by
    unfold reelVerdict
    rw [updReel_same _ _ _ (runningMove_lt h), (hf _).1, (hf _).2]
  have indeterminate (t : State) (c : Prop) [Decidable c] (l : List Region) :
      reelVerdict (if c then t else l.foldl scramble t) r = reelVerdict t r := by
    split
    · rfl
    · exact reelVerdict_of_reels (scrambled _ _) r
  unfold endMove
  simp only [hq, hs, if_false, false_or]
  split
  · rw [startIod_verdict, reelVerdict_of_reels (setCause_reels ..), reelVerdict_of_reels (raise_reels ..), indeterminate]
    exact ended _ (fun _ => ⟨rfl, rfl⟩)
  · rw [abortOp_verdict, indeterminate]
    exact ended _ (fun _ => ⟨rfl, rfl⟩)

/-! #### Cells that leave an endpoint

A cell that is sent goes into an output queue or is dropped: the flows, the reels and every storage stay (R416 to R421). -/

/-- What the report of an unreachable destination writes: the events and the date of the report. -/
theorem raiseUnreach_only (s : State) (d : Nat) :
    raiseUnreach s d = { s with ev := (raiseUnreach s d).ev, fabric := { s.fabric with unreach := (raiseUnreach s d).fabric.unreach } } := by
  unfold raiseUnreach
  dsimp only
  split
  · rw [if_pos rfl, raise_only_ev]; rfl
  · split
    · rw [raise_only_ev]; rfl
    · rfl

/-- What sending a cell writes: the events, the output queues, and the counters and dates of cells. -/
theorem inject_only (s : State) (c : BitVec 512) :
    inject s c = { s with ev := (inject s c).ev, fabric := { s.fabric with
      outs := (inject s c).fabric.outs, forwarded := (inject s c).fabric.forwarded, marked := (inject s c).fabric.marked
      dropRoute := (inject s c).fabric.dropRoute, unreach := (inject s c).fabric.unreach } } := by
  unfold inject
  dsimp only
  split
  · rfl
  · split
    · rfl
    · rfl
    · rw [raiseUnreach_only]; rfl

@[simp] theorem inject_now (s : State) (c : BitVec 512) : (inject s c).now = s.now := by rw [inject_only]
@[simp] theorem inject_reels (s : State) (c : BitVec 512) : (inject s c).reels = s.reels := by rw [inject_only]
@[simp] theorem inject_mem (s : State) (c : BitVec 512) : (inject s c).mem = s.mem := by rw [inject_only]
@[simp] theorem inject_arrays (s : State) (c : BitVec 512) : (inject s c).arrays = s.arrays := by rw [inject_only]
@[simp] theorem inject_flowsIn (s : State) (c : BitVec 512) : (inject s c).fabric.flowsIn = s.fabric.flowsIn := by rw [inject_only]
@[simp] theorem inject_flowsOut (s : State) (c : BitVec 512) : (inject s c).fabric.flowsOut = s.fabric.flowsOut := by rw [inject_only]

section
variable (s : State) (typ dmem dep sep flow payload : Nat)

@[simp] theorem sendControl_reels : (sendControl s typ dmem dep sep flow payload).reels = s.reels := inject_reels ..
@[simp] theorem sendControl_mem : (sendControl s typ dmem dep sep flow payload).mem = s.mem := inject_mem ..
@[simp] theorem sendControl_arrays : (sendControl s typ dmem dep sep flow payload).arrays = s.arrays := inject_arrays ..
@[simp] theorem sendControl_flowsIn : (sendControl s typ dmem dep sep flow payload).fabric.flowsIn = s.fabric.flowsIn :=
  inject_flowsIn ..

end

/-- A rate context that comes into use writes the rate contexts. -/
theorem useRate_only (s : State) (member vc : Nat) :
    useRate s member vc = { s with fabric := { s.fabric with rates := (useRate s member vc).fabric.rates } } := by
  unfold useRate
  split <;> rfl

section
variable (s : State) (o : FlowOut) (data : List Byte) (status : Nat)

/-- What each cell of a message leaves, and the flow's own record too, the message leaves. -/
theorem sendMessage_keeps {C : Type} (g : State → C) (hcell : ∀ t c, g (inject t c) = g t) :
    g (sendMessage s o data status) = g (updFlowOut (useRate s o.peer o.vc) o.ep o.peer o.peerEp o.slot (fun y => { y with
      cells := y.cells ++ messageCells s o o.next data status, next := y.next + (messageCells s o o.next data status).length
      timerAt := if y.low = y.next then s.now else y.timerAt })) := by
  unfold sendMessage
  exact foldl_keeps g _ (fun (t : State) (c : Nat × BitVec 512) => hcell t c.2) _ _

@[simp] theorem sendMessage_now : (sendMessage s o data status).now = s.now := by
  rw [sendMessage_keeps s o data status State.now inject_now, useRate_only]; rfl
@[simp] theorem sendMessage_reels : (sendMessage s o data status).reels = s.reels := by
  rw [sendMessage_keeps s o data status State.reels inject_reels, useRate_only]; rfl
@[simp] theorem sendMessage_mem : (sendMessage s o data status).mem = s.mem := by
  rw [sendMessage_keeps s o data status State.mem inject_mem, useRate_only]; rfl
@[simp] theorem sendMessage_arrays : (sendMessage s o data status).arrays = s.arrays := by
  rw [sendMessage_keeps s o data status State.arrays inject_arrays, useRate_only]; rfl

/-- A message on a flow closes no flow and renames none. -/
theorem sendMessage_sameFlowOut (ep peer peerEp slot : Nat) :
    (sendMessage s o data status).fabric.flowsOut.any (fun y => sameFlowOut y ep peer peerEp slot) =
      s.fabric.flowsOut.any (fun y => sameFlowOut y ep peer peerEp slot) := by
  rw [sendMessage_keeps s o data status (fun t => t.fabric.flowsOut.any (fun y => sameFlowOut y ep peer peerEp slot))
    (fun t c => by rw [inject_flowsOut]), useRate_only]
  simp only [updFlowOut, updFabric, List.any_map]
  congr 1
  funext y
  simp only [Function.comp_apply]
  split <;> rfl

end

/-! #### Time -/

/-- Time moves a reel's wait counters and nothing else of it. -/
theorem reelWait_queue (n : Nat) (s : State) (i r : Nat) : (reelOf (reelWait n s i) r).queue = (reelOf s r).queue := by
  unfold reelWait
  split
  · split
    · by_cases hr : i = r
      · subst hr
        by_cases hi : i < 68
        · rw [updReel_same _ _ _ hi]
        · simp [reelOf, updReel, vmod, hi]
      · rw [updReel_ne _ _ _ _ hr]
    · rfl
  · rfl

theorem seqStall_reels (n : Nat) (s : State) (d : Nat) : (seqStall n s d).reels = s.reels := by
  unfold seqStall
  split <;> rfl

theorem drainPort_reels (t dt : Nat) (s : State) (q : Nat) : (drainPort t dt s q).reels = s.reels := by
  unfold drainPort
  split <;> rfl

theorem timeCounters_queue (s : State) (dt n r : Nat) : (reelOf (timeCounters s dt n) r).queue = (reelOf s r).queue := by
  have stalled (u : State) : ((List.range 8).foldl (seqStall n) u).reels = u.reels := foldl_keeps State.reels _ (seqStall_reels n) _ u
  unfold timeCounters reelOf
  dsimp only
  rw [stalled]
  exact foldl_keeps (fun u => (reelOf u r).queue) _ (fun u i => reelWait_queue dt u i r) _ s

theorem elapse_queue (s : State) (dt r : Nat) : (reelOf (elapse s dt) r).queue = (reelOf s r).queue := by
  have drained (u : State) : ((List.range 48).foldl (drainPort s.now dt) u).reels = u.reels :=
    foldl_keeps State.reels _ (drainPort_reels s.now dt) _ u
  rw [← timeCounters_queue s dt ((stuElapse s.clk dt).stepTime.toNat - s.clk.stepTime.toNat) r]
  unfold elapse reelOf
  dsimp only
  rw [drained]

/-- A running move goes on over time. -/
@[simp] theorem advanceTo_runningMove (s : State) (t r : Nat) : runningMove (advanceTo s t) r = runningMove s r := by
  refine runningMove_of_queue ?_
  unfold advanceTo
  split
  · rfl
  · exact elapse_queue s _ r

/-! #### Bytes that have just been written

Whatever form a storage is in, a run of bytes that was just written reads back as written. -/

/-- Cells that all lie above an address: it reads blank. -/
theorem sliceFrom_above (blank : Nat → Byte) (n a : Nat) (cs : List Host.Cell) (h : ∀ c ∈ cs, a < c.1) :
    sliceFrom blank (n + 1) a cs = blank a :: sliceFrom blank n (a + 1) cs := by
  cases cs with
  | nil => rfl
  | cons c cs =>
    obtain ⟨b, v⟩ := c
    have hb : a < b := h (b, v) (List.mem_cons_self ..)
    simp only [sliceFrom]
    rw [if_neg (by omega)]

theorem sliceFrom_cellsOf (blank : Nat → Byte) (vs : List Byte) (a : Nat) (rest : List Host.Cell)
    (h : ∀ c ∈ rest, a + vs.length ≤ c.1) : sliceFrom blank vs.length a (cellsOf blank a vs ++ rest) = vs := by
  induction vs generalizing a with
  | nil => cases rest <;> rfl
  | cons v vs ih =>
    have above : ∀ c ∈ rest, a + 1 + vs.length ≤ c.1 := fun c hc => by
      have := h c hc
      simp only [List.length_cons] at this
      omega
    simp only [cellsOf, List.length_cons]
    split
    next hv =>
      rw [sliceFrom_above, ih (a + 1) above, hv]
      intro c hc
      rcases List.mem_append.mp hc with hc | hc
      · have := (cellsOf_mem hc).1
        omega
      · have := above c hc
        omega
    next => simp [sliceFrom, ih (a + 1) above]

theorem memLoadN_memStore_self (m : Mem) (a : Nat) (vs : List Byte) : memLoadN (memStore m a vs) a vs.length = vs := by
  have below : (m.cells.filter (fun c => decide (c.1 < a))).filter (fun c => decide (a ≤ c.1)) = [] := by
    rw [List.filter_filter, List.filter_eq_nil_iff]
    intro c _
    simp
  have written : (cellsOf (memBlank m) a vs).filter (fun c => decide (a ≤ c.1)) = cellsOf (memBlank m) a vs :=
    List.filter_eq_self.mpr (fun c hc => decide_eq_true (cellsOf_mem hc).1)
  unfold memLoadN
  simp only [memStore, List.filter_append, below, written, List.nil_append]
  refine sliceFrom_cellsOf _ vs a _ (fun c hc => ?_)
  exact of_decide_eq_true (List.mem_filter.mp (List.mem_filter.mp hc).1).2

theorem placeLoadN_placeStore_self (s : State) {pl : Place} (h : placeHolds pl = true) (a : Nat) (vs : List Byte) :
    placeLoadN (placeStore s pl a vs) pl a vs.length = vs := by
  unfold placeLoadN
  rw [placeMem_placeStore_same _ _ _ _ h, memLoadN_memStore_self]

/-- A write to a place leaves every other place, and what lies outside its range. -/
theorem memLoad_placeStore_other (s : State) {pl : Place} (h : placeHolds pl = true) (a : Nat) (vs : List Byte) (q : Place) (x : Nat)
    (hx : q ≠ pl ∨ x < a ∨ a + vs.length ≤ x) : memLoad (placeMem (placeStore s pl a vs) q) x = memLoad (placeMem s q) x := by
  by_cases e : q = pl
  · subst e
    rw [placeMem_placeStore_same _ _ _ _ h, memLoad_memStore_other (by simpa using hx)]
  · rw [placeMem_placeStore_ne _ _ _ _ _ e]

/-! #### Where an address lies -/

theorem bits_lt (n hi lo : Nat) : bits n hi lo < 2 ^ (hi + 1 - lo) := by
  rw [bits_eq_div]
  exact Nat.mod_lt _ (Nat.two_pow_pos _)

/-- The units that the address of each tier can name (R212). -/
theorem addrF_unit {x : Nat} {a : Addr} (h : addrF x = some a) :
    match a.tier with
    | .loc => a.unit / 16 < 8 ∧ a.unit % 16 ≤ 8
    | .hbm | .store => a.unit < 8
    | _ => True := by
  unfold addrF at h
  dsimp only at h
  split at h
  · contradiction
  · split at h
    case h_6 => contradiction
    case h_3 =>
      split at h
      next hloc =>
        obtain rfl := Option.some.inj h
        have := bits_lt (bits x 51 0) 29 27
        dsimp only
        omega
      next => contradiction
    case h_1 =>
      split at h
      · obtain rfl := Option.some.inj h
        exact bits_lt (bits x 51 0) 40 38
      · contradiction
    case h_2 =>
      split at h
      · obtain rfl := Option.some.inj h
        exact bits_lt (bits x 51 0) 32 30
      · contradiction
    case h_4 | h_5 =>
      split at h
      · obtain rfl := Option.some.inj h
        trivial
      · contradiction

/-- An address of this package other than a host window's names storage of its tiers. -/
theorem addrPlace_holds {s : State} {part x : Nat} {a : Addr} (h : addrF x = some a) (hown : addrOwn s a = true) (htier : a.tier ≠ .host)
    (hpart : part < 8) : placeHolds (addrPlace s part a) = true := by
  have unit := addrF_unit h
  unfold addrPlace
  rw [if_pos hown]
  cases ht : a.tier with
  | hbm => rw [ht] at unit; simpa [placeHolds] using unit
  | store => rw [ht] at unit; simpa [placeHolds] using unit
  | loc =>
    rw [ht] at unit
    obtain ⟨hdie, hlocal⟩ := unit
    dsimp only
    split
    · simpa [placeHolds] using hdie
    · simp only [placeHolds, decide_eq_true_eq]
      omega
  | flash => simpa [placeHolds] using hpart
  | host => exact absurd ht htier

/-! #### A tile that is fetched -/

theorem fetchStat_unread {m : Move} (h : (descF m.desc).statr = false) (s : State) (r i : Nat) (other : Byte) :
    fetchStat s r m i other = .ok s [] other := by
  unfold fetchStat
  simp [h]

/-- A tiled source in this package's tiers, with nothing known wrong and its first access still to make, gives its bytes and
changes nothing (R236, R238). -/
theorem fetchTile_tiled {s : State} {r : Nat} {m : Move} {a : Addr} (hq : Quiet s) (hlay : (descF m.desc).slay = 0)
    (hstat : (descF m.desc).statr = false) (ha : addrF (srcAddr m m.tile) = some a) (hown : addrOwn s a = true) (htier : a.tier ≠ .host)
    (hparts : m.parts = []) (hasked : tileAsked s r m m.tile = false)
    (hcheck : accessCheck s r m.part (srcAddr m m.tile) (tileBytes (descF m.desc).efmt) false = none)
    (hruns : accessRuns s r (srcAddr m m.tile) (tileBytes (descF m.desc).efmt) = true) (peer : PeerSays) :
    ∃ st : Byte, fetchTile s r m m.tile .clean peer =
      .ok s (placeLoadN s (addrPlace s m.part a) a.off (tileBytes (descF m.desc).efmt)) st := by
  have span (pitch : Nat) : tileSpan 0 (descF m.desc).efmt pitch = tileBytes (descF m.desc).efmt := rfl
  refine ⟨(keptStatus s (addrPlace s m.part a) a.off).getD 0#8, ?_⟩
  unfold fetchTile
  simp [hlay, span, hparts, hasked, hcheck, ha, hown, htier, hruns, readRuns_quiet hq, withStat, fetchStat_unread hstat, readTile]

/-! #### A tile that lands -/

/-- The state in which a tile has landed at an address of this package's tiers (R232, R236, R237). -/
def tileLanded (s : State) (r : Nat) (m : Move) (b : Addr) (data : List Byte) (st : Byte) : State :=
  updReel (countRuns (putStatus (placeStore s (addrPlace s m.part b) b.off data) (addrPlace s m.part b) b.off (descF m.desc).efmt
      (descF m.desc).eint 0 st) (addrPlace s m.part b) [(b.off, data)]) r
    (fun y => { y with bytes := bumpBy y.bytes data.length })

theorem mergeBad_none {s : State} (h : s.mem.bad = []) (pl : Place) (a len : Nat) : mergeBad s pl a len = none := by
  unfold mergeBad
  simp [h]

/-- A tile lands in a tiled destination of this package where the access is let through and runs. -/
theorem landTile_tiled {s : State} {r i : Nat} {m : Move} {b : Addr} (hbad : s.mem.bad = []) (hlay : (descF m.desc).dlay = 0)
    (hstat : (descF m.desc).statw = false) (hb : addrF (dstAddr m i) = some b) (hown : addrOwn s b = true) (htier : b.tier ≠ .host)
    (hcheck : accessCheck s r m.part (dstAddr m i) (tileBytes (descF m.desc).efmt) true = none)
    (hruns : accessRuns s r (dstAddr m i) (tileBytes (descF m.desc).efmt) = true) (data : List Byte) (st : Byte) :
    landTile s r m i data st = .ok (tileLanded s r m b data st) [] st := by
  have span (pitch : Nat) : tileSpan 0 (descF m.desc).efmt pitch = tileBytes (descF m.desc).efmt := rfl
  have ready (cells : Nat) : storeReady s r m b cells = true := by simp [storeReady, hown, htier]
  have statDone (t : State) : putStat t r m i st = .ok t [] st := by simp [putStat, hstat]
  unfold landTile
  simp [hlay, span, hcheck, hb, hown, hruns, ready, statReady, hstat, writeRuns, mergeBad_none hbad, statDone, putRuns,
    tileLanded]

/-! What stands where a tile has landed, and at its reel. -/

@[simp] theorem placeStore_now (s : State) (pl : Place) (a : Nat) (vs : List Byte) : (placeStore s pl a vs).now = s.now := by
  cases pl <;> rfl

@[simp] theorem putStatus_reels (s : State) (q : Place) (off efmt : Nat) (eint : Bool) (lay : Nat) (st : Byte) :
    (putStatus s q off efmt eint lay st).reels = s.reels := by
  unfold putStatus
  split
  · rfl
  · split <;> rfl
  · rfl

@[simp] theorem putStatus_now (s : State) (q : Place) (off efmt : Nat) (eint : Bool) (lay : Nat) (st : Byte) :
    (putStatus s q off efmt eint lay st).now = s.now := by
  unfold putStatus
  split
  · rfl
  · split <;> rfl
  · rfl

/-- Counting the bytes written to flash writes the flash stacks' records. -/
theorem countRuns_keeps {C : Type} (g : State → C) (h : ∀ t i f, g (updFlash t i f) = g t) (s : State) (q : Place)
    (runs : List (Nat × List Byte)) : g (countRuns s q runs) = g s := by
  unfold countRuns
  split
  next p => exact foldl_keeps g _ (fun t _ => foldl_keeps g _ (fun u _ => h u _ _) _ t) _ s
  next => rfl

@[simp] theorem countRuns_reels (s : State) (q : Place) (runs : List (Nat × List Byte)) : (countRuns s q runs).reels = s.reels :=
  countRuns_keeps State.reels (fun _ _ _ => rfl) s q runs

@[simp] theorem countRuns_now (s : State) (q : Place) (runs : List (Nat × List Byte)) : (countRuns s q runs).now = s.now :=
  countRuns_keeps State.now (fun _ _ _ => rfl) s q runs

@[simp] theorem updReel_placeMem (s : State) (i : Nat) (f : ReelS → ReelS) (pl : Place) : placeMem (updReel s i f) pl = placeMem s pl := by
  cases pl <;> rfl

/-- A change of an array's record outside its buffers. -/
theorem updArr_placeMem (s : State) (i : Nat) (f : ArrayS → ArrayS) (pl : Place)
    (h : ∀ x, (f x).bufs = x.bufs := by exact fun _ => rfl) : placeMem (updArr s i f) pl = placeMem s pl := by
  cases pl with
  | buf k =>
    unfold placeMem
    dsimp only
    by_cases hk : i = k
    · subst hk
      by_cases hi : i < 64
      · rw [updArr_same _ _ _ hi, h]
      · simp [arrOf, updArr, vmod, hi]
    · rw [updArr_ne _ _ _ _ hk]
  | _ => rfl

/-- A change of a VXE's record outside its storage. -/
theorem updVxe_placeMem (s : State) (i : Nat) (f : VxeS → VxeS) (pl : Place)
    (h : ∀ x, (f x).mem = x.mem := by exact fun _ => rfl) : placeMem (updVxe s i f) pl = placeMem s pl := by
  cases pl with
  | vxe k =>
    unfold placeMem
    dsimp only
    by_cases hk : i = k
    · subst hk
      by_cases hi : i < 8
      · rw [updVxe_same _ _ _ hi, h]
      · simp [vxeOf, updVxe, vmod, hi]
    · rw [updVxe_ne _ _ _ _ hk]
  | _ => rfl

@[simp] theorem putStatus_placeMem (s : State) (q : Place) (off efmt : Nat) (eint : Bool) (lay : Nat) (st : Byte) (pl : Place) :
    placeMem (putStatus s q off efmt eint lay st) pl = placeMem s pl := by
  unfold putStatus
  split
  · exact updArr_placeMem s _ _ pl
  · split
    · exact updVxe_placeMem s _ _ pl
    · rfl
  · rfl

@[simp] theorem updFlash_placeMem (s : State) (i : Nat) (f : FlashS → FlashS) (pl : Place) :
    placeMem (updFlash s i f) pl = placeMem s pl := by
  cases pl <;> rfl

@[simp] theorem countRuns_placeMem (s : State) (q : Place) (runs : List (Nat × List Byte)) (pl : Place) :
    placeMem (countRuns s q runs) pl = placeMem s pl :=
  countRuns_keeps (fun t => placeMem t pl) (fun t i f => updFlash_placeMem t i f pl) s q runs

theorem tileLanded_placeMem (s : State) (r : Nat) (m : Move) (b : Addr) (data : List Byte) (st : Byte) (pl : Place) :
    placeMem (tileLanded s r m b data st) pl = placeMem (placeStore s (addrPlace s m.part b) b.off data) pl := by
  simp [tileLanded]

/-- The reel of a tile that has landed has counted its bytes. -/
theorem tileLanded_reel (s : State) {r : Nat} (hr : r < 68) (m : Move) (b : Addr) (data : List Byte) (st : Byte) :
    reelOf (tileLanded s r m b data st) r = { reelOf s r with bytes := bumpBy (reelOf s r).bytes data.length } := by
  unfold tileLanded
  rw [updReel_same _ _ _ hr]
  simp [reelOf]

theorem tileLanded_now (s : State) (r : Nat) (m : Move) (b : Addr) (data : List Byte) (st : Byte) :
    (tileLanded s r m b data st).now = s.now := by
  simp [tileLanded]

/-! #### One tile of COPY and FILL (R234, R236 to R239) -/

/-- A tile of a move has landed where its descriptor says and nowhere else, its reel has counted it, and the next tile is
due. -/
def TilePassed (s t : State) (r : Nat) (m : Move) (b : Addr) (bytes : List Byte) : Prop :=
  placeLoadN t (addrPlace s m.part b) b.off (tileBytes (descF m.desc).efmt) = bytes ∧
  (∀ (pl : Place) (x : Nat), pl ≠ addrPlace s m.part b ∨ x < b.off ∨ b.off + tileBytes (descF m.desc).efmt ≤ x →
    memLoad (placeMem t pl) x = memLoad (placeMem s pl) x) ∧
  (reelOf t r).bytes = bumpBy (reelOf s r).bytes (tileBytes (descF m.desc).efmt) ∧
  runningMove t r = some (nextTile s.now m)

@[simp] theorem updMove_placeMem (s : State) (r : Nat) (f : Move → Move) (pl : Place) : placeMem (updMove s r f) pl = placeMem s pl :=
  updReel_placeMem s r _ pl

@[simp] theorem reelMoves_placeMem (s : State) (r : Nat) (pl : Place) : placeMem (reelMoves s r) pl = placeMem s pl := by
  simp [reelMoves]

@[simp] theorem updMove_bytes (s : State) {r : Nat} (hr : r < 68) (f : Move → Move) :
    (reelOf (updMove s r f) r).bytes = (reelOf s r).bytes := by
  rw [updMove_reel hr]

@[simp] theorem reelMoves_bytes (s : State) {r : Nat} (hr : r < 68) : (reelOf (reelMoves s r) r).bytes = (reelOf s r).bytes := by
  unfold reelMoves
  rw [updMove_bytes _ hr, updReel_same _ _ _ hr]
  split <;> rfl

/-- A move with tiles left passes to its next one. -/
theorem tileDone_more {m : Move} (hmore : m.tile + 1 < (descF m.desc).nt) (s : State) (r : Nat) :
    tileDone s r m = updMove (reelMoves s r) r (fun y => { y with tile := y.tile + 1, since := s.now, parts := [] }) := by
  unfold tileDone
  rw [if_pos hmore]

theorem storeRefused_silent (s : State) (r : Nat) (m : Move) : storeRefused s r m 0 = none := by
  simp [storeRefused]

section
variable {s : State} {r : Nat} {m : Move} {b : Addr} (hm : runningMove s r = some m) (hbad : s.mem.bad = []) (hpart : m.part < 8)
  (hmore : m.tile + 1 < (descF m.desc).nt) (hlay : (descF m.desc).dlay = 0) (hstat : (descF m.desc).statw = false)
  (hb : addrF (dstAddr m m.tile) = some b) (hown : addrOwn s b = true) (htier : b.tier ≠ .host)
  (hcheck : accessCheck s r m.part (dstAddr m m.tile) (tileBytes (descF m.desc).efmt) true = none)
  (hruns : accessRuns s r (dstAddr m m.tile) (tileBytes (descF m.desc).efmt) = true)
include hm hbad hpart hmore hlay hstat hb hown htier hcheck hruns

/-- A tile's bytes land in a tiled destination of this package, and the next tile is due (R236 to R238). -/
theorem finishTile_passes {data : List Byte} (hlen : data.length = tileBytes (descF m.desc).efmt) (st : Byte) :
    TilePassed s (finishTile s r m data st) r m b data := by
  have hr := runningMove_lt hm
  have holds := addrPlace_holds (part := m.part) hb hown htier hpart
  have running : runningMove (tileLanded s r m b data st) r = some m :=
    (runningMove_of_queue (by rw [tileLanded_reel s hr])).trans hm
  have finished : finishTile s r m data st = updMove (reelMoves (tileLanded s r m b data st) r) r (fun y =>
      { y with tile := y.tile + 1, since := (tileLanded s r m b data st).now, parts := [] }) := by
    unfold finishTile
    rw [landTile_tiled hbad hlay hstat hb hown htier hcheck hruns]
    exact tileDone_more hmore _ r
  rw [finished]
  refine ⟨?_, fun pl x hx => ?_, ?_, ?_⟩
  · have back := placeLoadN_placeStore_self s holds b.off data
    rw [hlen] at back
    unfold placeLoadN at back ⊢
    rw [updMove_placeMem, reelMoves_placeMem, tileLanded_placeMem, back]
  · rw [updMove_placeMem, reelMoves_placeMem, tileLanded_placeMem]
    exact memLoad_placeStore_other s holds b.off data pl x (by rwa [hlen])
  · rw [updMove_bytes _ hr, reelMoves_bytes _ hr, tileLanded_reel s hr, hlen]
  · rw [nextTile_runningMove running, tileLanded_now]


end

theorem execFill_tile {s : State} {r : Fin 68} {m : Move} (hm : runningMove s r = some m) (hkind : moveKind m = 3)
    (hserves : reelServes s r = true) (hmore : m.tile < (descF m.desc).nt) :
    execFill r s = .next (finishTile s r m (List.replicate (tileBytes (descF m.desc).efmt) 0#8) 0#8) := by
  unfold execFill
  simp [hm, hkind, hserves, storeRefused_silent, Nat.not_le.mpr hmore]

/-- A COPY whose source can be read passes its tile on. -/
theorem execReelCopy_tile {s : State} {r : Fin 68} {m : Move} {data : List Byte} {st : Byte} (hm : runningMove s r = some m)
    (hkind : moveKind m = 0) (hserves : reelServes s r = true) (hmore : m.tile < (descF m.desc).nt)
    (hfetch : fetchTile s r m m.tile .clean 0 = .ok s data st) : execReelCopy r .clean 0 s = .next (finishTile s r m data st) := by
  unfold execReelCopy
  simp [hm, hkind, hserves, storeRefused_silent, Nat.not_le.mpr hmore, hfetch]

/-- Settles O26: a FILL's tile of zeros and a COPY's tile as its source holds it land by the same rule. -/
theorem reelTilesLandWhereTheDescriptorSays : Obligations.ReelTilesLandWhereTheDescriptorSays := by
  intro s r m b hq hm hserves hpart hmore hlay hstat hb hown htier hcheck hruns
  have tiles := Nat.lt_of_succ_lt hmore
  have passes {data : List Byte} (hlen : data.length = tileBytes (descF m.desc).efmt) (st : Byte) :=
    finishTile_passes hm hq.2 hpart hmore hlay hstat hb hown htier hcheck hruns hlen st
  refine ⟨fun hkind => ?_, fun a hkind hslay hstatr ha haown hatier hparts hasked hacheck haruns => ?_⟩
  · exact ⟨_, execFill_tile hm hkind hserves tiles, passes List.length_replicate _⟩
  · obtain ⟨st, fetched⟩ := fetchTile_tiled hq hslay hstatr ha haown hatier hparts hasked hacheck haruns 0
    exact ⟨_, execReelCopy_tile hm hkind hserves tiles fetched, passes (memLoadN_length _ _ _) st⟩

/-! #### SEND and RECV (R240, R242) -/

@[simp] theorem countMove_reelOf (s : State) (r : Nat) : reelOf (countMove s) r = reelOf s r := rfl

/-- The state in which a RECV has posted itself: it waits for its offer, in its order of posting (R240). -/
def recvPosted (s : State) (r : Nat) (m : Move) : State :=
  countMove (updMove (reelWaits s r 4 (dstAddr m 0)) r (fun y => { y with phase := .offered, seqno := s.mem.moves }))

theorem execRecv_posts {s : State} {r : Fin 68} {m : Move} (hm : runningMove s r = some m) (hkind : moveKind m = 2)
    (hserves : reelServes s r = true) (hfence : fenced s (descF m.desc).peer = false) (hphase : m.phase = .waiting) :
    execRecv r s = .next (recvPosted s r m) := by
  unfold execRecv
  simp [hm, hkind, hserves, hfence, orphaned, hphase, storeRefused_silent, recvPosted]

theorem recvPosted_runningMove {s : State} {r : Nat} {m : Move} (hm : runningMove s r = some m) :
    runningMove (recvPosted s r m) r = some { m with
      phase := .offered, seqno := s.mem.moves, access := some (waitOn s.now 4 (dstAddr m 0) m) } :=
  (countMove_runningMove _ r).trans (updMove_runningMove (reelWaits_runningMove hm 4 _) (runningMove_started (m := m) hm))

theorem recvPosted_st {s : State} {r : Nat} {m : Move} (hm : runningMove s r = some m) (hst : (reelOf s r).st = .moving) :
    (reelOf (recvPosted s r m) r).st = .waiting := by
  have hr := runningMove_lt hm
  unfold recvPosted
  rw [countMove_reelOf, updMove_reel hr]
  exact reelWaits_st hr 4 (dstAddr m 0) hst

/-- An offer goes out and is dated. -/
theorem sendRts_runningMove {s : State} {r : Nat} {m n : Move} (h : runningMove s r = some n) :
    runningMove (sendRts s r m) r = some { n with rtsAt := s.now } :=
  (runningMove_of_reels (sendControl_reels ..) r).trans (updMove_runningMove h (runningMove_started (m := n) h))

theorem sendRts_mem (s : State) (r : Nat) (m : Move) : (sendRts s r m).mem = s.mem := sendControl_mem ..
theorem sendRts_arrays (s : State) (r : Nat) (m : Move) : (sendRts s r m).arrays = s.arrays := sendControl_arrays ..

section
variable {s : State} {r : Fin 68} {m : Move} (hm : runningMove s r = some m) (hkind : moveKind m = 1) (hserves : reelServes s r = true)
  (hpeer : isOwn s (descF m.desc).peer = false) (hfence : fenced s (descF m.desc).peer = false)
include hm hkind hserves hpeer hfence

theorem execSend_offers (hphase : m.phase = .waiting) : execSend r .clean s =
    .next (sendRts (updMove (reelWaits s r 4 (srcAddr m 0)) r (fun y => { y with phase := .offered })) r m) := by
  unfold execSend
  simp [hm, hkind, hserves, hpeer, hfence, hphase]

/-- A granted SEND whose tile can be read and fits the window of its flow transmits it (R242). -/
theorem execSend_transmits {o : FlowOut} {data : List Byte} {st : Byte} (hphase : m.phase = .matched)
    (hmore : m.tile < (descF m.desc).nt) (hstat : (descF m.desc).statw = false)
    (hflow : s.fabric.flowsOut.find? (fun o => decide (o.use = .reel r m.seqno)) = some o)
    (hfits : fitsWindow o (cellsFor (tileBytes (descF m.desc).efmt)) = true)
    (hfetch : fetchTile s r m m.tile .clean 0 = .ok s data st) :
    execSend r .clean s = .next (tileSent (sendMessage s o data st.toNat) r m) := by
  unfold execSend
  simp [hm, hkind, hserves, hpeer, hfence, hphase, Nat.not_le.mpr hmore, hflow, hfits, statReady, hstat, hfetch, putStat]

end

/-- A SEND with tiles left passes to its next one. -/
theorem tileSent_more {m : Move} (hmore : m.tile + 1 < (descF m.desc).nt) (s : State) (r : Nat) :
    tileSent s r m = updMove (reelMoves s r) r (fun y => { y with tile := y.tile + 1, since := s.now, parts := [] }) := by
  unfold tileSent
  rw [if_pos hmore]

/-! #### Watchdogs (R250) -/

/-- An access past its limit ends the move with TIMEOUT at the address of the access. -/
theorem execReelWatchdogTimeout_ends {s : State} {r : Fin 68} {m : Move} (hm : runningMove s r = some m) (hserves : reelServes s r = true)
    (hlim : (vget m.limits (accessCause s m) 0#32).toNat ≠ 0) :
    ∃ t, execReelWatchdogTimeout r s = .next t ∧ reelVerdict t r = (5#8, BitVec.ofNat 64 (accessAddr s m)) := by
  have running (n : Nat) : runningMove (timeOutOps (advanceTo s n) r m.seqno) r = some m :=
    (runningMove_of_reels rfl r).trans ((advanceTo_runningMove s n r).trans hm)
  have ends : execReelWatchdogTimeout r s = .next (endMove (timeOutOps (advanceTo s
      (accessSince m + 1000 * (vget m.limits (accessCause s m) 0#32).toNat)) r m.seqno) r 5 (accessAddr s m)) := by
    unfold execReelWatchdogTimeout
    simp [hm, hlim, hserves]
  exact ⟨_, ends, endMove_failed (running _) (by decide) _⟩

/-! #### IOD reels (R246, R247) -/

/-- The start of a move at an IOD reel writes the reel and the count of moves. -/
theorem startIod_keeps {C : Type} (g : State → C) (hreel : ∀ t i f, g (updReel t i f) = g t) (hcount : ∀ t, g (countMove t) = g t)
    (s : State) (r : Nat) : g (startIod s r) = g s := by
  unfold startIod
  split
  · rfl
  · split
    · rfl
    · exact (hreel ..).trans ((hreel ..).trans (hcount s))

theorem queueIod_keeps {C : Type} (g : State → C) (hreel : ∀ t i f, g (updReel t i f) = g t) (hcount : ∀ t, g (countMove t) = g t)
    (s : State) (r who part : Nat) (d : BitVec 512) : g (queueIod s r who part d) = g s :=
  (startIod_keeps g hreel hcount _ r).trans (hreel ..)

/-- The descriptors of a reel's queue and whose they are. -/
def queuedDescs (s : State) (r : Nat) : List (BitVec 512 × Nat) := (reelOf s r).queue.map (fun x => (x.desc, x.part))

/-- The head of an IOD reel's queue starts in its place. -/
theorem startIod_queuedDescs (s : State) {r : Nat} (hr : r < 68) : queuedDescs (startIod s r) r = queuedDescs s r := by
  unfold startIod
  split
  next => rfl
  next m rest hq =>
    split
    · rfl
    · unfold queuedDescs
      rw [updMove_reel hr, updReel_same _ _ _ hr]
      have same : (reelOf (countMove s) r).queue = m :: rest := hq
      simp only [same, hq, List.map_cons]

theorem queueIod_queuedDescs (s : State) {r : Nat} (hr : r < 68) (who part : Nat) (d : BitVec 512) :
    queuedDescs (queueIod s r who part d) r = queuedDescs s r ++ [(d, part)] := by
  unfold queueIod
  rw [startIod_queuedDescs _ hr]
  unfold queuedDescs
  rw [updReel_same _ _ _ hr]
  simp only [List.map_append, List.map_cons, List.map_nil]

/-! The object 8800h:05 of an IOD reel. -/

theorem existence_iodDescriptor (k : Fin 4) : existence (objAt 0x8800 5 (64 + k)) = 0 := by
  have : ¬ 67 < 64 + k.val := by omega
  simp [existence, objAt, layoutOf, objRows, objInfo, rows8800, objRow, ninstOf, this]

theorem rowOf_iodDescriptor (i : Nat) : rowOf (objAt 0x8800 5 i) = objRow 5 10 2 64 64 1 0 := by
  simp [rowOf, objInfo, objAt, layoutOf, objRows, rows8800, objRow]

/-- A descriptor's bytes spell the descriptor. -/
theorem descOfBytes (d : BitVec 512) : BitVec.ofNat 512 (leNat (leBytes 64 d.toNat)) = d := by
  rw [leNat_leBytes_toNat (len := 64) d, BitVec.ofNat_toNat, BitVec.setWidth_eq]

theorem driverPart_driver (p : Fin 8) : driverPart (identNat (.driver p)) = some p.val := by
  have num : identNat (.driver p) = 0x20 + p.val := rfl
  unfold driverPart
  rw [num, if_pos ⟨Nat.le_add_right _ _, by omega⟩, Nat.add_sub_cancel_left]

theorem mayWrite_iodDescriptor (s : State) (k : Fin 4) (p : Fin 8) (data : List Byte) :
    mayWrite s (identNat (.driver p)) (objAt 0x8800 5 (64 + k)) data = true := by
  have notClaim : identNat (.driver p) ≠ idCLAIM := by
    have num : identNat (.driver p) = 0x20 + p.val := rfl
    unfold idCLAIM
    omega
  simp [mayWrite, notClaim, objAt, mayWriteUnit, isDriver, driverPart_driver]

/-- A driver's descriptor passes its checks where its fields, its ranges and the queue let it through. -/
theorem checkDirect_iodDescriptor {s after : State} {k : Fin 4} {p : Fin 8} {d : BitVec 512}
    (hheld : objHeld s (objAt 0x8800 5 (64 + k)) = false) (hres : descReserved d = false) (hlay : descLayoutBad d = false)
    (hin : iodOutside s p d = false) (hroom : iodFull s (64 + k) p = false) (hst : (reelOf s (64 + k)).st ≠ .outOfService)
    (hreset : s.sys.resetting = []) :
    checkDirect s after (identNat (.driver p)) (objAt 0x8800 5 (64 + k)) (leBytes 64 d.toNat) = 0 := by
  refine checkDirect_passes (existence_iodDescriptor k) (by rw [rowOf_iodDescriptor]; decide) (mayWrite_iodDescriptor s k p _) rfl hheld ?_
  refine checkValue_passes ?_ ?_ ?_ rfl ?_ ?_
  · rw [rowOf_iodDescriptor, leBytes_length]; decide
  · simp [rangeBad, objAt, layoutOf, descOfBytes, driverPart_driver, hlay, hin]
  · simp [reservedBad, objAt, layoutOf, descOfBytes, hres]
  · simp [unitDown, aonObject, objAt, hreset, hst]
  · simp [resourceBad, objAt, layoutOf, driverPart_driver, hroom]

/-- A descriptor that its checks let through joins its queue. -/
theorem execIodReelDescriptor_accepted {s : State} {k : Fin 4} {p : Fin 8} {d : BitVec 512} (h : Serving s)
    (hc : checkDirect s (afterCommits s) (identNat (.driver p)) (objAt 0x8800 5 (64 + k)) (leBytes 64 d.toNat) = 0) :
    execIodReelDescriptor (.direct (.driver p)) k d s =
      .next (answered (queueIod s (64 + k) (identNat (.driver p)) p d) (.driver p) 0) := by
  have applied : applyObj s (identNat (.driver p)) (objAt 0x8800 5 (64 + k)) (leBytes 64 d.toNat) noObs =
      queueIod s (64 + k) (identNat (.driver p)) ((driverPart (identNat (.driver p))).getD 8)
        (BitVec.ofNat 512 (leNat (leBytes 64 d.toNat))) := rfl
  rw [descOfBytes, driverPart_driver] at applied
  have notGroup : isGroup (objAt 0x8800 5 (64 + k)) = false := by
    have : ¬ 0xF00 ≤ 64 + k.val := by omega
    simp [isGroup, objAt, ninstOf, this]
  unfold execIodReelDescriptor writeNum
  rw [writeAs_accepted h (by decide) notGroup hc, applied]
  rfl

/-- Settles O27: each command does the one thing that its rule above says. -/
theorem fabricMovesAndWatchdogs : Obligations.FabricMovesAndWatchdogs := by
  intro s r m hm hserves
  refine ⟨fun hkind hfence hphase hst => ?_, fun hkind hpeer hfence => ⟨fun hphase => ?_, ?_⟩, fun hlim => ?_, ?_⟩
  · obtain ⟨hcause, haddr⟩ := waitOn_names s.now 4 (dstAddr m 0) m
    exact ⟨recvPosted s r m, waitOn s.now 4 (dstAddr m 0) m, execRecv_posts hm hkind hserves hfence hphase, recvPosted_runningMove hm,
      hcause, haddr, recvPosted_st hm hst, rfl, rfl, rfl, rfl⟩
  · obtain ⟨hcause, haddr⟩ := waitOn_names s.now 4 (srcAddr m 0) m
    have offered := updMove_runningMove (f := fun y => { y with phase := .offered }) (reelWaits_runningMove hm 4 (srcAddr m 0))
      (runningMove_started (m := m) hm)
    exact ⟨_, waitOn s.now 4 (srcAddr m 0) m, execSend_offers hm hkind hserves hpeer hfence hphase, sendRts_runningMove offered,
      hcause, haddr, sendRts_mem .., sendRts_arrays ..⟩
  · intro a o hq hphase hmore hslay hstatr hstatw ha hown htier hparts hasked hcheck hruns hflow hfits
    obtain ⟨st, fetched⟩ := fetchTile_tiled hq hslay hstatr ha hown htier hparts hasked hcheck hruns 0
    have sent := execSend_transmits hm hkind hserves hpeer hfence hphase (Nat.lt_of_succ_lt hmore) hstatw hflow hfits fetched
    rw [tileSent_more hmore] at sent
    refine ⟨_, sent, ?_, sendMessage_mem .., sendMessage_arrays ..⟩
    rw [nextTile_runningMove ((runningMove_of_reels (sendMessage_reels ..) r).trans hm), sendMessage_now]
    rfl
  · obtain ⟨t, ended, verdict⟩ := execReelWatchdogTimeout_ends hm hserves hlim
    exact ⟨t, ended, congrArg Prod.fst verdict, congrArg Prod.snd verdict⟩
  · intro k p d hs hheld hres hlay hin hroom hst
    have passes := checkDirect_iodDescriptor (after := afterCommits s) hheld hres hlay hin hroom hst (serving_resetting hs)
    exact ⟨_, execIodReelDescriptor_accepted hs passes, queueIod_queuedDescs s (by omega) _ _ d,
      queueIod_keeps State.seqs (fun _ _ _ => rfl) (fun _ => rfl) .., queueIod_keeps State.arrays (fun _ _ _ => rfl) (fun _ => rfl) ..,
      queueIod_keeps State.vxes (fun _ _ _ => rfl) (fun _ => rfl) ..⟩

/-! #### Offers and grants (R240, R241, R423, R424, R468) -/

theorem sendGrant_reels (s : State) (ep peer peerEp tag slot first : Nat) (size : Bool) :
    (sendGrant s ep peer peerEp tag slot first size).reels = s.reels := sendControl_reels ..

/-- The offer as the record of what was answered with SIZE names it. -/
def offerKey (ep peer peerEp tag nt efmt : Nat) (eint : Bool) : List Nat := [ep, peer, peerEp, tag, nt, efmt, eint.toNat]

section
variable {s : State} {ep peer peerEp tag nt efmt r : Nat} {eint : Bool} {m : Move}
  (hnew : grantedFlow s ep peer peerEp tag = none) (hmatch : matchRecv s ep peer tag = some r) (hm : runningMove s r = some m)
include hnew hmatch hm

/-- An offer of the shape of the RECV that it meets is granted the free slot. -/
theorem reelOffer_granted {k : Nat} (hslot : freeSlot s ep = some k) (hnt : (descF m.desc).nt = nt) (hefmt : (descF m.desc).efmt = efmt)
    (heint : (descF m.desc).eint = eint) :
    reelOffer s ep peer peerEp tag nt efmt eint = sendGrant (updMove (updFabric s (fun x => { x with
      flowsIn := x.flowsIn ++ [newFlowIn s ep k peer peerEp (.reel r m.seqno)]
      sized := x.sized.filter (fun y => y ≠ offerKey ep peer peerEp tag nt efmt eint) })) r
      (fun y => { y with phase := .matched, flow := k })) ep peer peerEp tag k (slotFirst s ep k) false := by
  unfold reelOffer
  simp only [hnew, hmatch, hm, hnt, hefmt, heint, hslot, and_self, if_true]
  rfl

/-- An offer of another number of tiles ends the RECV with SIZE. -/
theorem reelOffer_sized (hnt : (descF m.desc).nt ≠ nt) :
    ∃ t, reelOffer s ep peer peerEp tag nt efmt eint = endMove t r 9 (descF m.desc).dst ∧ t.reels = s.reels := by
  unfold reelOffer
  simp only [hnew, hmatch, hm, hnt, false_and, if_false]
  exact ⟨_, rfl, sendGrant_reels ..⟩

end

/-- Every offer of an open member from one that is not fenced comes to its endpoint. -/
theorem execRtsReceived_reel {s : State} {ep peerEp : Fin 16} {peer tag : U16} {nt : U32} {efmt : Fin 8} {eint : Bool} {sig : U64}
    (hopen : ingressClosed s = false) (hfence : fenced s peer.toNat = false) (hep : ep.val ≠ 8) :
    execRtsReceived ep peer peerEp tag nt efmt eint s sig =
      .next (reelOffer s ep peer.toNat peerEp tag.toNat nt.toNat efmt eint) := by
  unfold execRtsReceived
  simp [hopen, hfence, hep]

theorem execGrantReceived_reel {s : State} {ep peerEp : Fin 16} {peer tag : U16} {slot : Fin 4096} {first : Fin 16777216}
    (hopen : ingressClosed s = false) (hfence : fenced s peer.toNat = false) (hep : ep.val ≠ 8) :
    execGrantReceived ep peer peerEp tag slot first false s =
      .next (reelGranted s ep peer.toNat peerEp tag.toNat slot first false) := by
  unfold execGrantReceived
  simp [hopen, hfence, hep]

theorem execGrantReceived_cle {s : State} {peerEp : Fin 16} {peer tag : U16} {slot : Fin 4096} {first : Fin 16777216}
    (hopen : ingressClosed s = false) (hfence : fenced s peer.toNat = false) :
    execGrantReceived 8 peer peerEp tag slot first false s = .next (cleGranted s peer.toNat peerEp tag.toNat slot first) := by
  have closed : ¬(fenced s peer.toNat = true ∨ ingressClosed s = true) := by simp [hopen, hfence]
  unfold execGrantReceived
  rw [if_neg closed, if_pos (show (8 : Fin 16).val = 8 from rfl)]
  rfl

/-- A GRANT opens the flow of the SEND that it answers. -/
theorem reelGranted_opens {s : State} {ep peer peerEp tag slot first r : Nat} {m : Move}
    (hsend : grantedSend s ep peer peerEp tag = some r) (hm : runningMove s r = some m) :
    reelGranted s ep peer peerEp tag slot first false = updMove (updFabric (reelMoves s r) (fun x => { x with
      flowsOut := x.flowsOut ++ [newFlowOut s ep peer peerEp slot (if (descF m.desc).vcb then 3 else 2) first (.reel r m.seqno)] })) r
      (fun y => { y with phase := .matched, flow := slot }) := by
  unfold reelGranted
  simp only [hsend, hm]
  rfl

/-- A GRANT to the CLE opens the offered flow of the call that it names, on VC1 (R465). -/
theorem cleGranted_opens {s : State} {peer peerEp tag slot first i : Nat} (hslot : slotOfTag s peer tag = some i)
    (hoffer : (slotOf s i).offers.any (fun o => decide (o.1 = peer)) = true) :
    cleGranted s peer peerEp tag slot first = updSlot (updFabric s (fun x => { x with
      flowsOut := x.flowsOut ++ [newFlowOut s 8 peer peerEp slot 1 first (.cle i)] })) i (fun x => { x with
        offers := x.offers.filter (fun q => decide (q.1 ≠ peer)) }) := by
  unfold cleGranted
  simp only [hslot, hoffer, if_true]

/-- An offer without a GRANT goes again 100 µs after it went. -/
theorem reelReoffer_again {s : State} {r : Nat} {m : Move} (hm : runningMove s r = some m) (hkind : moveKind m = 1)
    (hphase : m.phase = .offered) (hpeer : isOwn s (descF m.desc).peer = false) :
    reelReoffer s r = sendRts (advanceTo s (m.rtsAt + 100000)) r m := by
  unfold reelReoffer
  simp [hm, hkind, hphase, hpeer]

theorem execRtsRepeat_call {s : State} {i : Fin 64} {peer : U16} {t : Nat} (hoffer : lookupNat peer.toNat (slotOf s i).offers = some t)
    (hst : (slotOf s i).st = .agreeing ∨ (slotOf s i).st = .running) :
    execRtsRepeat (.call i peer) s = .next (sendCallRts (advanceTo s (t + 100000)) i peer.toNat) := by
  unfold execRtsRepeat
  simp only [hoffer, hst, if_true]

/-! #### Board loads (R220, R435, R621) -/

/-- The bytes that a board load spans at its address (layout 3 stands for one byte). -/
def loadSpan (lay : Fin 4) (efmt : Fin 8) (pitch : U16) : Nat := if lay.val = 3 then 1 else tileSpan lay efmt pitch.toNat

/-- The state in which the answer of a board load has gone out on a flow of its own (R435). -/
def loadAnswered (s : State) (ep peer peerEp slot first : Nat) (data : List Byte) : State :=
  sendMessage (updFabric s (fun x => { x with flowsOut := x.flowsOut ++ [newFlowOut s ep peer peerEp slot 2 first .answer] }))
    (newFlowOut s ep peer peerEp slot 2 first .answer) data 0

/-- The bytes that answer a board load: one byte for layout 3, else a tile. -/
def loadData (s : State) (a : Addr) (lay efmt pitch : Nat) : List Byte :=
  if lay = 3 then placeLoadN s (if a.tier = .hbm then .hbm a.unit else .store a.unit) a.off 1
  else readTile s (if a.tier = .hbm then .hbm a.unit else .store a.unit) a.off lay efmt pitch

theorem loadAnswered_flow (s : State) (ep peer peerEp slot first : Nat) (data : List Byte) :
    (loadAnswered s ep peer peerEp slot first data).fabric.flowsOut.any (fun o => sameFlowOut o ep peer peerEp slot) = true := by
  unfold loadAnswered
  rw [sendMessage_sameFlowOut]
  simp [updFabric, newFlowOut, sameFlowOut]

theorem loadAnswered_mem (s : State) (ep peer peerEp slot first : Nat) (data : List Byte) :
    (loadAnswered s ep peer peerEp slot first data).mem = s.mem := sendMessage_mem ..

section
variable {s : State} {peer : U16} {peerEp : Fin 16} {slot : Fin 4096} {first : Fin 16777216} {addr : U64} {lay : Fin 4} {efmt : Fin 8}
  {pitch : U16} {a : Addr} (hopen : ingressClosed s = false) (hfence : fenced s peer.toNat = false) (ha : addrF addr.toNat = some a)
include hopen hfence ha

/-- A load that no grant admits is refused with its status, and nothing else is done. -/
theorem execBreadReceived_refused (hno : a.tier ≠ .hbm ∧ a.tier ≠ .store ∨
      boardAdmits s (peer.toNat % 4) peerEp (bits addr.toNat 55 52) a.unit a.off (loadSpan lay efmt pitch) false = false) :
    execBreadReceived peer peerEp slot first addr lay efmt pitch .clean s = .next
      (sendControl s 8 peer.toNat peerEp (a.unit % 8) slot (Config.ctrlPayload 8 [slot, 6])) := by
  have refused : peerAccess s peer.toNat peerEp addr.toNat a (loadSpan lay efmt pitch) false = 6 := by
    unfold peerAccess
    exact if_pos hno
  have untouched : refusedAccess s addr.toNat (loadSpan lay efmt pitch) 6 = s := by simp [refusedAccess, ha]
  unfold loadSpan at refused untouched
  unfold execBreadReceived
  simp [hopen, hfence, ha, refused, untouched]

/-- A load that a grant admits, of storage with nothing known wrong, is answered, or its answer is on its way. -/
theorem execBreadReceived_answered (hq : Quiet s)
    (hadmit : peerAccess s peer.toNat peerEp addr.toNat a (loadSpan lay efmt pitch) false = 0) :
    execBreadReceived peer peerEp slot first addr lay efmt pitch .clean s =
      .next (loadAnswered s a.unit peer.toNat peerEp slot first (loadData s a lay efmt pitch.toNat)) ∨
    (s.fabric.flowsOut.any (fun o => sameFlowOut o a.unit peer.toNat peerEp slot) = true ∧
      execBreadReceived peer peerEp slot first addr lay efmt pitch .clean s = .next s) := by
  have enters : ¬(fenced s peer.toNat = true ∨ ingressClosed s = true) := by simp [hopen, hfence]
  unfold loadSpan at hadmit
  unfold execBreadReceived
  rw [if_neg enters]
  by_cases hflow : s.fabric.flowsOut.any (fun o => sameFlowOut o a.unit peer.toNat peerEp slot) = true
  · exact .inr ⟨hflow, by simp only [ha, hadmit, hflow, ne_eq, not_true_eq_false, if_false, if_true]⟩
  · refine .inl ?_
    simp only [ha, hadmit, hflow, ne_eq, not_true_eq_false, if_false, readCheck_quiet hq]
    rfl

end

/-- An unanswered load is asked for again. -/
theorem execBreadRepeat_asks {s : State} {r : Fin 68} {m : Move} {i : FlowIn} (hm : runningMove s r = some m) (hbase : i.base = 0)
    (hflow : s.fabric.flowsIn.find? (fun i => decide (i.use = .load r m.seqno)) = some i) :
    execBreadRepeat r s = .next (sendControl s 7 i.peer i.peerEp i.ep i.slot
      (breadPayload i.slot i.first (if loadsTile s m then askTile m else askStat m))) := by
  unfold execBreadRepeat
  simp only [hm, hflow, hbase, if_true]

/-- Settles O37: each arrival and each repetition does the one thing that its rule above says. -/
theorem rendezvousAndBoardLoads : Obligations.RendezvousAndBoardLoads := by
  intro s hopen peer hfence
  refine ⟨?_, ?_, ?_, ?_, ?_, ?_, fun r m i hm hbase hflow => execBreadRepeat_asks hm hbase hflow⟩
  · intro ep peerEp tag nt efmt eint sig r m hep hnew hmatch hm
    have offered := execRtsReceived_reel (peerEp := peerEp) (tag := tag) (nt := nt) (efmt := efmt) (eint := eint) (sig := sig)
      hopen hfence hep
    refine ⟨fun k hslot hnt hefmt heint => ?_, fun hnt => ?_⟩
    · rw [reelOffer_granted hnew hmatch hm hslot hnt hefmt heint] at offered
      refine ⟨_, offered, ?_, sendControl_flowsIn .., sendControl_mem ..⟩
      rw [runningMove_of_reels (sendGrant_reels ..)]
      exact updMove_runningMove ((updFabric_runningMove s _ r).trans hm) (runningMove_started (m := m) hm)
    · obtain ⟨u, sized, kept⟩ := reelOffer_sized (peerEp := peerEp) (efmt := efmt) (eint := eint) hnew hmatch hm hnt
      rw [sized] at offered
      exact ⟨_, offered, congrArg Prod.fst (endMove_failed ((runningMove_of_reels kept r).trans hm) (by decide) _)⟩
  · intro r m hm hkind hphase hpeer
    refine ⟨_, congrArg Host.Outcome.next (reelReoffer_again hm hkind hphase hpeer), ?_⟩
    rw [sendRts_runningMove ((advanceTo_runningMove s _ r).trans hm), advanceTo_now]
  · exact fun i t0 hoffer hst => execRtsRepeat_call hoffer hst
  · intro peerEp tag slot first i hslot hoffer
    have granted := execGrantReceived_cle (peerEp := peerEp) (tag := tag) (slot := slot) (first := first) hopen hfence
    rw [cleGranted_opens hslot hoffer] at granted
    exact ⟨_, granted, rfl, rfl⟩
  · intro ep peerEp tag slot first r m hep hsend hm
    have granted := execGrantReceived_reel (peerEp := peerEp) (tag := tag) (slot := slot) (first := first) hopen hfence hep
    rw [reelGranted_opens hsend hm] at granted
    exact ⟨_, granted, updMove_runningMove ((updFabric_runningMove _ _ r).trans (reelMoves_runningMove hm))
      (runningMove_started (m := m) hm), rfl, rfl⟩
  · intro peerEp slot first addr lay efmt pitch a ha
    refine ⟨fun hno => execBreadReceived_refused hopen hfence ha hno, fun hq hadmit => ?_⟩
    obtain answers | ⟨hflow, answered⟩ := execBreadReceived_answered (slot := slot) (first := first) hopen hfence ha hq hadmit
    · exact ⟨_, answers, loadAnswered_flow .., loadAnswered_mem ..⟩
    · exact ⟨s, answered, hflow, rfl⟩

end Sys2Proof.Machine

namespace Sys2Proof.Machine

/-! ### Discovery

Rounds A and B and the finish of a discovery give engines their ports. What else lights and darkens ports on the way leaves
alone the ports that engines have, which engines are out of service, the lasers, and all of the fabric but the records of its
ports and their queues. `placement` is that part of the state. -/

/-- The fabric but for the queues of its ports. -/
def fabricSansQueues (s : State) : FabricS := { s.fabric with outs := Vector.replicate 48 OutPort.reset }

/-- The port that an engine has, and whether it is out of service. -/
def engineSeat (s : State) (e : Nat) : Option Nat × Bool := ((engOf s e).port, decide ((engOf s e).st = .outOfService))

/-- Where engines stand, with the lasers and the fabric's settings. -/
def placement (s : State) : FabricS × Vector LaserS 16 × (Nat → Option Nat × Bool) :=
  ({ fabricSansQueues s with ports := Vector.replicate 48 PortS.reset }, s.optics.lasers, engineSeat s)

/-- The part of the placement that no reassignment of ports writes: the fabric's settings, and who is out of service. -/
def standing (s : State) : FabricS × (Nat → Bool) := ((placement s).1, fun e => (engineSeat s e).2)

theorem standing_of_placement {s t : State} (h : placement t = placement s) : standing t = standing s :=
  congrArg (fun p : FabricS × Vector LaserS 16 × (Nat → Option Nat × Bool) => (p.1, fun e => (p.2.2 e).2)) h

theorem engineSeat_of_placement {s t : State} (h : placement t = placement s) (e : Nat) : engineSeat t e = engineSeat s e :=
  congrArg (fun p : FabricS × Vector LaserS 16 × (Nat → Option Nat × Bool) => p.2.2 e) h

theorem sheet_of_standing {s t : State} (h : standing t = standing s) : t.fabric.sheet = s.fabric.sheet :=
  congrArg (fun p => p.1.sheet) h
theorem discState_of_standing {s t : State} (h : standing t = standing s) : t.fabric.discState = s.fabric.discState :=
  congrArg (fun p => p.1.discState) h
theorem discPlaced_of_standing {s t : State} (h : standing t = standing s) : t.fabric.discPlaced = s.fabric.discPlaced :=
  congrArg (fun p => p.1.discPlaced) h
theorem inService_of_standing {s t : State} (h : standing t = standing s) {e : Nat} :
    (engOf t e).st ≠ .outOfService ↔ (engOf s e).st ≠ .outOfService :=
  not_congr (decide_eq_decide.mp (congrArg (fun p => p.2 e) h))

/-! #### What leaves the placement alone -/

@[simp] theorem updOptPort_placement (s : State) (q : Nat) (f : OptPortS → OptPortS) : placement (updOptPort s q f) = placement s := rfl
@[simp] theorem updLane_placement (s : State) (l : Nat) (f : LaneS → LaneS) : placement (updLane s l f) = placement s := rfl
@[simp] theorem dropCells_placement (s : State) (q : Nat) : placement (dropCells s q) = placement s := rfl

@[simp] theorem raise_placement (s : State) (code uk ui det : Nat) (inj : Bool) :
    placement (raise s code uk ui det inj) = placement s := by
  rw [raise_only_ev]
  rfl

@[simp] theorem downgrade_placement (s : State) (p kept broken k : Nat) : placement (downgrade s p kept broken k) = placement s := by
  rw [downgrade_only_ev]
  rfl

/-- An update of an engine writes the placement through the seat of that engine alone. -/
theorem updEng_engineSeat (s : State) {e : Nat} (he : e < 32) (f : EngineS → EngineS) (k : Nat) : engineSeat (updEng s e f) k =
    if e = k then ((f (engOf s e)).port, decide ((f (engOf s e)).st = .outOfService)) else engineSeat s k := by
  unfold engineSeat
  split
  next h => rw [← h, updEng_same _ _ _ he]
  next h => rw [updEng_ne _ _ _ _ h]

/-- There are 32 engines. -/
theorem updEng_outside (s : State) {e : Nat} (he : ¬ e < 32) (f : EngineS → EngineS) : updEng s e f = s := by
  simp [updEng, updOptics, vmod, he]

/-- An engine that keeps its port, and is out of service where it was, keeps its seat. -/
theorem updEng_placement {s : State} {e : Nat} {f : EngineS → EngineS} (hport : (f (engOf s e)).port = (engOf s e).port)
    (hst : (f (engOf s e)).st = .outOfService ↔ (engOf s e).st = .outOfService) : placement (updEng s e f) = placement s := by
  refine Prod.ext rfl (Prod.ext rfl (funext fun k => ?_))
  by_cases he : e < 32
  · refine (updEng_engineSeat s he f k).trans ?_
    split
    next h => subst h; rw [hport, decide_eq_decide.mpr hst]; rfl
    next => rfl
  · rw [updEng_outside s he]

@[simp] theorem updRing_placement (s : State) (e i : Nat) (f : RingS → RingS) : placement (updRing s e i f) = placement s :=
  updEng_placement rfl Iff.rfl

@[simp] theorem updRings_placement (s : State) (e : Nat) (f : Nat → RingS → RingS) : placement (updRings s e f) = placement s :=
  updEng_placement rfl Iff.rfl

/-- What updates of rings and lanes and the queue of proof runs leave alone, lanes that take a state leave alone. -/
theorem setLanes_keeps {C : Type} (g : State → C) (hev : ∀ (t : State) (ev : EventS), g { t with ev := ev } = g t)
    (hring : ∀ t e i f, g (updRing t e i f) = g t) (hlane : ∀ t l f, g (updLane t l f) = g t) (s : State) (e : Nat) (st : LaneState) :
    g (setLanes s e st) = g s := by
  have loops (t : State) (rs : List Nat) (x : LoopState) : g (setLoops t e rs x) = g t := foldl_keeps g _ (fun _ _ => hring ..) _ _
  have dropped (t : State) (l : Nat) : g (dropRelock t l) = g t := by
    unfold dropRelock
    split
    · rfl
    · exact foldl_keeps g _ (fun _ _ => hring ..) _ _
  refine (foldl_keeps g _ (fun t l => ?_) _ _).trans (hev ..)
  split
  · exact (loops ..).trans (hlane ..)
  · exact (hlane ..).trans (dropped ..)

@[simp] theorem setLanes_placement (s : State) (e : Nat) (st : LaneState) : placement (setLanes s e st) = placement s :=
  setLanes_keeps placement (fun _ _ => rfl) updRing_placement updLane_placement s e st

/-- What lanes and rings, and an engine that goes dark, leave alone, an engine without a port leaves alone. -/
theorem noPort_keeps {C : Type} (g : State → C) (hlanes : ∀ t e st, g (setLanes t e st) = g t)
    (hrings : ∀ t e f, g (updRings t e f) = g t)
    (hdark : ∀ t e, g (updEng t e (fun x => { x with st := if x.st = .outOfService then x.st else .dark })) = g t)
    (s : State) (e : Nat) : g (noPort s e) = g s := by
  unfold noPort
  dsimp only
  rw [hrings, hlanes, hdark]

@[simp] theorem noPort_placement (s : State) (e : Nat) : placement (noPort s e) = placement s :=
  noPort_keeps placement setLanes_placement updRings_placement
    (fun _ _ => updEng_placement rfl (by dsimp only; split <;> simp [*])) s e

theorem noPort_fabric (s : State) (e : Nat) : (noPort s e).fabric = s.fabric :=
  noPort_keeps State.fabric (setLanes_keeps _ (fun _ _ => rfl) (fun _ _ _ _ => rfl) (fun _ _ _ => rfl))
    (fun _ _ _ => rfl) (fun _ _ => rfl) s e

theorem noPort_now (s : State) (e : Nat) : (noPort s e).now = s.now :=
  noPort_keeps State.now (setLanes_keeps _ (fun _ _ => rfl) (fun _ _ _ _ => rfl) (fun _ _ _ => rfl))
    (fun _ _ _ => rfl) (fun _ _ => rfl) s e

/-- An engine that lights a port is in service. -/
theorem engineOfPort_inService {s : State} {q e : Nat} (h : engineOfPort s q = some e) : (engOf s e).st ≠ .outOfService :=
  have found : decide ((engOf s e).port = some q ∧ (engOf s e).st ≠ .outOfService) = true :=
    List.find?_some (p := fun e => decide ((engOf s e).port = some q ∧ (engOf s e).st ≠ .outOfService)) h
  (of_decide_eq_true found).2

@[simp] theorem reacquire_placement (s : State) (e : Nat) : placement (reacquire s e) = placement s := updRings_placement ..

@[simp] theorem downgradeRunning_placement (s : State) (kept broken k : Nat) : placement (downgradeRunning s kept broken k) = placement s :=
  foldl_keeps placement _ (fun t p => by split <;> simp) _ s

theorem enterSafelight_placement (s : State) (q cause : Nat) : placement (enterSafelight s q cause) = placement s := by
  unfold enterSafelight
  split
  next => rfl
  next e hq =>
    have safe : placement (updEng (dropCells s q) e (fun x => { x with st := .safe })) = placement s :=
      updEng_placement rfl ⟨nofun, fun h => absurd h (engineOfPort_inService hq)⟩
    have drawn (t : State) : placement (drawFree t).2 = placement t := rfl
    have counted (t : State) : placement (updOptics t (fun o => { o with entries := bump o.entries })) = placement t := rfl
    split
    · rfl
    · dsimp only
      split <;> simp [drawn, counted, safe]

theorem newlyLit_placement {s : State} {e : Nat} (h : (engOf s e).st ≠ .outOfService) (q : Nat) :
    placement (newlyLit s e q) = placement s :=
  (enterSafelight_placement ..).trans (updEng_placement rfl ⟨nofun, fun x => absurd x h⟩)

theorem steerEngine_placement (s : State) (e : Nat) : placement (steerEngine s e) = placement s := by
  unfold steerEngine
  split
  · rfl
  next hmay =>
    have serves : (engOf s e).st ≠ .outOfService := by
      intro h
      exact hmay (by simp [mayLight, h])
    split
    · exact noPort_placement s e
    · exact (newlyLit_placement ((inService_of_standing (standing_of_placement (by simp))).mpr serves) _).trans (by simp)

theorem holdSteering_placement (s : State) (e : Nat) : placement (holdSteering s e) = placement s := updRings_placement ..

/-- An engine that is given a port has it, and nothing else of the placement changes (R317). -/
theorem remapEngine_placement (s : State) (e : Nat) (port : Option Nat) :
    placement (remapEngine s e port) = placement (updEng s e (fun x => { x with port := port })) := by
  unfold remapEngine
  split
  next same => exact (updEng_placement same.symm Iff.rfl).symm
  next =>
    extract_lets s1 s2
    have given : placement s2 = placement (updEng s e (fun x => { x with port := port })) := by
      dsimp only [s2, s1]
      split <;> rfl
    rw [← given]
    split
    · split
      · exact noPort_placement s2 e
      · exact steerEngine_placement s2 e
    · split
      · exact (holdSteering_placement _ e).trans (setLanes_placement ..)
      · rfl
    · rfl

/-! #### Time -/

theorem drainPort_fabricSansQueues (t dt : Nat) (s : State) (q : Nat) : fabricSansQueues (drainPort t dt s q) = fabricSansQueues s := by
  unfold drainPort
  split <;> rfl

theorem reelWait_fabric (n : Nat) (s : State) (r : Nat) : (reelWait n s r).fabric = s.fabric := by
  unfold reelWait
  split
  · split <;> rfl
  · rfl

theorem seqStall_fabric (n : Nat) (s : State) (d : Nat) : (seqStall n s d).fabric = s.fabric := by
  unfold seqStall
  split <;> rfl

theorem timeCounters_fabric (s : State) (dt n : Nat) : (timeCounters s dt n).fabric = s.fabric := by
  have waited (u : State) : ((List.range 68).foldl (reelWait dt) u).fabric = u.fabric :=
    foldl_keeps State.fabric _ (reelWait_fabric dt) _ u
  have stalled (u : State) : ((List.range 8).foldl (seqStall n) u).fabric = u.fabric :=
    foldl_keeps State.fabric _ (seqStall_fabric n) _ u
  unfold timeCounters
  dsimp only
  rw [stalled, waited]

/-- Time moves nothing in the fabric but the queues. -/
theorem advanceTo_fabricSansQueues (s : State) (t : Nat) : fabricSansQueues (advanceTo s t) = fabricSansQueues s := by
  unfold advanceTo
  split
  · rfl
  · have drained (dt : Nat) (u : State) : fabricSansQueues ((List.range 48).foldl (drainPort s.now dt) u) = fabricSansQueues u :=
      foldl_keeps fabricSansQueues _ (drainPort_fabricSansQueues s.now dt) _ u
    unfold fabricSansQueues at drained ⊢
    unfold elapse
    dsimp only
    rw [drained, timeCounters_fabric]

@[simp] theorem advanceTo_placement (s : State) (t : Nat) : placement (advanceTo s t) = placement s := by
  unfold placement engineSeat engOf
  rw [advanceTo_fabricSansQueues, advanceTo_optics]

@[simp] theorem advanceToStep_placement (s : State) (t : Nat) : placement (advanceToStep s t) = placement s := by
  unfold advanceToStep
  split
  · rfl
  · exact advanceTo_placement ..

/-! #### What an outcome does (R376) -/

theorem darkenPort_cases (s : State) (q : Nat) :
    darkenPort s q = unlight (updPort s q (fun p => { p with dark := true, ready := false })) q ∨
    ∃ e, darkenPort s q = noPort (unlight (updPort s q (fun p => { p with dark := true, ready := false })) q) e := by
  unfold darkenPort
  dsimp only
  split
  · exact .inl rfl
  next e _ => exact .inr ⟨e, rfl⟩

theorem darkenPort_placement (s : State) (q : Nat) : placement (darkenPort s q) = placement s := by
  obtain h | ⟨e, h⟩ := darkenPort_cases s q
  · rw [h]; rfl
  · rw [h, noPort_placement]; rfl

theorem darkenPort_portOf (s : State) {q : Nat} (hq : q < 48) :
    portOf (darkenPort s q) q = { portOf s q with dark := true, ready := false } := by
  have dark := updPort_same s q (fun p => { p with dark := true, ready := false }) hq
  obtain h | ⟨e, h⟩ := darkenPort_cases s q
  · rw [h]; exact dark
  · rw [h, portOf, noPort_fabric]; exact dark

theorem darkenPort_now (s : State) (q : Nat) : (darkenPort s q).now = s.now := by
  obtain h | ⟨e, h⟩ := darkenPort_cases s q
  · rw [h]; rfl
  · rw [h, noPort_now]; rfl

/-- Every outcome but MATCH darkens the port; some raise an event. -/
theorem takeOutcome_darkens (s : State) (q : Nat) {o : Nat} (ho : o ≠ 5) : ∃ ev : EventS,
    takeOutcome s q o = { darkenPort (updPort s q (fun p => { p with outcome := BitVec.ofNat 8 o })) q with ev := ev } := by
  unfold takeOutcome
  rw [if_neg ho]
  dsimp only
  split
  · exact ⟨_, raise_only_ev ..⟩
  · split
    · exact ⟨_, raise_only_ev ..⟩
    · exact ⟨_, rfl⟩

theorem takeOutcome_match (s : State) (q : Nat) : takeOutcome s q 5 = updPort s q (fun p => { p with outcome := 5#8 }) := rfl

@[simp] theorem takeOutcome_placement (s : State) (q o : Nat) : placement (takeOutcome s q o) = placement s := by
  by_cases ho : o = 5
  · rw [ho]; rfl
  · obtain ⟨ev, h⟩ := takeOutcome_darkens s q ho
    rw [h]
    exact darkenPort_placement ..

/-- A port takes its outcome, and each but MATCH darkens it. -/
theorem takeOutcome_portOf (s : State) {q : Nat} (hq : q < 48) (o : Nat) : portOf (takeOutcome s q o) q = { portOf s q with
    outcome := BitVec.ofNat 8 o, dark := (portOf s q).dark || decide (o ≠ 5), ready := (portOf s q).ready && decide (o = 5) } := by
  by_cases ho : o = 5
  · subst ho
    rw [takeOutcome_match, updPort_same _ _ _ hq]
    simp
  · obtain ⟨ev, h⟩ := takeOutcome_darkens s q ho
    have dark := darkenPort_portOf (updPort s q (fun p => { p with outcome := BitVec.ofNat 8 o })) hq
    rw [updPort_same _ _ _ hq] at dark
    rw [h]
    refine dark.trans ?_
    simp [ho]

theorem takeOutcome_now (s : State) (q o : Nat) : (takeOutcome s q o).now = s.now := by
  by_cases ho : o = 5
  · rw [ho]; rfl
  · obtain ⟨ev, h⟩ := takeOutcome_darkens s q ho
    rw [h]
    exact darkenPort_now ..

@[simp] theorem unanswered_placement (s : State) : placement (unanswered s) = placement s :=
  foldl_keeps placement _ (fun t q => by split <;> simp) _ s

/-! #### Engines are given their ports (R378, R387) -/

/-- The first pass of an assignment: an engine whose port the plan takes from it goes dark. -/
def vacate (plan : Nat → Option Nat) (t : State) (e : Nat) : State :=
  if (engOf t e).st = .outOfService ∨ (engOf t e).port ≠ plan e then remapEngine t e none else t

/-- The second pass: an engine in service lights the port of the plan. -/
def reseat (plan : Nat → Option Nat) (t : State) (e : Nat) : State :=
  if (engOf t e).st = .outOfService then t
  else
    let relit : Bool := match plan e with
      | some q => (portOf t q).dark
      | none => false
    let t1 := match plan e with
      | some q => updPort t q (fun p => { p with dark := false })
      | none => t
    if relit ∧ (engOf t1 e).port = plan e then
      (if (laserOf t1 (e / 2)).st = .on then steerEngine t1 e else if (engOf t1 e).st = .laserLost then holdSteering t1 e else t1)
    else remapEngine t1 e (plan e)

theorem assignSome_eq (s : State) (engines : List Nat) (plan : Nat → Option Nat) :
    assignSome s engines plan = engines.foldl (reseat plan) (engines.foldl (vacate plan) s) := rfl

/-- An engine in service has its port of the plan, and nothing else of the placement changes. -/
theorem reseat_placement {plan : Nat → Option Nat} {t : State} {e : Nat} (h : (engOf t e).st ≠ .outOfService) :
    placement (reseat plan t e) = placement (updEng t e (fun x => { x with port := plan e })) := by
  unfold reseat
  rw [if_neg h]
  extract_lets relit t1
  have given : placement (updEng t1 e (fun x => { x with port := plan e })) =
      placement (updEng t e (fun x => { x with port := plan e })) := by
    dsimp only [t1]
    split <;> rfl
  rw [← given]
  split
  next stays =>
    have kept : placement t1 = placement (updEng t1 e (fun x => { x with port := plan e })) :=
      (updEng_placement stays.2.symm Iff.rfl).symm
    rw [← kept]
    split
    · exact steerEngine_placement t1 e
    · split
      · exact holdSteering_placement t1 e
      · rfl
  next => exact remapEngine_placement t1 e (plan e)

/-- A new port changes no engine's service. -/
theorem updEng_port_standing (s : State) (e : Nat) (port : Option Nat) :
    standing (updEng s e (fun x => { x with port := port })) = standing s := by
  refine Prod.ext rfl (funext fun k => ?_)
  by_cases he : e < 32
  · refine (congrArg Prod.snd (updEng_engineSeat s he _ k)).trans ?_
    split
    next h => subst h; rfl
    next => rfl
  · rw [updEng_outside s he]

theorem vacate_standing (plan : Nat → Option Nat) (t : State) (e : Nat) : standing (vacate plan t e) = standing t := by
  unfold vacate
  split
  · exact (standing_of_placement (remapEngine_placement ..)).trans (updEng_port_standing ..)
  · rfl

theorem reseat_standing (plan : Nat → Option Nat) (t : State) (e : Nat) : standing (reseat plan t e) = standing t := by
  by_cases h : (engOf t e).st = .outOfService
  · unfold reseat
    rw [if_pos h]
  · exact (standing_of_placement (reseat_placement h)).trans (updEng_port_standing ..)

theorem assignSome_standing (s : State) (engines : List Nat) (plan : Nat → Option Nat) :
    standing (assignSome s engines plan) = standing s := by
  rw [assignSome_eq, foldl_keeps standing _ (reseat_standing plan), foldl_keeps standing _ (vacate_standing plan)]

/-- The step of an engine gives it its port. -/
theorem reseat_port_same {plan : Nat → Option Nat} {t : State} {e : Nat} (he : e < 32) (h : (engOf t e).st ≠ .outOfService) :
    (engOf (reseat plan t e) e).port = plan e := by
  have seat := engineSeat_of_placement (reseat_placement (plan := plan) h) e
  rw [updEng_engineSeat t he, if_pos rfl] at seat
  exact congrArg Prod.fst seat

/-- The step of another engine leaves it its port. -/
theorem reseat_port_ne (plan : Nat → Option Nat) (t : State) {x e : Nat} (hx : x ≠ e) :
    (engOf (reseat plan t x) e).port = (engOf t e).port := by
  by_cases h : (engOf t x).st = .outOfService
  · unfold reseat
    rw [if_pos h]
  · have seat := engineSeat_of_placement (reseat_placement (plan := plan) h) e
    exact (congrArg Prod.fst seat).trans (by rw [engineSeat, updEng_ne _ _ _ _ hx])

/-- An engine in service has its port of the plan once its step is past, and keeps it. -/
theorem foldl_reseat_port {plan : Nat → Option Nat} {e : Nat} (he : e < 32) (engines : List Nat) (t : State)
    (h : (engOf t e).st ≠ .outOfService) (hmem : e ∈ engines ∨ (engOf t e).port = plan e) :
    (engOf (engines.foldl (reseat plan) t) e).port = plan e := by
  induction engines generalizing t with
  | nil => exact hmem.resolve_left List.not_mem_nil
  | cons x engines ih =>
    have serves : (engOf (reseat plan t x) e).st ≠ .outOfService := (inService_of_standing (reseat_standing plan t x)).mpr h
    refine ih _ serves ?_
    by_cases hx : x = e
    · subst hx
      exact .inr (reseat_port_same he h)
    · rw [reseat_port_ne plan t hx]
      exact hmem.imp_left (fun m => (List.mem_cons.mp m).resolve_left (Ne.symm hx))

/-- After an assignment each of its engines that is in service has its port of the plan. -/
theorem assignSome_port {s : State} {engines : List Nat} {plan : Nat → Option Nat} {e : Nat} (he : e < 32) (hmem : e ∈ engines)
    (h : (engOf s e).st ≠ .outOfService) : (engOf (assignSome s engines plan) e).port = plan e := by
  rw [assignSome_eq]
  exact foldl_reseat_port he _ _ ((inService_of_standing (foldl_keeps standing _ (vacate_standing plan) _ s)).mpr h) (.inl hmem)

theorem assignEngines_standing (s : State) (plan : Nat → Option Nat) : standing (assignEngines s plan) = standing s :=
  assignSome_standing ..

theorem assignEngines_port {s : State} {plan : Nat → Option Nat} {e : Nat} (he : e < 32) (h : (engOf s e).st ≠ .outOfService) :
    (engOf (assignEngines s plan) e).port = plan e := assignSome_port he (List.mem_range.mpr he) h

/-! #### The rounds (R378) -/

/-- Without a contact sheet the plan is that of R316. -/
theorem planNow_noSheet {s : State} (h : s.fabric.sheet = []) (e : Nat) : planNow s e = some (defaultPort e) := by
  simp [planNow, sheetNow, h]

section
variable {s : State} {at_ : Nat} (hat : s.fabric.discAt = some at_)
include hat

/-- At T every engine goes to reach index e mod 4. -/
theorem execDiscoveryRoundA_places (hst : s.fabric.discState = 0#8 ∨ s.fabric.discState = 3#8) :
    ∃ t : State, execDiscoveryRoundA s = .next t ∧ t.fabric.discState = 1#8 ∧
      ∀ e : Nat, e < 32 → (engOf s e).st ≠ .outOfService → (engOf t e).port = some (defaultPort e) := by
  have fresh : ¬(s.fabric.discState = 1#8 ∨ s.fabric.discState = 2#8) := by
    obtain h | h := hst <;> rw [h] <;> decide
  unfold execDiscoveryRoundA
  rw [hat]
  dsimp only
  rw [if_neg fresh]
  have begun := standing_of_placement (advanceToStep_placement s at_)
  generalize advanceToStep s at_ = s1 at begun ⊢
  have started := standing_of_placement (foldl_keeps placement (fun u q =>
      if portLit u q = true ∧ (portOf u q).dark = false ∧ (portOf u q).outcome = 5#8 ∧ q % 6 < 4 then u
      else updPort u q (fun p => { p with outcome := 0#8 })) (fun t q => by split <;> rfl) (List.range 48)
    (updFabric s1 (fun x => { x with discState := 1#8 })))
  refine ⟨_, rfl, discState_of_standing ((assignEngines_standing ..).trans started), fun e he hserves => ?_⟩
  have serves : (engOf s1 e).st ≠ .outOfService := (inService_of_standing begun).mpr hserves
  exact assignEngines_port he ((inService_of_standing started).mpr (by rwa [updFabric_engOf]))

/-- 100 ms later engines 4g and 4g + 1 go to reach indices 4 and 5. -/
theorem execDiscoveryRoundB_places (hst : s.fabric.discState = 1#8) :
    ∃ t : State, execDiscoveryRoundB s = .next t ∧ t.fabric.discState = 2#8 ∧
      ∀ e : Nat, e < 32 → e % 4 < 2 → (engOf s e).st ≠ .outOfService → (engOf t e).port = some (6 * (e / 4) + 4 + e % 4) := by
  unfold execDiscoveryRoundB
  rw [hat]
  dsimp only
  rw [if_neg (not_not_intro hst)]
  have begun := standing_of_placement (advanceToStep_placement s (at_ + 100000000))
  generalize advanceToStep s (at_ + 100000000) = s1 at begun ⊢
  have started := standing_of_placement (unanswered_placement (updFabric s1 (fun x => { x with discState := 2#8 })))
  refine ⟨_, rfl, discState_of_standing ((assignSome_standing ..).trans started), fun e he hreach hserves => ?_⟩
  have serves : (engOf s1 e).st ≠ .outOfService := (inService_of_standing begun).mpr hserves
  exact assignSome_port he (List.mem_filter.mpr ⟨List.mem_range.mpr he, decide_eq_true hreach⟩)
    ((inService_of_standing started).mpr (by rwa [updFabric_engOf]))

/-- Another 100 ms later the engines go back to their plan. -/
theorem execDiscoveryFinish_places (hst : s.fabric.discState = 2#8) (hplaced : s.fabric.discPlaced = false) (hsheet : s.fabric.sheet = []) :
    ∃ t : State, execDiscoveryFinish s = .next t ∧ t.fabric.discPlaced = true ∧
      ∀ e : Nat, e < 32 → (engOf s e).st ≠ .outOfService → (engOf t e).port = some (defaultPort e) := by
  have waits : ¬(s.fabric.discState ≠ 2#8 ∨ s.fabric.discPlaced = true) := by simp [hst, hplaced]
  unfold execDiscoveryFinish
  rw [hat]
  dsimp only
  rw [if_neg waits]
  have answered : standing (unanswered (advanceToStep s (at_ + 200000000))) = standing s :=
    standing_of_placement ((unanswered_placement _).trans (advanceToStep_placement ..))
  generalize unanswered (advanceToStep s (at_ + 200000000)) = s1 at answered ⊢
  refine ⟨_, rfl, discPlaced_of_standing (assignEngines_standing ..), fun e he hserves => ?_⟩
  have serves : (engOf s1 e).st ≠ .outOfService := (inService_of_standing answered).mpr hserves
  exact (assignEngines_port he (by rwa [updFabric_engOf])).trans (planNow_noSheet ((sheet_of_standing answered).trans hsheet) e)

/-- The last step of a discovery raises its event. -/
theorem execDiscoveryDone_raises (hst : s.fabric.discState = 2#8) (hplaced : s.fabric.discPlaced = true) : execDiscoveryDone s =
    .next (raise (updFabric s (fun x => { x with discState := 3#8, discAt := none })) 0x50 ukPACKAGE 0 0) := by
  unfold execDiscoveryDone
  simp [hat, hst, hplaced]

end

/-! #### The write of 2A00h:07 (R378) -/

/-- A right of the rights table is no right of the claim identity's. -/
theorem hasRight_notClaim {s : State} {who bit : Nat} (h : hasRight s who bit = true) : who ≠ idCLAIM := by
  rintro rfl
  simp [hasRight, idCLAIM, idOPERATOR, driverPart] at h

theorem mayWrite_discovery {s : State} {who : Nat} (h : hasRight s who rFABRIC = true) (data : List Byte) :
    mayWrite s who (objAt 0x2A00 7 0) data = true := by
  unfold mayWrite
  rw [if_neg (hasRight_notClaim h)]
  exact h

/-- A step time passes its checks where no partition holds the package and no island is in reset. -/
theorem checkDirect_discovery {s after : State} {who : Nat} {t : U64} (hright : hasRight s who rFABRIC = true)
    (hheld : objHeld s (objAt 0x2A00 7 0) = false) (hfree : anyHeld s = false) (hreset : s.sys.resetting = []) :
    checkDirect s after who (objAt 0x2A00 7 0) (leBytes 8 t.toNat) = 0 := by
  refine checkDirect_passes rfl (by decide) (mayWrite_discovery hright _) rfl hheld (checkValue_passes ?_ rfl rfl hfree ?_ rfl)
  · rw [leBytes_length]; decide
  · simp [unitDown, aonObject, objAt, hreset]

theorem execDiscoveryStart_accepted {s : State} {who : Ident} {t : U64} (h : Serving s)
    (hc : checkDirect s (afterCommits s) (identNat who) (objAt 0x2A00 7 0) (leBytes 8 t.toNat) = 0) :
    execDiscoveryStart (.direct who) t s = .next (answered (startDiscovery s t.toNat) who 0) := by
  have applied : applyObj s (identNat who) (objAt 0x2A00 7 0) (leBytes 8 t.toNat) noObs =
      startDiscovery s (leNat ((leBytes 8 t.toNat).take 8)) := rfl
  rw [leNat_take_leBytes (by decide) t.isLt] at applied
  unfold execDiscoveryStart writeNum
  rw [writeAs_accepted h (by decide) rfl hc, applied]

/-! #### Records (R374, R375) -/

/-- A port with what a record says of its partner. -/
def recorded (p : PortS) (n : Nat) : PortS :=
  { p with
    member := BitVec.ofNat 16 n, port := BitVec.ofNat 8 (bits n 21 16), serial := BitVec.ofNat 64 (bits n 127 64)
    csid := BitVec.ofNat 32 (bits n 63 32), records := bump p.records, heard := true }

theorem execDiscoveryRecord_evaluates {s : State} {q : Fin 48} (hlit : portLit s q = true) (hdark : (portOf s q).dark = false)
    (rec_ : BitVec 256) : execDiscoveryRecord q rec_ s =
      .next (takeOutcome (updPort s q (fun p => recorded p rec_.toNat)) q (outcomeOf s q rec_.toNat)) := by
  unfold execDiscoveryRecord
  exact if_neg (by simp [hlit, hdark])

theorem execDiscoveryRecordTimeout_none {s : State} {q : Fin 48} (hlit : portLit s q = true) (hdark : (portOf s q).dark = false)
    (hheard : (portOf s q).heard = false) :
    execDiscoveryRecordTimeout q s = .next (takeOutcome (advanceTo s ((portOf s q).litAt + 100000000)) q 1) := by
  unfold execDiscoveryRecordTimeout
  exact if_pos ⟨hlit, hdark, hheard⟩

/-- The member of a record is its low 16 bits. -/
theorem ofNat_bits_low (n : Nat) : BitVec.ofNat 16 (bits n 15 0) = BitVec.ofNat 16 n := by
  apply BitVec.eq_of_toNat_eq
  simp [bits_eq_div]

/-! #### A neighbour that is lost (R393) -/

/-- The lit ports that face a member. -/
def facingPorts (s : State) (y : Nat) : List Nat :=
  (List.range 48).filter (fun p => portLit s p && (match expected s p with
    | some (m, _) => decide (m = y)
    | none => false))

theorem mem_facingPorts {s : State} {y p : Nat} :
    p ∈ facingPorts s y ↔ p < 48 ∧ portLit s p = true ∧ (expected s p).map Prod.fst = some y := by
  unfold facingPorts
  rw [List.mem_filter, List.mem_range, Bool.and_eq_true]
  cases expected s p <;> simp

/-- The loss of a neighbour is noted at a port that faces it. -/
def markLost (s : State) (p : Nat) : State := updPort s p (fun x => { x with lostRaised := true })

theorem markLost_stays {s : State} {q : Nat} (hq : q < 48) (h : (portOf s q).lostRaised = true) (p : Nat) :
    (portOf (markLost s p) q).lostRaised = true := by
  unfold markLost
  by_cases hp : p = q
  · subst hp
    rw [updPort_same _ _ _ hq]
  · rw [updPort_ne _ _ _ _ hp]
    exact h

theorem foldl_markLost {q : Nat} (hq : q < 48) {ports : List Nat} (hmem : q ∈ ports) (s : State) :
    (portOf (ports.foldl markLost s) q).lostRaised = true := by
  induction ports generalizing s with
  | nil => exact absurd hmem List.not_mem_nil
  | cons p ports ih =>
    rw [List.foldl_cons]
    obtain rfl | hmem := List.mem_cons.mp hmem
    · exact foldl_holds (fun u => (portOf u q).lostRaised = true) _ (fun u p h => markLost_stays hq h p) _ _
        (by rw [markLost, updPort_same _ _ _ hq])
    · exact ih hmem _

/-- Where every port that faces a neighbour is in safelight mode, its loss is noted at each and raised. -/
theorem execMemberLost_raises {s : State} {q : Fin 48} {y k : Nat} (hexp : expected s q = some (y, k)) (hq : q.val ∈ facingPorts s y)
    (hsafe : ∀ p ∈ facingPorts s y, (optPortOf s p).safelight = true ∧ (portOf s p).lostRaised = false) :
    ∃ n, execMemberLost q s = .next (raise ((facingPorts s y).foldl markLost (advanceTo s n)) 0x54 ukPACKAGE 0 y) := by
  have silent : ¬((facingPorts s y).isEmpty = true ∨
      (facingPorts s y).all (fun p => (optPortOf s p).safelight && !(portOf s p).lostRaised) = false) := by
    rw [not_or, Bool.not_eq_false, List.all_eq_true, List.isEmpty_iff]
    exact ⟨List.ne_nil_of_mem hq, fun p hp => by simp [hsafe p hp]⟩
  unfold execMemberLost
  rw [hexp]
  exact ⟨_, if_neg silent⟩

/-- Settles O34: a record and its absence by what an outcome does to a port, the rounds by what an assignment gives. -/
theorem discoveryEvaluatesRecordsAndRunsItsRounds : Obligations.DiscoveryEvaluatesRecordsAndRunsItsRounds := by
  intro s
  refine ⟨fun who at_ hs hright hheld hfree => ?_, fun at_ hat => ?_, fun q hlit hdark => ⟨fun rec_ => ?_, fun hheard => ?_, ?_⟩⟩
  · exact execDiscoveryStart_accepted hs (checkDirect_discovery hright hheld hfree (serving_resetting hs))
  · exact ⟨execDiscoveryRoundA_places hat, execDiscoveryRoundB_places hat, execDiscoveryFinish_places hat, execDiscoveryDone_raises hat⟩
  · refine ⟨_, execDiscoveryRecord_evaluates hlit hdark rec_, ?_, ?_⟩
    · rw [takeOutcome_portOf _ q.isLt, updPort_same _ _ _ q.isLt]
      simp [recorded, hdark, ofNat_bits_low]
    · exact congrArg (fun p => p.2.1) (takeOutcome_placement ..)
  · have port := takeOutcome_portOf (advanceTo s ((portOf s q).litAt + 100000000)) q.isLt 1
    refine ⟨_, execDiscoveryRecordTimeout_none hlit hdark hheard, ?_, ?_, ?_⟩
    · rw [port]
    · rw [port]; simp
    · rw [takeOutcome_now, advanceTo_now]
  · intro y k hexp hsafe
    have faces : q.val ∈ facingPorts s y := mem_facingPorts.mpr ⟨q.isLt, hlit, by rw [hexp]; rfl⟩
    have safe : ∀ p ∈ facingPorts s y, (optPortOf s p).safelight = true ∧ (portOf s p).lostRaised = false := by
      intro p hp
      obtain ⟨hlt, hlit, hexp⟩ := mem_facingPorts.mp hp
      exact hsafe p hlt hlit hexp
    obtain ⟨n, lost⟩ := execMemberLost_raises hexp faces safe
    refine ⟨_, lost, ?_, ?_⟩
    · have marked : ((facingPorts s y).foldl markLost (advanceTo s n)).ev = s.ev :=
        (foldl_keeps State.ev markLost (fun _ _ => rfl) _ _).trans (advanceTo_ev s n)
      have counted := raise_count ((facingPorts s y).foldl markLost (advanceTo s n)) 0x54 ukPACKAGE 0 y false (by decide) (by decide)
      rw [marked] at counted
      exact counted
    · rw [portOf, raise_fabric]
      exact foldl_markLost q.isLt faces _

end Sys2Proof.Machine

namespace Sys2Proof.Machine

/-! ### Codewords, cells and flows

What a lane, the router and an endpoint do with what arrives, and what the timers of flows and rates do. A flow is found by its
key, so an update that keeps keys shows in the flow that the key finds (`find?_map_keeps`). -/

/-! #### Codewords (R410, R412) -/

theorem keepLast_length_le {α : Type} (n : Nat) (xs : List α) : (keepLast n xs).length ≤ n := by
  simp only [keepLast, List.length_drop]
  omega

theorem keepLast_concat_getLast? {α : Type} {n : Nat} (hn : 0 < n) (xs : List α) (a : α) :
    (keepLast n (xs ++ [a])).getLast? = some a := by
  unfold keepLast
  have shorter : (xs ++ [a]).length - n ≤ xs.length := by simp only [List.length_append, List.length_singleton]; omega
  rw [List.drop_append_of_le_length shorter, List.getLast?_concat]

theorem execCodewordReceived_clean {s : State} (hq : Quiet s) (l : Fin 512) : execCodewordReceived l .clean s = .next s := by
  simp only [execCodewordReceived, injArmed_quiet hq]

theorem execCodewordReceived_corrected {s : State} (hq : Quiet s) (l : Fin 512) :
    execCodewordReceived l .corrected s = .next (updFabric s (fun x => { x with corrected := bump x.corrected })) := by
  simp only [execCodewordReceived, injArmed_quiet hq]

theorem execCodewordReceived_uncorrectable {s : State} (hq : Quiet s) (l : Fin 512) :
    execCodewordReceived l .uncorrectable s = .next (badCodeword s l false false) := by
  simp only [execCodewordReceived, injArmed_quiet hq]

/-- A lane keeps the dates of its last 17 uncorrectable codewords, the new one among them. -/
theorem badCodeword_badAt (s : State) {l : Nat} (hl : l < 512) (inj persist : Bool) :
    (laneOf (badCodeword s l inj persist) l).badAt =
      keepLast 17 ((laneOf s l).badAt.filter (fun b => decide (s.now < b.1 + 1000000000)) ++ [(s.now, inj)]) := by
  unfold badCodeword
  rw [updLane_same _ _ _ hl, updFabric_laneOf]

/-! #### The router (R416, R425, R441, R450, R457) -/

/-- What becomes of a cell on the hop that the router has chosen for it. -/
def takeHop (s : State) (c : BitVec 512) : Hop → State
  | .here => s
  | .out p cls => enqueue s p cls c
  | .unreachable => raiseUnreach (dropRoute s) (cellF c).dmem

/-- The state in which the input slot of a cell is free again and its credit has gone back (R411, R414). -/
def slotFreed (s : State) (q : Fin 48) (c : BitVec 512) : State :=
  emit s (.credit q (cellF c).vc (if (cellF c).esc then (cellF c).ecl + 1 else 0))

/-- A unicast cell frees its slot, and is left for an endpoint, dropped at a fence, or takes its hop. -/
theorem execCellRoute_unicast {s : State} {q : Fin 48} {c : BitVec 512} (hport : portCarries s q = true) (hrecord : (cellF c).typ ≠ 0)
    (hmcast : (cellF c).typ ≠ 2) (hvc : (cellF c).vc < 5) : execCellRoute q c s = .next (
      if isOwn s (cellF c).dmem then slotFreed s q c
      else if fenceActs s (cellF c).dmem then dropRoute (slotFreed s q c)
      else takeHop (slotFreed s q c) c (route s (cellF c) (dimOfPort q))) := by
  have channel : ¬ 5 ≤ (cellF c).vc := by omega
  unfold execCellRoute
  simp only [hport, hrecord, hmcast, channel, if_false, Bool.true_eq_false]
  split
  · rfl
  · split <;> rfl

/-! #### The flow that a key finds -/

/-- An update that keeps what is searched for shows in what is found. -/
theorem find?_map_keeps {α : Type} {p : α → Bool} {g : α → α} (hkeep : ∀ a, p (g a) = p a) (l : List α) :
    (l.map g).find? p = (l.find? p).map g := by
  have same : p ∘ g = p := funext hkeep
  rw [List.find?_map, same]

/-- An update of all that is searched for, and of nothing else, is an update of what is found. -/
theorem find?_map_where {α : Type} {p : α → Bool} {g : α → α} (hkeep : ∀ a, p (g a) = p a) (l : List α) :
    (l.map (fun a => if p a then g a else a)).find? p = (l.find? p).map g := by
  have kept (a : α) : p (if p a then g a else a) = p a := by split <;> simp [hkeep]
  rw [find?_map_keeps kept]
  cases found : l.find? p with
  | none => rfl
  | some a => simp [List.find?_some found]

theorem updFlowIn_flowInOf {s : State} {ep slot : Nat} {i : FlowIn} (hi : flowInOf s ep slot = some i) {g : FlowIn → FlowIn}
    (hep : ∀ i, (g i).ep = i.ep) (hslot : ∀ i, (g i).slot = i.slot) : flowInOf (updFlowIn s ep slot g) ep slot = some (g i) :=
  (find?_map_where (p := fun i => sameFlowIn i ep slot) (fun i => by simp only [sameFlowIn, hep, hslot]) _).trans
    (congrArg (Option.map g) hi)

/-- A message of one cell changes no receiving flow. -/
theorem sendControl_flowInOf (s : State) (typ dmem dep sep flow payload k slot : Nat) :
    flowInOf (sendControl s typ dmem dep sep flow payload) k slot = flowInOf s k slot := by
  unfold flowInOf
  rw [sendControl_flowsIn]

@[simp] theorem sendControl_now (s : State) (typ dmem dep sep flow payload : Nat) :
    (sendControl s typ dmem dep sep flow payload).now = s.now := inject_now ..
@[simp] theorem inject_dups (s : State) (c : BitVec 512) : (inject s c).fabric.dups = s.fabric.dups := by rw [inject_only]
@[simp] theorem inject_resent (s : State) (c : BitVec 512) : (inject s c).fabric.resent = s.fabric.resent := by rw [inject_only]

/-! #### Acknowledgement (R427) -/

/-- An ACK of an open flow starts its counts again. -/
theorem sendAck_flowInOf {s : State} {ep slot : Nat} {i : FlowIn} (hi : flowInOf s ep slot = some i) :
    flowInOf (sendAck s ep slot) ep slot = some { i with cm := 0, marked := 0, unacked := 0 } := by
  unfold sendAck
  simp only [hi]
  exact updFlowIn_flowInOf ((sendControl_flowInOf ..).trans hi) (fun _ => rfl) (fun _ => rfl)

/-- What a sent cell and a flow's own record leave, an ACK leaves. -/
theorem sendAck_keeps {C : Type} (g : State → C) (s : State) (ep slot : Nat) (hcell : ∀ t c, g (inject t c) = g t)
    (hflow : ∀ t f, g (updFlowIn t ep slot f) = g t) : g (sendAck s ep slot) = g s := by
  unfold sendAck
  split
  · rfl
  · exact (hflow _ _).trans (hcell _ _)

@[simp] theorem sendAck_now (s : State) (ep slot : Nat) : (sendAck s ep slot).now = s.now :=
  sendAck_keeps State.now s ep slot inject_now (fun _ _ => rfl)
@[simp] theorem sendAck_mem (s : State) (ep slot : Nat) : (sendAck s ep slot).mem = s.mem :=
  sendAck_keeps State.mem s ep slot inject_mem (fun _ _ => rfl)
@[simp] theorem sendAck_reels (s : State) (ep slot : Nat) : (sendAck s ep slot).reels = s.reels :=
  sendAck_keeps State.reels s ep slot inject_reels (fun _ _ => rfl)
@[simp] theorem sendAck_dups (s : State) (ep slot : Nat) : (sendAck s ep slot).fabric.dups = s.fabric.dups :=
  sendAck_keeps (fun t => t.fabric.dups) s ep slot inject_dups (fun _ _ => rfl)

/-! #### A cell that fits its flow (R425, R431) -/

/-- A LAST cell is held with its COUNT and STATUS (R409). -/
def noteLast (s : State) (f : CellF) (slot pos : Nat) : State :=
  if f.last then updFlowIn s f.dep slot (fun x => { x with lasts := x.lasts ++ [(pos, tailCount f.payload, tailStatus f.payload)] }) else s

/-- The payload of a counted cell is kept with its flow, or with the move that the flow serves. -/
def filePayload (s : State) (f : CellF) (slot pos : Nat) : State :=
  let piece := (pos, if f.last then (leBytes 48 f.payload).take 40 else leBytes 48 f.payload)
  match (flowInOf s f.dep slot).map FlowIn.use with
  | some .store | some (.load ..) => updFlowIn s f.dep slot (fun x => { x with parts := x.parts ++ [piece] })
  | some (.reel r mv) => (match runningMove s r with
    | some m => if m.seqno = mv then updMove s r (fun y => { y with parts := y.parts ++ [piece] }) else s
    | none => s)
  | _ => s

/-- A taken cell is acknowledged where it asks for it, or where 64 wait for it (R427). -/
def ackAsked (s : State) (f : CellF) (slot : Nat) : State :=
  match flowInOf s f.dep slot with
  | none => s
  | some i => if !isTree i.use && (f.acknow || decide (64 ≤ i.unacked)) then sendAck s f.dep slot else s

/-- A cell is taken in five steps: counted, noted where it is LAST, kept, completed, and acknowledged. -/
theorem takeCell_steps (s : State) (f : CellF) (slot pos : Nat) : takeCell s f slot pos = ackAsked (completeMessages 64 f.dep slot
    (filePayload (noteLast (updFlowIn s f.dep slot (countCell s.now pos f.cm)) f slot pos) f slot pos)) f slot := rfl

/-- Where a payload is kept, its flow stays but for its parts, and no storage is written. -/
theorem filePayload_flowInOf {s : State} {f : CellF} {slot : Nat} {i : FlowIn} (hi : flowInOf s f.dep slot = some i) (pos : Nat) :
    (∃ ps, flowInOf (filePayload s f slot pos) f.dep slot = some { i with parts := ps }) ∧ (filePayload s f slot pos).mem = s.mem := by
  unfold filePayload
  dsimp only
  have withFlow (piece : Nat × List Byte) : flowInOf (updFlowIn s f.dep slot (fun x => { x with parts := x.parts ++ [piece] })) f.dep slot
      = some { i with parts := i.parts ++ [piece] } := updFlowIn_flowInOf hi (fun _ => rfl) (fun _ => rfl)
  split
  · exact ⟨⟨_, withFlow _⟩, rfl⟩
  · exact ⟨⟨_, withFlow _⟩, rfl⟩
  · split
    · split
      · exact ⟨⟨i.parts, hi⟩, rfl⟩
      · exact ⟨⟨i.parts, hi⟩, rfl⟩
    · exact ⟨⟨i.parts, hi⟩, rfl⟩
  · exact ⟨⟨i.parts, hi⟩, rfl⟩

/-- A flow that holds no LAST cell completes no message. -/
theorem completeMessages_noLast {s : State} {ep slot : Nat} {i : FlowIn} (hi : flowInOf s ep slot = some i) (hlasts : i.lasts = [])
    (n : Nat) : completeMessages n ep slot s = s := by
  cases n with
  | zero => rfl
  | succ n =>
    have noMessage : nextMessage i = none := by simp [nextMessage, hlasts, leastBy]
    unfold completeMessages
    simp only [hi, noMessage]

/-- A cell that asks for no ACK, of a flow with fewer than 64 to acknowledge, is not acknowledged. -/
theorem ackAsked_unasked {s : State} {f : CellF} {slot : Nat} {i : FlowIn} (hi : flowInOf s f.dep slot = some i) (hask : f.acknow = false)
    (hfew : i.unacked < 64) : ackAsked s f slot = s := by
  have few : ¬ 64 ≤ i.unacked := by omega
  unfold ackAsked
  simp [hi, hask, few]

/-- A cell that ends no message and asks for no ACK is counted once, and no storage is written. -/
theorem takeCell_counts {s : State} {f : CellF} {slot : Nat} {i : FlowIn} (hi : flowInOf s f.dep slot = some i) (hlasts : i.lasts = [])
    (hlast : f.last = false) (hask : f.acknow = false) (hfew : i.unacked < 63) (pos : Nat) :
    (∃ ps, flowInOf (takeCell s f slot pos) f.dep slot = some { countCell s.now pos f.cm i with parts := ps }) ∧
      (takeCell s f slot pos).mem = s.mem := by
  have counted : flowInOf (updFlowIn s f.dep slot (countCell s.now pos f.cm)) f.dep slot = some (countCell s.now pos f.cm i) :=
    updFlowIn_flowInOf hi (fun _ => rfl) (fun _ => rfl)
  have unnoted (t : State) : noteLast t f slot pos = t := by simp [noteLast, hlast]
  obtain ⟨⟨ps, filed⟩, mem⟩ := filePayload_flowInOf counted pos
  rw [takeCell_steps, unnoted, completeMessages_noLast filed hlasts, ackAsked_unasked filed hask (Nat.succ_lt_succ hfew)]
  exact ⟨⟨ps, filed⟩, mem⟩

/-! #### Cells that come to an endpoint (R422, R425, R426) -/

theorem crcInjected_quiet {s : State} (hq : Quiet s) (ep : Nat) : crcInjected s ep = false := by
  have unarmed : s.ev.points[9].armed = false := hq.1 9
  simp [crcInjected, vget, unarmed]

/-- A slot whose flow is open opens for nobody else. -/
theorem openTree_open {s : State} {f : CellF} {slot : Nat} {i : FlowIn} (hi : flowInOf s f.dep slot = some i) : openTree s f slot = s := by
  unfold openTree
  simp only [hi]

theorem openStore_open {s : State} {f : CellF} {i : FlowIn} (hi : flowInOf s f.dep f.flow = some i) : openStore s f = s := by
  unfold openStore
  simp [hi]

/-- A cell that fails its check is dropped. -/
theorem execCellReceive_bad {s : State} {c : BitVec 512} (hq : Quiet s) (hopen : ingressClosed s = false)
    (hfence : fenced s (cellF c).smem = false) (hbad : cellGood c = false) : execCellReceive c s = .next (dropCheck s) := by
  unfold execCellReceive
  simp [crcInjected_quiet hq, hopen, hfence, hbad]

/-- A DATA cell of an open flow from its sender is taken where it is new, answered where it is a copy, and else dropped. -/
theorem execCellReceive_data {s : State} {c : BitVec 512} {i : FlowIn} (hq : Quiet s) (hopen : ingressClosed s = false)
    (hfence : fenced s (cellF c).smem = false) (hgood : cellGood c = true) (htyp : (cellF c).typ = 1) (hvc : (cellF c).vc < 5)
    (hown : isOwn s (cellF c).dmem = true) (hdep : (cellF c).dep < 10) (hi : flowInOf s (cellF c).dep (cellF c).flow = some i)
    (hpeer : i.peer = (cellF c).smem) (hpeerEp : i.peerEp = (cellF c).sep) {ahead behind : Nat}
    (hahead : ahead = ((cellF c).seq + 2 ^ 24 - flowB i) % 2 ^ 24) (hbehind : behind = (flowB i + 2 ^ 24 - (cellF c).seq) % 2 ^ 24) :
    execCellReceive c s = .next (
      if ahead < 16384 ∧ i.got.contains (i.base + ahead) = false then takeCell s (cellF c) (cellF c).flow (i.base + ahead)
      else if ahead < 16384 ∨ (behind ≤ 16384 ∧ behind ≤ i.base) then
        sendAck (updFabric s (fun x => { x with dups := bump x.dups })) (cellF c).dep (cellF c).flow
      else dropCheck s) := by
  have slot : cellSlot s (cellF c) = (cellF c).flow := by simp [cellSlot, htyp]
  have ours : cellForUs s (cellF c) = true := by simp [cellForUs, htyp, hown]
  have endpoint : ¬ 10 ≤ (cellF c).dep := by omega
  have channel : ¬ 5 ≤ (cellF c).vc := by omega
  have tree : openTree s (cellF c) (cellF c).flow = s := openTree_open hi
  have store : openStore s (cellF c) = s := openStore_open hi
  unfold execCellReceive
  simp only [crcInjected_quiet hq, hopen, hfence, hgood, ours, endpoint, channel, htyp, slot, tree, store, hi, hpeer, hpeerEp, hahead,
    hbehind, Bool.false_eq_true, Bool.true_eq_false, or_self, if_false, Nat.reduceLT, ne_eq, not_true_eq_false, false_and]
  split
  · rfl
  · split <;> rfl

/-- Settles O35: a codeword by what the lane keeps of it, a cell by its hop, and a DATA cell by where its sequence stands to B. -/
theorem cellsAreRoutedAndCounted : Obligations.CellsAreRoutedAndCounted := by
  intro s hq
  refine ⟨fun l => ⟨execCodewordReceived_clean hq l, execCodewordReceived_corrected hq l, ?_⟩,
    fun q vc pool n => ⟨rfl, rfl, rfl⟩, ?_, ?_⟩
  · refine ⟨_, execCodewordReceived_uncorrectable hq l, rfl, ?_, ?_⟩
    · rw [badCodeword_badAt s l.isLt, keepLast_concat_getLast? (by decide)]
    · rw [badCodeword_badAt s l.isLt]
      exact keepLast_length_le ..
  · intro q c hport hrecord hmcast hvc
    have routed := execCellRoute_unicast hport hrecord hmcast hvc
    refine ⟨fun hown => ?_, fun hown hfence => ?_, fun hown hfence => ⟨fun p cls hroute => ?_, fun hroute => ?_⟩⟩
    · rw [hown] at routed
      exact routed
    · rw [hown, hfence] at routed
      exact routed
    · rw [hown, hfence, hroute] at routed
      exact routed
    · rw [hown, hfence, hroute] at routed
      exact routed
  · intro c hopen hfence
    refine ⟨execCellReceive_bad hq hopen hfence, fun i hgood htyp hvc hown hdep hi hpeer hpeerEp => ⟨?_, ?_⟩⟩
    · intro hseq hnew hlasts hlast hask hfew
      have next : 0 = ((cellF c).seq + 2 ^ 24 - flowB i) % 2 ^ 24 := by omega
      have taken := execCellReceive_data hq hopen hfence hgood htyp hvc hown hdep hi hpeer hpeerEp next rfl
      rw [if_pos ⟨by decide, hnew⟩] at taken
      obtain ⟨⟨ps, counted⟩, mem⟩ := takeCell_counts hi hlasts hlast hask hfew i.base
      exact ⟨_, ps, taken, counted, mem⟩
    · intro hseq hbase
      have before : 2 ^ 24 - 1 = ((cellF c).seq + 2 ^ 24 - flowB i) % 2 ^ 24 := by omega
      have one : 1 = (flowB i + 2 ^ 24 - (cellF c).seq) % 2 ^ 24 := by omega
      have answered := execCellReceive_data hq hopen hfence hgood htyp hvc hown hdep hi hpeer hpeerEp before one
      rw [if_neg (by simp), if_pos (.inr ⟨by decide, hbase⟩)] at answered
      exact ⟨_, answered, sendAck_dups .., sendAck_mem .., sendAck_reels ..⟩

/-! #### Timers of a receiving flow (R427, R428) -/

theorem advanceTo_flowsIn (s : State) (t : Nat) : (advanceTo s t).fabric.flowsIn = s.fabric.flowsIn := by
  simpa only [fabricSansQueues] using congrArg FabricS.flowsIn (advanceTo_fabricSansQueues s t)
theorem advanceTo_flowsOut (s : State) (t : Nat) : (advanceTo s t).fabric.flowsOut = s.fabric.flowsOut := by
  simpa only [fabricSansQueues] using congrArg FabricS.flowsOut (advanceTo_fabricSansQueues s t)
theorem advanceTo_rates (s : State) (t : Nat) : (advanceTo s t).fabric.rates = s.fabric.rates := by
  simpa only [fabricSansQueues] using congrArg FabricS.rates (advanceTo_fabricSansQueues s t)

/-- Time changes no receiving flow. -/
theorem advanceTo_flowInOf (s : State) (t ep slot : Nat) : flowInOf (advanceTo s t) ep slot = flowInOf s ep slot := by
  unfold flowInOf
  rw [advanceTo_flowsIn]

section
variable {s : State} {ep : Fin 16} {slot : Fin 4096} {i : FlowIn} (hi : flowInOf s ep slot = some i)
include hi

/-- The ACK timer of a flow of no tree acknowledges it 4 µs after its first cell not yet acknowledged. -/
theorem execAckTimer_acknowledges (hsome : i.unacked ≠ 0) (htree : isTree i.use = false) :
    execAckTimer ep slot s = .next (sendAck (advanceTo s (i.unackedAt + 4000)) ep slot) := by
  unfold execAckTimer
  simp [hi, hsome, htree]

/-- A gap that has stood for 20 µs is marked by a NAK, and stands anew. -/
theorem execNakTimer_marks (hgap : hasGap i = true) : ∃ t, execNakTimer ep slot s = .next t ∧
    flowInOf t ep slot = some { i with missAt := max s.now (i.missAt + 20000) } := by
  unfold execNakTimer
  simp only [hi, hgap, if_true]
  refine ⟨_, rfl, ?_⟩
  rw [advanceTo_now]
  exact updFlowIn_flowInOf ((sendControl_flowInOf ..).trans ((advanceTo_flowInOf ..).trans hi)) (fun _ => rfl) (fun _ => rfl)

end

/-! #### ACKs and NAKs that come to a sending flow (R428, R429, R437) -/

/-- An ACK without an echo that covers some of what is out frees it, shows what it marks, and restarts the resend timer. -/
theorem execAckReceived_frees {s : State} {c : BitVec 512} {o : FlowOut} (hfence : fencedOff s c = false)
    (ho : flowOutOf s (cellF c) = some o) (hok : controlOk s c 3 = true) (hecho : bits (cellF c).payload 31 24 = 0) {up : Nat}
    (hup : up = (bits (cellF c).payload 23 0 + 2 ^ 24 - (o.first + o.low) % 2 ^ 24) % 2 ^ 24) (hsome : 0 < up)
    (hrest : o.low + up < o.next) :
    execAckReceived c s = .next (updFlowOut s o.ep o.peer o.peerEp o.slot (fun y => { y with
      low := o.low + up, cells := y.cells.filter (fun p => decide (o.low + up ≤ p.1))
      shown := ((List.range 256).filter (fun k => (cellF c).payload.testBit (64 + k))).map (fun k => o.low + up + 1 + k)
      timer := 100000, timerAt := s.now, expiries := 0
      resentAt := y.resentAt.filter (fun p => decide (o.low + up ≤ p.1)) })) := by
  have within : o.low + up ≤ o.next := by omega
  have rises : o.low < o.low + up := by omega
  have unfinished : o.low + up ≠ o.next := by omega
  unfold execAckReceived
  simp only [hfence, hok, ho, hecho, ← hup, within, rises, unfinished, decide_true, if_true, if_false,
    Bool.false_eq_true, Bool.true_eq_false]
  rfl

/-- A NAK of B alone, when nothing has been resent, resends the lowest unacknowledged cell. -/
theorem execNakReceived_resends {s : State} {c : BitVec 512} {o : FlowOut} (hfence : fencedOff s c = false)
    (ho : flowOutOf s (cellF c) = some o) (hok : controlOk s c 4 = true) (hlow : bits (cellF c).payload 23 0 = (o.first + o.low) % 2 ^ 24)
    (hunmarked : ∀ k : Nat, k < 256 → (cellF c).payload.testBit (64 + k) = false) (hfresh : o.resentAt = []) :
    execNakReceived c s = .next (resend s o o.low false) := by
  have unmarked : (List.range 256).filter (fun k => (cellF c).payload.testBit (64 + k)) = [] := by
    simpa [List.filter_eq_nil_iff] using hunmarked
  have due (key : Nat) : resendDue s o key = true := by simp [resendDue, hfresh, lookupNat]
  unfold execNakReceived
  simp [hfence, hok, ho, hlow, unmarked, due]

/-- A kept cell that is resent is counted, and neither a storage nor a reel changes. -/
theorem resend_counts {s : State} {o : FlowOut} {pos : Nat} {d : BitVec 512} (hd : lookupNat pos o.cells = some d) (acknow : Bool) :
    (resend s o pos acknow).fabric.resent = bump s.fabric.resent ∧ (resend s o pos acknow).mem = s.mem ∧
      (resend s o pos acknow).reels = s.reels := by
  unfold resend
  simp only [hd]
  exact ⟨inject_resent .., inject_mem .., inject_reels ..⟩

/-! #### The resend timer (R429, R430) -/

/-- The sending flow of a key. -/
def sentFlow (s : State) (ep peer peerEp slot : Nat) : Option FlowOut :=
  s.fabric.flowsOut.find? (fun o => sameFlowOut o ep peer peerEp slot)

/-- The sending flow of a key, but for the dates of its resends. -/
def sentFlowSansDates (s : State) (ep peer peerEp slot : Nat) : Option FlowOut :=
  (sentFlow s ep peer peerEp slot).map (fun o => { o with resentAt := [] })

theorem updFlowOut_sentFlow (s : State) (o : FlowOut) {g : FlowOut → FlowOut} (hep : ∀ y, (g y).ep = y.ep)
    (hpeer : ∀ y, (g y).peer = y.peer) (hpeerEp : ∀ y, (g y).peerEp = y.peerEp) (hslot : ∀ y, (g y).slot = y.slot) :
    sentFlow (updFlowOut s o.ep o.peer o.peerEp o.slot g) o.ep o.peer o.peerEp o.slot = (sentFlow s o.ep o.peer o.peerEp o.slot).map g :=
  find?_map_where (p := fun y => sameFlowOut y o.ep o.peer o.peerEp o.slot)
    (fun y => by simp only [sameFlowOut, hep, hpeer, hpeerEp, hslot]) _

/-- A resend that is dated writes nothing else of any flow. -/
theorem dateResend_sentFlowSansDates (s : State) (o : FlowOut) (dates : List (Nat × Nat) → List (Nat × Nat))
    (ep peer peerEp slot : Nat) : sentFlowSansDates (updFlowOut s o.ep o.peer o.peerEp o.slot (fun y => { y with
      resentAt := dates y.resentAt })) ep peer peerEp slot = sentFlowSansDates s ep peer peerEp slot := by
  unfold sentFlowSansDates sentFlow updFlowOut updFabric
  dsimp only
  rw [find?_map_keeps (fun y => by split <;> rfl), Option.map_map]
  congr 1
  funext y
  simp only [Function.comp_apply]
  split <;> rfl

theorem inject_sentFlowSansDates (s : State) (c : BitVec 512) (ep peer peerEp slot : Nat) :
    sentFlowSansDates (inject s c) ep peer peerEp slot = sentFlowSansDates s ep peer peerEp slot := by
  unfold sentFlowSansDates sentFlow
  rw [inject_flowsOut]

theorem resend_sentFlowSansDates (s : State) (o : FlowOut) (pos : Nat) (acknow : Bool) (ep peer peerEp slot : Nat) :
    sentFlowSansDates (resend s o pos acknow) ep peer peerEp slot = sentFlowSansDates s ep peer peerEp slot := by
  unfold resend
  split
  · rfl
  · rw [inject_sentFlowSansDates]
    exact dateResend_sentFlowSansDates s o _ ep peer peerEp slot

theorem treeResend_sentFlowSansDates (s : State) (o : FlowOut) (dest pos : Nat) (acknow : Bool) (ep peer peerEp slot : Nat) :
    sentFlowSansDates (treeResend s o dest pos acknow) ep peer peerEp slot = sentFlowSansDates s ep peer peerEp slot := by
  unfold treeResend
  dsimp only
  split
  · rfl
  · split
    · rfl
    · rw [inject_sentFlowSansDates]
      exact dateResend_sentFlowSansDates s o _ ep peer peerEp slot

/-- The resend timer of a flow has expired at a date: it doubles up to 1.6 ms, and at 64 expiries in succession the flow stalls. -/
def expired (now : Nat) (o y : FlowOut) : FlowOut :=
  { y with timer := min 1600000 (2 * y.timer), timerAt := now, expiries := o.expiries + 1
           stalled := y.stalled || (decide (64 ≤ o.expiries + 1) && !o.stalled) }

/-- The cells that an expiry of a flow's resend timer resends: to its peer, or to each destination of its tree that has not
acknowledged it (R429, R448). -/
def resendRound (s : State) (o : FlowOut) : State :=
  let s1 := advanceTo s (o.timerAt + o.timer)
  let due := ((o.cells.map (fun p => p.1)).filter (fun p => !o.shown.contains p && (o.tree.isSome || resendDue s1 o p))).take 256
  match o.tree with
  | none => due.foldl (fun t p => resend t o p true) s1
  | some t => ((treeDests s t).filter (fun a => !o.acked.contains a)).foldl (fun u a => due.foldl (fun v p => treeResend v o a p true) u) s1

theorem resendRound_sentFlowSansDates (s : State) (o : FlowOut) (ep peer peerEp slot : Nat) :
    sentFlowSansDates (resendRound s o) ep peer peerEp slot = sentFlowSansDates s ep peer peerEp slot := by
  have waited : sentFlowSansDates (advanceTo s (o.timerAt + o.timer)) ep peer peerEp slot = sentFlowSansDates s ep peer peerEp slot := by
    unfold sentFlowSansDates sentFlow
    rw [advanceTo_flowsOut]
  unfold resendRound
  dsimp only
  split
  · exact (foldl_keeps (fun u => sentFlowSansDates u ep peer peerEp slot) _
      (fun u pos => resend_sentFlowSansDates u o pos true ep peer peerEp slot) _ _).trans waited
  · refine (foldl_keeps (fun u => sentFlowSansDates u ep peer peerEp slot) _ (fun u a => ?_) _ _).trans waited
    exact foldl_keeps (fun u => sentFlowSansDates u ep peer peerEp slot) _
      (fun v pos => treeResend_sentFlowSansDates v o a pos true ep peer peerEp slot) _ _

/-- The resend timer of a flow with cells out resends a round of them, and expires. -/
theorem execResendTimer_expires {s : State} {ep : Fin 16} {peer : U16} {peerEp : Fin 16} {slot : Fin 4096} {o : FlowOut}
    (ho : sentFlow s ep peer.toNat peerEp slot = some o) (hout : o.low ≠ o.next) : ∃ t : State,
    execResendTimer ep peer peerEp slot s = .next t ∧ t.fabric =
      (updFlowOut (resendRound s o) o.ep o.peer o.peerEp o.slot (expired (max s.now (o.timerAt + o.timer)) o)).fabric := by
  unfold sentFlow at ho
  unfold execResendTimer
  simp only [ho, hout, if_false, advanceTo_now]
  refine ⟨_, rfl, ?_⟩
  split
  · exact raise_fabric ..
  · rfl

/-- So the flow stays as it was, but for the dates of its resends and what an expiry writes. -/
theorem execResendTimer_sentFlow {s : State} {ep : Fin 16} {peer : U16} {peerEp : Fin 16} {slot : Fin 4096} {o : FlowOut}
    (ho : sentFlow s ep peer.toNat peerEp slot = some o) (hout : o.low ≠ o.next) : ∃ (t : State) (dates : List (Nat × Nat)),
    execResendTimer ep peer peerEp slot s = .next t ∧ sentFlow t ep peer.toNat peerEp slot =
      some (expired (max s.now (o.timerAt + o.timer)) o { o with resentAt := dates }) := by
  obtain ⟨t, done, fabric⟩ := execResendTimer_expires ho hout
  have key : o.ep = ep ∧ o.peer = peer.toNat ∧ o.peerEp = peerEp ∧ o.slot = slot := by
    simpa [sameFlowOut] using List.find?_some ho
  obtain ⟨hep, hpeer, hpeerEp, hslot⟩ := key
  rw [← hep, ← hpeer, ← hpeerEp, ← hslot] at ho ⊢
  obtain ⟨y, hy, same⟩ : ∃ y, sentFlow (resendRound s o) o.ep o.peer o.peerEp o.slot = some y ∧
      ({ y with resentAt := [] } : FlowOut) = { o with resentAt := [] } := by
    have found := resendRound_sentFlowSansDates s o o.ep o.peer o.peerEp o.slot
    unfold sentFlowSansDates at found
    rw [ho] at found
    simpa using found
  have dated : y = { o with resentAt := y.resentAt } := congrArg (fun x : FlowOut => { x with resentAt := y.resentAt }) same
  refine ⟨t, y.resentAt, done, ?_⟩
  have flow := updFlowOut_sentFlow (resendRound s o) o (g := expired (max s.now (o.timerAt + o.timer)) o)
    (fun _ => rfl) (fun _ => rfl) (fun _ => rfl) (fun _ => rfl)
  rw [hy, dated] at flow
  unfold sentFlow at flow ⊢
  rw [fabric]
  exact flow

/-! #### Rates (R440) -/

/-- A rate context after an increase to a rate. -/
def increased (now rate : Nat) (r : RateCtx) : RateCtx :=
  { r with rate := rate, echoAt := now
           ceilingAt := if rate = ceilingRate then (if r.ceilingAt.isSome then r.ceilingAt else some now) else none }

theorem increased_member (now rate : Nat) (r : RateCtx) : (increased now rate r).member = r.member := rfl
theorem increased_vc (now rate : Nat) (r : RateCtx) : (increased now rate r).vc = r.vc := rfl

/-- The rate context of a member and a VC. -/
def rateOf (s : State) (member vc : Nat) : Option RateCtx :=
  s.fabric.rates.find? (fun r => decide (r.member = member ∧ r.vc = vc))

/-- Time changes no rate context. -/
theorem advanceTo_rateOf (s : State) (t member vc : Nat) : rateOf (advanceTo s t) member vc = rateOf s member vc := by
  unfold rateOf
  rw [advanceTo_rates]

/-- An increase stands where its context stood. -/
theorem increased_rateOf {s : State} {member vc : Nat} {r : RateCtx} (hr : rateOf s member vc = some r) (now rate : Nat) :
    rateOf (updFabric s (fun x => { x with rates := x.rates.map (fun y => if y = r then increased now rate r else y) })) member vc =
      some (increased now rate r) := by
  have samePlace (y : RateCtx) : decide ((if y = r then increased now rate r else y).member = member ∧
      (if y = r then increased now rate r else y).vc = vc) = decide (y.member = member ∧ y.vc = vc) := by
    rw [decide_eq_decide]
    split
    next same => rw [same, increased_member, increased_vc]
    next => exact Iff.rfl
  unfold rateOf at hr ⊢
  dsimp only [updFabric]
  rw [find?_map_keeps samePlace, hr, Option.map_some, if_pos rfl]

/-- 16 µs without an echo increase the rate of a context. -/
theorem execRateIncrease_increases {s : State} {member : U16} {vc : Fin 5} {r : RateCtx} (hr : rateOf s member.toNat vc = some r)
    (hheld : r.held = 0) : execRateIncrease member vc s = .next (updFabric (advanceTo s (r.echoAt + 16000)) (fun x => { x with
      rates := x.rates.map (fun y =>
        if y = r then increased (max s.now (r.echoAt + 16000)) (min ceilingRate (r.rate + 2340000)) r else y) })) := by
  unfold rateOf at hr
  unfold execRateIncrease
  simp only [hr, hheld, if_true, advanceTo_now, increased]

/-- Settles O36: each timer and each arrival does the one thing that its rule above says. -/
theorem acknowledgementAndResend : Obligations.AcknowledgementAndResend := by
  intro s
  refine ⟨fun ep slot i hi => ⟨fun hsome htree => ?_, execNakTimer_marks hi⟩, fun c o hfence ho => ⟨?_, ?_⟩, ?_, ?_⟩
  · refine ⟨_, execAckTimer_acknowledges hi hsome htree, ?_, ?_⟩
    · exact sendAck_flowInOf ((advanceTo_flowInOf ..).trans hi)
    · rw [sendAck_now, advanceTo_now]
  · exact fun hok hecho up hup hsome hrest => execAckReceived_frees hfence ho hok hecho hup hsome hrest
  · exact fun hok hlow hunmarked hfresh d hd =>
      ⟨_, execNakReceived_resends hfence ho hok hlow hunmarked hfresh, resend_counts hd false⟩
  · intro ep peer peerEp slot o ho hout
    obtain ⟨t, dates, done, flow⟩ := execResendTimer_sentFlow ho hout
    refine ⟨t, _, done, flow, rfl, rfl, rfl, rfl, rfl, rfl, ?_⟩
    cases stalled : o.stalled <;> simp [expired, stalled]
  · intro member vc r hr hheld
    refine ⟨_, _, execRateIncrease_increases hr hheld, increased_rateOf ?_ _ _, by simp only [increased, ceilingRate], advanceTo_now ..⟩
    exact (advanceTo_rateOf ..).trans hr

end Sys2Proof.Machine

namespace Sys2Proof.Machine

/-! ### Collectives

#### Data phases (R474 to R479, R492, R497) -/

/-- A slot that runs an operation's data phases has a call of that operation. -/
theorem runsOp_op {s : State} {i op : Nat} (h : runsOp s i op = true) : (callDesc s (slotOf s i)).op = op := by
  unfold runsOp at h
  simp only [Bool.and_eq_true, decide_eq_true_eq] at h
  obtain ⟨⟨-, hop⟩, -⟩ := h
  exact hop

/-- The reduced elements in their places: each is the value in the fixed order, rounded once (R474). -/
theorem reduceAll_codes (g : GroupSlot) (f : CollF) (own lo len : Nat) (vecs : List (List Nat)) :
    (reduceAll g f own lo len vecs).1 = (List.range len).map (fun j => (finish32 f.dfmt f.rmode (reduceElem f.redop
      (if f.op = 1 then resolvedAlg g f else 1) f.count (slotP g) (setBits 13 g.dims).length vecs (lo + j))).1) := by
  rw [List.map_eq_flatMap, List.flatMap_eq_foldl]
  unfold reduceAll
  exact (List.foldl_hom Prod.fst fun _ _ => rfl).symm

/-- Destinations that are all written finish the data phases. -/
theorem settleData_written {s t : State} {g : GroupSlot} {bytes : Nat → List Byte} (h : writeDests s g bytes = (t, none)) (i : Nat)
    (num : Byte) : settleData i num (writeDests s g bytes) = dataDone t i num := by
  rw [h]; rfl

/-- The vectors that a reduction combines: the fold of this member's sources, and what came from the others (R476). -/
def summands (own : Nat) (f : CollF) (srcs peers : List (List Byte)) : List (List Nat) :=
  contributions own (foldVecs f.redop (srcs.map (fun b => (elemsOf f.sfmt b).map (to32 f.sfmt)))) peers

section
variable {s s1 t : State} {i : Fin 64} {g : GroupSlot} {f : CollF} {peers srcs : List (List Byte)} {data src : List Byte}
variable (hg : slotOf s i = g) (hf : callDesc s g = f) (hread : readSources s g .clean = (s1, none, srcs))
include hg hf

/-- A member without the root writes what came from it. -/
theorem execBroadcast_elsewhere (hruns : runsOp s i 4 = true) (hroot : ∀ k ∈ slotDies g, rankOf s g k ≠ f.root)
    (hlen : data.length = f.count * elemBytes f.sfmt) (hwrite : writeDests s g (fun _ => data) = (t, none)) :
    execBroadcast i data .clean s = .next (dataDone t i 0#8) := by
  have away : (slotDies g).find? (fun k => decide (rankOf s g k = f.root)) = none := by simpa using hroot
  unfold execBroadcast
  simp only [hg, hf, hruns, away, hlen, if_true]
  exact congrArg _ (settleData_written hwrite ..)

/-- The root's member reads the root's source and writes it at its dies. -/
theorem execBroadcast_root {k : Nat} (hruns : runsOp s i 4 = true) (hmcen : f.mcen = false)
    (hroot : (slotDies g).find? (fun k => decide (rankOf s g k = f.root)) = some k)
    (hsrc : collRead s g.owner.toNat (descOf s g k).src (f.count * elemBytes f.sfmt) .clean = (s1, none, src))
    (hwrite : writeDests s1 g (fun _ => src) = (t, none)) : execBroadcast i data .clean s = .next (dataDone t i 0#8) := by
  unfold execBroadcast
  simp only [hg, hf, hruns, hroot, hsrc, hmcen, if_true]
  exact congrArg _ (settleData_written hwrite ..)

include hread

/-- ALLREDUCE writes every reduced element at every die. -/
theorem execAllreduce_writes (hruns : runsOp s i 1 = true) (hpeers : peersHere (slotP g) (slotCoord s g) (4 * f.count) peers = true)
    (hwrite : writeDests s1 g (fun _ => (reduceAll g f (slotCoord s g) 0 f.count (summands (slotCoord s g) f srcs peers)).1.flatMap
      (leBytes (elemBytes f.dfmt))) = (t, none)) :
    ∃ num : Byte, execAllreduce i peers .clean s = .next (dataDone t i num) := by
  unfold execAllreduce
  simp only [hg, hf, hruns, hpeers, hread, Bool.and_self, if_true]
  exact ⟨_, congrArg _ (settleData_written hwrite ..)⟩

/-- REDUCESCATTER writes to each die its share of this member's block. -/
theorem execReducescatter_writes (hruns : runsOp s i 2 = true)
    (hpeers : peersHere (slotP g) (slotCoord s g) (4 * f.count) peers = true)
    (hwrite : writeDests s1 g (fun k => (((reduceAll g f (slotCoord s g) (slotCoord s g * (f.count / slotP g)) (f.count / slotP g)
      (summands (slotCoord s g) f srcs peers)).1.drop (dieRank g.dmask k * (f.count / slotP g / max (slotD g) 1))).take
        (f.count / slotP g / max (slotD g) 1)).flatMap (leBytes (elemBytes f.dfmt))) = (t, none)) :
    ∃ num : Byte, execReducescatter i peers .clean s = .next (dataDone t i num) := by
  unfold execReducescatter
  simp only [hg, hf, hruns, hpeers, hread, Bool.and_self, if_true]
  exact ⟨_, congrArg _ (settleData_written hwrite ..)⟩

/-- ALLGATHER writes every coordinate's sources in coordinate order. -/
theorem execAllgather_writes (hruns : runsOp s i 3 = true)
    (hpeers : peersHere (slotP g) (slotCoord s g) (slotD g * f.count * elemBytes f.sfmt) peers = true)
    (hwrite : writeDests s1 g (fun _ => ((List.range (slotP g)).map (fun c =>
      if c = slotCoord s g then srcs.flatten else peers.getD c [])).flatten) = (t, none)) :
    execAllgather i peers .clean s = .next (dataDone t i 0#8) := by
  unfold execAllgather
  simp only [hg, hf, hruns, hpeers, hread, Bool.and_self, if_true]
  exact congrArg _ (settleData_written hwrite ..)

/-- KVRING passes the neighbour's sources on; a member alone copies its own. -/
theorem execKvring_writes (hruns : runsOp s i 7 = true)
    (hrecv : slotP g = 1 ∨ peers.length = slotD g ∧ ∀ b ∈ peers, b.length = f.count * elemBytes f.sfmt)
    (hwrite : writeDests s1 g (fun k => (if slotP g = 1 then srcs else peers).getD (dieRank g.dmask k) []) = (t, none)) :
    execKvring i peers .clean s = .next (dataDone t i 0#8) := by
  have ready : (decide (slotP g = 1) || (decide (peers.length = slotD g) &&
      peers.all (fun b => decide (b.length = f.count * elemBytes f.sfmt)))) = true := by simpa using hrecv
  unfold execKvring
  simp only [hg, hf, hruns, ready, hread, Bool.and_self, if_true]
  exact congrArg _ (settleData_written hwrite ..)

end

/-- Settles O39: each operation reads this member's sources and writes what its rule says into the destinations. -/
theorem reductionsAndGathersWriteTheirResults : Obligations.ReductionsAndGathersWriteTheirResults := by
  intro s i
  refine ⟨fun peers s1 srcs hread => ⟨fun hruns hpeers t hwrite => ?_, fun hruns hpeers t hwrite => ?_, fun hruns hpeers t hwrite => ?_,
    fun hruns hmany hlen heach t hwrite => ?_, fun hruns hone t hwrite => ?_⟩, fun data hruns hroot hlen t hwrite => ?_,
    fun k data s1 src hruns hmcen hroot hsrc t hwrite => ?_⟩
  · refine execAllreduce_writes rfl rfl hread hruns hpeers ?_
    rw [reduceAll_codes, if_pos (runsOp_op hruns)]
    simp only [Nat.zero_add]
    exact hwrite
  · refine execReducescatter_writes rfl rfl hread hruns hpeers ?_
    rw [reduceAll_codes, if_neg (by rw [runsOp_op hruns]; decide)]
    exact hwrite
  · exact ⟨_, execAllgather_writes rfl rfl hread hruns hpeers hwrite⟩
  · exact ⟨_, execKvring_writes rfl rfl hread hruns (.inr ⟨hlen, heach⟩) (by rw [if_neg hmany]; exact hwrite)⟩
  · exact ⟨_, execKvring_writes rfl rfl hread hruns (.inl hone) (by rw [if_pos hone]; exact hwrite)⟩
  · exact ⟨_, execBroadcast_elsewhere rfl rfl hruns hroot hlen hwrite⟩
  · exact ⟨_, execBroadcast_root rfl rfl hruns hmcen hroot hsrc hwrite⟩

/-! #### What leaves the calls alone

Operations that end start others, and a COLL that starts registers at its slot. `cleView` is the collective engine but for
these registrations, with the proof runs that wait: what ends operations, fails steps and sends cells leaves it as it is. -/

/-- A slot but for the COLLs registered there. -/
def GroupSlot.sansRegs (g : GroupSlot) : GroupSlot := { g with regs := [] }

/-- The collective engine but for the registered COLLs, and the proof runs that wait. -/
def cleView (s : State) : CleS × List ProofReq := ({ s.cle with groups := s.cle.groups.map GroupSlot.sansRegs }, s.ev.proofs)

theorem cleView_congr {s t : State} (hcle : t.cle = s.cle) (hproofs : t.ev.proofs = s.ev.proofs) : cleView t = cleView s := by
  unfold cleView; rw [hcle, hproofs]

theorem sansRegs_slotOf (s : State) (k : Nat) : (slotOf s k).sansRegs = vget (cleView s).1.groups k GroupSlot.reset := by
  by_cases hk : k < 64
  · simp [slotOf, vget, cleView, hk]
  · simp [slotOf, vget, hk, GroupSlot.sansRegs, GroupSlot.reset]

/-- Slots that differ in their registrations alone show the same call. -/
theorem fields_of_sansRegs {g g' : GroupSlot} (h : g.sansRegs = g'.sansRegs) :
    g.last = g'.last ∧ g.call = g'.call ∧ g.st = g'.st ∧ g.abortsOut = g'.abortsOut :=
  ⟨(congrArg GroupSlot.last h :), (congrArg GroupSlot.call h :), (congrArg GroupSlot.st h :), (congrArg GroupSlot.abortsOut h :)⟩

theorem slotOf_of_cleView {s t : State} (h : cleView t = cleView s) (k : Nat) : (slotOf t k).sansRegs = (slotOf s k).sansRegs := by
  rw [sansRegs_slotOf, sansRegs_slotOf, h]
theorem completed_of_cleView {s t : State} (h : cleView t = cleView s) : t.cle.completed = s.cle.completed :=
  congrArg (fun v => v.1.completed) h
theorem lanes_of_cleView {s t : State} (h : cleView t = cleView s) : t.cle.lanes = s.cle.lanes :=
  congrArg (fun v => v.1.lanes) h
theorem proofs_of_cleView {s t : State} (h : cleView t = cleView s) : t.ev.proofs = s.ev.proofs := congrArg (fun v => v.2) h

/-! Events. -/

@[simp] theorem record_proofs (s : State) (code uk ui det : Nat) (inj : Bool) (part : Option Nat) :
    (record s code uk ui det inj part).ev.proofs = s.ev.proofs := by
  unfold record; simp only [apply_ite State.ev, apply_ite EventS.proofs, ite_self]

@[simp] theorem raiseP_proofs (s : State) (code uk ui det : Nat) (inj : Bool) (part : Option Nat) :
    (raiseP s code uk ui det inj part).ev.proofs = s.ev.proofs := by
  unfold raiseP
  obtain h | h := reportLost_cases (record s code uk ui det inj part)
  · rw [h, record_proofs]; exact record_proofs ..
  · rw [h, record_proofs]

@[simp] theorem raise_proofs (s : State) (code uk ui det : Nat) (inj : Bool) : (raise s code uk ui det inj).ev.proofs = s.ev.proofs :=
  raiseP_proofs ..

@[simp] theorem raise_cleView (s : State) (code uk ui det : Nat) (inj : Bool) : cleView (raise s code uk ui det inj) = cleView s :=
  cleView_congr (raise_cle ..) (raise_proofs ..)

@[simp] theorem downgrade_cleView (s : State) (p kept broken k : Nat) : cleView (downgrade s p kept broken k) = cleView s :=
  cleView_congr (downgrade_cle ..) (raiseP_proofs ..)

@[simp] theorem addFault_cleView (s : State) (uk ui code : Nat) (inj : Bool) : cleView (addFault s uk ui code inj) = cleView s := by
  unfold addFault; split <;> rfl

@[simp] theorem setCause_cleView (s : State) (b : Bool) : cleView (setCause s b) = cleView s := rfl

/-! Units, places and moves. -/

@[simp] theorem updSeq_cleView (s : State) (i : Nat) (f : SeqS → SeqS) : cleView (updSeq s i f) = cleView s := rfl
@[simp] theorem updVxe_cleView (s : State) (i : Nat) (f : VxeS → VxeS) : cleView (updVxe s i f) = cleView s := rfl
@[simp] theorem updNeg_cleView (s : State) (i : Nat) (f : NegS → NegS) : cleView (updNeg s i f) = cleView s := rfl
@[simp] theorem updReel_cleView (s : State) (i : Nat) (f : ReelS → ReelS) : cleView (updReel s i f) = cleView s := rfl
@[simp] theorem updArr_cleView (s : State) (i : Nat) (f : ArrayS → ArrayS) : cleView (updArr s i f) = cleView s := rfl
@[simp] theorem countMove_cleView (s : State) : cleView (countMove s) = cleView s := rfl

@[simp] theorem drawFree_cleView (s : State) : cleView (drawFree s).2 = cleView s := rfl

@[simp] theorem placeStore_cleView (s : State) (pl : Place) (a : Nat) (vs : List Byte) : cleView (placeStore s pl a vs) = cleView s := by
  cases pl <;> rfl

@[simp] theorem scramble_cleView (s : State) (r : Region) : cleView (scramble s r) = cleView s := by
  simp [scramble]

@[simp] theorem scrambleAny_cleView (s : State) (r : Region) : cleView (scrambleAny s r) = cleView s := by
  unfold scrambleAny; split <;> simp

@[simp] theorem withdrawMoves_cleView (s : State) (die : Nat) : cleView (withdrawMoves s die) = cleView s :=
  foldl_keeps cleView _ (fun t r => updReel_cleView t (8 * die + r) _) _ _

/-! Steps that fail. -/

@[simp] theorem haltIssue_cleView (s : State) (die reason : Nat) : cleView (haltIssue s die reason) = cleView s := by simp [haltIssue]

@[simp] theorem settleNeg_cleView (s : State) (p : Nat) : cleView (settleNeg s p) = cleView s := by
  unfold settleNeg; dsimp only; split
  · rw [updNeg_cleView, foldl_keeps cleView _ fun t d => updSeq_cleView t d _, foldl_keeps cleView _ scrambleAny_cleView]
  · rfl

@[simp] theorem failStep_cleView (s : State) (die reason : Nat) (withheld : Bool) :
    cleView (failStep s die reason withheld) = cleView s := by
  unfold failStep; split
  · split <;> simp
  · dsimp only
    rw [settleNeg_cleView, foldl_keeps cleView _ fun _ _ => by split <;> simp, haltIssue_cleView, setCause_cleView]
    split <;> simp

/-! Operations. -/

/-- A change of the slots' registrations alone. -/
theorem updSlot_cleView (s : State) (i : Nat) {f : GroupSlot → GroupSlot} (h : ∀ g, (f g).sansRegs = g.sansRegs) :
    cleView (updSlot s i f) = cleView s := by
  have same : (vmod s.cle.groups i f).map GroupSlot.sansRegs = s.cle.groups.map GroupSlot.sansRegs := by
    ext k hk
    by_cases hik : i = k
    · subst hik; simp [vmod, hk, h]
    · unfold vmod; split <;> simp [Vector.getElem_set_ne, hik]
  unfold cleView updSlot
  rw [same]

@[simp] theorem registerColl_cleView (s : State) (die g desc op : Nat) : cleView (registerColl s die g desc op) = cleView s := by
  unfold registerColl; split
  · exact updSlot_cleView _ _ fun _ => rfl
  · rfl

@[simp] theorem startOp_cleView (s : State) (die : Nat) (o : OpRec) : cleView (startOp s die o) = cleView s := by
  unfold startOp; split
  case h_1 | h_2 | h_3 => simp [apply_ite cleView]
  case h_4 => simp

@[simp] theorem startReady_cleView (s : State) (die : Nat) : cleView (startReady s die) = cleView s := by
  unfold startReady; split
  · rfl
  · refine foldl_keeps cleView _ (fun t _ => ?_) _ _
    dsimp only; split
    · split <;> simp
    · rfl

@[simp] theorem issueOp_cleView (s : State) (die : Nat) (b : OpBody) (collR collW : List Region) (sigc : Nat) (sige : Bool) :
    cleView (issueOp s die b collR collW sigc sige) = cleView s := by
  unfold issueOp; dsimp only; rw [startReady_cleView]; split <;> simp

@[simp] theorem issueWord_cleView (s : State) (die : Nat) (w : Issue) : cleView (issueWord s die w) = cleView s := by
  cases w with
  | op b sigc sige => unfold issueWord; dsimp only; split <;> simp
  | setx x v => unfold issueWord; dsimp only; split <;> simp

@[simp] theorem endStep_cleView (s : State) (die : Nat) : cleView (endStep s die) = cleView s := by
  have stopped (t : State) (p : Nat) : cleView (checkStopped t p) = cleView t := by
    unfold checkStopped; dsimp only; split <;> simp
  unfold endStep; dsimp only; split <;> simp [stopped]

@[simp] theorem afterOps_cleView (s : State) (die : Nat) : cleView (afterOps s die) = cleView s := by
  have settled (t : State) : cleView (match partOfDie t die with | some p => settleNeg t p | none => t) = cleView t := by
    split <;> simp
  unfold afterOps; dsimp only
  refine (settled _).trans ?_
  split
  · split <;> simp
  · split <;> simp
  · simp

@[simp] theorem completeOp_cleView (s : State) (die id : Nat) : cleView (completeOp s die id) = cleView s := by
  unfold completeOp; split <;> simp

@[simp] theorem abortOp_cleView (s : State) (die id reason : Nat) (withheld : Bool) :
    cleView (abortOp s die id reason withheld) = cleView s := by
  simp [abortOp]

/-! Units that leave service, and the exposures that go with them. -/

@[simp] theorem unitLeaves_cleView (s : State) (uk ui : Nat) : cleView (unitLeaves s uk ui) = cleView s := by
  have lost (t : State) (p die : Nat) : cleView (loseUnit t p die) = cleView t := by
    unfold loseUnit; dsimp only; split <;> simp
  refine foldl_keeps cleView _ (fun t p => ?_) _ _
  dsimp only; split <;> simp [lost]

@[simp] theorem respond_cleView (s : State) (o : Owed) (status : Nat) (data : List Byte) : cleView (respond s o status data) = cleView s := by
  have sent (t : State) (dest : Asker) (body : List Byte) : cleView (sendTo t dest body) = cleView t := by
    unfold sendTo; split
    · rfl
    · rfl
    · split <;> rfl
  have kept (t : State) (body : List Byte) : cleView (keepAnswer t o body) = cleView t := by
    unfold keepAnswer; split
    · split <;> rfl
    · rfl
  unfold respond; split
  · rfl
  · rw [kept, sent]; split <;> rfl

@[simp] theorem settleOwed_cleView (s : State) (o : Option Owed) (status : Nat) : cleView (settleOwed s o status) = cleView s := by
  unfold settleOwed; split <;> simp

@[simp] theorem abortProposal_cleView (s : State) (k code : Nat) : cleView (abortProposal s k code) = cleView s := by
  unfold abortProposal raiseSec; simp only [settleOwed_cleView, raise_cleView]; rfl

@[simp] theorem abortExposure_cleView (s : State) (e code : Nat) : cleView (abortExposure s e code) = cleView s := by
  unfold abortExposure; dsimp only; split
  · rw [foldl_keeps cleView _ fun _ _ => by split <;> simp, settleOwed_cleView]; rfl
  · rfl

@[simp] theorem exposuresLose_cleView (s : State) (hit : Nat → Bool) : cleView (exposuresLose s hit) = cleView s :=
  foldl_keeps cleView _ (fun _ _ => by split <;> simp) _ _

/-! Cells that leave the CLE. -/

@[simp] theorem inject_cleView (s : State) (c : BitVec 512) : cleView (inject s c) = cleView s := by
  have unreached (t : State) (d : Nat) : cleView (raiseUnreach t d) = cleView t := by
    unfold raiseUnreach; dsimp only; split
    · rw [if_pos rfl, raise_cleView]; rfl
    · split
      · rw [raise_cleView]; rfl
      · rfl
  unfold inject; dsimp only; split
  · rfl
  · split
    · rfl
    · rfl
    · rw [unreached]; rfl

@[simp] theorem sendControl_cleView (s : State) (typ dmem dep sep flow payload : Nat) :
    cleView (sendControl s typ dmem dep sep flow payload) = cleView s := inject_cleView ..

/-! #### How a call ends (R467, R502, R503) -/

@[simp] theorem scrambleDie_cleView (s : State) (g : GroupSlot) (k status : Nat) : cleView (scrambleDie s g k status) = cleView s := by
  have scrambled (t : State) (part addr len : Nat) : cleView (scrambleAddr t part addr len) = cleView t :=
    foldl_keeps cleView _ scramble_cleView _ _
  unfold scrambleDie; dsimp only; split <;> simp [scrambled]

@[simp] theorem endDie_cleView (g : GroupSlot) (status : Nat) (s : State) (r : CallReg) : cleView (endDie g status s r) = cleView s := by
  unfold endDie; split
  · dsimp only; split <;> simp
  · simp

@[simp] theorem sendAbort_cleView (s : State) (g : GroupSlot) (peer call status : Nat) :
    cleView (sendAbort s g peer call status) = cleView s := sendControl_cleView ..

/-- One more call has completed. -/
def countCompleted (s : State) : State := { s with cle := { s.cle with completed := bump s.cle.completed } }

/-- What follows once the slot has left its call: flows close, the event is raised, abort notices go out, and the dies'
operations complete or fail. -/
theorem callClosing_cleView (s : State) (g : GroupSlot) (i status call d1 d2 : Nat) (peers : List Nat) (regs : List CallReg)
    (p : FlowIn → Bool) (q : FlowOut → Bool) :
    cleView (regs.foldl (endDie g status) (peers.foldl (fun t a => sendAbort t g a call status)
      (if status = 0 then { closeOut (closeIn s p) q with cle := { (closeOut (closeIn s p) q).cle with
          completed := bump (closeOut (closeIn s p) q).cle.completed } }
        else if status = 1 then raise (closeOut (closeIn s p) q) 0x71 ukGROUP i d1
        else raise (closeOut (closeIn s p) q) 0x72 ukGROUP i d2))) =
      cleView (if status = 0 then countCompleted s else s) := by
  rw [foldl_keeps cleView _ (endDie_cleView g status), foldl_keeps cleView _ fun t a => sendAbort_cleView t g a call status]
  split
  · rfl
  · split <;> exact raise_cleView ..

/-- An ended call leaves its slot at the next one (R467, R503), and of the rest of the CLE it changes at most the count. -/
theorem endCall_cleView (s : State) (i status detail : Nat) : ∃ (s1 : State) (f : GroupSlot → GroupSlot), cleView s1 = cleView s ∧
    (∀ x, (f x).last = BitVec.ofNat 8 status ∧ (f x).call = x.call + 1#32 ∧
      (spreads status = false → x.abortsOut = [] → (f x).st = .idle)) ∧
    cleView (endCall s i status detail) = cleView (if status = 0 then countCompleted (updSlot s1 i f) else updSlot s1 i f) := by
  unfold endCall
  dsimp only
  refine ⟨_, _, ?_, fun x => ⟨rfl, rfl, fun hkept hnone => ?_⟩, callClosing_cleView ..⟩
  · exact foldl_keeps cleView _ (fun t k => scrambleDie_cleView t _ k _) _ _
  · simp [hkept, hnone]

/-- The slot of an ended call shows the call's status, stands at the next call, and is IDLE where no abort notice is still
sent. -/
theorem endCall_slot (s : State) {i : Nat} (hi : i < 64) (status detail : Nat) :
    (slotOf (endCall s i status detail) i).last = BitVec.ofNat 8 status ∧
    (slotOf (endCall s i status detail) i).call = (slotOf s i).call + 1#32 ∧
    (spreads status = false → (slotOf s i).abortsOut = [] → (slotOf (endCall s i status detail) i).st = .idle) := by
  obtain ⟨s1, f, before, hf, view⟩ := endCall_cleView s i status detail
  obtain ⟨hlast, hcall, hidle⟩ := hf (slotOf s1 i)
  have left : (slotOf (endCall s i status detail) i).sansRegs = (f (slotOf s1 i)).sansRegs := by
    rw [slotOf_of_cleView view, ← updSlot_same s1 i f hi]
    split <;> rfl
  obtain ⟨-, callWas, -, noticesWas⟩ := fields_of_sansRegs (slotOf_of_cleView before i)
  obtain ⟨lastIs, callIs, stIs, -⟩ := fields_of_sansRegs left
  rw [lastIs, callIs, stIs, ← callWas, ← noticesWas]
  exact ⟨hlast, hcall, hidle⟩

/-- A call that ends with OK is counted. -/
theorem endCall_completed (s : State) (i detail : Nat) : (endCall s i 0 detail).cle.completed = bump s.cle.completed := by
  obtain ⟨s1, f, before, -, view⟩ := endCall_cleView s i 0 detail
  rw [← completed_of_cleView before]
  exact completed_of_cleView view

/-- CALL_END ends a call whose data is done and whose cells are acknowledged. -/
theorem execCallEnd_ends {s : State} {i : Fin 64} (hst : (slotOf s i).st = .running) (hdone : (slotOf s i).done = true)
    (hflows : callFlowsDone s i = true) : execCallEnd i s = .next (endCall s i 0 0) :=
  if_pos ⟨hst, hdone, hflows⟩

/-! #### Steps, replays and adder lanes (R480 to R483) -/

/-- No injection point meets the adds of a quiet state. -/
theorem stepResidue_quiet {s : State} (hq : Quiet s) (residue : Option Nat) :
    stepResidue s residue = (s, residue.map (fun k => (k, false, false))) := by
  have unarmed : cleInjection s = none := by
    unfold cleInjection
    simp [injArmed_quiet hq]
  unfold stepResidue
  rw [unarmed]

/-- The first proof run that is asked for waits alone. -/
theorem enqueueProof_first {s : State} (h : s.ev.proofs = []) (onFull : State → State) (sl : Slice) (inj persist : Bool) :
    enqueueProof onFull s sl inj persist = { s with ev := { s.ev with
      proofs := [{ slice := sl, at_ := s.now, inj := inj, persist := persist, running := false }] } } := by
  unfold enqueueProof
  simp [h]

/-- A slot that counts a step. -/
def stepCounted (now : Nat) (x : GroupSlot) : GroupSlot := { x with step := x.step + 1#16, progressAt := now, replayed := false }

/-- The state in which the step of a slot is replayed. -/
def replaying (s : State) (i : Nat) : State :=
  updSlot { s with cle := { s.cle with replays := bump s.cle.replays } } i (fun x => { x with replayed := true })

theorem slotOf_of_cle {s t : State} (h : t.cle = s.cle) (k : Nat) : slotOf t k = slotOf s k := by
  unfold slotOf; rw [h]

section
variable {s : State} {i : Fin 64} (hq : Quiet s) (hst : (slotOf s i).st = .running)
include hq hst

/-- A step without a failed check counts. -/
theorem execCleStepDone_counts {residue : Option (Fin 16)} (hres : residue = none ∨ (callDesc s (slotOf s i)).op ∉ [1, 2, 5])
    (ok : Bool) : execCleStepDone i residue ok s = .next (updSlot s i (stepCounted s.now)) := by
  have clean : (if (callDesc s (slotOf s i)).op ∈ [1, 2, 5] then stepResidue s (residue.map Fin.val) else (s, none)) = (s, none) := by
    split
    next hadds =>
      obtain rfl | hop := hres
      · exact stepResidue_quiet hq none
      · exact absurd hadds hop
    next => rfl
  unfold execCleStepDone
  simp only [hst, clean, ne_eq, not_true_eq_false, if_false]
  rfl

variable {l : Fin 16} (hadds : (callDesc s (slotOf s i)).op ∈ [1, 2, 5]) (hproofs : s.ev.proofs = [])
include hadds hproofs

/-- A reduction's step whose residue fails: the lane's self-check is asked for, and the step counts where its replay on
another lane passes; else the call ends with ADDER_FAULT. -/
theorem execCleStepDone_residue (ok : Bool) : ∃ u : State, u.cle = (replaying s i).cle ∧
    u.ev.proofs.map (fun p => p.slice) = [Slice.cleLane l] ∧ execCleStepDone i (some l) ok s =
      .next (if ok && (replayLane s l).isSome then updSlot u i (stepCounted u.now) else endCall u i 3 0) := by
  unfold execCleStepDone
  simp only [hst, hadds, if_true, stepResidue_quiet hq, Option.map_some, ne_eq, not_true_eq_false, if_false]
  rw [enqueueProof_first (by rw [raise_proofs]; exact hproofs)]
  refine ⟨_, ?_, rfl, (apply_ite ..).symm⟩
  dsimp only
  exact raise_cle ..

end

/-! Self-checks. -/

/-- A lane that leaves service is out of service, and asks for no proof run. -/
theorem cleLaneOut_cleView (s : State) (l : Nat) (inj : Bool) :
    cleView (cleLaneOut s l inj) = cleView { s with cle := { s.cle with lanes := vset s.cle.lanes l false } } := by
  unfold cleLaneOut; dsimp only; split <;> simp

/-- The end of a lane's self-check takes it from the queue; a lane that fails it leaves service. -/
theorem execCleLaneSelfcheckDone_ends {s : State} {l : Fin 16} {p : ProofReq} (hqueue : s.ev.proofs = [p]) (hslice : p.slice = .cleLane l)
    (hgenuine : p.persist = false) (hserves : s.cle.lanes[l] = true) (passed : Bool) : ∃ u : State, u.cle = s.cle ∧ u.ev.proofs = [] ∧
      execCleLaneSelfcheckDone l passed s = .next (if passed then u else cleLaneOut u l p.inj) := by
  have first : (s.ev.proofs.filter (fun p => decide (sliceTester p.slice = sliceTester (.cleLane l)))).head? = some p := by
    simp [hqueue, hslice]
  have lane : vget s.cle.lanes l.val false = true := (vget_fin ..).trans hserves
  unfold execCleLaneSelfcheckDone
  simp only [first, hslice, hgenuine, ne_eq, not_true_eq_false, if_false, Bool.not_false, Bool.and_true, raise_cle, lane, Bool.not_true,
    Bool.or_false]
  refine ⟨_, ?_, ?_, rfl⟩
  · rw [raise_cle]
  · rw [raise_proofs]
    simp [hqueue, hslice]

/-- Settles O41: steps count, failed checks replay or end the call, self-checks keep or take out their lane, and a finished call
ends with OK. -/
theorem collectiveStepsAndEnds : Obligations.CollectiveStepsAndEnds := by
  intro s i hq hst
  refine ⟨fun residue ok hres => execCleStepDone_counts hq hst hres ok, fun l hadds hproofs => ⟨fun hlane => ?_, ?_⟩,
    fun l p hqueue hslice hgenuine hserves => ⟨?_, ?_⟩, fun hdone hflows => ?_⟩
  · obtain ⟨u, hcle, hchecks, run⟩ := execCleStepDone_residue hq hst hadds hproofs (l := l) true
    have slot := (slotOf_of_cle hcle i).trans (updSlot_same _ _ _ i.isLt)
    rw [hlane, Bool.and_self, if_pos rfl] at run
    refine ⟨_, run, (congrArg CleS.replays hcle :), ?_, ?_, hchecks, (congrArg CleS.lanes hcle :)⟩
    · rw [updSlot_same _ _ _ i.isLt, slot]; rfl
    · rw [updSlot_same _ _ _ i.isLt, slot]; exact hst
  · obtain ⟨u, hcle, -, run⟩ := execCleStepDone_residue hq hst hadds hproofs (l := l) false
    have slot := (slotOf_of_cle hcle i).trans (updSlot_same _ _ _ i.isLt)
    obtain ⟨hlast, hcall, -⟩ := endCall_slot u i.isLt 3 0
    rw [slot] at hcall
    exact ⟨_, run, hlast, hcall⟩
  · obtain ⟨u, hcle, hempty, run⟩ := execCleLaneSelfcheckDone_ends hqueue hslice hgenuine hserves true
    exact ⟨u, run, hempty, hcle⟩
  · obtain ⟨u, hcle, hempty, run⟩ := execCleLaneSelfcheckDone_ends hqueue hslice hgenuine hserves false
    rw [if_neg Bool.false_ne_true] at run
    have view := cleLaneOut_cleView u l p.inj
    refine ⟨_, run, (proofs_of_cleView view).trans hempty, ?_⟩
    rw [lanes_of_cleView view]
    simp [vset, vmod]
  · obtain ⟨hlast, hcall, hidle⟩ := endCall_slot s i.isLt 0 0
    exact ⟨_, execCallEnd_ends hst hdone hflows, hlast, hcall, endCall_completed .., hidle rfl⟩

/-! #### Cells of the CLE and its slots (R468, R471, R502) -/

@[simp] theorem inject_cle (s : State) (c : BitVec 512) : (inject s c).cle = s.cle := by rw [inject_only]
@[simp] theorem inject_jobAddress (s : State) (c : BitVec 512) : jobAddress (inject s c) = jobAddress s := by rw [inject_only]; rfl
@[simp] theorem sendControl_slotOf (s : State) (typ dmem dep sep flow payload k : Nat) :
    slotOf (sendControl s typ dmem dep sep flow payload) k = slotOf s k := slotOf_of_cle (inject_cle ..) k
@[simp] theorem sendControl_jobAddress (s : State) (typ dmem dep sep flow payload : Nat) :
    jobAddress (sendControl s typ dmem dep sep flow payload) = jobAddress s := inject_jobAddress ..
@[simp] theorem advanceTo_slotOf (s : State) (t k : Nat) : slotOf (advanceTo s t) k = slotOf s k := slotOf_of_cle (advanceTo_cle ..) k
@[simp] theorem advanceTo_jobAddress (s : State) (t : Nat) : jobAddress (advanceTo s t) = jobAddress s :=
  (congrArg (fun f : FabricS => if f.assumed ≠ 0xFFFF#16 then f.assumed.toNat else f.member.toNat) (advanceTo_fabricSansQueues s t) :)
@[simp] theorem updSlot_jobAddress (s : State) (i : Nat) (f : GroupSlot → GroupSlot) : jobAddress (updSlot s i f) = jobAddress s := rfl

/-- A stage's partner is that of the dimension, from this member's address (R471). -/
theorem partnerNow_congr {s t : State} {g g' : GroupSlot} (hjob : jobAddress t = jobAddress s) (hdims : g'.dims = g.dims)
    (hat : g'.dimAt = g.dimAt) : partnerNow t g' = partnerNow s g := by
  unfold partnerNow dimNow; rw [hjob, hdims, hat]

/-! What a call's offers and requests leave. -/

/-- A slot but for the members that are offered a flow. -/
def GroupSlot.sansOffers (g : GroupSlot) : GroupSlot := { g with offers := [] }

theorem eq_of_sansOffers {g g' : GroupSlot} (h : g.sansOffers = g'.sansOffers) : g = { g' with offers := g.offers } :=
  (congrArg (fun x : GroupSlot => { x with offers := g.offers }) h :)

/-- A slot but for its offers, with this member's address and the time. -/
def offering (i : Nat) (s : State) : GroupSlot × Nat × Nat := ((slotOf s i).sansOffers, jobAddress s, s.now)

theorem offerCall_offering (s : State) {i : Nat} (hi : i < 64) (first : Bool) : offering i (offerCall s i first) = offering i s := by
  have offered (t : State) (a : Nat) : offering i (sendCallRts t i a) = offering i t := by
    unfold offering sendCallRts
    simp [hi, GroupSlot.sansOffers]
  refine foldl_keeps (offering i) _ (fun t a => ?_) _ _
  split
  · rfl
  · exact offered t a

theorem requestBlocks_offering (s : State) (i : Nat) : offering i (requestBlocks s i) = offering i s := by
  have requested (t : State) (dmem payload : Nat) : offering i (sendControl t 8 dmem 8 8 0 payload) = offering i t := by
    simp [offering]
  unfold requestBlocks; dsimp only; split
  · rfl
  · refine foldl_keeps (offering i) _ (fun t k => foldl_keeps (offering i) _ (fun u e => ?_) _ _) _ _
    split
    · rfl
    · exact requested ..

/-! #### Agreement (R471 to R473) -/

/-- A slot that is at a stage sends its AGREE. -/
theorem sendAgree_sends {s : State} {i a : Nat} (h : partnerNow s (slotOf s i) = some a) : sendAgree s i =
    sendControl (updSlot s i (fun x => { x with agreeAt := s.now })) 8 a 8 8 0
      (Config.ctrlPayload 8 [1, (slotOf s i).gid.toNat, (slotOf s i).call.toNat, (slotOf s i).sig, (slotOf s i).ok.toNat]) := by
  unfold sendAgree; simp only [h]

theorem sendAgree_slot {s : State} {i a : Nat} (hi : i < 64) (h : partnerNow s (slotOf s i) = some a) :
    slotOf (sendAgree s i) i = { slotOf s i with agreeAt := s.now } := by
  rw [sendAgree_sends h, sendControl_slotOf, updSlot_same _ _ _ hi]

theorem sendAgree_jobAddress {s : State} {i a : Nat} (h : partnerNow s (slotOf s i) = some a) :
    jobAddress (sendAgree s i) = jobAddress s := by
  rw [sendAgree_sends h, sendControl_jobAddress, updSlot_jobAddress]

/-- A round waits for the AGREE of its partner. -/
theorem advanceAgree_waits {s : State} {i n a : Nat} (hpartner : partnerNow s (slotOf s i) = some a)
    (hnone : ∀ r ∈ (slotOf s i).agrees, ¬(r.peer = a ∧ r.call = (slotOf s i).call.toNat)) : advanceAgree i (n + 1) s = s := by
  have away : (slotOf s i).agrees.find? (fun r => decide (r.peer = a ∧ r.call = (slotOf s i).call.toNat)) = none := by
    simpa using hnone
  unfold advanceAgree
  simp only [hpartner, away]

/-- The last stage's AGREE ends the round. -/
theorem advanceAgree_last {s : State} {i n a : Nat} {r : AgreeRec} (hi : i < 64) (hpartner : partnerNow s (slotOf s i) = some a)
    (hfound : (slotOf s i).agrees.find? (fun r => decide (r.peer = a ∧ r.call = (slotOf s i).call.toNat)) = some r)
    (hlast : (slotOf s i).dimAt + 1 = (setBits 13 (slotOf s i).dims).length) : advanceAgree i (n + 2) s =
      agreementDone (updSlot s i (fun x => { x with
        ok := x.ok && r.ok && decide (r.sig = x.sig), dimAt := x.dimAt + 1, progressAt := s.now })) i := by
  have ended (f : GroupSlot → GroupSlot) (hdims : (f (slotOf s i)).dims = (slotOf s i).dims)
      (hat : (f (slotOf s i)).dimAt = (slotOf s i).dimAt + 1) : partnerNow (updSlot s i f) (slotOf (updSlot s i f) i) = none := by
    unfold partnerNow dimNow
    simp [hi, hdims, hat, hlast]
  rw [advanceAgree]
  simp only [hpartner, hfound, ended]
  rw [advanceAgree]
  simp only [ended]

/-- A call that the members agree on runs. -/
theorem agreementDone_runs {s : State} {i : Nat} (hi : i < 64) (hok : (slotOf s i).ok = true) :
    (slotOf (agreementDone s i) i).st = .running ∧ (slotOf (agreementDone s i) i).agreed = true ∧
      (slotOf (agreementDone s i) i).step = 0#16 ∧ (slotOf (agreementDone s i) i).call = (slotOf s i).call := by
  unfold agreementDone
  rw [if_pos hok]
  have slot (f : GroupSlot → GroupSlot) : (slotOf (offerCall (requestBlocks (updSlot s i f) i) i false) i).sansOffers =
      (f (slotOf s i)).sansOffers := by
    rw [← updSlot_same s i f hi]
    exact congrArg Prod.fst ((offerCall_offering _ hi false).trans (requestBlocks_offering _ i))
  rw [eq_of_sansOffers (slot _)]
  exact ⟨rfl, rfl, rfl, rfl⟩

/-- A call that they do not agree on ends with MISMATCH. -/
theorem agreementDone_mismatch {s : State} {i : Nat} (hok : (slotOf s i).ok = false) : ∃ detail : Nat,
    agreementDone s i = endCall s i 1 detail := by
  unfold agreementDone
  simp only [hok, Bool.false_eq_true, if_false]
  exact ⟨_, rfl⟩

/-- The round of a call that begins: its slot sends the AGREE of the first stage, after the offers of its first step. -/
theorem firstStage_slot {s : State} {i a : Nat} (hi : i < 64) (early : Bool) (n : Nat) (hpartner : partnerNow s (slotOf s i) = some a)
    (hnone : ∀ r ∈ (slotOf s i).agrees, ¬(r.peer = a ∧ r.call = (slotOf s i).call.toNat)) :
    (slotOf (advanceAgree i (n + 1) (sendAgree (if early then offerCall s i true else s) i)) i).sansOffers =
      { (slotOf s i).sansOffers with agreeAt := s.now } := by
  have kept : offering i (if early then offerCall s i true else s) = offering i s := by
    split
    · exact offerCall_offering s hi true
    · rfl
  generalize (if early then offerCall s i true else s) = u at kept ⊢
  simp only [offering, Prod.mk.injEq] at kept
  obtain ⟨slot, job, now_⟩ := kept
  have slotEq := eq_of_sansOffers slot
  have partner : partnerNow u (slotOf u i) = some a := by
    rw [partnerNow_congr job (by rw [slotEq]) (by rw [slotEq])]; exact hpartner
  have sent := sendAgree_slot hi partner
  rw [advanceAgree_waits (a := a), sent, ← now_, ← slot]
  · rfl
  · rw [sent, partnerNow_congr (sendAgree_jobAddress partner) rfl rfl]; exact partner
  · rw [sent, slotEq]; exact hnone

/-- A slot under the settings of 2C00h, as a call that begins takes them (R505). -/
def entering (s : State) (g : GroupSlot) : GroupSlot := { g with threshold := s.cle.threshold, interval := s.cle.interval }

/-- The round of a call that begins, from the slot as R471 has it at entry. -/
theorem execCallBegin_agrees {s : State} {i : Fin 64} (howner : (slotOf s i).owner ≠ 0xFF#8)
    (hst : (slotOf s i).st = .idle ∨ (slotOf s i).st = .ending) (hdies : (slotOf s i).dmask ≠ 0)
    (hregs : ∀ k ∈ slotDies (slotOf s i), (regOfDie (slotOf s i) k).isSome = true) (hfence : groupFenced s (slotOf s i) = false)
    (hheld : heldAbort (slotOf s i) = none)
    (hmaps : ∀ f : GroupSlot → GroupSlot, callMaps (updSlot s i f) (slotOf s i) = (updSlot s i f, none)) :
    ∃ (f : GroupSlot → GroupSlot) (early : Bool),
      (∀ x, (f x).st = .agreeing ∧ (f x).dimAt = 0 ∧ (f x).call = x.call ∧ (f x).threshold = s.cle.threshold ∧
        (f x).sig = signature (entering s (slotOf s i)) (callDesc s (entering s (slotOf s i))) ∧
        (f x).ok = decide (localDetail s (entering s (slotOf s i)) = 0) ∧ (f x).dims = x.dims ∧ (f x).agrees = x.agrees) ∧
      execCallBegin i s = .next (advanceAgree i 14 (sendAgree
        (if early then offerCall (updSlot s i f) i true else updSlot s i f) i)) := by
  have begins : ((slotOf s i).st = .idle ∨ (slotOf s i).st = .ending) ∧ (slotOf s i).owner ≠ 0xFF#8 ∧ (slotOf s i).dmask ≠ 0 ∧
      (slotDies (slotOf s i)).all (fun k => (regOfDie (slotOf s i) k).isSome) = true := ⟨hst, howner, hdies, List.all_eq_true.mpr hregs⟩
  unfold execCallBegin
  simp only [if_pos begins, hfence, hheld, hmaps, Bool.false_eq_true, if_false]
  refine ⟨_, _, fun x => ?_, rfl⟩
  exact ⟨rfl, rfl, rfl, rfl, rfl, rfl, rfl, rfl⟩

/-- What takes the place of everything that a test names is what the test finds. -/
theorem find?_replaced {α : Type} {p : α → Bool} {r : α} (h : p r = true) (l : List α) :
    (l.filter (fun a => !p a) ++ [r]).find? p = some r := by
  have gone : (l.filter (fun a => !p a)).find? p = none := by simp
  rw [List.find?_append, gone]
  simp [h]

/-- The AGREE that the last stage waits for ends the round, with its flag and the comparison of the signatures. -/
theorem execAgreeReceived_last {s : State} {i : Fin 64} {peer : U16} (howner : (slotOf s i).owner ≠ 0xFF#8)
    (hst : (slotOf s i).st = .agreeing) (hpartner : partnerNow s (slotOf s i) = some peer.toNat)
    (hlast : (slotOf s i).dimAt + 1 = (setBits 13 (slotOf s i).dims).length) (hok : (slotOf s i).ok = true)
    (hopen : ingressClosed s = false) (hfence : fenced s peer.toNat = false) (sig : U64) :
    ∃ u : State, (slotOf u i).ok = decide (sig.toNat = (slotOf s i).sig) ∧ (slotOf u i).call = (slotOf s i).call ∧
      execAgreeReceived i peer (slotOf s i).call sig true s = .next (agreementDone u i) := by
  have slot (f : GroupSlot → GroupSlot) := updSlot_same s i f i.isLt
  unfold execAgreeReceived
  simp only [howner, hopen, hfence, hst, Nat.lt_irrefl, Bool.false_eq_true, false_or, if_false, if_true,
    Nat.not_lt.mpr (Nat.le_add_right (slotOf s i).call.toNat 7)]
  rw [advanceAgree_last (n := 12) (a := peer.toNat) i.isLt ?partner ?found ?last]
  case partner => rw [partnerNow_congr rfl (by rw [slot]) (by rw [slot])]; exact hpartner
  case found => rw [slot]; exact find?_replaced (by simp) _
  case last => rw [slot]; exact hlast
  refine ⟨_, ?_, ?_, rfl⟩
  · rw [updSlot_same _ _ _ i.isLt, slot]
    simp [hok]
  · rw [updSlot_same _ _ _ i.isLt, slot]

/-- 100 µs after its last AGREE a slot sends it again. -/
theorem execAgreeRepeat_sends {s : State} {i : Fin 64} {a : Nat} (hst : (slotOf s i).st = .agreeing)
    (hpartner : partnerNow s (slotOf s i) = some a) : ∃ t : State, execAgreeRepeat i s = .next t ∧
      (slotOf t i).agreeAt = max s.now ((slotOf s i).agreeAt + 100000) := by
  have partner : partnerNow (advanceTo s ((slotOf s i).agreeAt + 100000)) (slotOf (advanceTo s ((slotOf s i).agreeAt + 100000)) i) = some a :=
    (partnerNow_congr (advanceTo_jobAddress ..) (by rw [advanceTo_slotOf]) (by rw [advanceTo_slotOf])).trans hpartner
  refine ⟨_, if_pos hst, ?_⟩
  rw [sendAgree_slot i.isLt partner, advanceTo_now]

/-! #### Stragglers (R498) -/

theorem execStraggler_raises {s : State} {i : Fin 64} {a : Nat} (hst : (slotOf s i).st = .agreeing)
    (hpartner : partnerNow s (slotOf s i) = some a) (hfirst : (slotOf s i).stragRaised = false) (p : Fin 8192) :
    ∃ t : State, execStraggler i p s = .next t ∧ (slotOf t i).awaited = BitVec.ofNat 16 a ∧
      (slotOf t i).stragglers = bump (slotOf s i).stragglers ∧ (slotOf t i).stragRaised = true ∧
      t.ev.counts[0x70] = bump s.ev.counts[0x70] := by
  unfold execStraggler
  simp only [hst, hpartner, hfirst, if_true, Bool.false_eq_true, if_false]
  refine ⟨_, rfl, ?_⟩
  rw [slotOf_of_cle (raise_cle ..), updSlot_same _ _ _ i.isLt, advanceTo_slotOf]
  refine ⟨rfl, rfl, rfl, ?_⟩
  have counted := raise_count (updSlot (advanceTo s ((slotOf s i).progressAt + 1000000 * stragMs (slotOf s i) + 1)) i (fun x => { x with
    stragRaised := true, awaited := BitVec.ofNat 16 a, stragglers := bump x.stragglers })) 0x70 ukGROUP i
      (Config.detail 0x70 (slotOf s i).call.toNat a 0) false (by decide) (by decide)
  rw [updSlot_ev, advanceTo_ev] at counted
  exact counted

/-! #### Aborts (R502, R504) -/

section
variable {s : State} {i : Fin 64} {peer : U16} {call : U32} {status : Fin 8}

/-- An ABORT is answered; it ends the call in progress that it names, or waits for a later one. -/
theorem execAbortReceived_answers (howner : (slotOf s i).owner ≠ 0xFF#8) (hopen : ingressClosed s = false)
    (hfence : fenced s peer.toNat = false) (hspreads : spreads status = true) :
    ∃ u : State, slotOf u i = slotOf s i ∧
      (call = (slotOf s i).call → (slotOf s i).st = .agreeing ∨ (slotOf s i).st = .running → (callDesc s (slotOf s i)).op ≠ 6 →
        execAbortReceived i peer call status s = .next (endCall u i (receivedStatus status) 0)) ∧
      ((slotOf s i).call.toNat < call.toNat → execAbortReceived i peer call status s = .next (updSlot u i (fun x =>
        { x with aborts := x.aborts ++ [{ call := call.toNat, status := receivedStatus status }] }))) := by
  refine ⟨sendControl s 8 peer.toNat 8 8 0 (Config.ctrlPayload 8 [4, (slotOf s i).gid.toNat, call.toNat]), sendControl_slotOf ..,
    fun hcall hst hop => ?_, fun hlater => ?_⟩
  · subst hcall
    unfold execAbortReceived
    simp [howner, hopen, hfence, hspreads, hst, hop]
  · unfold execAbortReceived
    simp [howner, hopen, hfence, hspreads, Nat.not_lt.mpr (Nat.le_of_lt hlater), Nat.ne_of_gt hlater]

/-- An ABORT goes again after 1 ms, up to 100 times. -/
theorem execAbortRepeat_sends {a : AbortOut} (hfind : (slotOf s i).abortsOut.find? (fun a => decide (a.peer = peer.toNat)) = some a)
    (hsent : a.sent < 100) : ∃ t : State, execAbortRepeat i peer s = .next t ∧ (slotOf t i).abortsOut =
      (slotOf s i).abortsOut.map (fun b => if b = a then { b with sent := b.sent + 1, at_ := max s.now (a.at_ + 1000000) } else b) := by
  unfold execAbortRepeat
  simp only [hfind, if_neg (Nat.not_le.mpr hsent), advanceTo_now]
  refine ⟨_, rfl, ?_⟩
  rw [updSlot_same _ _ _ i.isLt]

end

/-! The writes of 9200h:0A and 9200h:0C (R500, R504). -/

section
variable {s : State} {i : Fin 64} {p : Fin 8}

theorem existence_slot {sub : Nat} (hsub : sub = 0x0A ∨ sub = 0x0C) : existence (objAt 0x9200 sub i) = 0 := by
  obtain rfl | rfl := hsub <;>
    simp [existence, objAt, layoutOf, objRows, objInfo, rows9200, objRow, ninstOf, Nat.not_lt.mpr (Nat.le_of_lt_succ i.isLt)]

/-- An object has the same row in every slot. -/
theorem rowOf_slot (sub inst : Nat) : rowOf (objAt 0x9200 sub inst) = rowOf (objAt 0x9200 sub 0) := rfl

theorem notGroup_slot (sub : Nat) : isGroup (objAt 0x9200 sub i) = false := by
  have : ¬ 0xF00 ≤ i.val := by omega
  simp [isGroup, objAt, ninstOf, this]

theorem unitDown_slot (hreset : s.sys.resetting = []) (sub : Nat) : unitDown s (objAt 0x9200 sub i) = false := by
  simp [unitDown, aonObject, objAt, hreset]

/-- The driver of the partition that owns a slot may write its objects. -/
theorem mayWrite_slot (howner : (slotOf s i).owner = BitVec.ofNat 8 p) (sub : Nat) (data : List Byte) :
    mayWrite s (identNat (.driver p)) (objAt 0x9200 sub i) data = true := by
  have driver : driverPart (identNat (.driver p)) = some p.val := by
    have : 0x20 + p.val ≤ 0x27 := by omega
    simp [driverPart, identNat, this]
  have owner : ownerOf s 0x9200 i = some p.val := by
    have : p.val % 256 = p.val := by omega
    simp [ownerOf, howner, this]
  have notClaim : identNat (.driver p) ≠ idCLAIM := by simp only [identNat, idCLAIM]; omega
  unfold mayWrite
  rw [if_neg notClaim]
  simp [objAt, mayWriteUnit, ownDriver, isDriver, driver, owner]

/-- A write of 1 passes its checks. -/
theorem checkDirect_collAbort {after : State} (howner : (slotOf s i).owner = BitVec.ofNat 8 p)
    (hheld : objHeld s (objAt 0x9200 0x0A i) = false) (hreset : s.sys.resetting = []) :
    checkDirect s after (identNat (.driver p)) (objAt 0x9200 0x0A i) (leBytes 1 1) = 0 :=
  checkDirect_passes (existence_slot (.inl rfl)) (by rw [rowOf_slot]; decide) (mayWrite_slot howner ..) rfl hheld
    (checkValue_passes (by rw [leBytes_length, rowOf_slot]; decide) rfl rfl rfl (unitDown_slot hreset _) rfl)

/-- An image of the call passes its checks where the owner's negative is suspended. -/
theorem checkDirect_callContext {after : State} {img : List Byte} (howner : (slotOf s i).owner = BitVec.ofNat 8 p)
    (hheld : objHeld s (objAt 0x9200 0x0C i) = false) (hreset : s.sys.resetting = []) (hlen : img.length = 256)
    (hgood : contextGood (slotOf s i) img = true) (hres : reservedBad (objAt 0x9200 0x0C i) img = false)
    (hneg : (negOf s p).state = .suspended) : checkDirect s after (identNat (.driver p)) (objAt 0x9200 0x0C i) img = 0 := by
  refine checkDirect_passes (existence_slot (.inr rfl)) (by rw [rowOf_slot]; decide) (mayWrite_slot howner ..) rfl hheld
    (checkValue_passes ?_ ?_ hres ?_ (unitDown_slot hreset _) rfl)
  · rw [hlen, rowOf_slot]; decide
  · exact (congrArg not hgood :)
  · have of_driver : (slotOf s i).owner.toNat = p.val := by
      have : p.val % 256 = p.val := by omega
      simp [howner, this]
    have state : stateBad s (identNat (.driver p)) (objAt 0x9200 0x0C i) img =
        decide ((negOf s (slotOf s i).owner.toNat).state ≠ .suspended) := rfl
    simp [state, of_driver, hneg]

/-- The call in progress ends with ABORTED. -/
theorem execCollAbortWrite_ends (h : Serving s) (howner : (slotOf s i).owner = BitVec.ofNat 8 p)
    (hheld : objHeld s (objAt 0x9200 0x0A i) = false) (hst : (slotOf s i).st = .agreeing ∨ (slotOf s i).st = .running) :
    execCollAbortWrite (.direct (.driver p)) i s = .next (answered (endCall s i 6 0) (.driver p) 0) := by
  have applied : applyObj s (identNat (.driver p)) (objAt 0x9200 0x0A i) (leBytes 1 1) noObs = abortCall s i := rfl
  have ends : abortCall s i = endCall s i 6 0 := by
    unfold abortCall causeCall
    obtain hst | hst := hst <;> simp [callOpen, hst]
  unfold execCollAbortWrite writeNum
  rw [writeAs_accepted h (by decide) (notGroup_slot _) (checkDirect_collAbort howner hheld (serving_resetting h)), applied, ends]

/-- A good image is taken. -/
theorem execCallContextWrite_takes {img : BitVec 2048} (h : Serving s) (howner : (slotOf s i).owner = BitVec.ofNat 8 p)
    (hheld : objHeld s (objAt 0x9200 0x0C i) = false) (hneg : (negOf s p).state = .suspended)
    (hgood : contextGood (slotOf s i) (leBytes 256 img.toNat) = true)
    (hres : reservedBad (objAt 0x9200 0x0C i) (leBytes 256 img.toNat) = false) :
    execCallContextWrite (.direct (.driver p)) i img s =
      .next (answered (updSlot s i (fun g => writeContext g (leBytes 256 img.toNat))) (.driver p) 0) := by
  have applied : applyObj s (identNat (.driver p)) (objAt 0x9200 0x0C i) (leBytes 256 img.toNat) noObs =
      updSlot s i (fun g => writeContext g (leBytes 256 img.toNat)) := rfl
  unfold execCallContextWrite writeNum
  rw [writeAs_accepted h (by decide) (notGroup_slot _) (checkDirect_callContext howner hheld (serving_resetting h) (leBytes_length ..)
    hgood hres hneg), applied]

end

/-- Settles O38: calls begin, agree, repeat, wait, are aborted and take context images as their rules say. -/
theorem callsBeginAgreeAndAbort : Obligations.CallsBeginAgreeAndAbort := by
  intro s i howner
  refine ⟨fun hst hdies hregs hfence hheld hmaps a hpartner hnone => ?_,
    fun hst peer sig hpartner hlast hok hopen hfence => ?_, fun hst a hpartner => ⟨execAgreeRepeat_sends hst hpartner,
      fun hfirst p => execStraggler_raises hst hpartner hfirst p⟩,
    fun peer call status hopen hfence hspreads => ?_, fun peer a hfind hsent => execAbortRepeat_sends hfind hsent,
    fun peer call => ?_, fun p hp hserving hheldA hheldC => ⟨fun hst => ?_, fun img hneg hgood hres =>
      execCallContextWrite_takes hserving hp hheldC hneg hgood hres⟩⟩
  · obtain ⟨f, early, hf, run⟩ := execCallBegin_agrees howner hst hdies hregs hfence hheld hmaps
    obtain ⟨hagreeing, hstage, hcall, hthreshold, hsig, hflag, hdims, hagrees⟩ := hf (slotOf s i)
    have slot := updSlot_same s i f i.isLt
    have key := firstStage_slot (s := updSlot s i f) i.isLt early 13
      ((partnerNow_congr rfl (by rw [slot, hdims]) (by rw [slot, hstage])).trans hpartner)
      (by rw [slot, hagrees, hcall]; exact hnone)
    rw [slot] at key
    refine ⟨_, run, ?_⟩
    rw [eq_of_sansOffers (g' := { f (slotOf s i) with agreeAt := s.now }) key]
    exact ⟨hagreeing, hstage, hcall, rfl, hthreshold, hsig, hflag⟩
  · obtain ⟨u, hflag, hcall, run⟩ := execAgreeReceived_last howner hst hpartner hlast hok hopen hfence sig
    refine ⟨fun hsame => ?_, fun hdiffers => ?_⟩
    · obtain ⟨hruns, hagreed, hstep, hkept⟩ := agreementDone_runs i.isLt (hflag.trans (decide_eq_true hsame))
      exact ⟨_, run, hruns, hagreed, hstep, hkept.trans hcall⟩
    · obtain ⟨detail, ends⟩ := agreementDone_mismatch (hflag.trans (decide_eq_false hdiffers))
      obtain ⟨hlast, hnext, -⟩ := endCall_slot u i.isLt 1 detail
      rw [ends] at run
      exact ⟨_, run, hlast, hcall ▸ hnext⟩
  · obtain ⟨u, slot, now_, later⟩ := execAbortReceived_answers (call := call) howner hopen hfence hspreads
    refine ⟨fun hcall hst hop => ?_, fun hlater => ⟨_, later hlater, ?_⟩⟩
    · obtain ⟨hlast, hnext, -⟩ := endCall_slot u i.isLt (receivedStatus status) 0
      rw [slot] at hnext
      exact ⟨_, now_ hcall hst hop, hlast, hnext⟩
    · rw [updSlot_same _ _ _ i.isLt, slot]; rfl
  · refine ⟨_, rfl, ?_⟩
    rw [updSlot_same _ _ _ i.isLt]
    exact ⟨rfl, fun hst hempty => if_pos ⟨hst, List.isEmpty_iff.mpr hempty⟩⟩
  · obtain ⟨hlast, hnext, -⟩ := endCall_slot s i.isLt 6 0
    exact ⟨_, execCollAbortWrite_ends hserving hp hheldA hst, hlast, hnext⟩

end Sys2Proof.Machine
